-- ==== Sys2Proof/Word.lean ====
section
/-! DEFINITION. The byte and word types of the FJ7196 model and the sorted sparse store that its large
memories are held in. -/
namespace Sys2Proof

/-- One byte (00 R5: every multi-byte field is a sequence of bytes, the least significant first). -/
abbrev Byte := BitVec 8

/-- The 16-, 32- and 64-bit registers and counters of the spec (00 R7: they wrap modulo 2^n). -/
abbrev W16 := BitVec 16
abbrev W32 := BitVec 32
abbrev W64 := BitVec 64

/-- A large memory as data: (index, value) pairs, the indices strictly rising, no value equal to what an
unlisted index reads as. Its operations are in Machine/Ops.lean. -/
abbrev Sparse (α : Type) := List (Nat × α)

end Sys2Proof
end

