-- ==== Sys2Proof/Syntax.lean ====
section
/-! DEFINITION. The commands of the block: one constructor per row of the opcode table. A mailbox command
carries its header and its payload bytes; every other row carries what the outside world or a measuring unit
brings to it. -/
namespace Sys2Proof

/-- The place a mailbox command was taken from (17 R366, R371, R378): the PCIe ring, an MBX_CMD frame of a
Cumaslink node, a broadcast (18 R406), or entry `entry` of the list a cue player runs (19 R423). -/
inductive Origin where
  | pcie
  | node (src : W16)
  | bcast
  | cue (player entry : Nat)
  deriving DecidableEq, Repr, Inhabited

/-- The header fields of a command entry besides OPCODE and LENGTH (17 R360). The LENGTH of a command is the
number of its payload bytes; an entry that states another LENGTH is cut or refused before it comes here. -/
structure Hdr where
  origin : Origin
  tag : W16
  isLocal : Bool
  target : W16
  deriving DecidableEq, Repr, Inhabited

/-- What the sense elements measured of one channel in one window in which it conducted: the sensed sink charge
in units of 100 pC (08 R192), the sensed current 400 tu after turn-on in units of FS / 65,535 (09 R198), the pin
voltage in mV at the middle of the window (08 R194), and the length of the conduction in tu. -/
structure WindowObs where
  channel : Nat
  charge : Nat
  sensed : Nat
  vpin : Nat
  length : Nat
  deriving DecidableEq, Repr, Inhabited

/-- What one light-sense input sampled over an attribution interval (10 R218, R221): the sum and number of the
sample codes, how many were saturated, and the largest code. -/
structure LightObs where
  input : Nat
  sum : Int
  count : Nat
  saturated : Nat
  peak : Int
  deriving DecidableEq, Repr, Inhabited

/-- Who a memory read serves (03 R71): one plane row of a layer (planes 0 Y, 1 C or Cb, 2 Cr, 3 alpha), the
point stream of a head, or the cast copy. -/
inductive ReadUser where
  | layerRow (layer plane row : Nat)
  | points (head : Nat)
  | castCopy
  deriving DecidableEq, Repr, Inhabited

/-- What is measured in one diagnostic cell (09 R203, 10 R225, 16 R335). Lists pair a channel with its reading:
the probe in mV at 180 tu; the sensed current in units of FS / 65,535 at 600 tu; the charge in 100 pC; the pin
voltages of the neighbours before (`vBase`) and of all channels concerned, pulsed ones too, at 600 tu (`vTest`). `dark` is the sum of the ten samples, `light` the sum of the 30
samples of the serving input, `peak` the largest of them all, `saturated` how many of them saturated, `current` the sensed current of the emitter cell. `readings` are the conversions
of a calibration cell, one list per value of the unit. `cut` tells that the cell was cut short (09 R213). -/
structure CellMeas where
  probe : List (Nat × Nat)
  sensed : List (Nat × Nat)
  charge : List (Nat × Nat)
  vBase : List (Nat × Nat)
  vTest : List (Nat × Nat)
  dark : Int
  light : Int
  peak : Int
  saturated : Nat
  current : Nat
  readings : List (List Int)
  cut : Bool
  deriving DecidableEq, Repr, Inhabited

/-- What an SSI encoder sends for one sample (13 R286): nothing asked, no start bit in time, or the bits of a
frame, position first. -/
inductive SsiIn where
  | none
  | noStart
  | frame (bits : List Bool)
  deriving DecidableEq, Repr, Inhabited

/-- The conversions an axis sample reads besides those already landed (13 R281, R286; 12 R265): `spi` holds the conversions
of the external analogue input since the axis's last sample, oldest first. -/
structure SampleIn where
  ssi : SsiIn
  vbusMv : Nat
  spi : List Int
  deriving DecidableEq, Repr, Inhabited

/-- One conversion of an axis's ADCs (13 R284, R288; 16 R337): a position or sum code, or a reference
conversion of one polarity on the position or the sum converter. -/
inductive Conv where
  | position (code : Int)
  | sum (code : Nat)
  | refPosition (negative : Bool) (code : Int)
  | refSum (negative : Bool) (code : Int)
  deriving DecidableEq, Repr, Inhabited

/-- The address fields of a Cumaslink frame header (18 R390). -/
structure ClHdr where
  srcValid : Bool
  src : W16
  dest : W16
  deriving DecidableEq, Repr, Inhabited

/-- Where a frame comes from: the port, and the address of its sender where its header carries one (18 R390). -/
structure ClFrom where
  port : Nat
  src : Option W16
  deriving DecidableEq, Repr, Inhabited

/-- The payload of TOKEN and TOKEN_BACK (18 R391). -/
structure ClToken where
  assign : Bool
  index : W32
  next : W32
  depthMax : W16
  deriving DecidableEq, Repr, Inhabited

/-- What the device reads from a drive at mount (19 R410, R412, R413): whether the link, the controller and the
namespace meet R410, the size in LBAs, MDTS in bytes (0: none stated), the I/O queues granted, MQES, the two superblock copies, and the
clip table's records that are not all zero. -/
structure DriveImage where
  linkOk : Bool
  controllerOk : Bool
  namespaceOk : Bool
  lbas : Nat
  mdts : Nat
  queues : Nat
  mqes : Nat
  superA : List Byte
  superB : List Byte
  table : List (Nat × List Byte)
  deriving DecidableEq, Repr, Inhabited

/-- The commands of the block, in the order of the opcode table. -/
inductive Instr where
  /-- STATUS (R376). Hardware path answers STATUS with a 32-byte status reply, without firmware. -/
  | status (h : Hdr) (p : List Byte)
  /-- MAILBOX_CONFIG (R382). Sets MAX_WAIT and REMOTE_TIMEOUT for commands taken after the reply. -/
  | mailboxConfig (h : Hdr) (p : List Byte)
  /-- WHISTLE_ACK (R374). Clears the RESTARTED and/or CPU_FAULT whistle flags from Cumaslink. -/
  | whistleAck (h : Hdr) (p : List Byte)
  /-- MAILBOX_COUNTERS (R382). Returns the mailbox take, BUSY, remote and ring-error counters. -/
  | mailboxCounters (h : Hdr) (p : List Byte)
  /-- EVENT_READ (R382). Removes up to MAX records from the event queue and returns them oldest first. -/
  | eventRead (h : Hdr) (p : List Byte)
  /-- EVENT_OVERFLOW_READ (R381). Returns the non-zero overflow counters from START_CODE and clears them if CLEAR is set. -/
  | eventOverflowRead (h : Hdr) (p : List Byte)
  /-- FW_INFO (R469). Returns the running slot, the boot-record trial state and per-slot image data. -/
  | fwInfo (h : Hdr) (p : List Byte)
  /-- FW_ERASE (R469). Erases one firmware flash slot, with slot F LOCKED and the running slot refused. -/
  | fwErase (h : Hdr) (p : List Byte)
  /-- FW_WRITE (R469). Programs bytes into a firmware slot and verifies them by read-back. -/
  | fwWrite (h : Hdr) (p : List Byte)
  /-- FW_ACTIVATE (R469). Checks an image and writes the boot record to prefer it as a trial image. -/
  | fwActivate (h : Hdr) (p : List Byte)
  /-- FW_CONFIRM (R469). Clears TRIAL when the trial image is running. -/
  | fwConfirm (h : Hdr) (p : List Byte)
  /-- MODE_SET (R50). Sets the maquette's mode code. -/
  | modeSet (h : Hdr) (p : List Byte)
  /-- ARMATURE_WRITE (R50). Writes bytes of the maquette armature record. -/
  | armatureWrite (h : Hdr) (p : List Byte)
  /-- ARMATURE_READ (R50). Reads bytes of the maquette or live armature record buffer. -/
  | armatureRead (h : Hdr) (p : List Byte)
  /-- TICK_SOURCE_SET (R50). Sets the tick-source priority list and the SYNC_IN and SYNC_OUT settings. -/
  | tickSourceSet (h : Hdr) (p : List Byte)
  /-- TICK_STATUS (R50). Returns the tick counter, the offset, the source state, the phase error and the SEQPLL offset. -/
  | tickStatus (h : Hdr) (p : List Byte)
  /-- TICK_STAMP (R39). Gives a host time stamp that aims a target tick's boundary at a host time. -/
  | tickStamp (h : Hdr) (p : List Byte)
  /-- ADMISSION_QUERY (R48). Runs the admission checks on the maquette and returns the budget report without committing. -/
  | admissionQuery (h : Hdr) (p : List Byte)
  /-- LAYER_WRITE (R52). Replaces one maquette layer descriptor after checking its fields. -/
  | layerWrite (h : Hdr) (p : List Byte)
  /-- LAYER_READ (R78). Returns a maquette or live layer descriptor. -/
  | layerRead (h : Hdr) (p : List Byte)
  /-- FILTER_WRITE (R78). Loads phases of a custom scaler coefficient set into the maquette. -/
  | filterWrite (h : Hdr) (p : List Byte)
  /-- BACKGROUND_SET (R78). Sets the maquette background colour in composition codes. -/
  | backgroundSet (h : Hdr) (p : List Byte)
  /-- TAG_ALLOT (R69). Sets the four transaction-tag class allotments in the maquette. -/
  | tagAllot (h : Hdr) (p : List Byte)
  /-- FETCH_CONFIG (R78). Sets HOST_LAT, SR_ENTER and the LTR and self-refresh enables in the maquette. -/
  | fetchConfig (h : Hdr) (p : List Byte)
  /-- FETCH_STATUS (R78). Returns the underrun counters, the tags held, the tolerances and the self-refresh statistics. -/
  | fetchStatus (h : Hdr) (p : List Byte)
  /-- COMMIT (R83). Snapshots the maquette, runs admission, assigns COMMIT_NO, fixes the target boundary and replies. -/
  | commit (h : Hdr) (p : List Byte)
  /-- MAQUETTE_RESYNC (R81). Copies the live configuration into the maquette and discards uncommitted edits. -/
  | maquetteResync (h : Hdr) (p : List Byte)
  /-- COMMIT_STATUS (R100). Returns the live and pending commit numbers and the commit counters. -/
  | commitStatus (h : Hdr) (p : List Byte)
  /-- RETIRE_READ (R100). Returns retirement-log records from FROM_SEQ. -/
  | retireRead (h : Hdr) (p : List Byte)
  /-- COMPOSE_EVENT_SET (R100). Sets MATCH_LINE and enables START_OF_BLANKING and LINE_MATCH from the next boundary. -/
  | composeEventSet (h : Hdr) (p : List Byte)
  /-- FREEZE_CONFIG (R100). Sets the signature pitch and the composite freeze threshold. -/
  | freezeConfig (h : Hdr) (p : List Byte)
  /-- SIGNATURE_READ (R100). Returns the latest layer and composite signatures and the unchanged counts. -/
  | signatureRead (h : Hdr) (p : List Byte)
  /-- FENCE_READ (R100). Returns the start and end fence values of the last frame. -/
  | fenceRead (h : Hdr) (p : List Byte)
  /-- COLOUR_CONFIG (R122). Sets the maquette colour-pipeline configuration. -/
  | colourConfig (h : Hdr) (p : List Byte)
  /-- MATRIX_WRITE (R110). Writes rows of the maquette primary matrix. -/
  | matrixWrite (h : Hdr) (p : List Byte)
  /-- MATRIX_READ (R122). Returns the maquette or live primary matrix. -/
  | matrixRead (h : Hdr) (p : List Byte)
  /-- TABLE_WRITE (R111). Writes entries of a maquette per-primary table. -/
  | tableWrite (h : Hdr) (p : List Byte)
  /-- TABLE_READ (R122). Returns entries of a maquette or live per-primary table. -/
  | tableRead (h : Hdr) (p : List Byte)
  /-- TABLE_FILL (R122). Sets the masked maquette tables to identity. -/
  | tableFill (h : Hdr) (p : List Byte)
  /-- TABLE_CRC (R122). Returns the CRC-32 of a maquette or live table. -/
  | tableCrc (h : Hdr) (p : List Byte)
  /-- DITHER_MASK_WRITE (R119). Writes values of the staging dither mask set. -/
  | ditherMaskWrite (h : Hdr) (p : List Byte)
  /-- DITHER_MASK_SELECT (R119). Copies the staging set or the built-in set into the active mask set at the next boundary. -/
  | ditherMaskSelect (h : Hdr) (p : List Byte)
  /-- DITHER_MASK_READ (R122). Returns values of the active, staging or built-in mask set. -/
  | ditherMaskRead (h : Hdr) (p : List Byte)
  /-- COLOUR_STATS (R114). Returns the clip counts of the last frame and the correction count. -/
  | colourStats (h : Hdr) (p : List Byte)
  /-- PIXEL_PROBE (R122). Sets the probe position and returns the pipeline capture of the last frame. -/
  | pixelProbe (h : Hdr) (p : List Byte)
  /-- CAST_WRITE (R127). Writes bytes of a cast slot that is not live, in force or pending. -/
  | castWrite (h : Hdr) (p : List Byte)
  /-- CAST_READ (R141). Returns bytes of a cast slot. -/
  | castRead (h : Hdr) (p : List Byte)
  /-- CAST_SELECT (R136). Sets the maquette ACTIVE_CAST and FALLBACK_CAST. -/
  | castSelect (h : Hdr) (p : List Byte)
  /-- CAST_SWITCH (R138). Changes the live active cast at the next boundary, without a commit, after checks. -/
  | castSwitch (h : Hdr) (p : List Byte)
  /-- CAST_CHECK (R141). Runs the cast checks against the maquette and returns the cast report. -/
  | castCheck (h : Hdr) (p : List Byte)
  /-- CAST_LOAD_CLIP (R422). Copies a sealed cast clip into a cast slot and replies after the copy. -/
  | castLoadClip (h : Hdr) (p : List Byte)
  /-- PLINTH_ENTER (R139). Enters plinth at the next boundary. -/
  | plinthEnter (h : Hdr) (p : List Byte)
  /-- CHISEL_STATUS (R142). Returns the active, fallback and in-force casts, the dark mask, the plinth state and the front frame depth. -/
  | chiselStatus (h : Hdr) (p : List Byte)
  /-- PL_CONFIG (R170). Sets the array count, the retraining enables and FLIGHT_TU while every array is DISABLED. -/
  | plConfig (h : Hdr) (p : List Byte)
  /-- PL_TRAIN (R160). Disables arrays or starts DETECT on arrays that are DISABLED or FAILED. -/
  | plTrain (h : Hdr) (p : List Byte)
  /-- PL_STATUS (R170). Returns the lane service state and the per-array states. -/
  | plStatus (h : Hdr) (p : List Byte)
  /-- ARRAY_RECORD_READ (R170). Returns an array's accepted parameter record. -/
  | arrayRecordRead (h : Hdr) (p : List Byte)
  /-- ARRAY_CMD (R154). Sends an array command over the plane link and replies with its CMD_ACK result. -/
  | arrayCmd (h : Hdr) (p : List Byte)
  /-- LANE_CONTROL (R165). Holds a lane out of service or releases it. -/
  | laneControl (h : Hdr) (p : List Byte)
  /-- LANE_COUNTERS (R170). Returns the per-lane loss and BIP error counters. -/
  | laneCounters (h : Hdr) (p : List Byte)
  /-- BANK_WRITE (R174). Writes bank records into the staged source set. -/
  | bankWrite (h : Hdr) (p : List Byte)
  /-- CHANNEL_WRITE (R173). Writes channel records into the staged source set. -/
  | channelWrite (h : Hdr) (p : List Byte)
  /-- LEVEL_WRITE (R180). Writes channel level tables into the staged source set. -/
  | levelWrite (h : Hdr) (p : List Byte)
  /-- LEVEL_FILL (R196). Writes one level table to every masked staged channel. -/
  | levelFill (h : Hdr) (p : List Byte)
  /-- SOURCE_APPLY (R183). Applies the staged source set at the next boundary, binds it to commits, or cancels the binding. -/
  | sourceApply (h : Hdr) (p : List Byte)
  /-- SOURCE_READ (R196). Returns staged or live bank records, channel records or level tables. -/
  | sourceRead (h : Hdr) (p : List Byte)
  /-- CHARGE_READ (R192). Returns per-channel tick charge, DUMP charge and LIFE_CHARGE. -/
  | chargeRead (h : Hdr) (p : List Byte)
  /-- CHARGE_SAVE (R193). Writes LIFE_CHARGE to the identity/patina store of the kennel. -/
  | chargeSave (h : Hdr) (p : List Byte)
  /-- CHARGE_CLEAR (R193). Clears LIFE_CHARGE of masked channels in a service session and writes the store. -/
  | chargeClear (h : Hdr) (p : List Byte)
  /-- SINK_STATUS (R196). Returns dissipation, ceiling, pending state and per-channel pin voltages and flags. -/
  | sinkStatus (h : Hdr) (p : List Byte)
  /-- DIAG_CONFIG (R214). Sets DIAG_LEVEL, NEIGHBOUR_PERIOD, SUPPLY_RULE and SGND_DARK from the next boundary. -/
  | diagConfig (h : Hdr) (p : List Byte)
  /-- DIAG_STATUS (R214). Returns per-channel diagnostic state, QUIET and partner. -/
  | diagStatus (h : Hdr) (p : List Byte)
  /-- DIAG_CLEAR (R212). Clears latched faults of masked channels and returns them to PENDING. -/
  | diagClear (h : Hdr) (p : List Byte)
  /-- DIAG_ROUND_NOW (R214). At the next boundary ends the running neighbour round and starts a new one. -/
  | diagRoundNow (h : Hdr) (p : List Byte)
  /-- NEIGHBOUR_READ (R214). Returns the package neighbour lists of channels. -/
  | neighbourRead (h : Hdr) (p : List Byte)
  /-- CONSTANCY_CONFIG (R236). Sets the constancy mode, time constants and limits from the next boundary. -/
  | constancyConfig (h : Hdr) (p : List Byte)
  /-- SENSE_CONFIG (R217). Assigns light-sense inputs to arrays, ranges and primaries. -/
  | senseConfig (h : Hdr) (p : List Byte)
  /-- TARGET_SET (R233). Sets primary chromaticities and luminance shares for DUV. -/
  | targetSet (h : Hdr) (p : List Byte)
  /-- TARGET_CAPTURE (R231). Captures the installed constancy state at the next boundary. -/
  | targetCapture (h : Hdr) (p : List Byte)
  /-- SCALE_SET (R236). Sets S_p in MODE 0 from the next boundary. -/
  | scaleSet (h : Hdr) (p : List Byte)
  /-- CONSTANCY_STATUS (R236). Returns G, DUV and per-primary scale, target, ratio and confidence. -/
  | constancyStatus (h : Hdr) (p : List Byte)
  /-- EMITTER_READ (R226). Returns per-channel emitter ratios and counts. -/
  | emitterRead (h : Hdr) (p : List Byte)
  /-- SENSE_READ (R236). Returns an input's range, fault, dark offsets and counters. -/
  | senseRead (h : Hdr) (p : List Byte)
  /-- HEAD_CONFIG (R240). Writes a beam head record while the head is OFF and unnamed. -/
  | headConfig (h : Hdr) (p : List Byte)
  /-- HEAD_READ (R257). Returns a beam head record. -/
  | headRead (h : Hdr) (p : List Byte)
  /-- HEAD_CONTROL (R239). Turns a head OFF, enables, resumes, flushes or blanks it. -/
  | headControl (h : Hdr) (p : List Byte)
  /-- POINT_APPEND (R243). Queues a segment of points from the host ring or a clip, with a start instant. -/
  | pointAppend (h : Hdr) (p : List Byte)
  /-- HEAD_STATUS (R257). Returns head state, causes, point counters and tracking error. -/
  | headStatus (h : Hdr) (p : List Byte)
  /-- AXIS_CONFIG (R267). Writes an axis record while the axis is OPEN. -/
  | axisConfig (h : Hdr) (p : List Byte)
  /-- AXIS_CONFIG_READ (R274). Returns an axis record. -/
  | axisConfigRead (h : Hdr) (p : List Byte)
  /-- COEF_WRITE (R268). Writes the inactive coefficient bank of an axis. -/
  | coefWrite (h : Hdr) (p : List Byte)
  /-- COEF_READ (R274). Returns a coefficient bank record. -/
  | coefRead (h : Hdr) (p : List Byte)
  /-- BANK_SELECT (R269). Makes a bank swap pending on the named axes at a stated or immediate instant. -/
  | bankSelect (h : Hdr) (p : List Byte)
  /-- AXIS_LOOP (R271). Closes the loop with I_PRESET or opens it at the next sample. -/
  | axisLoop (h : Hdr) (p : List Byte)
  /-- AXIS_STATUS (R274). Returns axis loop state, bank state and signal values. -/
  | axisStatus (h : Hdr) (p : List Byte)
  /-- AXIS_IO_CONFIG (R287). Writes the axis interface record while the axis is OPEN. -/
  | axisIoConfig (h : Hdr) (p : List Byte)
  /-- AXIS_IO_READ (R296). Returns the axis interface record. -/
  | axisIoRead (h : Hdr) (p : List Byte)
  /-- EXT_CONFIG (R296). Writes the external set-point record while the axis is OPEN. -/
  | extConfig (h : Hdr) (p : List Byte)
  /-- DETECT_CONFIG (R288). Writes the feedback-fault detector record from the next sample. -/
  | detectConfig (h : Hdr) (p : List Byte)
  /-- PROFILE_LIMITS (R278). Writes the axis velocity, acceleration and jerk limits. -/
  | profileLimits (h : Hdr) (p : List Byte)
  /-- PROFILE_MOVE (R279). Gives a closed axis a new target at once or arms it on a trigger. -/
  | profileMove (h : Hdr) (p : List Byte)
  /-- SETPOINT_SOURCE (R276). Changes the set-point source of an OPEN or heeled axis. -/
  | setpointSource (h : Hdr) (p : List Byte)
  /-- HEEL_CONTROL (R292). Sends an axis to heel, or leaves heel closed or to OPEN. -/
  | heelControl (h : Hdr) (p : List Byte)
  /-- AXIS_IO_STATUS (R296). Returns set-point, feedback and counter state of an axis. -/
  | axisIoStatus (h : Hdr) (p : List Byte)
  /-- TRIGGER_CONFIG (R296). Sets the trigger input enables, polarity and filters, and ILK_HEEL. -/
  | triggerConfig (h : Hdr) (p : List Byte)
  /-- TRIGGER_STATUS (R296). Returns trigger counts and interlock state. -/
  | triggerStatus (h : Hdr) (p : List Byte)
  /-- CLOCK_CONFIG (R315). Sets spread depths, spread rate, PULL_TICKS and the frequency test. -/
  | clockConfig (h : Hdr) (p : List Byte)
  /-- CLOCK_STEP (R302). Steps the offset of SYSPLL or SEQPLL by a small step. -/
  | clockStep (h : Hdr) (p : List Byte)
  /-- CLOCK_RAMP (R304). Starts a multi-segment frequency ramp on SYSPLL or SEQPLL. -/
  | clockRamp (h : Hdr) (p : List Byte)
  /-- CLOCK_RAMP_STOP (R304). Stops a running ramp and holds the offset. -/
  | clockRampStop (h : Hdr) (p : List Byte)
  /-- CLOCK_STATUS (R315). Returns reference, lock, coast and ramp state and the offsets. -/
  | clockStatus (h : Hdr) (p : List Byte)
  /-- HK_COMP_READ (R315). Returns the compensation record in force. -/
  | hkCompRead (h : Hdr) (p : List Byte)
  /-- HK_COMP_WRITE (R313). Writes the compensation record to the kennel in a service session. -/
  | hkCompWrite (h : Hdr) (p : List Byte)
  /-- THERMAL_STATUS (R332). Returns thermal state, ceiling, masks and per-zone readings. -/
  | thermalStatus (h : Hdr) (p : List Byte)
  /-- THERMAL_RELEASE (R329). Begins the warm restart from LOCKOUT when every zone is below 100 °C. -/
  | thermalRelease (h : Hdr) (p : List Byte)
  /-- THERMAL_MODEL_READ (R332). Returns the thermal model record. -/
  | thermalModelRead (h : Hdr) (p : List Byte)
  /-- THERMAL_MODEL_WRITE (R332). Writes the thermal model record to the kennel in a service session. -/
  | thermalModelWrite (h : Hdr) (p : List Byte)
  /-- ZONE_SUSPECT_CLEAR (R322). Returns the masked suspect zones to service. -/
  | zoneSuspectClear (h : Hdr) (p : List Byte)
  /-- CAL_CONFIG (R353). Sets calibration task enables and periods from the next boundary. -/
  | calConfig (h : Hdr) (p : List Byte)
  /-- CAL_STATUS (R353). Returns suspension, staleness, deferral and calibration counters. -/
  | calStatus (h : Hdr) (p : List Byte)
  /-- CAL_CONTROL (R341). Makes a calibration unit due now or restarts a suspended unit. -/
  | calControl (h : Hdr) (p : List Byte)
  /-- CAL_VALUES_READ (R353). Returns accepted calibration values. -/
  | calValuesRead (h : Hdr) (p : List Byte)
  /-- KENNEL_SAVE (R350). Asks for commanded writes of the masked kennel stores and replies after them. -/
  | kennelSave (h : Hdr) (p : List Byte)
  /-- KENNEL_CONFIG (R349). Sets the write periods of stores 1 and 2. -/
  | kennelConfig (h : Hdr) (p : List Byte)
  /-- KENNEL_STATUS (R353). Returns per-store slot states, sequence numbers and write counts. -/
  | kennelStatus (h : Hdr) (p : List Byte)
  /-- KENNEL_READ (R353). Returns bytes of a kennel slot as stored. -/
  | kennelRead (h : Hdr) (p : List Byte)
  /-- KENNEL_ERASE (R353). Erases both slots of the masked stores in a service session. -/
  | kennelErase (h : Hdr) (p : List Byte)
  /-- CL_CONFIG (R404). Sets root, persistent address, port enables, depth and enumeration timeout. -/
  | clConfig (h : Hdr) (p : List Byte)
  /-- CL_STATUS (R408). Returns address, depth, port states, credits and Cumaslink counters. -/
  | clStatus (h : Hdr) (p : List Byte)
  /-- CL_ENUMERATE (R402). Starts enumeration at the root with the census token. -/
  | clEnumerate (h : Hdr) (p : List Byte)
  /-- CL_BROADCAST (R406). Sends a command entry to every node in a scope. -/
  | clBroadcast (h : Hdr) (p : List Byte)
  /-- CL_TIME_SET (R408). Sets the root time at the boundary opening a named tick. -/
  | clTimeSet (h : Hdr) (p : List Byte)
  /-- CL_ROUTE_READ (R408). Returns entries of the route table. -/
  | clRouteRead (h : Hdr) (p : List Byte)
  /-- CS_CONFIG (R424). Sets the staging pool and the read budget. -/
  | csConfig (h : Hdr) (p : List Byte)
  /-- CS_STATUS (R424). Returns the content store state and counters. -/
  | csStatus (h : Hdr) (p : List Byte)
  /-- CS_FORMAT (R424). Formats the volume: superblocks, cleared table and deallocation. -/
  | csFormat (h : Hdr) (p : List Byte)
  /-- CLIP_CREATE (R417). Allocates blocks and writes a clip record in state writing. -/
  | clipCreate (h : Hdr) (p : List Byte)
  /-- CLIP_WRITE (R417). Copies host data into a clip's content by DMA. -/
  | clipWrite (h : Hdr) (p : List Byte)
  /-- CLIP_SEAL (R417). Reads the clip back, checks CRC and INFO, and seals it. -/
  | clipSeal (h : Hdr) (p : List Byte)
  /-- CLIP_DELETE (R418). Frees an unused clip record and its blocks. -/
  | clipDelete (h : Hdr) (p : List Byte)
  /-- CLIP_INFO (R424). Returns a clip table record. -/
  | clipInfo (h : Hdr) (p : List Byte)
  /-- CLIP_PLAY (R419). Sets, replaces or stops a layer's clip play state and staging. -/
  | clipPlay (h : Hdr) (p : List Byte)
  /-- CUE_CONTROL (R423). Starts a cue list on a player at a tick or stops it. -/
  | cueControl (h : Hdr) (p : List Byte)
  /-- EPB_CONFIG (R433). Writes an effect output record from the next idle boundary. -/
  | epbConfig (h : Hdr) (p : List Byte)
  /-- EPB_WRITE (R429). Writes pixels into an output's staging buffer. -/
  | epbWrite (h : Hdr) (p : List Byte)
  /-- EPB_UPDATE (R429). Copies staging buffers into pending buffers of the named outputs. -/
  | epbUpdate (h : Hdr) (p : List Byte)
  /-- EPB_PATTERN (R431). Writes a pattern record and starts or stops the pattern engine. -/
  | epbPattern (h : Hdr) (p : List Byte)
  /-- EPB_STATUS (R435). Returns per-output state and frame counts. -/
  | epbStatus (h : Hdr) (p : List Byte)
  /-- IDENTITY_READ (R453). Returns serial, firmware, security versions, key state and device key. -/
  | identityRead (h : Hdr) (p : List Byte)
  /-- CERT_READ (R453). Returns bytes of the device certificate. -/
  | certRead (h : Hdr) (p : List Byte)
  /-- ATTEST (R439). Builds and signs an attestation statement over a host nonce. -/
  | attest (h : Hdr) (p : List Byte)
  /-- SERVICE_CHALLENGE (R444). Returns a fresh nonce and the serial for a service session. -/
  | serviceChallenge (h : Hdr) (p : List Byte)
  /-- SERVICE_OPEN (R444). Checks an owner signature and opens a service session. -/
  | serviceOpen (h : Hdr) (p : List Byte)
  /-- SERVICE_CLOSE (R445). Closes the service session of this mailbox. -/
  | serviceClose (h : Hdr) (p : List Byte)
  /-- SERVICE_KEY_ENROLL (R443). Enrols an owner key into an OTP slot. -/
  | serviceKeyEnroll (h : Hdr) (p : List Byte)
  /-- SERVICE_KEY_REVOKE (R443). Revokes an owner key slot in OTP. -/
  | serviceKeyRevoke (h : Hdr) (p : List Byte)
  /-- SECURITY_COMMIT (R442). Raises SEC_MIN and/or revokes firmware keys in OTP. -/
  | securityCommit (h : Hdr) (p : List Byte)
  /-- PATINA_CONFIG (R454). Sets the patina alert thresholds. -/
  | patinaConfig (h : Hdr) (p : List Byte)
  /-- PATINA_EMITTER_READ (R454). Returns per-channel E_REL, fit and remaining hours. -/
  | patinaEmitterRead (h : Hdr) (p : List Byte)
  /-- PATINA_UNIT_READ (R454). Returns array, axis or kennel-slot patina values. -/
  | patinaUnitRead (h : Hdr) (p : List Byte)
  /-- PATINA_HOURS_READ (R454). Returns bank hours per temperature bin and sink hours. -/
  | patinaHoursRead (h : Hdr) (p : List Byte)
  /-- PATINA_RESET (R454). Clears patina baselines and rearms alerts for masked units. -/
  | patinaReset (h : Hdr) (p : List Byte)
  /-- DOORBELL_WRITE (R362). Host write of a new command producer index, accepted or ignored. -/
  | doorbellWrite (value : W32) (bar2 : List (Nat × Byte))
  /-- RPL_CONS_WRITE (R362). Host write of the reply consumer index, accepted or ignored. -/
  | rplConsWrite (value : W32)
  /-- MBX_FLAGS_CLEAR_CPU_FAULT (R358). Writing 1 to CPU_FAULT clears it. -/
  | mbxFlagsClearCpuFault
  /-- MBX_FLAGS_CLEAR_RESTARTED (R374). Writing 1 to RESTARTED clears it and the whistle bit. -/
  | mbxFlagsClearRestarted
  /-- MBX_FLAGS_CLEAR_REPLY_LOST (R358). Writing 1 to REPLY_LOST clears it. -/
  | mbxFlagsClearReplyLost
  /-- MBX_FLAGS_CLEAR_RCONS_INVALID (R358). Writing 1 to RCONS_INVALID clears it. -/
  | mbxFlagsClearRconsInvalid
  /-- MBX_FLAGS_CLEAR_DB_INVALID (R358). Writing 1 to DB_INVALID clears it. -/
  | mbxFlagsClearDbInvalid
  /-- REGISTER_WRITE_OTHER (R12). A write to a BAR0 register without its own behaviour, which has no effect. -/
  | registerWriteOther (offset : Nat) (value : W32)
  /-- RING_HEAD_TAKE (R365). The head of the PCIe command ring is taken when a reply slot is free and the intake allows. -/
  | ringHeadTake (contested : Bool)
  /-- CL_MAILBOX_TAKE (R378). The head of the Cumaslink mailbox is taken under the take conditions. -/
  | clMailboxTake (contested : Bool)
  /-- MAX_WAIT_EXPIRY (R369). A head visible for MAX_WAIT is taken by hardware and answered BUSY with cause 2. -/
  | maxWaitExpiry (cl : Bool)
  /-- PARKED_COMMAND_COMPLETE (R368). The outside completion of a parked command lets its reply be written. -/
  | parkedCommandComplete (place : Nat) (ok : Bool) (data : List Byte)
  /-- REMOTE_TIMEOUT_EXPIRY (R377). No remote reply within REMOTE_TIMEOUT gives a TIMEOUT reply. -/
  | remoteTimeoutExpiry (place : Nat)
  /-- HOST_LINK_DOWN (R357). DL_Down, hot reset or PERST_N discards untaken commands and withholds replies. -/
  | hostLinkDown
  /-- HOST_LINK_UP (R357). The host link returns with indices zeroed and REPLY_LOST set. -/
  | hostLinkUp
  /-- POWER_ON_RESET (R456). PORST_N low for 1 µs or more resets the whole device. -/
  | powerOnReset
  /-- PORST_N_RELEASE (R458). PORST_N rises and the boot sequence begins. -/
  | porstNRelease (flash : Option (List (Nat × Byte)))
  /-- FIRMWARE_READY (R470). FW_STATE becomes 1 and the restart events and BOOT_DONE are raised in order. -/
  | firmwareReady
  /-- LOCKSTEP_MISMATCH (R26). A lockstep comparison failure starts the hardware fault handling and processor restart. -/
  | lockstepMismatch
  /-- WATCHDOG_EXPIRY (R26). A missed 10 ms watchdog service starts the hardware fault handling and processor restart. -/
  | watchdogExpiry
  /-- BRIDGE_WORD_CRC_FAIL (R16). A bridge word that fails its CRC-8 keeps the previous value and is repeated. -/
  | bridgeWordCrcFail (word : W16) (toCore : Bool) (repeated : Bool)
  /-- BRIDGE_LOSS (R17). No valid bridge word for 10 µs turns all sinks off and ramps the fast axes to zero. -/
  | bridgeLoss
  /-- BRIDGE_RESUME (R17). Valid bridge words resume after a loss. -/
  | bridgeResume
  /-- TICK_BOUNDARY (R21). The tick length elapses and all tick-aligned changes are applied in order. -/
  | tickBoundary
  /-- SLOT_START (R45). An armature slot begins and sets the arrays, sources and path switches. -/
  | slotStart
  /-- ENTRY_OPEN (R132). A cast entry opens and sequences the reset, the next load and the lit windows. -/
  | entryOpen (array : Nat) (windows : List WindowObs) (light : List LightObs)
  /-- MAP_POINT (R167). At the first load of a tick, sends LANE_MAP, chooses the cast provisionally and preloads. -/
  | mapPoint (array : Nat)
  /-- COMPOSE_LINE_START (R72). A compose line starts: the tolerances are stated and a row is produced. -/
  | composeLineStart
  /-- FRAME_DONE (R89). Compose of a frame closes, buffers retire and the frame events are raised. -/
  | frameDone
  /-- READ_COMPLETION (R71). A memory read completes or fails and returns its tag. The offset is that of the data within what the
  user reads: a row, a cast, the queued points of a head from the next one due. -/
  | readCompletion (user : ReadUser) (ok : Bool) (offset : Nat) (data : List Byte)
  /-- FENCE_READ_COMPLETION (R94). A fence read completes and the end value is compared. -/
  | fenceReadCompletion (layer : Nat) (isEnd : Bool) (ok : Bool) (value : W64)
  /-- SELF_REFRESH_ENTRY (R73). The memory enters self-refresh when the tolerance is high and nothing is queued. -/
  | selfRefreshEntry
  /-- SELF_REFRESH_EXIT (R73). The memory leaves self-refresh on a request or low tolerance. -/
  | selfRefreshExit
  /-- ARRAY_STATUS_MESSAGE (R163). An array STATUS message gives state, temperature flags and lock and deskew masks. -/
  | arrayStatusMessage (array : Nat) (state : Nat) (flags : Byte) (lock deskew : BitVec 96)
  /-- LANE_ALARM (R165). An array reports a lane loss and the lane is lost. -/
  | laneAlarm (array lane reason : Nat)
  /-- TICK_REPORT (R163). An array reports its load and reset counts, which are added into PL_STATUS. -/
  | tickReport (array : Nat) (tick : W16) (closed notComplete resets cleared : Nat)
  /-- TEMP (R164). An array temperature reading is judged against T_WARN and T_MAX. -/
  | temp (array : Nat) (value : Int)
  /-- ARRAY_RECORD (R159). An array sends its parameter record, which is accepted or refused. -/
  | arrayRecord (array : Nat) (record : List Byte)
  /-- LANE_REPORT (R163). An array reports BIP error counts for 48 lanes. -/
  | laneReport (array part : Nat) (counts : List Nat)
  /-- RESET_COUNT (R163). An array reports its lifetime reset count. -/
  | resetCount (array count : Nat)
  /-- CMD_ACK (R154). An array acknowledges an array command with its result. -/
  | cmdAck (array cmd seq result : Nat)
  /-- IDENT (R163). An array answers IDENTIFY with serial and firmware identifier. -/
  | ident (array : Nat) (serial firmware : W64)
  /-- BACKCHANNEL_TIMEOUT (R164). No valid back-channel message for 1 ms puts the array in FAILED. -/
  | backchannelTimeout (array : Nat)
  /-- TRAIN_DETECT_TIMEOUT (R160). 100 ms in DETECT without STATUS fails training. -/
  | trainDetectTimeout (array : Nat)
  /-- TRAIN_LOCK_TIMEOUT (R160). 2 ms in LOCK moves to DESKEW or fails training. -/
  | trainLockTimeout (array : Nat)
  /-- TRAIN_DESKEW_TIMEOUT (R160). 1 ms in DESKEW moves to RECORD or fails training. -/
  | trainDeskewTimeout (array : Nat)
  /-- TRAIN_RECORD_TIMEOUT (R160). 10 ms in RECORD fails training. -/
  | trainRecordTimeout (array : Nat)
  /-- ARRAY_RETRAIN_TIMER (R160). 1 s after FAILED, automatic retraining restarts DETECT. -/
  | arrayRetrainTimer (array : Nat)
  /-- ARRAY_CMD_TIMEOUT (R170). No CMD_ACK within 10 ms answers ARRAY_CMD with TIMEOUT. -/
  | arrayCmdTimeout (array : Nat)
  /-- TRANSMITTER_FAULT (R165). A lane transmitter reports a fault and the lane is lost. -/
  | transmitterFault (lane : Nat)
  /-- LANE_RETRAIN_ATTEMPT (R169). Each second a lost lane is retrained with TRAIN and ALIGN. -/
  | laneRetrainAttempt (lane : Nat) (locked : Bool)
  /-- LANE_READY (R169). A retrained lane is ready after 100 ms without a BIP error. -/
  | laneReady (lane : Nat)
  /-- EFFECT_PWM_PERIOD (R190). An effect PWM period starts and the phases and duties are applied. -/
  | effectPwmPeriod (windows : List WindowObs)
  /-- DIAG_CELL (R203). A diagnostic cell runs a probe and a test pulse, or a neighbour, emitter or calibration cell. -/
  | diagCell (m : CellMeas)
  /-- NEIGHBOUR_PERIOD_START (R209). A neighbour round starts at each NEIGHBOUR_PERIOD. -/
  | neighbourPeriodStart
  /-- SINK_OVERTEMP_DETECT (R210). A sink's local detector reaches 140 °C and the sink turns off. -/
  | sinkOvertempDetect (channel : Nat)
  /-- SINK_OVERTEMP_RESUME (R210). After 100 ms below 125 °C the sink resumes. -/
  | sinkOvertempResume (channel : Nat)
  /-- DARK_BLOCK (R220). A block of 4,096 dark samples completes and sets or rejects dark_r. -/
  | darkBlock (input : Nat) (samples : List Int)
  /-- SOLVER_RUN (R230). At each SOLVE_PERIOD the solver computes G, the targets and the steps of S_p. -/
  | solverRun
  /-- POINT_DUE (R244). A point falls due and its interval begins. -/
  | pointDue (head : Nat) (data : Option (List Byte)) (windows : List WindowObs)
  /-- POINT_DATA_LANDED (R250). Stalled point data lands and play resumes 400 tu later. -/
  | pointDataLanded (head : Nat)
  /-- PARK_IDLE_EXPIRY (R239). A head with an empty queue for PARK_IDLE returns to PARKED. -/
  | parkIdleExpiry (head : Nat)
  /-- HEAD_ON_DUMP (R252). A parked head is on its dump after 1 ms within PARK_TOL. -/
  | headOnDump (head : Nat)
  /-- SCAN_SPEED_SAMPLE (R254). Each feedback sample the monitor forms the scan speed and times the dwell. -/
  | scanSpeedSample (head : Nat)
  /-- AXIS_SAMPLE (R263). At an axis sample instant the engine computes the compensator and feeds the drive. -/
  | axisSample (axis : Nat) (m : SampleIn)
  /-- HEEL_RAMP_STEP (R290). Every 400 tu a heeled fast axis steps its DAC code towards 0. -/
  | heelRampStep (axis : Nat)
  /-- EXT_STEP_INPUT (R282). A filtered step edge moves the external input position. -/
  | extStepInput (axis : Nat) (dirHigh : Bool)
  /-- TRIGGER_INPUT (R293). A filtered inactive-to-active change is a trigger and starts armed moves. -/
  | triggerInput (input : Nat)
  /-- TRIGGER_HELD_10S (R294). A filtered level active for 10 s is treated as stuck. -/
  | triggerHeld10s (input : Nat)
  /-- TRIGGER_RELEASE (R294). A stuck trigger input goes inactive. -/
  | triggerRelease (input : Nat)
  /-- INTERLOCK_DEASSERT (R295). ILK_N high for 16 tu turns all sinks off, blanks heads and may heel axes. -/
  | interlockDeassert
  /-- INTERLOCK_RESTORE (R295). ILK_N low for 10 ms restores the interlock and the sinks resume. It comes as ILK_N goes low, and again as
  its 10 ms are over. -/
  | interlockRestore
  /-- SYNC_IN_EDGE (R35). A SYNC_IN reference edge arrives as a tick reference. -/
  | syncInEdge
  /-- TICK_REFERENCE_MISSING (R35). A reference is missing or outside the window and the source may become invalid. -/
  | tickReferenceMissing (source : Nat) (outside : Bool)
  /-- GENLOCK_STEP (R305). Every 100 µs a small step moves the SEQPLL offset towards the genlock target. -/
  | genlockStep
  /-- CLOCK_RAMP_STEP (R304). Every 100 µs a ramp steps its PLL offset along the line. -/
  | clockRampStep (pll : Nat)
  /-- REFCLK_LOSS (R307). REFCLK is lost for missing edges and every PLL coasts. -/
  | refclkLoss
  /-- REFCLK_FREQ_CHECK (R307). Each 1 ms REFCLK is counted against HKOSC and may be judged lost. -/
  | refclkFreqCheck (ppm : Int)
  /-- REFCLK_RESTORE (R311). After 10 ms without failure REFCLK is restored and the PLLs relock by steps. -/
  | refclkRestore (ppm : Int)
  /-- PLL_LOCK_LOSS (R309). A PLL phase error beyond 2 ns for 16 edges loses lock and it coasts. -/
  | pllLockLoss (pll : Nat)
  /-- PLL_RELOCK (R311). A PLL stays within 2 ns for 100 µs and is locked again. -/
  | pllRelock (pll : Nat)
  /-- HK_CRYSTAL_START (R299). A crystal oscillating within 20 ms moves HKOSC to the crystal. -/
  | hkCrystalStart
  /-- HK_CRYSTAL_STOP (R299). A crystal stopped for 2 µs returns HKOSC to the RC oscillator. -/
  | hkCrystalStop
  /-- HK_MEASURE (R314). Each 1 s HKOSC is measured against REFCLK as HK_ERR. -/
  | hkMeasure (ppm : Int)
  /-- ZONE_READING (R319). A zone diode is read, cross-checked and compared with thresholds. -/
  | zoneReading (zone : Nat) (value : Int) (power : Nat)
  /-- TRIP_COMPARATOR_FIRE (R326). A trip comparator fires and all outputs stop within 1 µs. -/
  | tripComparatorFire (zone : Nat)
  /-- WARM_RESTART_BEGIN (R328). After cooling and with no tags held, the warm restart begins. -/
  | warmRestartBegin
  /-- NVME_TRIP_RESET (R474). An NVMe command still in flight 1 s after a trip is ended by a controller reset. -/
  | nvmeTripReset
  /-- CAL_UNIT_DUE (R334). A calibration unit's period passes and it falls due. -/
  | calUnitDue (task unit : Nat)
  /-- KENNEL_PACED_WRITE (R349). A dirty store is written once its WRITE_PERIOD has passed. -/
  | kennelPacedWrite (store : Nat)
  /-- KENNEL_WRITE_DONE (R347). A kennel write finishes its read-back and the slot comes into force or fails. -/
  | kennelWriteDone (good : Bool)
  /-- PORT_ID (R407). A PORT_ID symbol is received during training. -/
  | portId (port : Nat) (role flags : Byte) (addr : W16) (crcOk : Bool)
  /-- CL_TICK (R399). A TICK symbol on CL_UP is forwarded and taken as the Cumaslink reference. -/
  | clTick (tickNo : W32) (hops depth : W16) (acc : W32) (crcOk : Bool) (frac : Nat)
  /-- CL_TIME (R401). A TIME symbol is forwarded and its time kept. -/
  | clTime (ns : W64) (crcOk : Bool)
  /-- DELAY_REQ (R398). A parent answers a DELAY_REQ with a DELAY_RSP. -/
  | delayReq (port : Nat) (seq : Byte) (crcOk : Bool)
  /-- DELAY_RSP (R398). A DELAY_RSP completes a cable-delay exchange and updates CABLE_UP. -/
  | delayRsp (seq : Byte) (turn : W16) (crcOk : Bool) (roundTrip : Nat)
  /-- DELAY_REQ_TIMER (R398). Every 62.5 µs a node sends a DELAY_REQ upstream. -/
  | delayReqTimer
  /-- CREDIT (R394). A CREDIT symbol updates the sender's credits of a class. -/
  | credit (port : Nat) (rsp : Bool) (freed : Byte) (crcOk : Bool)
  /-- CREDIT_TIMER (R394). At least every 100 µs a receiver sends CREDIT. -/
  | creditTimer (port : Nat)
  /-- MBX_CMD (R377). A remote command frame is routed or enters the Cumaslink mailbox. -/
  | mbxCmd (port : Nat) (hdr : ClHdr) (entry : List Byte)
  /-- MBX_REPLY (R377). A remote reply frame is routed or written into the reply ring. -/
  | mbxReply (port : Nat) (hdr : ClHdr) (entry : List Byte)
  /-- BCAST (R406). A broadcast frame floods and its command enters each mailbox in scope. -/
  | bcast (port : Nat) (hdr : ClHdr) (subtree : Bool) (entry : List Byte)
  /-- TOKEN (R402). An enumeration token reaches a node for census or assignment. -/
  | token (port : Nat) (tok : ClToken)
  /-- TOKEN_BACK (R402). A returned token lets the node pass on or return it. -/
  | tokenBack (port : Nat) (tok : ClToken)
  /-- REPORT (R402). A census report travels up and is recorded at the root. -/
  | report (port : ClFrom) (index : W32) (paddr : W16) (pset : Bool) (serial : W64)
  /-- PERSIST_SET (R402). A block of kept persistent addresses is flooded and recorded. -/
  | persistSet (port : ClFrom) (block : Nat) (bits : BitVec 2048)
  /-- ANNOUNCE (R404). An address announcement updates routes and is judged at the root. -/
  | announce (port : ClFrom) (addr : W16) (held persistent : Bool) (serial : W64)
  /-- CONFLICT (R402). A flooded conflict makes the named node drop its address. -/
  | conflict (port : ClFrom) (index : W32) (serial : W64)
  /-- ENUM_TIMEOUT_EXPIRY (R403). The token has not returned within ENUM_TIMEOUT. -/
  | enumTimeoutExpiry
  /-- CL_SIGNAL_DETECT (R407). A DOWN port detects signal and starts training. -/
  | clSignalDetect (port : Nat)
  /-- CL_LINK_LOSS (R407). Loss of alignment or too many code errors takes a port DOWN. -/
  | clLinkLoss (port : Nat) (codeErrors : Bool)
  /-- CL_TRAINING_TIMEOUT (R407). A port not UP within 2 ms returns to DOWN. -/
  | clTrainingTimeout (port : Nat)
  /-- CL_RETRY_TIMER (R407). A DOWN or FAULT port retries after 10 ms or 1 s. -/
  | clRetryTimer (port : Nat)
  /-- CS_MOUNT (R416). At drive link-up the device checks the drive, reads the volume and rebuilds allocation. -/
  | csMount (drive : DriveImage)
  /-- NVME_COMPLETION (R411). An NVMe command completes and its tags return. -/
  | nvmeCompletion (place : Nat) (status : W16) (data : List Byte)
  /-- CUE_ENTRY_DUE (R423). A cue entry falls due at its boundary and enters the Cumaslink mailbox. -/
  | cueEntryDue (player : Nat)
  /-- EPB_OUTPUT_IDLE (R428). An output's reset after a frame completes and it becomes idle. -/
  | epbOutputIdle (output : Nat)
  /-- EPB_SILENCE_EXPIRY (R431). No command for FALLBACK_S starts the pattern engine at the next boundary. -/
  | epbSilenceExpiry (output : Nat)
  /-- SERVICE_SESSION_EXPIRY (R445). A service session ends after DURATION seconds. -/
  | serviceSessionExpiry
  /-- SERVICE_NONCE_EXPIRY (R444). A challenge nonce lapses after 60 s. -/
  | serviceNonceExpiry
  /-- AUTH_LOCKOUT_EXPIRY (R444). The 60 s BUSY of SERVICE_CHALLENGE after 5 failures ends. -/
  | authLockoutExpiry
  /-- BACKCHANNEL_BAD_MESSAGE (R162). A back-channel message with a character error or a bad CRC arrives and is discarded and counted. -/
  | backchannelBadMessage (array : Nat)
  /-- CL_BAD_FRAME (R390). A Cumaslink frame with a bad CRC-32, a bad LENGTH or an unknown TYPE is discarded, counted in DISCARDS, and its credit returned. -/
  | clBadFrame (port : Nat) (rsp : Bool)
  /-- PCIE_CONFIG_WRITE (R356). A host configuration write changes Bus Master Enable, Memory Space Enable, the D-state or the LTR enable of the endpoint. -/
  | pcieConfigWrite (busMaster memSpace d3hot ltr : Bool)
  /-- COMPLETION_TIMEOUT (R76). A host-memory read gets no completion within the completion timeout and is handled as a read error of its layer. -/
  | completionTimeout (user : ReadUser)
  /-- NVME_LINK_LOSS (R424). The NVMe drive's link goes down and the content store leaves MOUNTED. -/
  | nvmeLinkLoss
  /-- ENCODER_EDGE (R288). A filtered quadrature A/B or Z edge updates the count, latches Z_COUNT, and may trigger the overspeed detector. -/
  | encoderEdge (axis : Nat) (a b z : Bool) (gap : Nat)
  /-- FEEDBACK_CONVERSION (R288). A position or sum ADC conversion completes on its 1 MS/s grid and feeds the sum-window and saturation detectors and AXIS_ADC reference slots. -/
  | feedbackConversion (axis : Nat) (conv : Conv)
  /-- AXIS_PWM_PERIOD (R285). A motion-axis PWM period starts, takes the latest u_bus or applies the brake, and sets the duties. -/
  | axisPwmPeriod (axis : Nat)
  /-- SSC_TURNING_POINT (R301). The spread modulation reaches a turning point, where a changed SYS_SSC takes effect. -/
  | sscTurningPoint
  /-- VDRV_LOW (R485). VDRV falls below 4.5 V and every sink is held off, or rises again. -/
  | vdrvLow (low : Bool)
  /-- DMA_TRANSFER_DONE (R71). A content-store DMA transfer has its last write acknowledged and returns its DMA tags. -/
  | dmaTransferDone (tags : Nat)
  /-- DEBUGGER_HALT (R445). A debugger on the opened JTAG port halts or releases the control processor, suspending or resuming the watchdog. -/
  | debuggerHalt (halted : Bool)
  deriving DecidableEq, Repr

end Sys2Proof
end

