-- ==== Sys2Proof/Config.lean ====
section
/-! DEFINITION. What an implementation fixes and the spec does not give, and the free values: constants with no
body, so that no proof can see a value of one. -/
namespace Sys2Proof

/-- A free value, applied to the model's counter of free values taken (assumption 1). -/
opaque Config.free : Nat → Nat

/-- A free signed value, applied to the same counter (assumption 1). -/
opaque Config.freeInt : Nat → Int

/-- The package neighbours of a channel, up to four (09 R208, R214: fixed in the device, not listed in the spec). -/
opaque Config.neighbours : Nat → List Nat

/-- The placement of the built-in dither mask's values in a phase: they stand in the order of these keys (05 R117: placement not
given). -/
opaque Config.maskKey : Nat → Nat → Nat

/-- The place in the pool of the staging slot of a layer's clip frame (19 R419: slots are allotted, their places not given). -/
opaque Config.stageSlot : Nat → Nat → Nat

/-- The error of a square root of 13 R277, in units of 2^−39; used clipped to its stated bound. -/
opaque Config.sqrtErr : Nat → Int

/-- The error of a transfer function of 05 R108 in one component (0, 1, 2) of a layer colour, clipped to its stated
tolerance. -/
opaque Config.transferErr : List Int → Nat → Int

/-- The OTP identity (21 R437): the serial number and the device's private key. -/
opaque Config.serial : W64
opaque Config.deviceScalar : Nat

/-- The device CA: its private key and the value it signed the certificate with. -/
opaque Config.caScalar : Nat
opaque Config.caNonce : Nat

/-- What 21 R437 leaves open in the certificate: its number; the issuer, notBefore, the subject's other attributes, the
extensions. -/
opaque Config.certNumber : Nat
opaque Config.certPart : Nat → List Byte

/-- The four firmware key hashes in OTP (21 R441). -/
opaque Config.fwKeyHash : Nat → List Byte

/-- The code of the internal reference on an axis converter, axis and 0 position or 1 sum (16 R337: not given). -/
opaque Config.refCode : Nat → Nat → Nat

/-- The bytes of a kennel slot that is not VALID: slot of six, the writes made to the store, offset. -/
opaque Config.kennelByte : Nat → Nat → Nat → Byte

/-- A kennel section whose content 16 R345 names and does not lay out: its VERSION, the length of its data and a byte of them, by ID
and the writes made to the store. -/
opaque Config.sectionVersion : Nat → Byte
opaque Config.sectionLength : Nat → Nat → Nat
opaque Config.sectionByte : Nat → Nat → Nat → Byte

/-- Parholy's vendor identifier (17 R355: not given). -/
opaque Config.vendorId : W16

end Sys2Proof
end

