-- ==== Sys2Proof/Machine/Bytes.lean ====
section
/-! DEFINITION. Little-endian fields of records and payloads, signed fields, rounding, lists addressed by an
index, and the sorted sparse stores that hold the large memories. -/
namespace Sys2Proof.Machine

/-- A record of the spec, held as its bytes, offset 0 first. -/
abbrev Rec := List Byte

/-! ## Fields (00 R4, R5, R8) -/

/-- The byte at an offset; a record has no byte outside it, and such an offset reads 0. -/
def byteAt (r : Rec) (o : Nat) : Nat := (r.getD o 0).toNat

/-- The unsigned value of `n` bytes from offset `o`, least significant first (00 R5). -/
def leAt (r : Rec) (o : Nat) : Nat → Nat
  | 0 => 0
  | n + 1 => byteAt r o + 256 * leAt r (o + 1) n

def u16 (r : Rec) (o : Nat) : Nat := leAt r o 2
def u32 (r : Rec) (o : Nat) : Nat := leAt r o 4
def u64 (r : Rec) (o : Nat) : Nat := leAt r o 8

/-- Two's complement of width `bits` (00 R8). -/
def signed (bits v : Nat) : Int :=
  let m := v % 2 ^ bits
  if m < 2 ^ (bits - 1) then (m : Int) else (m : Int) - (2 ^ bits : Nat)

def i16 (r : Rec) (o : Nat) : Int := signed 16 (u16 r o)
def i32 (r : Rec) (o : Nat) : Int := signed 32 (u32 r o)

/-- A 40-bit value in an 8-byte container, bits [63:40] ignored (12 R266, 05 R110). -/
def i40 (r : Rec) (o : Nat) : Int := signed 40 (leAt r o 5)

/-- Bits [hi:lo] of a value (00 R4). -/
def bits (v hi lo : Nat) : Nat := v / 2 ^ lo % 2 ^ (hi + 1 - lo)

/-- Bit `i` of a value. -/
def bit (v i : Nat) : Bool := v.testBit i

/-- The `n` bytes of a value, least significant first; higher bits are dropped. -/
def le : Nat → Nat → Rec
  | 0, _ => []
  | n + 1, v => BitVec.ofNat 8 v :: le n (v / 256)

/-- The `n` bytes of a signed value in two's complement. -/
def leI (n : Nat) (v : Int) : Rec := le n (v % (2 ^ (8 * n) : Nat)).toNat

/-- A signed value as an `n`-bit pattern. -/
def pattern (n : Nat) (v : Int) : Nat := (v % (2 ^ n : Nat)).toNat

/-- `n` reserved bytes, sent as 0. -/
def zeros (n : Nat) : Rec := List.replicate n 0

/-- The part of a list from `o`, `n` long. -/
def slice {α : Type} (l : List α) (o n : Nat) : List α := (l.drop o).take n

/-- An element placed before the first that it may precede. -/
def insertBy {α : Type} (le : α → α → Bool) (x : α) : List α → List α
  | [] => [x]
  | y :: l => if le x y then x :: y :: l else y :: insertBy le x l

/-- A list in the order of `le`; equal elements keep their places. -/
def sortBy {α : Type} (le : α → α → Bool) (l : List α) : List α := l.foldr (insertBy le) []

/-- A list with the elements of `b` written over it from index `o`; nothing outside the list is written. -/
def overlay {α : Type} (l : List α) (o : Nat) (b : List α) : List α :=
  l.mapIdx fun i x => if o ≤ i then (b[i - o]?).getD x else x

/-- 1 for true. -/
def b2n (b : Bool) : Nat := if b then 1 else 0

/-- A mask whose bit i is the i-th entry. -/
def maskOf : List Bool → Nat
  | [] => 0
  | b :: bs => b2n b + 2 * maskOf bs

/-- The least of a value and the largest value of a saturating field (00 R7). -/
def sat (n v : Nat) : Nat := min v (2 ^ n - 1)

/-- Clamp to a range. -/
def clampI (lo hi v : Int) : Int := max lo (min hi v)

/-- Division rounded to nearest, halves towards +∞ (00 R498). -/
def roundDiv (a : Int) (b : Nat) : Int := (2 * a + b).fdiv (2 * b)

/-- round(x) of an exact fraction, halves towards +∞ (00 R498). -/
def roundRat (q : Rat) : Int := (q + 1 / 2).floor

/-- ceil(a ÷ b). -/
def ceilDiv (a b : Nat) : Nat := (a + b - 1) / b

/-! ## Lists addressed by an index -/

/-- The entry at an index; a unit's list has a fixed length, and an index outside it reads the default. -/
def at_ {α : Type} [Inhabited α] (l : List α) (i : Nat) : α := l.getD i default

/-- The list with entry `i` changed. -/
def upd {α : Type} (l : List α) (i : Nat) (f : α → α) : List α := l.modify i f

/-- Positions where a predicate holds, ascending. -/
def indices {α : Type} (l : List α) (p : α → Bool) : List Nat :=
  (List.range l.length).filter fun i => ((l[i]?).map p).getD false

/-! ## Sparse stores -/

/-- What a sparse store reads at an index, `d` where nothing is listed. -/
def spGet {α : Type} (d : α) : Sparse α → Nat → α
  | [], _ => d
  | (k, v) :: t, i => if k = i then v else spGet d t i

/-- A write that keeps the store sorted and lists no value equal to the default. -/
def spSet {α : Type} [DecidableEq α] (d : α) : Sparse α → Nat → α → Sparse α
  | [], i, x => if x = d then [] else [(i, x)]
  | (k, v) :: t, i, x =>
    if k = i then (if x = d then t else (i, x) :: t)
    else if i < k then (if x = d then (k, v) :: t else (i, x) :: (k, v) :: t)
    else (k, v) :: spSet d t i x

/-- A block of values written from index `i` up. -/
def spPut {α : Type} [DecidableEq α] (d : α) (m : Sparse α) (i : Nat) : List α → Sparse α
  | [] => m
  | x :: xs => spPut d (spSet d m i x) (i + 1) xs

/-- A block of `n` values read from index `i` up. -/
def spRead {α : Type} (d : α) (m : Sparse α) (i n : Nat) : List α :=
  (List.range n).map fun k => spGet d m (i + k)

/-- The indices of the store strictly rise from `lo` on and no listed value is the default. -/
def spWfFrom {α : Type} [DecidableEq α] (d : α) : Nat → Sparse α → Bool
  | _, [] => true
  | lo, (k, v) :: t => decide (lo ≤ k) && decide (v ≠ d) && spWfFrom d (k + 1) t

/-- The canonical form of a sparse store: equal stores are equal lists. -/
def spWf {α : Type} [DecidableEq α] (d : α) (m : Sparse α) : Bool := spWfFrom d 0 m

/-! ## Checks -/

/-- CRC-32 of 04 R96: polynomial 0x04C11DB7 reflected, initial value and final XOR all ones. One bit. -/
def crc32Bit (c : W32) (b : Bool) : W32 :=
  if (c.getLsbD 0) != b then (c >>> 1) ^^^ 0xEDB88320#32 else c >>> 1

/-- One byte into the running CRC-32, least significant bit first. -/
def crc32Byte (c : W32) (x : Byte) : W32 :=
  (List.range 8).foldl (fun c i => crc32Bit c (x.getLsbD i)) c

def crc32Init : W32 := 0xFFFFFFFF#32
def crc32Feed (c : W32) (r : Rec) : W32 := r.foldl crc32Byte c
def crc32Done (c : W32) : W32 := ~~~c

/-- CRC-32 with the parameters of 04 R96 over whole bytes. -/
def crc32 (r : Rec) : W32 := crc32Done (crc32Feed crc32Init r)

end Sys2Proof.Machine
end

