-- ==== Sys2Proof/Machine/Crypto.lean ====
section
/-! DEFINITION. SHA-256, HMAC, ECDSA over P-256 with the per-signature value of RFC 6979, and the device certificate in DER
(21 R437 to R444). The constants are those of the standards that the spec names (assumption 100). -/
namespace Sys2Proof.Machine

/-! ## SHA-256 -/

/-- The round constants. -/
def shaK : List W32 :=
  [0x428a2f98, 0x71374491, 0xb5c0fbcf, 0xe9b5dba5, 0x3956c25b, 0x59f111f1, 0x923f82a4, 0xab1c5ed5] ++
  [0xd807aa98, 0x12835b01, 0x243185be, 0x550c7dc3, 0x72be5d74, 0x80deb1fe, 0x9bdc06a7, 0xc19bf174] ++
  [0xe49b69c1, 0xefbe4786, 0x0fc19dc6, 0x240ca1cc, 0x2de92c6f, 0x4a7484aa, 0x5cb0a9dc, 0x76f988da] ++
  [0x983e5152, 0xa831c66d, 0xb00327c8, 0xbf597fc7, 0xc6e00bf3, 0xd5a79147, 0x06ca6351, 0x14292967] ++
  [0x27b70a85, 0x2e1b2138, 0x4d2c6dfc, 0x53380d13, 0x650a7354, 0x766a0abb, 0x81c2c92e, 0x92722c85] ++
  [0xa2bfe8a1, 0xa81a664b, 0xc24b8b70, 0xc76c51a3, 0xd192e819, 0xd6990624, 0xf40e3585, 0x106aa070] ++
  [0x19a4c116, 0x1e376c08, 0x2748774c, 0x34b0bcb5, 0x391c0cb3, 0x4ed8aa4a, 0x5b9cca4f, 0x682e6ff3] ++
  [0x748f82ee, 0x78a5636f, 0x84c87814, 0x8cc70208, 0x90befffa, 0xa4506ceb, 0xbef9a3f7, 0xc67178f2]

/-- The start value. -/
def shaStart : List W32 :=
  [0x6a09e667, 0xbb67ae85, 0x3c6ef372, 0xa54ff53a, 0x510e527f, 0x9b05688c, 0x1f83d9ab, 0x5be0cd19]

/-- A number from bytes, the first the most significant. -/
def beNat (l : List Byte) : Nat := l.foldl (fun n b => 256 * n + b.toNat) 0

/-- The `n` bytes of a number, the most significant first. -/
def be (n v : Nat) : List Byte := (le n v).reverse

def shaSmall (a b c : Nat) (x : W32) : W32 := x.rotateRight a ^^^ x.rotateRight b ^^^ x >>> c
def shaBig (a b c : Nat) (x : W32) : W32 := x.rotateRight a ^^^ x.rotateRight b ^^^ x.rotateRight c

/-- The schedule, the newest word first, after `n` more words. -/
def shaSchedule : Nat → List W32 → List W32
  | 0, w => w
  | n + 1, w => shaSchedule n
      ((shaSmall 17 19 10 (w.getD 1 0) + w.getD 6 0 + shaSmall 7 18 3 (w.getD 14 0) + w.getD 15 0) :: w)

/-- One round, with the sum of its constant and its word. -/
def shaRound (h : List W32) (kw : W32) : List W32 := match h with
  | [a, b, c, d, e, f, g, h] =>
    let t := h + shaBig 6 11 25 e + ((e &&& f) ^^^ (~~~e &&& g)) + kw
    [t + shaBig 2 13 22 a + ((a &&& b) ^^^ (a &&& c) ^^^ (b &&& c)), a, b, c, d + t, e, f, g]
  | l => l

/-- One block of 64 bytes. -/
def shaBlock (h : List W32) (block : List Byte) : List W32 :=
  let w := (shaSchedule 48 ((List.range 16).map fun i => BitVec.ofNat 32 (beNat (slice block (4 * i) 4))).reverse).reverse
  List.zipWith (· + ·) h ((List.zipWith (· + ·) shaK w).foldl shaRound h)

/-- The blocks of a padded message. -/
def shaBlocks : Nat → List Byte → List W32 → List W32
  | 0, _, h => h
  | n + 1, m, h => shaBlocks n (m.drop 64) (shaBlock h (m.take 64))

/-- SHA-256 of a message: 32 bytes (21 R438). -/
@[irreducible] def sha256 (m : List Byte) : List Byte :=
  let p := m ++ [0x80] ++ zeros ((119 - m.length % 64) % 64) ++ be 8 (8 * m.length)
  ((shaBlocks (p.length / 64) p shaStart).map fun w => be 4 w.toNat).flatten

/-- HMAC-SHA-256 with a key of at most 64 bytes. -/
def hmac (key m : List Byte) : List Byte :=
  let k := key ++ zeros (64 - key.length)
  sha256 (k.map (· ^^^ 0x5c) ++ sha256 (k.map (· ^^^ 0x36) ++ m))

/-! ## P-256 -/

/-- The prime, the constant b, the order and the base point of the curve. -/
def p256P : Nat := 2 ^ 256 - 2 ^ 224 + 2 ^ 192 + 2 ^ 96 - 1
def p256B : Nat := 0x5ac635d8aa3a93e7b3ebbd55769886bc651d06b0cc53b0f63bce3c3e27d2604b
def p256N : Nat := 0xffffffff00000000ffffffffffffffffbce6faada7179e84f3b9cac2fc632551
def p256G : Nat × Nat :=
  (0x6b17d1f2e12c4247f8bce6e563a440f277037d812deb33a0f4a13945d898c296,
    0x4fe342e2fe1a7f9b8ee7eb4a7c0f9e162bce33576b315ececbb6406837bf51f5)

/-- X then Y, 32 bytes each, little-endian, is a point on P-256 (21 R438, R443). -/
def onCurve (k : Rec) : Bool :=
  let x := leAt k 0 32
  let y := leAt k 32 32
  decide (x < p256P) && decide (y < p256P) && decide ((y * y) % p256P = (x * x * x + (p256P - 3) * x + p256B) % p256P)

/-- b to the power e modulo m, over the lowest `n` bits of e. -/
def powMod (m : Nat) : Nat → Nat → Nat → Nat
  | 0, _, _ => 1 % m
  | n + 1, b, e => (if e % 2 = 1 then b else 1) * powMod m n (b * b % m) (e / 2) % m

/-- The inverse modulo a prime of at most 256 bits. -/
def invMod (m x : Nat) : Nat := powMod m 256 (x % m) (m - 2)

/-- The sum of two points; none is the point at infinity. -/
def ecAdd : Option (Nat × Nat) → Option (Nat × Nat) → Option (Nat × Nat)
  | none, q => q
  | p, none => p
  | some (x, y), some (u, v) =>
    if x = u ∧ (y + v) % p256P = 0 then none
    else
      let l := if x = u then (3 * x * x + (p256P - 3)) * invMod p256P (2 * y) % p256P
        else (v + (p256P - y)) * invMod p256P (u + (p256P - x)) % p256P
      let a := (l * l + (p256P - x) + (p256P - u)) % p256P
      some (a, (l * (x + (p256P - a)) + (p256P - y)) % p256P)

/-- A multiple of a point, over the lowest `n` bits of k. -/
def ecMul : Nat → Nat → Option (Nat × Nat) → Option (Nat × Nat)
  | 0, _, _ => none
  | n + 1, k, p => ecAdd (if k % 2 = 1 then p else none) (ecMul n (k / 2) (ecAdd p p))

/-- ECDSA P-256 over SHA-256: does (r, s) sign `m` under the public key (21 R438, R441, R444). -/
@[irreducible] def ecdsaOk (key m r s : List Byte) : Bool :=
  let rn := leAt r 0 32
  let sn := leAt s 0 32
  onCurve key && decide (0 < rn) && decide (rn < p256N) && decide (0 < sn) && decide (sn < p256N) &&
    (let w := invMod p256N sn
    match ecAdd (ecMul 256 (beNat (sha256 m) * w % p256N) (some p256G))
        (ecMul 256 (rn * w % p256N) (some (leAt key 0 32, leAt key 32 32))) with
      | some (x, _) => x % p256N == rn
      | none => false)

/-- r and s of a signature over a hash, by a private key with a per-signature value. -/
def ecdsaWith (d k e : Nat) : Nat × Nat :=
  let r := match ecMul 256 k (some p256G) with
    | some (x, _) => x % p256N
    | none => 0
  (r, invMod p256N k * (e + r * d) % p256N)

/-- The candidates of RFC 6979, at most `n` of them, until one signs. -/
def rfc6979 (d e : Nat) : Nat → List Byte → List Byte → Nat × Nat
  | 0, _, _ => (0, 0)
  | n + 1, key, v =>
    let v := hmac key v
    let k := beNat v
    let q := ecdsaWith d k e
    if 0 < k ∧ k < p256N ∧ q.1 ≠ 0 ∧ q.2 ≠ 0 then q
    else
      let key := hmac key (v ++ [0])
      rfc6979 d e n key (hmac key v)

/-- The signature of a message by a private key: SIG_R then SIG_S, little-endian (21 R438, R439). -/
@[irreducible] def ecdsaSign (d : Nat) (m : List Byte) : List Byte :=
  let e := beNat (sha256 m)
  let x := be 32 d ++ be 32 (e % p256N)
  let v := List.replicate 32 1
  let key := hmac (zeros 32) (v ++ [0] ++ x)
  let v := hmac key v
  let key := hmac key (v ++ [1] ++ x)
  let q := rfc6979 d e 256 key (hmac key v)
  le 32 q.1 ++ le 32 q.2

/-! ## The device's identity (21 R437) -/

/-- A private key of the range that P-256 allows. -/
def scalarOf (n : Nat) : Nat := 1 + n % (p256N - 1)

/-- X then Y of a private key's public key, little-endian. -/
def publicKey (d : Nat) : Rec := match ecMul 256 d (some p256G) with
  | some (x, y) => le 32 x ++ le 32 y
  | none => zeros 64

/-- The device's key pair. -/
def devicePrivate : Nat := scalarOf Config.deviceScalar
@[irreducible] def deviceKey : Rec := publicKey devicePrivate

/-- A DER element. -/
def der (tag : Byte) (body : List Byte) : List Byte :=
  let n := body.length
  tag :: ((if n < 128 then be 1 n else if n < 256 then [0x81] ++ be 1 n else [0x82] ++ be 2 n) ++ body)

def derSeq (l : List (List Byte)) : List Byte := der 0x30 l.flatten

/-- A DER INTEGER that is not negative. -/
def derInt (v : Nat) : List Byte := der 0x02 (be (v.log2 / 8 + 1) v |> fun b => if b.headD 0 < 0x80 then b else 0 :: b)

/-- A DER BIT STRING of whole bytes. -/
def derBits (b : List Byte) : List Byte := der 0x03 (0 :: b)

/-- The characters of an ASCII string. -/
def ascii (s : String) : List Byte := s.toList.map fun c => BitVec.ofNat 8 c.toNat

/-- SERIAL as 16 upper-case hexadecimal digits. -/
def serialText : List Byte := (List.range 16).map fun i =>
  let d := Config.serial.toNat / 16 ^ (15 - i) % 16
  BitVec.ofNat 8 (if d < 10 then 48 + d else 55 + d)

/-- ecdsa-with-SHA256. -/
def algSign : List Byte := derSeq [der 0x06 [0x2a, 0x86, 0x48, 0xce, 0x3d, 0x04, 0x03, 0x02]]

/-- A subjectPublicKeyInfo with the device's public key, uncompressed. -/
def devicePublicInfo : List Byte :=
  derSeq [derSeq [der 0x06 [0x2a, 0x86, 0x48, 0xce, 0x3d, 0x02, 0x01], der 0x06 [0x2a, 0x86, 0x48, 0xce, 0x3d, 0x03, 0x01, 0x07]],
    derBits ([4] ++ (deviceKey.take 32).reverse ++ (deviceKey.drop 32).reverse)]

/-- The subject: its other attributes, then serialNumber. -/
def certSubject : List Byte :=
  derSeq [(Config.certPart 2).take 160, der 0x31 (derSeq [der 0x06 [0x55, 0x04, 0x05], der 0x13 serialText])]

/-- What the CA signs: version 3, a serial number, the issuer, the validity to 99991231235959Z, the subject, its key and the
extensions. What R437 does not fix is free, of bounded length. -/
def certBody : List Byte :=
  derSeq [der 0xa0 (derInt 2), derInt (1 + Config.certNumber % 2 ^ 150), algSign, derSeq [(Config.certPart 0).take 160],
    derSeq [(Config.certPart 1).take 17, der 0x18 (ascii "99991231235959Z")], certSubject, devicePublicInfo,
    (Config.certPart 3).take 160]

/-- The device certificate, signed by the CA with a per-signature value that the CA chose. -/
@[irreducible] def certificate : List Byte :=
  let q := ecdsaWith (scalarOf Config.caScalar) (scalarOf Config.caNonce) (beNat (sha256 certBody))
  derSeq [certBody, algSign, derBits (derSeq [derInt q.1, derInt q.2])]

end Sys2Proof.Machine
end

