-- ==== Sys2Proof/Machine/State.lean ====
section
/-! DEFINITION. The state of the FJ7196 as plain data, one structure per unit of the spec, and the state after
power-on reset. A record that the host writes and reads whole is held as its bytes; its fields are read by the
accessors of Machine/Bytes.lean. Times are instants in tu on the one counter `State.now`. -/
namespace Sys2Proof.Machine

/-- Why the block stops. Every condition the spec describes ends in a next state, so no meaning of this model
answers this fault; it is the name a unit outside the block's range would stop under. Raised by nothing. Safe: a
stop claims nothing. -/
inductive Fault where
  | outOfRange
  deriving DecidableEq, Repr, Inhabited

/-- Why a command has no meaning. `notModelled` is answered by Machine/Dispatch.lean alone. Safe: the model stops
where the hardware goes on. -/
inductive Refusal where
  | notModelled (mnemonic : String)
  deriving DecidableEq, Repr, Inhabited

/-! ## Events, replies and the mailboxes (17) -/

/-- An event record (17 R380). -/
structure Event where
  code : W16
  source : W16
  tick : W32
  offset : W32
  payload : W32
  deriving DecidableEq, Repr, Inhabited

/-- The event queue and its overflow counters (17 R380, R381). `seq` is the sequence number of the next record
written; `lost` pairs an event code with its counter, saturating. -/
structure EventQueue where
  recs : List Event
  seq : W32
  lost : List (W16 × Nat)
  deriving DecidableEq, Repr, Inhabited

/-- A command taken and not yet answered (17 R368): its opcode, header and payload, the instant of its take, and
the place it waits for (`key`: a kennel store, an array, an NVMe operation), and the instant of its completion bound
where one is stated. `mute`: its reply is withheld, because the host link has been lost since its take (17 R357). -/
structure Parked where
  opcode : Nat
  hdr : Hdr
  payload : List Byte
  taken : Nat
  key : Nat
  bound : Option Nat
  mute : Bool
  deriving DecidableEq, Repr, Inhabited

/-- A command forwarded to another node (17 R377), the instant at which REMOTE_TIMEOUT passes, and whether its reply
is withheld. -/
structure Remote where
  opcode : Nat
  hdr : Hdr
  dueAt : Nat
  mute : Bool
  deriving DecidableEq, Repr, Inhabited

/-- The receive buffer a Cumaslink frame holds (18 R393): the port, whether of class RSP, and the number the
frame was received under on that port. -/
structure Hold where
  port : Nat
  rsp : Bool
  id : Nat
  deriving DecidableEq, Repr, Inhabited

/-- A command in the Cumaslink mailbox (17 R378) or waiting to enter it: a command entry, its origin, the REQ
buffer it holds, and the instant it became ready to enter or became visible. -/
structure ClWaiting where
  origin : Origin
  entry : List Byte
  hold : Option Hold
  seen : Nat
  deriving DecidableEq, Repr, Inhabited

/-- The ten counters of MAILBOX_COUNTERS (17 R382). -/
structure MbxCounters where
  pcieTaken : W32
  clTaken : W32
  busyNotReady : W32
  busyWait : W32
  busyPending : W32
  busyThermal : W32
  remoteSent : W32
  remoteTimeout : W32
  remoteLate : W32
  ringErrors : W32
  deriving DecidableEq, Repr, Inhabited

/-- The mailboxes, the BAR0 registers and the host link (17 R355 to R378). `visible` holds, per command made
visible and not taken, the instant of its doorbell (R369); `doorbell` that of the ring command being executed. -/
structure Mailbox where
  bar2 : Sparse Byte
  cmdProd : W16
  cmdCons : W16
  rplProd : W16
  rplCons : W16
  flagCpuFault : Bool
  flagRestarted : Bool
  flagReplyLost : Bool
  flagRconsInvalid : Bool
  flagDbInvalid : Bool
  busyCount : W32
  repliesLost : W32
  lostAtLink : Nat
  fwState : Nat
  maxWait : Nat
  remoteTimeout : Nat
  visible : List Nat
  doorbell : Option Nat
  parked : List Parked
  remotes : List Remote
  clBox : List ClWaiting
  clWait : List ClWaiting
  tokenCl : Bool
  ctr : MbxCounters
  linkUp : Bool
  busMaster : Bool
  memSpace : Bool
  d3hot : Bool
  ltrEnable : Bool
  deriving DecidableEq, Repr, Inhabited

/-! ## Tick and armature (02) -/

/-- What the device keeps of a listed tick source (02 R35): validity, the last reference instants, newest first,
how many of the last references lay in the window, how many in a row were missing or outside it, and the sum of SEQPLL's
offset over time at each of those instants (14 R305). -/
structure TickRef where
  valid : Bool
  refs : List Int
  inWindow : Nat
  misses : Nat
  sums : List Int
  deriving DecidableEq, Repr, Inhabited

/-- A slot of an armature record (02 R44). -/
structure Slot where
  dur : Nat
  type : Nat
  units : Nat
  pth : Nat
  deriving DecidableEq, Repr, Inhabited

/-- The tick timeline (02 R28 to R42). The tick began at instant `start` and lasts `len` tu. `reason` is the reason
the next TICK_SOURCE event carries. `inSlot` is the armature slot that plays, begun at `slotAt`, and `wasSlot` the one before it (02 R45);
`slot` is its index in the running tick, `dumpWas` the DUMP slots of the tick before. -/
structure TickUnit where
  tick : W32
  start : Nat
  eras : List (W32 × Nat × Nat)
  len : Nat
  prevLen : Nat
  dumpWas : List (Nat × Nat)
  open_ : Bool
  slot : Option Nat
  inSlot : Option Slot
  wasSlot : Option Slot
  slotAt : Nat
  pth : Nat
  syncUntil : Nat
  prio : Rec
  syncInKind : Byte
  syncOutCtl : Byte
  syncOutWidth : Nat
  syncInDelay : Nat
  refs : List TickRef
  active : Nat
  reason : Nat
  track : Nat
  lockRun : Nat
  phaseErr : Int
  stampLast : Option (W32 × Int × Int)
  stampAge : Nat
  renumberDue : Bool
  deriving DecidableEq, Repr, Inhabited

/-! ## Maquette, live configuration and commits (03, 04, 05) -/

/-- The maquette's content (04 R79): mode, armature buffer, layer descriptors, custom filter taps (set 8 first,
index 512 × (set − 8) + 8 × phase + tap), background, tag allotments, FETCH_CONFIG, COLOUR_CONFIG, primary matrix,
per-primary tables, cast selection. A listed filter tap is the difference from built-in set 1, a listed table entry
the difference modulo 2^32 from the identity, so that the reset contents list nothing. -/
structure Cfg where
  mode : Byte
  armature : Rec
  layers : List Rec
  filters : Sparse Int
  background : List Nat
  allot : List Nat
  fetchCfg : Rec
  colour : Rec
  matrix : List Int
  tables : List (Sparse W32)
  activeCast : Nat
  fallbackCast : Nat
  deriving DecidableEq, Repr, Inhabited

/-- Bank records, channel records and level tables (08 R173, R174, R180). -/
structure SourceSet where
  banks : List Rec
  chans : List Rec
  levels : List (List Nat)
  deriving DecidableEq, Repr, Inhabited

/-- An accepted commit waiting for its boundary; `bindNo` numbers the binding it carries (04 R83, 08 R183). -/
structure Pending where
  no : W32
  cfg : Cfg
  bound : Option SourceSet
  bindNo : Nat
  deriving DecidableEq, Repr, Inhabited

/-- A layer buffer (04 R88): SOURCE and the plane addresses its FORMAT uses, 0 for the others. -/
structure Buffer where
  source : Nat
  addrY : Nat
  addrC : Nat
  addrCr : Nat
  addrA : Nat
  deriving DecidableEq, Repr, Inhabited

/-- A buffer that a composed frame has read and that is not yet retired (04 R89, R91). -/
structure BufUse where
  buf : Buffer
  layer : Nat
  lastTick : W32
  commitNo : W32
  deriving DecidableEq, Repr, Inhabited

/-- A retirement record (04 R91). -/
structure Retired where
  seq : W32
  use : BufUse
  deriving DecidableEq, Repr, Inhabited

/-- The fence reads of one layer in one frame (04 R94): the values, and how each read stands (0 not issued, 1 in
flight, 2 done, 3 failed); `endDue` that fetch of the layer has stopped; `startNo` and `endNo` the places of the two reads among
the requests of their class (03 R71); `addr` the address read. -/
structure Fence where
  layer : Nat
  tick : W32
  buf : Buffer
  startVal : W64
  endVal : W64
  startSt : Nat
  endSt : Nat
  endDue : Bool
  torn : Bool
  startNo : Nat
  endNo : Nat
  addr : Nat
  deriving DecidableEq, Repr, Inhabited

/-- Signature and freeze detector of one layer or the composite (04 R96, R97). `acc` is the running signature of
the frame being composed, `last` that of the last composed frame and `seen` that there is one, `skip` that the frame
underran. -/
structure Watch where
  acc : W32
  last : W32
  seen : Bool
  count : Nat
  frozen : Bool
  skip : Bool
  deriving DecidableEq, Repr, Inhabited

/-- The commit unit (04). `takenAt` is the take instant of the last COMMIT (R82). -/
structure CommitUnit where
  maq : Cfg
  live : Cfg
  liveNo : W32
  next : Option Pending
  later : Option Pending
  commitNext : W32
  accepted : W32
  lateCount : W32
  replaced : W32
  refused : W32
  uses : List BufUse
  log : List Retired
  retSeq : W32
  matchLine : Nat
  eventEn : Nat
  composeWait : Option (Nat × Nat)
  sigPitch : Nat
  compositeN : Nat
  freezeWait : Option (Nat × Nat)
  fences : List Fence
  fenceLast : List (W64 × W64)
  fenceTick : W32
  watch : List Watch
  frameTick : W32
  takenAt : Option Nat
  deriving DecidableEq, Repr, Inhabited

/-! ## Layer fetch (03) and colour (05) -/

/-- One plane row in the line buffers: its bytes as they land (03 R56, R66). `need` is its length and `addr` where it is read
from (R58). -/
structure LineRow where
  layer : Nat
  plane : Nat
  row : Nat
  need : Nat
  data : Sparse Byte
  landed : Nat
  failed : Bool
  addr : Nat
  deriving DecidableEq, Repr, Inhabited

/-- The reads of one user (03 R71): those in flight, each with a tag of `cls`, and `left` not issued for want of a tag;
whether they go to host memory, the buffer a layer's row belongs to, the place a cast copy waits on, and the place of the request
among those of its class. -/
structure InFlight where
  user : ReadUser
  cls : Nat
  tags : Nat
  left : Nat
  host : Bool
  buf : Buffer
  key : Nat
  no : Nat
  deriving DecidableEq, Repr, Inhabited

/-- What fetch keeps of one layer in the frame being composed (03 R66, R75): the next luma and the next chroma row to
request, that fetch has stopped, that the layer is transparent from here on. -/
structure LayerRun where
  nextRow : Nat
  nextC : Nat
  stopped : Bool
  transparent : Bool
  deriving DecidableEq, Repr, Inhabited

/-- Layer fetch and the tag pool (03 R69, R71). `asked` counts the requests for tags of the LAYER and POINT classes. -/
structure FetchUnit where
  underruns : List W32
  held : List Nat
  inflight : List InFlight
  layerPeak : Nat
  runs : List LayerRun
  lines : List LineRow
  line : Nat
  ltDdr : Nat
  ltHost : Nat
  ltrLast : W32
  ltrAt : Nat
  selfRefresh : Bool
  srCount : W32
  done : Bool
  asked : Nat
  deriving DecidableEq, Repr, Inhabited

/-- Clip counts of a frame (05 R114). -/
structure ClipStats where
  tick : W32
  overs : List Nat
  unders : List Nat
  clip : Nat
  deriving DecidableEq, Repr, Inhabited

/-- A bit error in a copy of a table that is not live or in the staging mask set (05 R112, R118, R119): the copy, 0 pending for the next
boundary, 1 for the one after, 2 the maquette's, 3 the staging set, whether two bits are wrong, the table or phase, and the entry. -/
structure Mark where
  copy : Nat
  double : Bool
  table : Nat
  entry : Nat
  deriving DecidableEq, Repr, Inhabited

/-- The colour pipeline (05). A listed mask value is the difference modulo 2^16 from the built-in set. `badTable` and
`badMask` are the words of the live tables and the active mask with a double-bit error, `softTable` and `softMask`
those with a single-bit error not yet corrected (R112), `marks` the errors of the other copies. -/
structure ColourUnit where
  active : List (Sparse W16)
  staging : List (Sparse W16)
  maskWait : Option Nat
  stats : ClipStats
  run : ClipStats
  corrected : W32
  gamut : Bool
  badTable : List (Nat × Nat)
  badMask : List (Nat × Nat)
  softTable : List (Nat × Nat)
  softMask : List (Nat × Nat)
  marks : List Mark
  hitTable : Nat
  hitMask : Bool
  probePos : Nat × Nat
  probeNext : Option (Nat × Nat)
  probe : Rec
  probeRun : Rec
  scrub : Nat
  deriving DecidableEq, Repr, Inhabited

/-! ## Chisel and plane link (06, 07) -/

/-- What the armature sequencer plays on one array: the group of the PIC slot that plays, the place of the next entry
in it and its instant, the entry that is open, the cast chosen at the map point with the lanes of its map, the plane
loaded (its load began at `loadAt`) and the plane displayed as (primary, bit), none for all mirrors off; whether every RESET carries CLEAR (07 R166)
and whether the next one does (R167). -/
structure ArrayRun where
  group : Option Nat
  pos : Nat
  nextAt : Nat
  entry : Option Nat
  provisional : Option Nat
  mapLanes : BitVec 96
  loaded : Option (Nat × Nat)
  loadAt : Nat
  shown : Option (Nat × Nat)
  clear : Bool
  once : Bool
  deriving DecidableEq, Repr, Inhabited

structure ChiselUnit where
  slots : List (Sparse Byte)
  castLive : Bool
  inForce : Nat
  dark : Nat
  switch_ : Option Nat
  plinth : Bool
  plinthWait : Option Nat
  frontDepth : List Nat
  backDepth : List Nat
  frontTick : W32
  backTick : W32
  frontRows : List (List (List Nat))
  backRows : List (List (List Nat))
  changes : W32
  darkTick : Bool
  sequencing : Bool
  runs : List ArrayRun
  laneLost : Bool
  copies : List (Nat × Sparse Byte)
  deriving DecidableEq, Repr, Inhabited

/-- What the device has sent to an array (07 R147, R149, R150): a TICK block, a LANE_MAP, a RESET of one mirror block or of
all with the instant at which it is to execute where 07 R157 states one, a plane load with the frame it is cut from, an
ARRAY_CMD with the NULL that follows it. Its bits are those of Machine/Wire.lean. -/
inductive PlOut where
  | tick (no : W16)
  | laneMap (epoch : Nat) (mask : BitVec 96)
  | reset (block : Option Nat) (clear : Bool) (execAt : Option Nat) (seq : Nat)
  | load (seq rows cols ox oy : Nat) (plane : Option (Nat × Nat)) (frame : List (List (List Nat)))
  | command (cmd seq arg : Nat)
  deriving DecidableEq, Repr, Inhabited

/-- An array command sent and not yet acknowledged (07 R154, R170). -/
structure ArrayCmd where
  cmd : Nat
  arg : Nat
  seq : Nat
  sent : Nat
  deriving DecidableEq, Repr, Inhabited

/-- One array (07 R160 to R170). `wire` is the model's record of what has been sent to it, oldest first. -/
structure ArrayUnit where
  state : Nat
  reason : Nat
  since : Nat
  lock : BitVec 96
  deskew : BitVec 96
  record : Option Rec
  accepted : Bool
  bias : Nat
  biasNext : Option Nat
  temp : Option Int
  level : Nat
  hotRun : Nat
  clear : Bool
  sgnd : Bool
  epoch : Nat
  loadSeq : Nat
  loadsSent : Nat
  loadFails : W32
  sentTick : Nat
  resets : Nat
  opTu : Nat
  resetHist : List (Nat × Nat)
  acked : Nat
  cmds : List ArrayCmd
  cmdSeq : Nat
  lastMsg : Nat
  degraded : Bool
  identSerial : W64
  identFw : W64
  wire : List PlOut
  deriving DecidableEq, Repr, Inhabited

/-- One lane (07 R161, R165, R169). `ok`: locked and deskewed in training or restored, and not lost since; `attempt`: an attempt
to retrain it is under way; `lockedAt`: since when STATUS has shown it locked and deskewed in this attempt without a BIP error. -/
structure Lane where
  ok : Bool
  held : Bool
  ready : Bool
  trying : Option Nat
  lockedAt : Option Nat
  lossTimes : List Nat
  losses : W32
  bip : W32
  attempt : Bool
  deriving DecidableEq, Repr, Inhabited

/-- The plane link. `groupsAt` is the instant at which each group of 8 transmitters starts (15 R331). -/
structure PlaneLink where
  count : Nat
  ctl : Byte
  flight : List Nat
  arrays : List ArrayUnit
  lanes : List Lane
  badMsgs : W32
  groupsAt : List (Option Nat)
  deriving DecidableEq, Repr, Inhabited

/-! ## Sources and diagnostics (08, 09) -/

/-- A stretch of conduction at the pin of a sink, from `start` to `stop`, at a code; `test` tells a pulse of a cell (08 R185, R190; 09 R203). -/
structure Pulse where
  start : Nat
  stop : Nat
  code : Nat
  test : Bool
  deriving DecidableEq, Repr, Inhabited

/-- What one sink keeps (08 R185 to R195). `code` is the current code it conducts at now; `plan` the pulses that the armature, the
effect timer and the diagnostics have placed; `held` the instant since which a condition of R191 holds it off, `freeAt` the instant
at which the last one ended; `away` the stretch in which a cell holds it off (09 R206). Charges are in 100 pC, LIFE_CHARGE in nC with
its remainder in 100 pC. -/
structure Sink where
  code : Nat
  plan : List Pulse
  held : Option Nat
  freeAt : Nat
  away : Nat × Nat
  emit : Nat
  dump : Nat
  sinkCharge : Nat
  lastEmit : Nat
  lastDump : Nat
  prevEmit : Nat
  prevDump : Nat
  life : Nat
  lifeRem : Nat
  vpin : Option Nat
  lowRun : Nat
  okRun : Nat
  headLow : Bool
  onTime : Nat
  phase : Nat
  widen : Bool
  deriving DecidableEq, Repr, Inhabited

/-- The sources. `banksAt` is the instant at which bank B00 starts; the others follow 50 µs apart (15 R331). `bindNo` numbers the
bindings of WHEN 1 (08 R183). For each head `errHigh` tells that its error lay above BLANK_ERR at the end of the last command, `errAt` is
the instant at which it was last seen to have come back (11 R248), and `disarmed` tells that its monitor has been disarmed since its last sample (11 R254). -/
structure SourceUnit where
  staged : SourceSet
  live : SourceSet
  apply : Option SourceSet
  bound : Option SourceSet
  sinks : List Sink
  countTick : W32
  prevTick : W32
  diss : Nat
  dissTick : W32
  overRun : Nat
  underRun : Nat
  powerHigh : Bool
  effectM : Nat
  effectNext : Nat
  effectSet : List Nat
  vdrvLow : Bool
  banksAt : Option Nat
  errAt : List Nat
  errHigh : List Bool
  disarmed : List Bool
  bindNo : Nat
  deriving DecidableEq, Repr, Inhabited

/-- Diagnostic state of one channel (09 R200 to R212). `kind` 0 is no latched fault; `due` a pulse due at once,
not before tick `dueTick`; `judged` the neighbours that one test judged shorted. -/
structure DiagChan where
  quiet : Nat
  failed : Bool
  due : Bool
  dueTick : W32
  quietDue : Bool
  passed : Bool
  failTick : Bool
  failAny : Bool
  probeWait : Bool
  waited : Bool
  kind : Nat
  partner : Nat
  pending : Bool
  probeOk : Bool
  nbrOk : Bool
  judged : List Nat
  otOff : Bool
  otSince : Nat
  otTimes : List Nat
  deriving DecidableEq, Repr, Inhabited

/-- The diagnostics (09). `pos` is where the round goes on from, `nextPending` where the start-up tests do; `cellNext` the earliest opening of the next cell while the sequencer is
stopped (09 R208). -/
structure DiagUnit where
  cfg : Rec
  cfgWait : Option Rec
  chans : List DiagChan
  suspect : List Bool
  running : Bool
  pos : Nat
  shorts : Nat
  periodAt : Nat
  roundNow : Bool
  roundWait : Bool
  deferred : W32
  cell : Nat
  emitterUsed : Bool
  sliceUsed : Bool
  cellNext : Nat
  nextPending : Nat
  deferredEvents : List Event
  deriving DecidableEq, Repr, Inhabited

/-! ## Colour constancy (10) -/

/-- A light-sense input (10 R216 to R220, R237). -/
structure LightIn where
  range : Nat
  darkCode : List Int
  rejects : W32
  satTotal : W32
  rejRun : Nat
  satTick : Nat
  peak : Int
  quietTicks : Nat
  satTicks : Nat
  lowTicks : Nat
  changed : Bool
  fault : Option Nat
  deriving DecidableEq, Repr, Inhabited

/-- Statistics of one primary on one array (10 R222 to R231), in exact fractions. -/
structure Trace where
  light : Int
  charge : Nat
  saturated : Bool
  lAvg : Rat
  qAvg : Rat
  conf : Rat
  sigma : Rat
  eta0 : Rat
  weight : Rat
  drift : Bool
  deriving DecidableEq, Repr, Inhabited

/-- Emitter measurements of one channel (10 R226, R227). `ref` and `weight` are e_ref and w as captured, `home` the array and primary for
which they were captured. -/
structure Emitter where
  ref : Option Rat
  vals : List Rat
  fresh : Nat
  accepted : Nat
  discarded : Nat
  weight : Rat
  home : Option (Nat × Nat)
  deriving DecidableEq, Repr, Inhabited

structure Constancy where
  cfg : Rec
  cfgWait : Option Rec
  sense : Rec
  senseWait : Option Rec
  inputs : List LightIn
  traces : List Trace
  emitters : List Emitter
  s : List Nat
  s0 : List Nat
  target : List Nat
  rho : List Rat
  kap : List Rat
  inP : List Bool
  scaleWait : Option (List Nat)
  g : Rat
  limiting : Nat
  runTick : W32
  runAt : Nat
  limitState : Nat
  confLow : List Bool
  capture : Bool
  targets : Option Rec
  duv : Nat
  rrNext : Nat
  stateHeld : Bool
  deriving DecidableEq, Repr, Inhabited

/-! ## Beam heads (11) -/

/-- A queued segment (11 R243, R244): `next` is the index of the next point to fall due, `fixed` that its start was
stated. Of the points of a clip, the first `staged` have landed in the staging ring; `broken` tells that a read of the next ones
failed (19 R422). -/
structure Segment where
  no : W32
  start : Nat
  count : Nat
  period : Nat
  clip : Option (Nat × Nat)
  next : Nat
  fixed : Bool
  staged : Nat
  broken : Bool
  deriving DecidableEq, Repr, Inhabited

/-- The intensities of a head's delay line from instant `at_` on (11 R247): for each the instant since which it has not been 0. -/
structure PointLight where
  at_ : Nat
  ints : List Nat
  on : List Nat
  deriving DecidableEq, Repr, Inhabited

/-- A beam head (11). `tgtFrom` is the set-point of the point that plays, due at `dueAt`, its interval ending at `dueEnd`; `ahead`
the set-point of the next queued point where it has landed; `line` the intensities at the pins, newest first; `shown` those of the point
played last; `emptyAt` the
instant at which the queue became empty; `parkAt` the instant since which both axes have stayed at park. -/
structure Head where
  record : Rec
  state : Nat
  causes : Nat
  segs : List Segment
  producer : Nat
  appended : W64
  played : W64
  discarded : W64
  withheld : W32
  limited : W32
  stalls : W32
  marksLost : W32
  segNo : W32
  onDump : Bool
  stalled : Option Nat
  speed : Nat
  limitedNow : Bool
  ints : List Nat
  tgtFrom : Int × Int
  ahead : Option (Int × Int)
  dueAt : Nat
  dueEnd : Nat
  lastMark : Option Nat
  dwell : Option Nat
  history : List (Int × Int)
  sampAt : Nat
  line : List PointLight
  emptyAt : Nat
  parkAt : Option Nat
  shown : List Nat
  deriving DecidableEq, Repr, Inhabited

/-! ## Axes (12, 13) -/

/-- One axis: the engine of chapter 12 and the interfaces of chapter 13. Signals are in units of 2^−39 of full
scale, generator values exact fractions of full scale. -/
structure Axis where
  record : Rec
  bankA : Rec
  bankB : Rec
  validA : Bool
  validB : Bool
  active : Bool
  swapAt : Option Nat
  state : Nat
  iVal : Int
  v1 : Int
  v2 : Int
  w1 : Int
  w2 : Int
  r1 : Int
  r2 : Int
  e : Int
  w : Int
  u : Int
  y : Int
  held : Bool
  satCount : W32
  clampRun : Nat
  freeRun : Nat
  limited : Bool
  swaps : W32
  iHist : List Int
  vb : Nat
  vbHist : List Nat
  vbLow : Nat
  vbOk : Nat
  vbState : Bool
  sampTick : W32
  sampOfs : Nat
  sampAt : Option Nat
  limSide : Bool
  closeAt : Option (Nat × Option Int)
  openAt : Option Nat
  deriving DecidableEq, Repr, Inhabited

/-- The set-point, feedback and heel side of an axis (13). A setting or target that waits for the first sample after a command
stands with the instant of its take; `frzU` holds u at the samples of a run of one raw code, newest first; `startAt` is the instant
at which the output starts (15 R331); `errQ` is |T − r| at the last sample of an axis of a head (13 R280). -/
structure AxisIo where
  record : Rec
  ext : Rec
  det : Rec
  detWait : Option (Nat × Rec)
  lim : Rec
  limWait : Option (Nat × Rec)
  p : Rat
  v : Rat
  a : Rat
  target : Int
  newTarget : Option (Nat × Int)
  armed : Option (Nat × Int)
  moving : Bool
  pExt : Int
  stepAt : Option Nat
  median : List Int
  lastExt : Int
  raw : Int
  sumCode : Nat
  count : Int
  zCount : Int
  encA : Bool
  encB : Bool
  edgeSeen : Bool
  ssiErrors : W32
  rateClamped : W32
  stepsClamped : W32
  extSat : W32
  movesReplaced : W32
  frzCode : Int
  frzRun : Nat
  frzU : List Int
  sumRun : Nat
  satRun : Nat
  stallAt : Option Nat
  crcRun : Nat
  toRun : Nat
  badAt : Nat
  errQ : Nat
  causes : Nat
  dac : Int
  rampFrom : Int
  rampStep : Option Nat
  rampAt : Nat
  brake : Bool
  duties : List Nat
  ub : Int
  startAt : Option Nat
  deriving DecidableEq, Repr, Inhabited

/-- A trigger input (13 R293, R294). -/
structure Trigger where
  level : Bool
  active : Bool
  since : Nat
  count : W32
  extra : W32
  stuck : Bool
  lastTick : Option W32
  deriving DecidableEq, Repr, Inhabited

/-- Triggers, interlock and bridge (13 R293 to R296, 01 R17). `ilkLowAt` is when ILK_N last went low while the interlock is deasserted. -/
structure ShowIo where
  cfg : Rec
  trigs : List Trigger
  ilkOff : Bool
  ilkLowAt : Option Nat
  deassertions : W32
  bridgeLost : Bool
  bridgeHeel : Bool
  deriving DecidableEq, Repr, Inhabited

/-! ## Clocks (14), thermal management (15) -/

/-- A running frequency ramp (14 R304): the segments as (TARGET, TIME), the running one, and where and when it
began. -/
structure Ramp where
  segs : List (Int × Nat)
  loop : Bool
  seg : Nat
  from_ : Int
  at_ : Nat
  deriving DecidableEq, Repr, Inhabited

/-- One PLL (14 R300 to R311). `pull` is the difference to step out before it is
locked again, less its drift: while it coasts what it had been held at, negated; `cause` why it coasts (R316: 0 reference, 1 phase error), `frozenAt` since when. -/
structure Pll where
  offset : Int
  locked : Bool
  coast : Bool
  ramp : Option Ramp
  stepAt : Option Nat
  pull : Int
  cause : Nat
  frozenAt : Nat
  deriving DecidableEq, Repr, Inhabited

/-- The clocks (14). `sysSsc` and `lnkSsc` are the spread in effect, `nvRef` that the root port has enabled NV_REFCLK,
`ofsSum` the sum of SEQPLL's offset over time up to instant `ofsFrom`, `rcTrim` and `bgTrim` the trims applied,
`hkDistrust` that HKOSC counts as uncompensated (R314), `goal` what the genlock loop steps towards. -/
structure Clocks where
  cfg : Rec
  sysSsc : Nat
  lnkSsc : Nat
  nvRef : Bool
  ofsSum : Int
  ofsFrom : Nat
  rcTrim : Int
  bgTrim : Int
  plls : List Pll
  refValid : Bool
  refErr : Int
  hkCrystal : Bool
  hkComp : Bool
  hkDistrust : Bool
  hkErr : Int
  hkBad : Nat
  hkGood : Nat
  refLosses : W32
  lockLosses : W32
  freqEst : Int
  goal : Option Int
  comp : Option Rec
  compWait : Option Rec
  deriving DecidableEq, Repr, Inhabited

/-- One thermal zone (15 R317 to R323). `base` is the effective temperature last formed from a reading or an estimate. -/
structure Zone where
  reading : Int
  effective : Int
  estimate : Option Int
  base : Int
  suspect : Bool
  devRun : Nat
  okRun : Nat
  warn : Bool
  hotRun : Nat
  power : Nat
  deriving DecidableEq, Repr, Inhabited

structure Thermal where
  zones : List Zone
  state : Nat
  c : Nat
  lastStep : Option Nat
  lastStepTick : W32
  floorAt : Option Nat
  restartStep : Option (Nat × Nat)
  trips : W32
  tripTimes : List Nat
  tripMask : Nat
  tripAt : Nat
  firstTripAt : Nat
  cTrip : Nat
  coolSince : Option Nat
  released : Bool
  lostWrite : Option (Nat × Nat)
  model : Option Rec
  modelWait : Option Rec
  deriving DecidableEq, Repr, Inhabited

/-! ## Calibration and the kennel (16), patina (21) -/

/-- One unit of a calibration task (16 R334 to R341). `got` counts the cells received in the run. -/
structure CalUnit where
  task : Nat
  index : Nat
  due : Option Nat
  lastRun : Nat
  defer : Nat
  got : Nat
  samples : List (List Int)
  rejects : Nat
  suspended : Bool
  values : List Int
  hasValues : Bool
  waiting : Option (List Int)
  deriving DecidableEq, Repr, Inhabited

structure Calib where
  cfg : Rec
  cfgWait : Option Rec
  units : List CalUnit
  accepted : W32
  rejected : W32
  slices : W32
  passes : W32
  storeEmpty : Bool
  deriving DecidableEq, Repr, Inhabited

/-- Patina of one channel (21 R446 to R449): operating time in tu of ticks and hour counter, baseline, E values, the captures made before
the baseline and recorded points (k, H in 1/16 h, E_REL). -/
structure PatinaChan where
  hoursTu : Nat
  baseline : Bool
  firstVals : List Rat
  captures : Nat
  points : List (Nat × Nat × Rat)
  alerted : Nat
  deriving DecidableEq, Repr, Inhabited

structure PatinaAxis where
  posSum : Int
  posCount : Nat
  negSum : Int
  negCount : Nat
  pos : Option Int
  neg : Option Int
  f : Option Int
  fInit : Option Int
  alerted : Bool
  deriving DecidableEq, Repr, Inhabited

/-- Patina (21 R446 to R451). `captures` holds, for each TARGET_CAPTURE, σ of the eight primaries of each light input (R448). -/
structure Patina where
  cfg : Rec
  chans : List PatinaChan
  captures : List (List Rat)
  bankTu : List (List Nat)
  axes : List PatinaAxis
  arrayAlert : List Bool
  deriving DecidableEq, Repr, Inhabited

/-- The settings that the sections of a kennel store carry (16 R345). -/
structure StoreCfg where
  src : SourceSet
  axisRecs : List (Rec × Rec × Rec × Bool × Bool × Bool)
  ioRecs : List (Rec × Rec × Rec × Rec)
  heads : List Rec
  clockCfg : Rec
  plCfg : Nat × Byte × List Nat
  tickSrc : Rec × Byte × Byte × Nat × Nat
  diagCfg : Rec
  trigCfg : Rec
  senseCfg : Rec
  constCfg : Rec
  calCfg : Rec
  periods : Nat × Nat
  clCfg : Rec
  epb : List (Rec × Rec)
  deriving DecidableEq, Repr, Inhabited

structure StoreCal where
  comp : Option Rec
  model : Option Rec
  s : List Nat
  s0 : List Nat
  traces : List (Rat × Rat × Rat)
  emitters : List (Option Rat × Rat × Option (Nat × Nat))
  values : List (List Int × Bool)
  deriving DecidableEq, Repr, Inhabited

/-- What the identity store carries (21 R447, R452): LIFE_CHARGE, patina, the operating time and reset history of each array, the ages
in tu of each kennel slot's writes. -/
structure StoreIdent where
  life : List (Nat × Nat)
  patina : Patina
  arrays : List (Nat × List (Nat × Nat))
  ages : List (List Int)
  deriving DecidableEq, Repr, Inhabited

inductive Content where
  | none
  | config (c : StoreCfg)
  | calib (c : StoreCal)
  | ident (c : StoreIdent)
  deriving DecidableEq, Repr, Inhabited

/-- One kennel slot (16 R344, R346). `state` 0 EMPTY, 1 VALID, 2 BAD. `extra` holds the sections that the firmware does not know
(R345): ID, VERSION, data. -/
structure KSlot where
  state : Nat
  seq : W32
  writesA : Nat
  writesB : Nat
  tick : W32
  content : Content
  extra : List (Nat × Byte × Rec)
  deriving DecidableEq, Repr, Inhabited

/-- A kennel write under way or waiting (16 R347, R350). `erase` for KENNEL_ERASE. -/
structure KWrite where
  store : Nat
  slot : Nat
  commanded : Bool
  erase : Bool
  retried : Bool
  began : Nat
  tick : W32
  content : Content
  deriving DecidableEq, Repr, Inhabited

structure Kennel where
  slots : List KSlot
  carry : List (Nat × Nat)
  dirty : List Bool
  writing : Option KWrite
  queue : List KWrite
  lastWrite : List (Option Nat)
  period : List Nat
  writeTimes : List (List Int)
  deriving DecidableEq, Repr, Inhabited

/-! ## Cumaslink (18) -/

/-- What leaves a Cumaslink port: a frame with its bytes after the header, or a symbol (18 R387, R391). -/
inductive ClOut where
  | frame (type : Nat) (hdr : ClHdr) (flags : Nat) (payload : List Byte)
  | tick (no : W32) (hops depth : W16) (acc : W32) (badCrc : Bool)
  | time (ns : W64) (badCrc : Bool)
  | delayReq (seq : Byte)
  | delayRsp (seq : Byte)
  | credit (rsp : Bool) (freed : Byte)
  | portId (role flags : Nat) (addr : W16)
  deriving DecidableEq, Repr, Inhabited

/-- A frame waiting for a transmit port (18 R393, R395): `queue` 0 forwarded RSP, 1 local RSP, 2 forwarded REQ,
3 local REQ; `hold` is the receive buffer it holds. -/
structure ClFrame where
  queue : Nat
  out : ClOut
  hold : Option Hold
  deriving DecidableEq, Repr, Inhabited

/-- One port (18 R393 to R395, R407). Sent and freed counts are modulo 256: `sent` frames sent, `freed` the last
FREED received, `own` the buffers this end has freed, `ids` the PORT_IDs sent in this training. `wire` is the model's record of what
leaves the port, oldest first, each with the instant from which it may leave, in 1/64 ns. -/
structure ClPort where
  state : Nat
  reason : Nat
  since : Nat
  idRun : Nat
  sentReq : Byte
  sentRsp : Byte
  freedReq : Byte
  freedRsp : Byte
  ownReq : Byte
  ownRsp : Byte
  queue : List ClFrame
  token : Nat
  wire : List (Int × ClOut)
  ids : Nat
  tx : W32
  rx : W32
  deriving DecidableEq, Repr, Inhabited

/-- A census report recorded at the root (18 R402). -/
structure ClReport where
  index : W32
  paddr : W16
  pset : Bool
  serial : W64
  deriving DecidableEq, Repr, Inhabited

/-- Cumaslink (18). `timeNs` is TIME_NS, `timeOwn` with `timeHalf` the time this device counts itself, `tickNo` the number of the last
TICK received, `timeRx` the TIME that followed it, `enumHere` that the census has passed this node and its step 5 has not. -/
structure Cumaslink where
  cfg : Rec
  addr : Option W16
  addrPersistent : Bool
  denied : Bool
  index : W32
  routes : Sparse Nat
  holders : List (W16 × W64)
  ports : List ClPort
  discards : W32
  symErrors : W32
  bcastExecuted : W32
  enumNodes : W32
  depth : W16
  treeDepth : Nat
  depthDue : Option Nat
  cableUp : Nat
  exchanges : List Nat
  reqSeq : Byte
  timeNs : W64
  timeOwn : W64
  timeHalf : Bool
  tickNo : W32
  timeRx : Option (W32 × W64)
  timeSet : Option (Nat × W64 × Bool)
  tickRx : Option (W32 × Int)
  enumRunning : Bool
  enumAt : Nat
  enumHere : Bool
  enumFirst : W16
  reports : List ClReport
  kept : List W16
  tokenPort : Option Nat
  addressed : Nat
  deriving DecidableEq, Repr, Inhabited

/-! ## Content store (19), effect bus (20) -/

/-- A play state of a layer (19 R419). `startAt` counts the boundaries to the start, `sinceStart` those since. -/
structure Play where
  clip : Nat
  startAt : Nat
  sinceStart : Nat
  started : Bool
  first : Nat
  loop : Bool
  stage : Nat
  landed : List Nat
  bad : List Nat
  bytes : Nat
  deriving DecidableEq, Repr, Inhabited

/-- A cue list on a player (19 R423). `startAt` counts the boundaries to the start, `ticks` those since. -/
structure Player where
  clip : Nat
  entries : List (Nat × List Byte)
  next : Nat
  startAt : Nat
  late : Bool
  ticks : Nat
  started : Bool
  deriving DecidableEq, Repr, Inhabited

/-- What an NVMe operation serves (19 R411, R417): `command` the opcode and key of a parked command, `points` the queued segment of a
head and its first point read, `tidy` the records that mount frees. -/
inductive NvmeUse where
  | command (op key : Nat)
  | clipFrame (layer clip frame : Nat)
  | points (head no point : Nat)
  | tidy
  deriving DecidableEq, Repr, Inhabited

/-- One NVMe command of an operation (19 R410): Read or Write of a run of LBAs, a Write with the address in host memory of its data
where they come from there; Flush; Dataset Management (deallocate). -/
inductive DriveStep where
  | data (write : Bool) (lba lbas : Nat) (host : Option Nat)
  | flush
  | dealloc (lba lbas : Nat)
  deriving DecidableEq, Repr, Inhabited

/-- An operation on the drive: its NVMe commands not issued yet in `todo`, `tags` of them in flight, with `barrier` while the one in
flight is a Flush; `phase` 1 is the write of a record whose content has been read back; `status` of the first that failed. -/
structure NvmeOp where
  use : NvmeUse
  todo : List DriveStep
  tags : Nat
  barrier : Bool
  phase : Nat
  status : Nat
  deriving DecidableEq, Repr, Inhabited

/-- The content store (19 R410 to R424). `unit` is the most LBAs that one NVMe command moves, `slots` the commands that its queues
hold. -/
structure ContentStore where
  state : Nat
  reason : Nat
  blocks : Nat
  mountFreed : W32
  readErrors : W32
  poolAddr : Nat
  poolBytes : Nat
  readBudget : Nat
  table : List (Nat × Rec)
  superSeq : W32
  volumeId : W64
  plays : List (Option Play)
  playWait : List (Option Play)
  players : List (Option Player)
  ops : List NvmeOp
  unit : Nat
  slots : Nat
  rings : List Nat
  deriving DecidableEq, Repr, Inhabited

/-- One effect output (20 R426 to R435). Buffers hold four bytes per pixel. -/
structure EffectOut where
  record : Rec
  recWait : Option Rec
  pattern : Rec
  staging : Sparse Byte
  pending : Sparse Byte
  full : Bool
  output : Sparse Byte
  running : Bool
  startWait : Option Nat
  stopWait : Option Nat
  engineAt : Nat
  sentAt : Nat
  sending : Option Nat
  cutOff : Bool
  zeroSent : Bool
  frames : W32
  skipped : W32
  deriving DecidableEq, Repr, Inhabited

structure EffectBus where
  outs : List EffectOut
  silentSince : Nat
  deriving DecidableEq, Repr, Inhabited

/-! ## Security (21) and boot (22) -/

/-- An owner key slot in OTP (21 R443). -/
structure OwnerKey where
  enrolled : Bool
  revoked : Bool
  key : Rec
  deriving DecidableEq, Repr, Inhabited

/-- An open service session (21 R444, R445). -/
structure Session where
  no : W32
  cl : Bool
  slot : Nat
  scope : Nat
  endsAt : Nat
  deriving DecidableEq, Repr, Inhabited

structure Security where
  owners : List OwnerKey
  fwRevoked : Nat
  secMin : Nat
  nonce : Option (Rec × Nat)
  session : Option Session
  sessionNext : W32
  failures : Nat
  lockUntil : Option Nat
  halted : Bool
  deriving DecidableEq, Repr, Inhabited

/-- The flash and the boot record (22 R463, R464), and what the boot of the running image was. -/
structure Boot where
  porstLow : Bool
  flash : Sparse Byte
  slot : Option Nat
  trial : Bool
  fallback : Bool
  reverted : Bool
  empty : Nat
  restart : Nat
  cause : Nat
  startAt : Nat
  released : Nat
  deriving DecidableEq, Repr, Inhabited

/-- The whole state. `now` counts tu since power-on reset (00 R9, 12 R260). `free` is the model's own counter of
free values taken (Config.free). `pending` is the queue of commands waiting, first in, first out. -/
structure State where
  now : Nat
  free : Nat
  pending : List Instr
  evq : EventQueue
  mbx : Mailbox
  tk : TickUnit
  com : CommitUnit
  fetch : FetchUnit
  col : ColourUnit
  chi : ChiselUnit
  pl : PlaneLink
  src : SourceUnit
  diag : DiagUnit
  con : Constancy
  heads : List Head
  axes : List Axis
  ios : List AxisIo
  show_ : ShowIo
  ck : Clocks
  th : Thermal
  cal : Calib
  pat : Patina
  ken : Kennel
  cl : Cumaslink
  cs : ContentStore
  epb : EffectBus
  sec : Security
  boot : Boot
  deriving DecidableEq, Repr, Inhabited

/-! ## The state after power-on reset

The state while PORST_N is still low: every register at the value the spec gives, 0 where R466 says so, or a value
that a log entry names. -/

def EventQueue.reset : EventQueue := { recs := [], seq := 0, lost := [] }

def Mailbox.reset : Mailbox :=
  { bar2 := [], cmdProd := 0, cmdCons := 0, rplProd := 0, rplCons := 0, flagCpuFault := false,
    flagRestarted := false, flagReplyLost := false, flagRconsInvalid := false, flagDbInvalid := false,
    busyCount := 0, repliesLost := 0, lostAtLink := 0, fwState := 0, maxWait := 20, remoteTimeout := 50,
    visible := [], doorbell := none, parked := [], remotes := [], clBox := [], clWait := [], tokenCl := false,
    ctr := ⟨0, 0, 0, 0, 0, 0, 0, 0, 0, 0⟩, linkUp := true, busMaster := false, memSpace := false,
    d3hot := false, ltrEnable := false }

/-- The default armature (22 R467): one DUMP slot of 6,666,666 tu, PTH_SETTLE 0, in the 528-byte buffer. -/
def defaultArmature : Rec :=
  [0x49, 1, 0, 0] ++ le 4 6666666 ++ le 4 0 ++ zeros 4 ++ le 4 6666666 ++ [2, 0, 0, 0] ++ zeros 504

def Cfg.reset : Cfg :=
  { mode := 0x49, armature := defaultArmature, layers := List.replicate 8 (zeros 96), filters := [],
    background := [0, 0, 0], allot := [12288, 1024, 1024, 2048],
    fetchCfg := le 2 80 ++ le 2 60 ++ [3, 0, 0, 0],
    colour := le 2 1000 ++ le 2 100 ++ le 2 1000 ++ le 2 0xC000 ++ [3, 5] ++ le 2 0 ++ zeros 4,
    matrix := [2 ^ 32, 0, 0, 0, 2 ^ 32, 0, 0, 0, 2 ^ 32] ++ List.replicate 15 0,
    tables := List.replicate 8 [], activeCast := 0, fallbackCast := 0xFF }

def TickUnit.reset : TickUnit :=
  { tick := 0, start := 0, eras := [], len := 6666666, prevLen := 6666666, dumpWas := [], open_ := false, slot := none, inSlot := none,
    wasSlot := none, slotAt := 0, pth := 0, syncUntil := 0,
    prio := zeros 4, syncInKind := 0, syncOutCtl := 0, syncOutWidth := 0, syncInDelay := 0,
    refs := List.replicate 3 ⟨false, [], 0, 0, []⟩, active := 4, reason := 0, track := 0, lockRun := 0,
    phaseErr := 0, stampLast := none, stampAge := 0, renumberDue := false }

def CommitUnit.reset : CommitUnit :=
  { maq := Cfg.reset, live := Cfg.reset, liveNo := 0, next := none, later := none, commitNext := 1,
    accepted := 0, lateCount := 0, replaced := 0, refused := 0, uses := [], log := [], retSeq := 0,
    matchLine := 0, eventEn := 0, composeWait := none, sigPitch := 2, compositeN := 0, freezeWait := none,
    fences := [], fenceLast := List.replicate 8 (0, 0), fenceTick := 0,
    watch := List.replicate 9 ⟨crc32Init, 0, false, 0, false, false⟩, frameTick := 0,
    takenAt := none }

def FetchUnit.reset : FetchUnit :=
  { underruns := List.replicate 8 0, held := [0, 0, 0, 0], inflight := [], layerPeak := 0,
    runs := List.replicate 8 ⟨0, 0, false, false⟩, lines := [], line := 0, ltDdr := 0, ltHost := 0, ltrLast := 0xFFFFFFFF,
    ltrAt := 0, selfRefresh := false, srCount := 0, done := false, asked := 0 }

def ClipStats.reset : ClipStats :=
  { tick := 0, overs := List.replicate 8 0, unders := List.replicate 8 0, clip := 0 }

def ColourUnit.reset : ColourUnit :=
  { active := List.replicate 8 [], staging := List.replicate 8 [], maskWait := none, stats := ClipStats.reset,
    run := ClipStats.reset, corrected := 0, gamut := false, badTable := [], badMask := [], hitTable := 0,
    hitMask := false, probePos := (0, 0), probeNext := none, softTable := [], softMask := [], marks := [], probe := zeros 132, probeRun := zeros 132,
    scrub := 0 }

def ChiselUnit.reset : ChiselUnit :=
  { slots := List.replicate 16 [], castLive := false, inForce := 0xFF, dark := 0, switch_ := none,
    plinth := false, plinthWait := none, frontDepth := List.replicate 8 0, backDepth := List.replicate 8 0,
    frontTick := 0, backTick := 0, frontRows := [], backRows := [], changes := 0, darkTick := false,
    sequencing := false, runs := List.replicate 4 ⟨none, 0, 0, none, none, 0, none, 0, none, false, false⟩, laneLost := false,
    copies := [] }

def ArrayUnit.reset : ArrayUnit :=
  { state := 0, reason := 0, since := 0, lock := 0, deskew := 0, record := none, accepted := false, bias := 0, biasNext := none,
    temp := none, level := 0, hotRun := 0, clear := false, sgnd := false, epoch := 0, loadSeq := 0,
    loadsSent := 0, loadFails := 0, sentTick := 0, resets := 0, opTu := 0, resetHist := [], acked := 0,
    cmds := [], cmdSeq := 0,
    lastMsg := 0, degraded := false, identSerial := 0, identFw := 0, wire := [] }

def PlaneLink.reset : PlaneLink :=
  { count := 1, ctl := 3, flight := [0, 0, 0, 0], arrays := List.replicate 4 ArrayUnit.reset,
    lanes := List.replicate 96 ⟨false, false, false, none, none, [], 0, 0, false⟩, badMsgs := 0,
    groupsAt := List.replicate 12 none }

/-- 08 R175: booster range, SCALE 0, BOOST_GAIN 16; channels disabled, HERD the index within the bank. -/
def SourceSet.reset : SourceSet :=
  { banks := List.replicate 24 ([1, 0] ++ le 2 16 ++ zeros 4),
    chans := (List.range 192).map fun c => [0, 0, 0, BitVec.ofNat 8 (c % 8), 0, 0, 0, 0],
    levels := List.replicate 192 (List.replicate 16 0) }

def Sink.reset : Sink :=
  { code := 0, emit := 0, dump := 0, sinkCharge := 0, lastEmit := 0, lastDump := 0, prevEmit := 0, prevDump := 0,
    life := 0, lifeRem := 0, vpin := none, lowRun := 0, okRun := 0, headLow := false, onTime := 0, phase := 0,
    widen := false, plan := [], held := none, freeAt := 0, away := (0, 0) }

def SourceUnit.reset : SourceUnit :=
  { staged := SourceSet.reset, live := SourceSet.reset, apply := none, bound := none,
    sinks := List.replicate 192 Sink.reset, countTick := 0, prevTick := 0, diss := 0, dissTick := 0, overRun := 0,
    underRun := 0, powerHigh := false, effectM := 0, effectNext := 0, effectSet := [], vdrvLow := false, banksAt := none,
    errAt := [0, 0, 0, 0], errHigh := [false, false, false, false], disarmed := [true, true, true, true], bindNo := 0 }

def DiagChan.reset : DiagChan :=
  { quiet := 0, failed := false, due := false, dueTick := 0, quietDue := false, passed := false, failTick := false, failAny := false, probeWait := false,
    waited := false,
    kind := 0, partner := 0xFF, pending := false, probeOk := false, nbrOk := false, judged := [], otOff := false,
    otSince := 0, otTimes := [] }

def DiagUnit.reset : DiagUnit :=
  { cfg := le 2 4096 ++ le 2 600 ++ [3, 0, 0, 0], cfgWait := none, chans := List.replicate 192 DiagChan.reset,
    suspect := List.replicate 24 false, running := false, pos := 0, shorts := 0, periodAt := 0, roundNow := false, roundWait := false,
    deferred := 0, cell := 0, emitterUsed := false, sliceUsed := false, cellNext := 0, nextPending := 0,
    deferredEvents := [] }

def LightIn.reset : LightIn :=
  { range := 0, darkCode := [0, 0, 0, 0], rejects := 0, satTotal := 0, rejRun := 0, satTick := 0, peak := 0,
    quietTicks := 0, satTicks := 0, lowTicks := 0, changed := false, fault := none }

def Trace.reset : Trace :=
  { light := 0, charge := 0, saturated := false, lAvg := 0, qAvg := 0, conf := 0, sigma := 1, eta0 := 0, weight := 0,
    drift := false }

/-- The defaults of CONSTANCY_CONFIG (10 R236). -/
def Constancy.defaultCfg : Rec :=
  [0, 0] ++ le 2 40 ++ le 2 50 ++ le 2 100 ++ le 2 100 ++ le 2 256 ++ le 4 10000 ++ le 2 3277 ++ le 2 24576 ++
    le 2 4096 ++ le 2 64

def Constancy.reset : Constancy :=
  { cfg := Constancy.defaultCfg, cfgWait := none,
    sense := (List.replicate 8 [0, 4, 0, 0]).flatten, senseWait := none,
    inputs := List.replicate 8 LightIn.reset, traces := List.replicate 32 Trace.reset,
    emitters := List.replicate 192 ⟨none, [], 0, 0, 0, 0, none⟩, s := List.replicate 8 32768,
    s0 := List.replicate 8 32768, target := List.replicate 8 32768, rho := List.replicate 8 0,
    kap := List.replicate 8 0, inP := List.replicate 8 false, scaleWait := none, g := 1,
    limiting := 0xFF, runTick := 0, runAt := 0, limitState := 0, confLow := List.replicate 8 true,
    capture := false, targets := none, duv := 0xFFFF, rrNext := 0, stateHeld := true }

/-- HEAD_CONFIG after reset (11 R240, 22 R466): MONITOR_EN 1, every other field 0. -/
def Head.defaultRecord (n : Nat) : Rec := [BitVec.ofNat 8 n, 4] ++ zeros 50

def Head.reset (n : Nat) : Head :=
  { record := Head.defaultRecord n, state := 0, causes := 0, segs := [], producer := 0, appended := 0, played := 0,
    discarded := 0, withheld := 0, limited := 0, stalls := 0, marksLost := 0, segNo := 0, onDump := false,
    stalled := none, speed := 0, limitedNow := false, ints := List.replicate 8 0, tgtFrom := (0, 0),
    ahead := none, dueAt := 0, dueEnd := 0, lastMark := none, dwell := none, history := [], sampAt := 0, line := [], shown := List.replicate 8 0, emptyAt := 0,
    parkAt := none }

/-- The axis record after reset (12 R267): SAMPLE_TU 2,000 or 20,000, PHASE 125 × AXIS, VBUS_NOM 24,000. -/
def Axis.defaultRecord (n : Nat) : Rec :=
  [BitVec.ofNat 8 n, 0, 0, 0] ++ le 4 (if n < 8 then 2000 else 20000) ++ le 4 (125 * n) ++ le 2 24000 ++ zeros 2

def Axis.reset (n : Nat) : Axis :=
  { record := Axis.defaultRecord n, bankA := zeros 104, bankB := zeros 104, validA := false, validB := false,
    active := false, swapAt := none, state := 0, iVal := 0, v1 := 0, v2 := 0, w1 := 0, w2 := 0, r1 := 0, r2 := 0,
    e := 0, w := 0, u := 0, y := 0, held := false, satCount := 0, clampRun := 0, freeRun := 0, limited := false,
    swaps := 0, iHist := [], vb := 0, vbHist := [], vbLow := 0, vbOk := 0, vbState := false,
    sampTick := 0, sampOfs := 0, sampAt := none, limSide := false, closeAt := none, openAt := none }

/-- The axis interface record after reset (13 R287). -/
def AxisIo.defaultRecord (n : Nat) : Rec :=
  [BitVec.ofNat 8 n, if n < 8 then 0 else 1, if n < 8 then 0 else 1, 0] ++ le 4 (2 ^ 24) ++ zeros 13 ++
    [16, 0, 25] ++ le 2 20000 ++ le 2 40 ++ [1, 0] ++ zeros 2 ++ zeros 4 ++ le 2 2560 ++ zeros 2 ++
    le 2 0x8000 ++ le 2 0x7FFF ++ zeros 4

def AxisIo.reset (n : Nat) : AxisIo :=
  { record := AxisIo.defaultRecord n,
    ext := [BitVec.ofNat 8 n, 0] ++ le 2 40 ++ zeros 12 ++ le 4 80 ++ zeros 12,
    det := [BitVec.ofNat 8 n, 0x7F] ++ le 2 328 ++ le 2 6554 ++ le 2 62259 ++ zeros 8 ++ le 2 100 ++ le 2 20 ++
      zeros 12,
    detWait := none, lim := BitVec.ofNat 8 n :: zeros 31, limWait := none, p := 0, v := 0, a := 0, target := 0,
    newTarget := none, armed := none, moving := false, pExt := 0, stepAt := none, median := [], lastExt := 0, raw := 0,
    sumCode := 0, count := 0, zCount := 0, encA := false, encB := false, edgeSeen := false, ssiErrors := 0,
    rateClamped := 0, stepsClamped := 0, extSat := 0, movesReplaced := 0, frzCode := 0, frzRun := 0, frzU := [],
    sumRun := 0, satRun := 0, stallAt := none, crcRun := 0, toRun := 0, badAt := 0, errQ := 0, causes := 0, dac := 0,
    rampFrom := 0, rampStep := none, rampAt := 0, brake := false, duties := [], ub := 0, startAt := none }

def ShowIo.reset : ShowIo :=
  { cfg := (List.replicate 8 ([0, 0] ++ le 2 400)).flatten ++ zeros 4,
    trigs := List.replicate 8 ⟨false, false, 0, 0, 0, false, none⟩, ilkOff := true, ilkLowAt := none,
    deassertions := 0,
    bridgeLost := false, bridgeHeel := false }

def Clocks.reset : Clocks :=
  { cfg := [0, 0] ++ le 2 3150 ++ le 2 64 ++ [1, 0], sysSsc := 0, lnkSsc := 0, nvRef := false, ofsSum := 0, ofsFrom := 0,
    rcTrim := 0, bgTrim := 0,
    plls := List.replicate 4 ⟨0, false, false, none, none, 0, 0, 0⟩, refValid := false, refErr := 0, hkCrystal := false,
    hkComp := false, hkDistrust := false, hkErr := 0, hkBad := 0, hkGood := 0, refLosses := 0, lockLosses := 0, freqEst := 0,
    goal := none, comp := none, compWait := none }

def Thermal.reset : Thermal :=
  { zones := List.replicate 16 ⟨0, 0, none, 0, false, 0, 0, false, 0, 0⟩, state := 0, c := 16, lastStep := none,
    lastStepTick := 0, floorAt := none, restartStep := none, trips := 0, tripTimes := [], tripMask := 0, tripAt := 0,
    firstTripAt := 0, cTrip := 16, coolSince := none, released := false, lostWrite := none, model := none,
    modelWait := none }

def CalUnit.reset (task index : Nat) : CalUnit :=
  { task := task, index := index, due := none, lastRun := 0, defer := 0, got := 0, samples := [], rejects := 0,
    suspended := false, values := [], hasValues := false, waiting := none }

/-- The 48 units of the tasks that run on units (16 R334): 8 inputs, 24 banks, 16 axes. -/
def Calib.reset : Calib :=
  { cfg := [0xF, 0] ++ le 2 60 ++ le 2 60 ++ le 2 10, cfgWait := none,
    units := (List.range 8).map (CalUnit.reset 0) ++ (List.range 24).map (CalUnit.reset 1) ++
      (List.range 16).map (CalUnit.reset 3),
    accepted := 0, rejected := 0, slices := 0, passes := 0, storeEmpty := false }

def Patina.reset : Patina :=
  { cfg := le 2 52429 ++ le 2 512 ++ le 4 1000 ++ [90, 0, 0, 0],
    chans := List.replicate 192 ⟨0, false, [], 0, [], 0⟩, captures := [], bankTu := List.replicate 24 [0, 0, 0, 0, 0],
    axes := List.replicate 16 ⟨0, 0, 0, 0, none, none, none, none, false⟩,
    arrayAlert := [false, false, false, false] }

def Kennel.reset : Kennel :=
  { slots := List.replicate 6 ⟨0, 0, 0, 0, 0, .none, []⟩, carry := [(0, 0), (0, 0), (0, 0)],
    dirty := [false, false, false], writing := none, queue := [], lastWrite := [none, none, none],
    period := [0, 600, 600], writeTimes := List.replicate 6 [] }

def ClPort.reset : ClPort :=
  { state := 0, reason := 0, since := 0, idRun := 0, sentReq := 0, sentRsp := 0, freedReq := 0, freedRsp := 0,
    ownReq := 0, ownRsp := 0, queue := [], token := 0, wire := [], ids := 0, tx := 0, rx := 0 }

def Cumaslink.reset : Cumaslink :=
  { cfg := [0x0C, 0] ++ le 2 0 ++ le 2 0xFFFF ++ le 2 60 ++ zeros 8, addr := none, addrPersistent := false, denied := false,
    index := 0, routes := [], holders := [], ports := List.replicate 3 ClPort.reset, discards := 0, symErrors := 0,
    bcastExecuted := 0, enumNodes := 0, depth := 0xFFFF, treeDepth := 0, depthDue := none, cableUp := 0,
    exchanges := [], reqSeq := 0, timeNs := 0, timeOwn := 0, timeHalf := false, tickNo := 0, timeRx := none, timeSet := none, tickRx := none, enumRunning := false,
    enumAt := 0, enumHere := false, enumFirst := 0, reports := [], kept := [], tokenPort := none,
    addressed := 0 }

def ContentStore.reset : ContentStore :=
  { state := 0, reason := 0, blocks := 0, mountFreed := 0, readErrors := 0, poolAddr := 0, poolBytes := 0,
    readBudget := 3000, table := [], superSeq := 0, volumeId := 0, plays := List.replicate 8 none,
    playWait := List.replicate 8 none, players := List.replicate 4 none, ops := [], unit := 64, slots := 16 * 1023,
    rings := List.replicate 4 0 }

/-- The output record after reset (20 R433): disabled, ILK_BLANK and FALLBACK_EN set, 4 channels, order G R B W. -/
def EffectOut.defaultRecord (n : Nat) : Rec :=
  [BitVec.ofNat 8 n, 6, 4, 0xE1] ++ le 2 1 ++ le 2 300 ++ le 2 10 ++ zeros 6

def EffectOut.reset (n : Nat) : EffectOut :=
  { record := EffectOut.defaultRecord n, recWait := none, pattern := BitVec.ofNat 8 n :: zeros 23, staging := [],
    pending := [], full := false, output := [], running := false, startWait := none, stopWait := none, engineAt := 0,
    sentAt := 0, sending := none, cutOff := false, zeroSent := false, frames := 0, skipped := 0 }

def Security.reset : Security :=
  { owners := List.replicate 4 ⟨false, false, zeros 64⟩, fwRevoked := 0, secMin := 0, nonce := none, session := none,
    sessionNext := 1, failures := 0, lockUntil := none, halted := false }

def Boot.reset : Boot :=
  { porstLow := true, flash := [], slot := none, trial := false, fallback := false,
    reverted := false, empty := 0, restart := 0, cause := 0, startAt := 0, released := 0 }

/-- The machine right after power-on reset, PORST_N still low (22 R456, R466, R467). -/
def State.reset : State :=
  { now := 0, free := 0, pending := [], evq := EventQueue.reset, mbx := Mailbox.reset, tk := TickUnit.reset,
    com := CommitUnit.reset, fetch := FetchUnit.reset, col := ColourUnit.reset, chi := ChiselUnit.reset,
    pl := PlaneLink.reset, src := SourceUnit.reset, diag := DiagUnit.reset, con := Constancy.reset,
    heads := (List.range 4).map Head.reset, axes := (List.range 16).map Axis.reset,
    ios := (List.range 16).map AxisIo.reset, show_ := ShowIo.reset, ck := Clocks.reset, th := Thermal.reset,
    cal := Calib.reset, pat := Patina.reset, ken := Kennel.reset, cl := Cumaslink.reset, cs := ContentStore.reset,
    epb := EffectBus.mk ((List.range 4).map EffectOut.reset) 0, sec := Security.reset, boot := Boot.reset }

end Sys2Proof.Machine
end

