-- ==== Sys2Proof/Machine/Ops.lean ====
section
/-! DEFINITION. The operations every unit shares: time and offsets, free values, raising events, answering commands,
and the hardwired conditions that hold the sinks off. -/
namespace Sys2Proof.Machine

/-- What a command answers. -/
abbrev Out := Host.Outcome State Fault Refusal

/-! ## Time (00 R9, 02 R29) -/

/-- tu per µs, ms and s. -/
def tuUs : Nat := 400
def tuMs : Nat := 400000
def tuS : Nat := 400000000

/-- The offset within the running tick in tu; 0 before tick 0 opens (17 R380). -/
def State.offset (s : State) : Nat := if s.tk.open_ then s.now - s.tk.start else 0

/-- Time runs forward to instant `t`; an instant already past changes nothing. -/
def State.forward (s : State) (t : Nat) : State := { s with now := max s.now t }

/-- The next value of the free-value counter, and the state that has taken it. -/
def State.takeFree (s : State) : Nat × State := (s.free, { s with free := s.free + 1 })

/-- Unit `k` of a start sequence that began at an instant, the units `step` apart, has started (15 R331). -/
def startedBy (at0 : Option Nat) (step k now : Nat) : Bool := match at0 with
  | some t => decide (t + step * k ≤ now)
  | none => false

/-! ## Events (17 R380, R381) -/

/-- The overflow counter of a code rises by 1, saturating. -/
def bumpLost (code : W16) : List (W16 × Nat) → List (W16 × Nat)
  | [] => [(code, 1)]
  | (c, n) :: t =>
    if c = code then (c, min (n + 1) 0xFFFFFFFF) :: t
    else if code.toNat < c.toNat then (code, 1) :: (c, n) :: t
    else (c, n) :: bumpLost code t

/-- One event written to the queue, or counted while the queue holds 1,024 records. -/
def EventQueue.push (q : EventQueue) (e : Event) : EventQueue :=
  if q.recs.length < 1024 then { q with recs := q.recs ++ [e], seq := q.seq + 1 }
  else { q with lost := bumpLost e.code q.lost }

/-- An event record with a given dating. -/
def mkEvent (code src : Nat) (tick : W32) (ofs payload : Nat) : Event :=
  ⟨BitVec.ofNat 16 code, BitVec.ofNat 16 src, tick, BitVec.ofNat 32 ofs, BitVec.ofNat 32 payload⟩

/-- An event delivered now with a given dating. -/
def State.deliver (s : State) (e : Event) : State := { s with evq := s.evq.push e }

/-- An event raised now and dated now; before tick 0 opens it carries tick 0, offset 0 (17 R380). -/
def State.raise (s : State) (code src payload : Nat) : State :=
  s.deliver (mkEvent code src (if s.tk.open_ then s.tk.tick else 0) s.offset payload)

/-- An event dated to the boundary that opened the running tick. -/
def State.raiseB (s : State) (code src payload : Nat) : State := s.deliver (mkEvent code src s.tk.tick 0 payload)

/-- An event dated to an offset of the running tick. -/
def State.raiseOfs (s : State) (code src ofs payload : Nat) : State :=
  s.deliver (mkEvent code src s.tk.tick ofs payload)

/-- The dating of an instant in the running tick or in the one before it (17 R380). -/
def State.dateOf (s : State) (t : Nat) : W32 × Nat :=
  if s.tk.open_ = false then (0, 0)
  else if s.tk.start ≤ t then (s.tk.tick, t - s.tk.start)
  else (s.tk.tick - 1, t + s.tk.prevLen - s.tk.start)

/-- An event raised now and dated to an instant of the running tick or of the one before it. -/
def State.raiseAt (s : State) (t code src payload : Nat) : State :=
  s.deliver (mkEvent code src (s.dateOf t).1 (s.dateOf t).2 payload)

/-- Raise an event if a condition holds. -/
def State.raiseIf (s : State) (c : Bool) (code src payload : Nat) : State :=
  if c then s.raise code src payload else s

/-! ## The commands of the mailbox -/

/-- What a command's own rules answer: a reply with a completion code (17 R375) and payload, or a parked command that
waits on `key`. -/
inductive Ans where
  | reply (code : Nat) (payload : Rec)
  | park (key : Nat)
  deriving DecidableEq, Repr

/-- The completion codes (17 R375). -/
def cOk : Nat := 0x00
def cBusy : Nat := 0x01
def cBadOpcode : Nat := 0x02
def cBadParam : Nat := 0x03
def cState : Nat := 0x04
def cLocked : Nat := 0x05
def cLate : Nat := 0x06
def cNoSpace : Nat := 0x07
def cFault : Nat := 0x08
def cOverBudget : Nat := 0x09
def cBadAuth : Nat := 0x0A
def cTimeout : Nat := 0x0B

/-- What one mailbox command is: its opcode, whether a payload has the length its chapter lays down (17 R500), whether
it is of a parking kind (17 R368), and its effect once it is begun on this device. -/
structure Cmd where
  op : Nat
  len : Rec → Bool
  parks : Rec → Bool := fun _ => false
  run : Hdr → Rec → State → Ans × State

/-- Answer a code with no payload and change nothing. -/
def refuse (code : Nat) (s : State) : Ans × State := (.reply code [], s)

/-- Answer OK with no payload. -/
def ok (s : State) : Ans × State := (.reply cOk [], s)

/-- Answer OK with a payload. -/
def okWith (payload : Rec) (s : State) : Ans × State := (.reply cOk payload, s)

/-- A payload of fixed size. -/
def lenIs (n : Nat) (p : Rec) : Bool := p.length == n

/-- Whether a command comes from the Cumaslink mailbox (17 R378): the mailboxes of 21 R445. -/
def viaCl (h : Hdr) : Bool := match h.origin with
  | .pcie => false
  | _ => true

/-- A service session with the LOCKED commands open belongs to the mailbox of this command (21 R445). -/
def State.unlocked (s : State) (h : Hdr) : Bool := match s.sec.session with
  | none => false
  | some x => (x.cl == viaCl h) && bit x.scope 0

/-! ## What holds the sinks off -/

/-- A bridge loss holds until valid words resume and the host has taken the fast axes out of heel (01 R17, 17 R374). -/
def State.bridgeHolds (s : State) : Bool :=
  s.show_.bridgeHeel && (s.show_.bridgeLost || (s.axes.take 8).any fun a => a.state == 2)

/-- The conditions of 08 R191 that act on every channel: interlock deasserted (13 R295), bridge loss (01 R17), a thermal-trip restart
interval (15 R327). -/
def State.allOff (s : State) : Bool := s.show_.ilkOff || s.bridgeHolds || s.th.state != 0

/-- What holds every sink off over hardwired lines, whatever else the state holds: those conditions, and VDRV or PORST_N low
(24 R485). -/
def State.sinksHeld (s : State) : Bool := s.allOff || s.src.vdrvLow || s.boot.porstLow

end Sys2Proof.Machine
end

