-- ==== Sys2Proof/Machine/Operands.lean ====
section
/-! DEFINITION. Operand forms shared by the commands: mode codes and tick lengths (02 R28, R31 to R33), tick numbers
named in commands (02 R41), command entries (17 R360), and the checks on a payload's length (17 R500). -/
namespace Sys2Proof.Machine

/-! ## Modes (02 R28, R31, R32) -/

/-- Active width, active height and V_total of a size nibble (02 R31). -/
def geometry (mode : Nat) : Nat × Nat × Nat :=
  match mode / 16 with
  | 1 => (1920, 1080, 1125)
  | 2 => (2048, 1080, 1125)
  | 3 => (2560, 1600, 1650)
  | 4 => (3840, 2160, 2250)
  | 5 => (4096, 2160, 2250)
  | _ => (0, 0, 1)

def activeW (mode : Nat) : Nat := (geometry mode).1
def activeH (mode : Nat) : Nat := (geometry mode).2.1
def vTotal (mode : Nat) : Nat := (geometry mode).2.2

/-- The latch line is V_active − 4 (02 R31). -/
def latchLine (mode : Nat) : Nat := activeH mode - 4

/-- The cadence C of a rate nibble and the whole number C × P of tu (02 R28, R32). -/
def cadence (mode : Nat) : Nat × Nat :=
  match mode % 16 with
  | 0x0 => (3, 50050000)
  | 0x1 => (3, 50000000)
  | 0x2 => (1, 16000000)
  | 0x3 => (3, 40040000)
  | 0x4 => (3, 40000000)
  | 0x5 => (3, 25025000)
  | 0x6 => (3, 25000000)
  | 0x7 => (1, 8000000)
  | 0x8 => (3, 20020000)
  | 0x9 => (3, 20000000)
  | 0xA => (1, 4000000)
  | 0xB => (3, 10010000)
  | 0xC => (3, 10000000)
  | 0xD => (9, 25000000)
  | 0xE => (3, 5000000)
  | _ => (1, 1)

/-- An assigned size nibble with an assigned rate nibble, 0x4E and 0x5E excepted (02 R31, R32). -/
def modeOk (mode : Nat) : Bool :=
  decide (1 ≤ mode / 16 ∧ mode / 16 ≤ 5 ∧ mode % 16 ≤ 0xE ∧ mode ≠ 0x4E ∧ mode ≠ 0x5E)

/-- floor(P) (02 R28). -/
def baseTick (mode : Nat) : Nat := (cadence mode).2 / (cadence mode).1

/-- The tu of `m` ticks from cadence position `k` on: floor((k + m) × P) − floor(k × P). -/
def cadenceSpan (mode k m : Nat) : Nat :=
  let (c, n) := cadence mode
  (k + m) * n / c - k * n / c

/-- The length of the tick with number `t`: k = t mod C (02 R28). -/
def tickLen (mode : Nat) (t : W32) : Nat := cadenceSpan mode (t.toNat % (cadence mode).1) 1

/-- The tu of `m` ticks from tick number `t` on; k restarts at 0 at the wrap of the counter (02 R28). -/
def ticksSpan (mode t m : Nat) : Nat :=
  let c := (cadence mode).1
  let room := 2 ^ 32 - t
  if m ≤ room then cadenceSpan mode (t % c) m
  else cadenceSpan mode (t % c) room + cadenceSpan mode 0 (m - room)

/-- The offset at which compose line `l` of a tick of `len` tu begins (02 R33). -/
def lineOffset (mode len l : Nat) : Nat := l * len / vTotal mode

def State.liveMode (s : State) : Nat := s.com.live.mode.toNat

/-! ## Tick numbers in commands (02 R41) -/

/-- A named tick against the tick counter: (named − current) mod 2^32. -/
def State.tickDist (s : State) (named : Nat) : Nat := (BitVec.ofNat 32 named - s.tk.tick).toNat

/-- The mode in force from the next boundary, and from the one after it, as accepted commits stand. -/
def State.modeAhead (s : State) : Nat × Nat :=
  let m1 := match s.com.next with
    | some p => p.cfg.mode.toNat
    | none => s.liveMode
  let m2 := match s.com.later with
    | some p => p.cfg.mode.toNat
    | none => m1
  (m1, m2)

/-- The boundary that opened a tick already past: from the era it lies in, a run of ticks of one mode without a break (18 R408). -/
def State.startOf (s : State) (named : Nat) : Nat :=
  let age := fun (n : W32) => (s.tk.tick - n).toNat
  let back := age (BitVec.ofNat 32 named)
  match s.tk.eras.find? fun e => decide (back ≤ age e.1) with
  | some (no, start, mode) => start + ticksSpan mode no.toNat (age no - back)
  | none => match s.tk.eras.getLast? with
    | some (no, start, mode) => start - ticksSpan mode named (back - age no)
    | none => s.tk.start - ticksSpan s.liveMode named back

/-- The eras once tick `no` opens at instant `t`: a new one begins where the tick does not follow on from the last one. -/
def State.nextEras (s : State) (no : W32) (t : Nat) (renumbered : Bool) : List (W32 × Nat × Nat) :=
  let goesOn := match s.tk.eras with
    | (n, start, mode) :: _ => !renumbered && start + ticksSpan mode n.toNat (no - n).toNat == t
    | [] => false
  if goesOn then s.tk.eras else (no, t, s.liveMode) :: s.tk.eras

/-- The instant of the boundary that opens the tick `d` ticks ahead of the current one. -/
def State.boundaryAt (s : State) (d : Nat) : Nat :=
  let t := s.tk.tick.toNat
  let (m1, m2) := s.modeAhead
  if d = 0 then s.tk.start
  else
    let b := s.tk.start + s.tk.len
    let b := if 2 ≤ d then b + ticksSpan m1 ((t + 1) % 2 ^ 32) 1 else b
    if 3 ≤ d then b + ticksSpan m2 ((t + 2) % 2 ^ 32) (d - 2) else b

/-- The length of the tick `d` ticks ahead. -/
def State.lenAhead (s : State) (d : Nat) : Nat := s.boundaryAt (d + 1) - s.boundaryAt d

/-- The named tick is the current tick (0), a future tick (1) or a past tick (2). -/
def State.tickKind (s : State) (named : Nat) : Nat :=
  let d := s.tickDist named
  if d = 0 then 0 else if d < 2 ^ 31 then 1 else 2

/-! ## Command entries (17 R360) -/

/-- OPCODE, LENGTH, TAG, LOCAL and TARGET of a command entry, and its bytes after the header. -/
structure Entry where
  op : Nat
  length : Nat
  tag : W16
  isLocal : Bool
  target : W16
  body : Rec
  deriving DecidableEq, Repr

def parseEntry (r : Rec) : Entry :=
  { op := u16 r 0, length := u16 r 2, tag := BitVec.ofNat 16 (u16 r 4), isLocal := bit (byteAt r 6) 0,
    target := BitVec.ofNat 16 (u16 r 8), body := slice r 16 (min (u16 r 2) 240) }

/-- A command entry built from its fields. -/
def entryBytes (op : Nat) (h : Hdr) (p : Rec) : Rec :=
  le 2 op ++ le 2 p.length ++ le 2 h.tag.toNat ++ le 2 (b2n h.isLocal) ++ le 2 h.target.toNat ++ zeros 6 ++ p

/-! ## Payload lengths (17 R500) -/

/-- Fixed fields of `fixed` bytes, then as many bytes as the 16-bit field at `off` states. -/
def lenByField (fixed off : Nat) (p : Rec) : Bool := decide (fixed ≤ p.length) && p.length == fixed + u16 p off

/-- Fixed fields of `fixed` bytes, then `unit` bytes for each count stated in one byte at `off`. -/
def lenByCount8 (fixed off unit : Nat) (p : Rec) : Bool :=
  decide (fixed ≤ p.length) && p.length == fixed + unit * byteAt p off

/-- Fixed fields of `fixed` bytes, then `unit` bytes for each count stated in two bytes at `off`. -/
def lenByCount16 (fixed off unit : Nat) (p : Rec) : Bool :=
  decide (fixed ≤ p.length) && p.length == fixed + unit * u16 p off

/-- A field from `lo` to `hi`. -/
def inRange (lo hi v : Nat) : Bool := decide (lo ≤ v) && decide (v ≤ hi)

end Sys2Proof.Machine
end

