-- ==== Sys2Proof/Machine/Light.lean ====
section
/-! DEFINITION. Which sink conducts what at an instant (08 R185 to R191, 11 R246 to R248): the records of channels, banks and heads,
the slot that plays, the delay line of a head, the forced-off conditions; and what ends every command. -/
namespace Sys2Proof.Machine

/-! ## Channel and bank records (08 R173, R174) -/

def chRole (r : Rec) : Nat := bits (byteAt r 0) 1 0
def chPrimary (r : Rec) : Nat := bits (byteAt r 1) 2 0
def chArray (r : Rec) : Nat := bits (byteAt r 1) 5 4
def chHead (r : Rec) : Nat := bits (byteAt r 1) 1 0
def chPoint (r : Rec) : Nat := bits (byteAt r 1) 6 4
def chShare (r : Rec) : Bool := bit (byteAt r 2) 0
def chShareHead (r : Rec) : Nat := bits (byteAt r 2) 2 1
def chHerd (r : Rec) : Nat := 10 * byteAt r 3
def chTrim (r : Rec) : Nat := bits (u16 r 4) 11 0
def chDuty (r : Rec) : Nat := u16 r 6
def bkBooster (r : Rec) : Bool := byteAt r 0 == 1
def bkScale (r : Rec) : Nat := byteAt r 1
def bkGain (r : Rec) : Nat := u16 r 2
/-- BOOST_DELAY: how far ahead of the light of the external stage the pin acts; 0 in direct range (08 R174, R185). -/
def bkDelay (r : Rec) : Nat := if bkBooster r then u16 r 4 else 0

def channels : List Nat := List.range 192

/-- The live record of a channel and of its bank. -/
def State.chan (s : State) (c : Nat) : Rec := at_ s.src.live.chans c
def State.bankOf (s : State) (c : Nat) : Rec := at_ s.src.live.banks (c / 8)

/-- Change one sink. -/
def State.sink (s : State) (c : Nat) (f : Sink → Sink) : State :=
  { s with src := { s.src with sinks := upd s.src.sinks c f } }

/-- round(65,535 × num ÷ den) (08 R179). -/
def codeOf (num den : Nat) : Nat := (roundDiv (65535 * num) den).toNat

/-- The code of a beam channel, or of a shared channel in a BEAM slot, at a point intensity (08 R178). -/
def State.beamCode (s : State) (c int : Nat) : Nat := codeOf (bkScale (s.bankOf c) * chTrim (s.chan c) * int) (255 * 4095 * 4095)

/-! ## Head records and targets (11 R240, R241, R246; 13 R280) -/

def hdFormat (r : Rec) : Bool := bit (byteAt r 1) 0
def hdSwap (r : Rec) : Bool := bit (byteAt r 1) 1
def hdMonitor (r : Rec) : Bool := bit (byteAt r 1) 2
def hdParkTol (r : Rec) : Nat := u16 r 0x10
def hdBlankErr (r : Rec) : Nat := u16 r 0x12
def hdFloor (r : Rec) : Nat := u16 r 0x14
def hdDwell (r : Rec) : Nat := u16 r 0x16
def hdIntDelay (r : Rec) : Nat := u32 r 0x18
def hdParkIdle (r : Rec) : Nat := u32 r 0x1C
def hdPthBeam (r : Rec) : Nat := bits (byteAt r 0x20) 3 0
def hdPthMask (r : Rec) : Nat := bits (byteAt r 0x21) 3 0
def hdRing (r : Rec) : Nat := u32 r 0x2C
/-- Bytes of a point. -/
def hdPoint (r : Rec) : Nat := if hdFormat r then 20 else 12
/-- The channels of a head (11 R238): its beam channels and the shared channels that name it. -/
def beamOf (n : Nat) (r : Rec) : Bool := chRole r == 2 && chHead r == n
def sharedOf (n : Nat) (r : Rec) : Bool := chRole r == 1 && chShare r && chShareHead r == n
def State.headChans (s : State) (n : Nat) : List Nat := channels.filter fun c => beamOf n (s.chan c) || sharedOf n (s.chan c)

def q39Lo : Int := -(2 ^ 39)
def q39Hi : Int := 2 ^ 39 - 1
def clampQ (v : Int) : Int := clampI q39Lo q39Hi v

/-- A Q1.15 value in units of 2^−39. -/
def fromQ15 (v : Int) : Int := v * 2 ^ 24

/-- SOFT_LO and SOFT_HI of an axis (13 R287). -/
def ioSoftLo (r : Rec) : Int := fromQ15 (i16 r 0x28)
def ioSoftHi (r : Rec) : Int := fromQ15 (i16 r 0x2A)

/-- The park set-points of AX(2n) and AX(2n+1). -/
def hdPark (r : Rec) : Int × Int := (fromQ15 (i16 r 0x0C), fromQ15 (i16 r 0x0E))

def Segment.ends (g : Segment) : Nat := g.start + g.count * g.period
def Segment.left (g : Segment) : Nat := g.count - g.next
def Segment.due (g : Segment) : Nat := g.start + g.next * g.period

/-- Point i of a segment can be read: points of a clip once they are staged (19 R422). -/
def Segment.has (g : Segment) (i : Nat) : Bool := g.clip.isNone || decide (i < g.staged)

/-- The segment whose point falls due next. -/
def Head.front (h : Head) : Option Segment := h.segs.find? fun g => decide (0 < g.left)

/-- The line between two values at instant t of an interval. -/
def lerp (a b : Int) (t t0 t1 : Nat) : Int :=
  if t1 ≤ t0 ∨ t ≤ t0 then a else if t1 ≤ t then b else a + roundDiv ((b - a) * (t - t0 : Nat)) (t1 - t0)

/-- The target of a head in RUN at instant t: on the line between the points that fall due one after the other, and at the last
played one where no point that has landed follows (11 R246, R250). -/
def Head.target (h : Head) (t : Nat) : Int × Int := match h.ahead, h.front with
  | some q, some g => (lerp h.tgtFrom.1 q.1 t h.dueAt g.due, lerp h.tgtFrom.2 q.2 t h.dueAt g.due)
  | _, _ => h.tgtFrom

/-- The targets of a head's axes now, within the soft limits of each (13 R280). -/
def State.headTarget (s : State) (n : Nat) : Int × Int :=
  let h := at_ s.heads n
  let (x, y) := if h.state = 2 then h.target s.now else hdPark h.record
  let io := fun (a : Nat) => (at_ s.ios a).record
  (clampI (ioSoftLo (io (2 * n))) (ioSoftHi (io (2 * n))) x, clampI (ioSoftLo (io (2 * n + 1))) (ioSoftHi (io (2 * n + 1))) y)

/-- The tracking error in units of 2^−39 of full scale: the larger |T − r| of the two axes, each at its last sample (11 R246, 13 R280). -/
def State.trackErrQ (s : State) (n : Nat) : Nat := max (at_ s.ios (2 * n)).errQ (at_ s.ios (2 * n + 1)).errQ

/-- ERROR of HEAD_STATUS: units of 2^−16 of full scale, saturating (11 R257). -/
def State.trackErr (s : State) (n : Nat) : Nat := sat 16 (s.trackErrQ n / 2 ^ 23)

/-- The tracking error exceeds BLANK_ERR (11 R248). -/
def State.errBlanks (s : State) (n : Nat) : Bool :=
  let r := (at_ s.heads n).record
  hdBlankErr r != 0xFFFF && decide (hdBlankErr r * 2 ^ 23 < s.trackErrQ n)

/-! ## The light of a head (08 R186 to R188; 11 R247 to R249) -/

/-- A head's channels that may light in a slot: beam channels in PIC and BEAM slots and while the sequencer is stopped (22 R460),
shared channels in BEAM slots that name the head. -/
def lightsIn (n : Nat) (r : Rec) (slot : Option Slot) : Bool := match slot with
  | none => beamOf n r
  | some k => (beamOf n r && decide (k.type ≤ 1)) || (sharedOf n r && k.type == 1 && bit k.units n)

/-- The slot that plays, none while the sequencer is stopped. -/
def State.slotNow (s : State) : Option Slot := if s.chi.sequencing then s.tk.inSlot else none

/-- Whether a channel of a head may light now. -/
def State.mayLight (s : State) (n c : Nat) : Bool := lightsIn n (s.chan c) s.slotNow

/-- The head whose points a channel follows, and the intensity of the point that is its own. -/
def pointOf (r : Rec) : Option (Nat × Nat) :=
  if chRole r = 2 then some (chHead r, chPoint r) else if chRole r = 1 ∧ chShare r then some (chShareHead r, chPrimary r) else none

/-- Intensity `p` of a head at the pins at instant t, and the instant since which it has not been 0. -/
def Head.light (h : Head) (p t : Nat) : Nat × Nat :=
  match if h.state = 2 then h.line.find? fun e => decide (e.at_ ≤ t) else none with
  | some e => (e.ints.getD p 0, e.on.getD p 0)
  | none => (0, 0)

/-- The opening that a channel of a head stands in at instant t: the instant at which its intensity first became non-zero, or its head's
error came back within BLANK_ERR; after a forced-off condition has ended, its next opening, which may also be the start of a slot (08
R186, R191). -/
def State.opening (s : State) (k : Sink) (since errAt : Nat) : Option Nat :=
  let o := max since errAt
  if k.freeAt ≤ o then some o
  else if s.chi.sequencing ∧ k.freeAt ≤ s.tk.slotAt then some s.tk.slotAt else none

/-- The code that a channel takes from its head at instant t. It turns on its herd offset after its opening and after the start of the
first slot in which it may light, off at once where its points ask for it, and its herd offset after the end of the last slot in which
it may light, but at once where a DUMP or GUARD slot follows (02 R43, 08 R186 to R188, 11 R247; DEDUCED, assumption 119). -/
def State.headCode (s : State) (c : Nat) (k : Sink) (t : Nat) : Nat :=
  let r := s.chan c
  match pointOf r with
  | none => 0
  | some (n, p) =>
    let (int, since) := (at_ s.heads n).light p t
    let was := lightsIn n r s.tk.wasSlot
    let dark := match s.slotNow with
      | some q => decide (2 ≤ q.type)
      | none => false
    match s.opening k since (at_ s.src.errAt n) with
    | none => 0
    | some o =>
      if int = 0 ∨ s.errBlanks n ∨ t < o + chHerd r then 0
      else if s.mayLight n c then
        (if was ∨ s.chi.sequencing = false ∨ s.tk.slotAt + chHerd r ≤ t then s.beamCode c int else 0)
      else if was ∧ dark = false ∧ t < s.tk.slotAt + chHerd r then s.beamCode c int
      else 0

/-! ## Forced off (08 R191) -/

/-- Conditions of R191 that act on one channel or its bank: a latched fault or over-temperature, a bank not yet started (15 R331). -/
def State.chanDead (s : State) (c : Nat) : Bool :=
  let d := at_ s.diag.chans c
  d.kind != 0 || d.otOff || !startedBy s.src.banksAt (50 * tuUs) (c / 8) s.now

/-- A channel that may not open: one of those conditions, or PENDING, in which it conducts test pulses only (09 R208). -/
def State.chanOff (s : State) (c : Nat) : Bool := s.chanDead c || (at_ s.diag.chans c).pending

/-- The code at the pin of a channel at instant t. A stretch in which a cell holds it off stops everything (09 R206). -/
def State.pinCode (s : State) (c : Nat) (k : Sink) (t : Nat) : Nat :=
  if s.sinksHeld ∨ s.chanDead c ∨ (k.away.1 ≤ t ∧ t < k.away.2) then 0
  else match k.plan.find? fun p => decide (p.start ≤ t) && decide (t < p.stop) with
    | some p => if s.chanOff c ∧ p.test = false then 0 else p.code
    | none => if s.chanOff c then 0 else s.headCode c k t

/-- A pulse as a forced-off condition leaves it. A pulse that began while one held does not come back (08 R191), and one that runs as a
condition begins is cut; test pulses of a PENDING channel go on. -/
def Sink.cut (k : Sink) (off dead : Bool) (now : Nat) : List Pulse :=
  let l := match k.held with
    | some h => k.plan.filter fun (p : Pulse) => p.test || decide (p.start < h) || decide (now ≤ p.start)
    | none => k.plan
  l.map fun (p : Pulse) => if (off && !p.test) || dead then { p with stop := if p.start < now then min p.stop now else p.stop } else p

/-- A sink at the end of a command: its plan, whether it is held off, and the code at its pin now. -/
def State.settleSink (s : State) (c : Nat) (k : Sink) : Sink :=
  let dead := s.sinksHeld || s.chanDead c
  let off := dead || s.chanOff c
  let k := { k with
    plan := k.cut off dead s.now, freeAt := if !off && k.held.isSome then s.now else k.freeAt,
    held := if off then some (k.held.getD s.now) else none }
  { k with code := s.pinCode c k s.now }

/-- The scan-speed monitor of a head is armed (11 R254). -/
def State.monitorArmed (s : State) (n : Nat) : Bool :=
  let h := at_ s.heads n
  h.state == 2 && hdMonitor h.record && (s.headChans n).any fun c => (at_ s.src.sinks c).code != 0

/-! ## What ends every command -/

/-- The sources at the end of every command: what each sink conducts now, heads whose error lies above BLANK_ERR, monitors that are
disarmed. -/
def State.settleSources (s : State) : State :=
  let s := { s with src := { s.src with
    errAt := s.src.errAt.mapIdx fun n t => if s.src.errHigh.getD n false && !s.errBlanks n then s.now else t,
    errHigh := s.src.errHigh.mapIdx fun n _ => s.errBlanks n } }
  let s := { s with src := { s.src with sinks := s.src.sinks.mapIdx s.settleSink } }
  { s with src := { s.src with disarmed := s.src.disarmed.mapIdx fun n d => d || !s.monitorArmed n } }

/-- FAULT sees a bridge loss until it is over (01 R17). -/
def State.seeBridge (s : State) : State := { s with show_ := { s.show_ with bridgeHeel := s.bridgeHolds } }

/-- The hardwired gates at the end of every command: while one of them holds, no sink conducts (08 R191), and under one of
R191 the running tick does not qualify (10 R223). A bridge loss ends as FAULT sees it once every fast axis has left heel. -/
def State.settle (s : State) : State :=
  let s := s.seeBridge
  { s.settleSources with con := { s.con with stateHeld := s.con.stateHeld || s.allOff } }

/-- How every command ends. -/
def done (s : State) : Out := .next s.settle

/-! ## Placing pulses -/

/-- A pulse is placed on a sink; pulses that are over leave its plan, but for the last. -/
def Sink.place (k : Sink) (now : Nat) (p : Pulse) : Sink :=
  { k with plan := (k.plan.filter fun q => decide (now < q.stop + 200000)) ++ [p] }

def State.place (s : State) (c start stop code : Nat) (test : Bool) : State :=
  if code = 0 ∨ stop ≤ start then s else s.sink c fun k => k.place s.now ⟨start, stop, code, test⟩

/-- Pulses of a channel end now, and none follows. -/
def State.unplan (s : State) (cs : List Nat) : State := cs.foldl (fun s c => s.sink c fun k => { k with
  plan := (k.plan.filter fun p => decide (p.start < s.now)).map fun p => { p with stop := min p.stop s.now } }) s

/-- How far ahead of the instant at the pin the sequencer issues an edge (01 R15); an edge of a booster bank goes out BOOST_DELAY
before that, since the pulse itself is placed ahead of the light. -/
def edgeLead : Nat := 8
def Pulse.issued (p : Pulse) : Nat × Nat := (p.start - edgeLead, p.stop - edgeLead)

/-- A channel has been held off since instant t or longer. -/
def Sink.heldAt (k : Sink) (t : Nat) : Bool := (k.held.map fun h => decide (h ≤ t)).getD false

/-- The pulse of the lit window or of the PWM pulse that a command reports: the last one begun, where it was not held off. -/
def State.lastPulse (s : State) (c : Nat) : Option Pulse :=
  let k := at_ s.src.sinks c
  (k.plan.filter fun p => !p.test && decide (p.start < s.now) && !k.heldAt p.start).getLast?

/-- The code of that window. -/
def State.pulseCode (s : State) (c : Nat) : Nat := ((s.lastPulse c).map Pulse.code).getD 0

/-- The code that a channel took from the point of its head that was played last; 0 where it was held off from its due instant on. -/
def State.pointCode (s : State) (c : Nat) : Nat := match pointOf (s.chan c) with
  | none => 0
  | some (n, p) =>
    let h := at_ s.heads n
    if (at_ s.src.sinks c).heldAt (h.dueAt + hdIntDelay h.record) then 0 else s.beamCode c (h.shown.getD p 0)

end Sys2Proof.Machine
end

