-- ==== Sys2Proof/Machine/Flags.lean ====
section
/-! DEFINITION. The whistle, the status word of every reply and the registers of BAR0 that are computed from the state
(17 R358, R373, R374). -/
namespace Sys2Proof.Machine

/-- The thermal-trip restart interval or LOCKOUT (15 R327, R329), in which the arrays' states are held (07 R165). -/
def State.inTrip (s : State) : Bool := s.mbx.fwState == 3 || s.mbx.fwState == 4

/-- Records in the event queue, saturating at 255. -/
def State.evqOcc (s : State) : Nat := min s.evq.recs.length 255

/-- EVT: a record waits or an overflow counter is not 0. -/
def State.wEvt (s : State) : Bool := !s.evq.recs.isEmpty || !s.evq.lost.isEmpty

/-- FAULT: a processor fault, a latched source fault (09 R211), a suspect zone (15 R322) or a bridge loss (01 R17). -/
def State.wFault (s : State) : Bool :=
  s.mbx.flagCpuFault || s.diag.chans.any (fun c => c.kind != 0) || s.th.zones.any (fun z => z.suspect) ||
    s.bridgeHolds

/-- THROTTLE: the ceiling is below 16 (15 R324). -/
def State.wThrottle (s : State) : Bool := decide (s.th.c < 16)

/-- HEEL: any axis is in heel (13 R290). -/
def State.wHeel (s : State) : Bool := s.axes.any fun a => a.state == 2

/-- CAL: a unit is suspended, or a store held no valid slot at its last load (16 R341). -/
def State.wCal (s : State) : Bool := s.cal.storeEmpty || s.cal.units.any fun u => u.suspended

/-- SERVICE: a session is open (21 R445). -/
def State.wService (s : State) : Bool := s.sec.session.isSome

/-- The whistle byte, EVT in bit 0 (17 R374). -/
def State.whistle (s : State) : Nat :=
  maskOf [s.wEvt, s.wFault, s.wThrottle, s.wHeel, s.mbx.flagRestarted, s.wCal, s.wService, s.chi.plinth]

/-- The status word of a reply written now (17 R373). -/
def State.statusWord (s : State) (code : Nat) : Nat :=
  code % 256 + 2 ^ 8 * s.evqOcc + 2 ^ 16 * s.whistle + 2 ^ 24 * (s.tk.tick.toNat % 256)

/-- HW_STATUS (17 R358). -/
def State.hwStatus (s : State) : Nat := s.statusWord s.mbx.fwState

/-- MBX_ID (17 R358). -/
def mbxId : Nat := 0x01B17196

/-- MBX_FLAGS (17 R358). -/
def State.mbxFlags (s : State) : Nat :=
  maskOf [s.mbx.flagDbInvalid, s.mbx.flagRconsInvalid, s.mbx.flagReplyLost, s.mbx.flagRestarted, s.mbx.flagCpuFault]

/-- Commands pending under 17 R368: parked, or forwarded and not STATUS. -/
def State.pendingCount (s : State) : Nat :=
  s.mbx.parked.length + (s.mbx.remotes.filter fun r => r.opcode != 0x0100).length

/-- Reply slots reserved for commands taken from the ring and not answered (17 R358). -/
def State.reserved (s : State) : Nat :=
  (s.mbx.parked.filter fun c => c.hdr.origin == .pcie && !c.mute).length +
    (s.mbx.remotes.filter fun r => r.hdr.origin == .pcie && !r.mute).length

/-- INFLIGHT (17 R358). -/
def State.inflightReg (s : State) : Nat := s.reserved % 256 + 256 * (s.pendingCount % 256)

/-- What a read of a BAR0 offset answers (17 R358); a write-only or reserved offset reads 0 (00 R12). -/
def State.bar0 (s : State) (offset : Nat) : Nat :=
  match offset with
  | 0x00 => mbxId
  | 0x04 => s.hwStatus
  | 0x08 => s.tk.tick.toNat
  | 0x0C => s.offset
  | 0x14 => s.mbx.cmdProd.toNat
  | 0x18 => s.mbx.cmdCons.toNat
  | 0x1C => s.mbx.rplProd.toNat
  | 0x20 => s.mbx.rplCons.toNat
  | 0x24 => s.mbxFlags
  | 0x28 => s.inflightReg
  | 0x2C => s.mbx.busyCount.toNat
  | 0x30 => s.mbx.repliesLost.toNat
  | _ => 0

end Sys2Proof.Machine
end

