-- ==== Sys2Proof/Machine/Link.lean ====
section
/-! DEFINITION. The transmit side of the Cumaslink ports (18 R390 to R395): queues, credits, receive buffers and
routes. -/
namespace Sys2Proof.Machine

/-- Change one Cumaslink port. -/
def State.port (s : State) (p : Nat) (f : ClPort → ClPort) : State :=
  { s with cl := { s.cl with ports := upd s.cl.ports p f } }

/-- The port is UP (18 R407). -/
def State.portUp (s : State) (p : Nat) : Bool := (at_ s.cl.ports p).state == 2

/-- ROOT of CL_CONFIG (18 R384). -/
def State.isRoot (s : State) : Bool := bit (byteAt s.cl.cfg 0) 0

/-- The child ports that are up, CL_DN first (18 R385). -/
def State.childPorts (s : State) : List Nat := [1, 2].filter s.portUp

/-- Credits of a class held: 8 − ((sent − FREED) mod 256) (18 R394). -/
def ClPort.credits (q : ClPort) (rsp : Bool) : Nat :=
  let used := if rsp then (q.sentRsp - q.freedRsp).toNat else (q.sentReq - q.freedReq).toNat
  8 - used

/-- One discarded frame (18 R390, R392, R394). -/
def State.clDiscard (s : State) : State := { s with cl := { s.cl with discards := s.cl.discards + 1 } }

/-- A buffer is still held by a queued frame or by a command that waits for the mailbox (18 R393). -/
def State.held (s : State) (h : Hold) : Bool :=
  s.cl.ports.any (fun q => q.queue.any fun f => f.hold == some h) ||
    s.mbx.clBox.any (fun w => w.hold == some h) || s.mbx.clWait.any fun w => w.hold == some h

/-- An instant in 1/64 ns. -/
def clAt (t : Nat) : Int := 160 * (t : Int)

/-- Free a receive buffer and report it in a CREDIT symbol (18 R394). -/
def ClPort.free (q : ClPort) (now : Nat) (rsp : Bool) : ClPort :=
  if rsp then { q with ownRsp := q.ownRsp + 1, wire := q.wire ++ [(clAt now, .credit true (q.ownRsp + 1))] }
  else { q with ownReq := q.ownReq + 1, wire := q.wire ++ [(clAt now, .credit false (q.ownReq + 1))] }

/-- Free a frame's buffer once nothing holds it any longer. -/
def State.release (s : State) : Option Hold → State
  | none => s
  | some h => if s.held h then s else s.port h.port fun q => q.free s.now h.rsp

/-- The queue served next from the token on: the first of the four that holds a frame and has a credit (18 R395). -/
def ClPort.nextQueue (q : ClPort) : Option Nat :=
  ((List.range 4).map fun k => (q.token + k) % 4).find? fun k =>
    q.queue.any (fun f => f.queue == k) && decide (0 < q.credits (k < 2))

/-- One frame leaves a port, if one may (18 R393, R395). -/
def State.sendOne (s : State) (p : Nat) : State :=
  let q := at_ s.cl.ports p
  if q.state ≠ 2 then s else
  match q.nextQueue with
  | none => s
  | some k =>
    match q.queue.find? fun f => f.queue == k with
    | none => s
    | some f =>
      let s := s.port p fun q =>
        { q with
          queue := q.queue.erase f, token := (k + 1) % 4, tx := q.tx + 1, wire := q.wire ++ [(clAt s.now, f.out)],
          sentRsp := if k < 2 then q.sentRsp + 1 else q.sentRsp,
          sentReq := if k < 2 then q.sentReq else q.sentReq + 1 }
      s.release f.hold

/-- Every frame that may leave a port leaves it. -/
def State.pump (s : State) (p : Nat) : State :=
  (List.range (at_ s.cl.ports p).queue.length).foldl (fun s _ => s.sendOne p) s

/-- A frame waits for a port and leaves when it may. A port that is not up sends nothing, and the frame is
discarded. -/
def State.clSend (s : State) (p : Nat) (f : ClFrame) : State :=
  if s.portUp p then (s.port p fun q => { q with queue := q.queue ++ [f] }).pump p
  else s.clDiscard

/-- A symbol may leave a port that is up from an instant on (18 R387, R388). -/
def State.symbolAt (s : State) (p : Nat) (t : Int) (o : ClOut) : State :=
  if s.portUp p then s.port p fun q => { q with wire := q.wire ++ [(t, o)] } else s

/-- A symbol may leave a port that is up. -/
def State.symbol (s : State) (p : Nat) (o : ClOut) : State := s.symbolAt p (clAt s.now) o

/-- Where a frame routed to an address goes (18 R392). -/
inductive Route where
  | here
  | port (p : Nat)
  | nowhere
  deriving DecidableEq, Repr

/-- 18 R392: this node, else the route entry, else CL_UP, else nowhere at the root; never back out of the port of
arrival. -/
def State.route (s : State) (dest : W16) (arrived : Option Nat) : Route :=
  if s.cl.addr = some dest then .here
  else
    let e := spGet 0 s.cl.routes dest.toNat
    let out := if e ≠ 0 then some e else if s.isRoot then none else some 0
    match out with
    | none => .nowhere
    | some p => if arrived = some p then .nowhere else .port p

/-- The address fields of a frame this node sends (18 R390). -/
def State.ownHdr (s : State) (dest : W16) : ClHdr :=
  match s.cl.addr with
  | some a => ⟨true, a, dest⟩
  | none => ⟨false, 0, dest⟩

/-- The header of a frame sent on, with the SRC it came with (18 R390). -/
def srcHdr (src : Option W16) (dest : W16) : ClHdr := ⟨src.isSome, src.getD 0, dest⟩

/-- Send a local frame to an address; one that cannot be delivered is discarded and counted (18 R392). -/
def State.clSendTo (s : State) (dest : W16) (queue type : Nat) (payload : Rec) : State :=
  match s.route dest none with
  | .port p => s.clSend p ⟨queue, .frame type (s.ownHdr dest) 0 payload, none⟩
  | _ => s.clDiscard

end Sys2Proof.Machine
end

