-- ==== Sys2Proof/Machine/Mailbox.lean ====
section
/-! DEFINITION. Taking, dispatching and answering commands (17 R360 to R378), and the commands of chapter 17. -/
namespace Sys2Proof.Machine

/-! ## Replies (17 R361) -/

/-- A reply before its status word is built. -/
structure Reply where
  op : Nat
  tag : W16
  code : Nat
  payload : Rec
  busy : Bool := false
  hw : Bool := false

/-- A reply entry (17 R361) with a given status word; NODE is the node that built it. -/
def replyEntry (op : Nat) (tag : W16) (status : Nat) (payload : Rec) (flags : List Bool) (node : Nat) : Rec :=
  le 2 op ++ le 2 tag.toNat ++ le 4 status ++ le 2 payload.length ++ le 1 (maskOf flags) ++ zeros 1 ++ le 2 node ++
    zeros 2 ++ payload

/-- The entry of a reply this node builds now: the status word is that of this instant (17 R373). -/
def State.localEntry (s : State) (r : Reply) : Rec :=
  replyEntry r.op r.tag (s.statusWord r.code) r.payload [r.busy, false, r.hw, s.cl.addr.isSome]
    (match s.cl.addr with
      | some a => a.toNat
      | none => 0)

/-- An entry written into the reply ring (17 R359, R364). -/
def State.ringReply (s : State) (entry : Rec) : State :=
  { s with mbx := { s.mbx with
      bar2 := spPut 0 s.mbx.bar2 (0x4000 + 256 * (s.mbx.rplProd.toNat % 64)) entry,
      rplProd := s.mbx.rplProd + 1 } }

/-- The outcome of a cue entry other than OK or LATE raises CUE_RESULT (19 R423, R425). -/
def State.cueResult (s : State) (player entry code : Nat) : State :=
  s.raiseIf (code != cOk && code != cLate) 0x0E03 player (code + 65536 * sat 16 entry)

/-- A reply goes back the way its command came (17 R371, R378): the reply ring, an MBX_REPLY frame, nowhere for a
broadcast, or CUE_RESULT. -/
def State.answer (s : State) (h : Hdr) (r : Reply) : State :=
  match h.origin with
  | .pcie => s.ringReply (s.localEntry r)
  | .node src => s.clSendTo src 1 0x02 (s.localEntry r)
  | .bcast => { s with cl := { s.cl with bcastExecuted := s.cl.bcastExecuted + 1 } }
  | .cue player entry => s.cueResult player entry r.code

/-! ## BUSY given by the mailbox (17 R370) -/

/-- The 8-byte payload of a mailbox BUSY. -/
def busyPayload (retryUs cause : Nat) : Rec := le 4 retryUs ++ le 1 cause ++ zeros 3

/-- Count a BUSY of the mailbox under its cause (17 R358 BUSY_COUNT, R382). -/
def Mailbox.countBusy (m : Mailbox) (cause : Nat) : Mailbox :=
  let c := m.ctr
  let c := match cause with
    | 1 => { c with busyNotReady := c.busyNotReady + 1 }
    | 2 => { c with busyWait := c.busyWait + 1 }
    | 3 => { c with busyPending := c.busyPending + 1 }
    | _ => { c with busyThermal := c.busyThermal + 1 }
  { m with ctr := c, busyCount := m.busyCount + 1 }

/-- The completion bounds of the pending commands that state one (17 R368); a forwarded STATUS is not pending (17 R377). -/
def State.bounds (s : State) : List Nat :=
  s.mbx.parked.filterMap (fun c => c.bound) ++
    (s.mbx.remotes.filter fun r => r.opcode != 0x0100).map fun r => r.dueAt

/-- RETRY_US of cause 3: the least time left until a stated bound; where a pending command states none the firmware's
estimate enters, a free value; at least 100 (17 R370). -/
def State.retryPending (s : State) : Nat × State :=
  let left := s.bounds.map fun b => ceilDiv (b - s.now) tuUs
  if s.mbx.parked.any fun c => c.bound.isNone then
    let (k, s) := s.takeFree
    (max 100 (left.foldl min (Config.free k % 2 ^ 32)), s)
  else (max 100 (left.foldl min 0xFFFFFFFF), s)

/-- Answer BUSY with a cause: nothing else happens (17 R370). RETRY_US of cause 2 is the time the firmware has
declared for the command in its intake, a free value of at least 100. -/
def State.busy (s : State) (h : Hdr) (op cause : Nat) : State :=
  let (us, s) := match cause with
    | 1 => (50000, s)
    | 2 => let (k, s) := s.takeFree
           (max 100 (Config.free k % 2 ^ 32), s)
    | 3 => s.retryPending
    | _ => (0xFFFFFFFF, s)
  let s := { s with mbx := s.mbx.countBusy cause }
  s.answer h { op := op, tag := h.tag, code := cBusy, payload := busyPayload us cause, busy := true, hw := cause == 5 }

/-! ## Parking (17 R368) -/

def popCount8 (v : Nat) : Nat := ((List.range 8).filter fun i => bit v i).length

/-- Kennel stores a command writes or erases (17 R368). -/
def kennelStores (op : Nat) (p : Rec) : Nat :=
  if op = 0x0C04 ∨ op = 0x0C08 then popCount8 (byteAt p 0 % 8)
  else if op = 0x0607 ∨ op = 0x0608 ∨ op = 0x0A06 ∨ op = 0x0B03 then 1 else 0

/-- The completion bound of a parked command, where one is stated (17 R368). `ahead` is the kennel writes running or
queued ahead of it at its take. -/
def parkBound (taken ahead op : Nat) (p : Rec) : Option Nat :=
  if 0 < kennelStores op p then some (taken + 100 * tuMs * (kennelStores op p + ahead))
  else if op = 0x0504 then some (taken + 10 * tuMs)
  else if op = 0x1002 then some (taken + 20 * tuMs)
  else none

/-- The kennel writes ahead of commanded ones of a set of stores, up to the last of these: the one running, and those queued that go
before it (16 R350, 17 R368). -/
def State.writesAhead (s : State) (mask : Nat) : Nat :=
  b2n s.ken.writing.isSome + (s.ken.queue.filter fun w => w.commanded && decide (2 ^ w.store ≤ mask)).length

/-- Park a command: the intake is free, the reply slot stays reserved. -/
def State.park (s : State) (ahead op : Nat) (h : Hdr) (p : Rec) (key : Nat) : State :=
  { s with mbx := { s.mbx with
      parked := s.mbx.parked ++ [⟨op, h, p, s.now, key, parkBound s.now ahead op p, false⟩] } }

/-- Answer a parked command and forget it. -/
def State.finish (s : State) (c : Parked) (code : Nat) (payload : Rec) : State :=
  let s := { s with mbx := { s.mbx with parked := s.mbx.parked.erase c } }
  if c.mute then s else s.answer c.hdr { op := c.opcode, tag := c.hdr.tag, code := code, payload := payload }

/-- Answer every parked command of an opcode that waits on a key. -/
def State.finishKey (s : State) (op key code : Nat) (payload : Rec) : State :=
  (s.mbx.parked.filter fun c => c.opcode == op && c.key == key).foldl (fun s c => s.finish c code payload) s

/-- FAULT for every command taken and not answered, at a processor fault or a trip (23 R473). -/
def State.faultReplies (s : State) : State :=
  let s := s.mbx.parked.foldl (fun s c => s.finish c cFault []) s
  let rs := s.mbx.remotes
  let s := { s with mbx := { s.mbx with remotes := [] } }
  rs.foldl (fun s r => if r.mute then s
    else s.answer r.hdr { op := r.opcode, tag := r.hdr.tag, code := cFault, payload := [] }) s

/-! ## Dispatch (17 R366) -/

/-- A command is executed on this device: LOCAL, or addressed to its own address; a broadcast is executed by every
node that takes it (17 R377, 18 R406). -/
def State.isHere (s : State) (h : Hdr) : Bool :=
  h.origin == .bcast || h.isLocal || s.cl.addr == some h.target

/-- Forward a command to its target (17 R377), or STATE while this device holds no address. -/
def State.forwardCmd (s : State) (op : Nat) (h : Hdr) (p : Rec) : State :=
  match s.cl.addr with
  | none => s.answer h { op := op, tag := h.tag, code := cState, payload := [] }
  | some _ =>
    let s := { s with mbx := { s.mbx with
      remotes := s.mbx.remotes ++ [Remote.mk op h (s.now + s.mbx.remoteTimeout * tuMs) false], ctr := { s.mbx.ctr with remoteSent := s.mbx.ctr.remoteSent + 1 } } }
    s.clSendTo h.target 3 0x01 (entryBytes op h p)

/-- Version of the firmware image loaded, from its header in the flash; 0 if none (17 R376, 21 R440, 22 R463). -/
def State.fwField (s : State) (off n : Nat) : Nat :=
  match s.boot.slot with
  | none => 0
  | some k => leAt (spRead 0xFF s.boot.flash (0x1000000 * (k + 1) + off) n) 0 n

/-- The 32-byte reply of STATUS (17 R376). -/
def State.statusPayload (s : State) : Rec :=
  le 4 s.tk.tick.toNat ++ le 4 s.offset ++ le 1 s.mbx.fwState ++ [s.com.live.mode] ++ le 1 s.tk.active ++
    le 1 s.th.c ++ le 1 s.th.state ++ le 1 s.chi.inForce ++ le 2 (maskOf (s.axes.map fun a => a.state == 2)) ++
    le 2 s.evq.recs.length ++ le 2 (s.cl.addr.getD 0).toNat ++
    le 1 (maskOf [s.cl.addr.isSome, s.show_.ilkOff, !s.evq.lost.isEmpty]) ++ le 1 s.pendingCount ++ zeros 2 ++
    le 4 (s.fwField 0x0C 4) ++ le 4 s.mbx.busyCount.toNat

/-- The hardware STATUS path (17 R376). -/
def State.statusReply (s : State) (h : Hdr) (length : Nat) : State :=
  if length = 0 then
    s.answer h { op := 0x0100, tag := h.tag, code := cOk, payload := s.statusPayload, hw := true }
  else s.answer h { op := 0x0100, tag := h.tag, code := cBadParam, payload := [], hw := true }

/-- Run a command of this device and answer or park it. -/
def State.runHere (s : State) (c : Cmd) (h : Hdr) (p : Rec) (hw : Bool) : State :=
  match c.run h p s with
  | (.reply code payload, s) => s.answer h { op := c.op, tag := h.tag, code := code, payload := payload, hw := hw }
  | (.park key, t) => t.park (s.writesAhead (key % 8)) c.op h p key

/-- An error code of the header checks. -/
def State.reject (s : State) (op : Nat) (h : Hdr) (code : Nat) (hw : Bool) : State :=
  s.answer h { op := op, tag := h.tag, code := code, payload := [], hw := hw }

/-- Steps 5 and 6 of R366: header checks, pending limit, forwarding or execution. -/
def State.begin (s : State) (op : Nat) (c : Option Cmd) (h : Hdr) (p : Rec) (length : Nat) : State :=
  match c with
  | none => s.reject op h cBadOpcode false
  | some c =>
    if 240 < length then s.reject op h cBadParam false
    else if s.isHere h then
      if c.len p = false ∨ length ≠ p.length then s.reject op h cBadParam false
      else if c.parks p ∧ 16 ≤ s.pendingCount then s.busy h op 3
      else s.runHere c h p false
    else if 16 ≤ s.pendingCount then s.busy h op 3
    else s.forwardCmd op h p

/-- The opcodes that the mailbox hardware answers in a restart interval (17 R366 step 3). -/
def hwOpcode (op : Nat) : Bool := op == 0x0B00 || op == 0x0B01 || op / 256 == 0x12

/-- A command other than STATUS that is taken ends the silence of 20 R431. -/
def State.stirs (s : State) (op : Nat) : State :=
  if op = 0x0100 then s else { s with epb := { s.epb with silentSince := s.now } }

/-- R366: the first step that applies decides the reply. `c` is the command its opcode names, if any; `length` is the
LENGTH the header states. -/
def State.dispatch (s : State) (op : Nat) (c : Option Cmd) (h : Hdr) (p : Rec) (length : Nat) : State :=
  let s := s.stirs op
  if op = 0x0100 then
    if s.isHere h then s.statusReply h length else s.forwardCmd op h p
  else if s.mbx.fwState = 3 ∨ s.mbx.fwState = 4 then
    if hwOpcode op ∧ s.isHere h then
      match c with
      | none => s.reject op h cBadOpcode true
      | some c =>
        if 240 < length ∨ c.len p = false ∨ length ≠ p.length then s.reject op h cBadParam true
        else s.runHere c h p true
    else s.busy h op 5
  else if s.mbx.fwState ≠ 1 then s.busy h op 1
  else s.begin op c h p length

/-- A reply slot is free (17 R365). While the host link is down nothing is taken from the ring (R357). -/
def State.slotFree (s : State) : Bool :=
  s.mbx.linkUp && decide ((s.mbx.rplProd - s.mbx.rplCons).toNat + s.reserved < 64)

/-- A command has been taken from its mailbox (17 R358 CMD_CONS, R382). A command that comes while nothing waits in the
ring has come with its own doorbell, and both indices move on. -/
def Mailbox.countTake (m : Mailbox) (h : Hdr) : Mailbox :=
  if viaCl h then { m with ctr := { m.ctr with clTaken := m.ctr.clTaken + 1 } }
  else
    let k : W16 := if m.visible = [] then 1 else 0
    { m with
      ctr := { m.ctr with pcieTaken := m.ctr.pcieTaken + 1 }, cmdProd := m.cmdProd + k, cmdCons := m.cmdCons + k }

/-- The state in which a command has been taken from its mailbox. -/
def State.countTake (s : State) (h : Hdr) : State := { s with mbx := s.mbx.countTake h }

/-- The row of a mailbox command: it has just been taken. A PCIe command is taken only while a reply slot is free, and
otherwise waits at the ring's head with no effect (17 R365). -/
def State.command (s : State) (c : Cmd) (h : Hdr) (p : Rec) : State :=
  if h.origin = .pcie ∧ s.slotFree = false then s else (s.countTake h).dispatch c.op (some c) h p p.length

/-! ## The commands of chapter 17 (R382) -/

/-- STATUS: answered by the hardware path before any command is begun; this is the same reply for a table look-up. -/
def cmdStatus : Cmd where
  op := 0x0100
  len := lenIs 0
  run := fun _ _ s => okWith s.statusPayload s

/-- MAILBOX_CONFIG: MAX_WAIT 5 to 1,000, REMOTE_TIMEOUT 1 to 10,000. -/
def cmdMailboxConfig : Cmd where
  op := 0x0101
  len := lenIs 8
  run := fun _ p s =>
    if inRange 5 1000 (u16 p 0) && inRange 1 10000 (u16 p 2) then
      ok { s with mbx := { s.mbx with maxWait := u16 p 0, remoteTimeout := u16 p 2 } }
    else refuse cBadParam s

/-- WHISTLE_ACK clears RESTARTED (bit 0) and CPU_FAULT (bit 1). -/
def cmdWhistleAck : Cmd where
  op := 0x0102
  len := lenIs 4
  run := fun _ p s =>
    ok { s with mbx := { s.mbx with
      flagRestarted := s.mbx.flagRestarted && !bit (byteAt p 0) 0,
      flagCpuFault := s.mbx.flagCpuFault && !bit (byteAt p 0) 1 } }

/-- MAILBOX_COUNTERS returns the ten counters. -/
def cmdMailboxCounters : Cmd where
  op := 0x0103
  len := lenIs 0
  run := fun _ _ s =>
    let c := s.mbx.ctr
    okWith (([c.pcieTaken, c.clTaken, c.busyNotReady, c.busyWait, c.busyPending, c.busyThermal, c.remoteSent,
      c.remoteTimeout, c.remoteLate, c.ringErrors].map fun v => le 4 v.toNat).flatten) s

/-- An event record as it is read (17 R380). -/
def eventBytes (e : Event) : Rec :=
  le 2 e.code.toNat ++ le 2 e.source.toNat ++ le 4 e.tick.toNat ++ le 4 e.offset.toNat ++ le 4 e.payload.toNat

/-- Sum of the overflow counters, saturating. -/
def EventQueue.lostSum (q : EventQueue) : Nat := sat 32 (q.lost.map Prod.snd).sum

/-- EVENT_READ: the oldest records leave the queue, at most MAX (1 to 14). -/
def cmdEventRead : Cmd where
  op := 0x1200
  len := lenIs 4
  run := fun _ p s =>
    let n := byteAt p 0
    if inRange 1 14 n then
      let q := s.evq
      let out := q.recs.take n
      let rest := q.recs.drop n
      let first := q.seq - BitVec.ofNat 32 q.recs.length
      okWith (le 1 out.length ++ le 1 (b2n (!q.lost.isEmpty)) ++ le 2 rest.length ++ le 4 first.toNat ++
        le 4 q.lostSum ++ zeros 4 ++ (out.map eventBytes).flatten) { s with evq := { q with recs := rest } }
    else refuse cBadParam s

/-- EVENT_OVERFLOW_READ: the non-zero counters from START_CODE up, at most 29; CLEAR sets those returned to 0. -/
def cmdEventOverflowRead : Cmd where
  op := 0x1201
  len := lenIs 4
  run := fun _ p s =>
    let start := u16 p 0
    let clear := bit (byteAt p 2) 0
    let q := s.evq
    let out := (q.lost.filter fun c => decide (start ≤ c.1.toNat)).take 29
    let left := if clear then q.lost.filter fun c => !out.contains c else q.lost
    okWith (le 2 q.lost.length ++ le 1 out.length ++ zeros 5 ++
      (out.map fun c => le 2 c.1.toNat ++ zeros 2 ++ le 4 c.2).flatten) { s with evq := { q with lost := left } }

/-- STATUS (17 R376). -/
def execStatus (h : Hdr) (p : Rec) (s : State) : Out := done (s.command cmdStatus h p)
/-- MAILBOX_CONFIG (17 R382). -/
def execMailboxConfig (h : Hdr) (p : Rec) (s : State) : Out := done (s.command cmdMailboxConfig h p)
/-- WHISTLE_ACK (17 R374). -/
def execWhistleAck (h : Hdr) (p : Rec) (s : State) : Out := done (s.command cmdWhistleAck h p)
/-- MAILBOX_COUNTERS (17 R382). -/
def execMailboxCounters (h : Hdr) (p : Rec) (s : State) : Out := done (s.command cmdMailboxCounters h p)
/-- EVENT_READ (17 R382). -/
def execEventRead (h : Hdr) (p : Rec) (s : State) : Out := done (s.command cmdEventRead h p)
/-- EVENT_OVERFLOW_READ (17 R381). -/
def execEventOverflowRead (h : Hdr) (p : Rec) (s : State) : Out := done (s.command cmdEventOverflowRead h p)

end Sys2Proof.Machine
end

