-- ==== Sys2Proof/Machine/Clocks.lean ====
section
/-! DEFINITION. Clocks and phase-locked loops (chapter 14). Offsets are in units of 0.01 ppm. -/
namespace Sys2Proof.Machine

/-- Change one PLL. -/
def State.pll (s : State) (n : Nat) (f : Pll → Pll) : State :=
  { s with ck := { s.ck with plls := upd s.ck.plls n f } }

/-- The sum of SEQPLL's offset over time up to instant `t`, the present offset standing after the last change. -/
def State.ofsAt (s : State) (t : Int) : Int := s.ck.ofsSum + (at_ s.ck.plls 1).offset * (t - s.ck.ofsFrom)

/-- A PLL takes a new offset now. -/
def State.setOffset (s : State) (n : Nat) (ofs : Int) (step : Nat) : State :=
  let s : State := if n = 1 then { s with ck := { s.ck with ofsSum := s.ofsAt s.now, ofsFrom := s.now } } else s
  s.pll n fun q => { q with offset := ofs, stepAt := some step }

/-- The largest offset of a PLL (14 R300). -/
def pllLimit (n : Nat) : Int := if n = 0 then 200000 else 30000

/-- Every array is DISABLED (07 R160). -/
def State.allDisabled (s : State) : Bool := s.pl.arrays.all fun a => a.state == 0

/-- A ramp on a PLL ends with a reason and the offset holds where it stands (14 R304, R316). -/
def State.endRamp (s : State) (n reason : Nat) : State :=
  let q := at_ s.ck.plls n
  if q.ramp.isSome then
    (s.pll n fun q => { q with ramp := none }).raise 0x0A03 n (reason + 65536 * pattern 16 q.offset)
  else s

/-- A PLL freezes its control value and coasts; a ramp on it is abandoned, and steering of SEQPLL is suspended until the first
boundary after it has locked again (14 R310, R311). -/
def State.coast (s : State) (n cause : Nat) : State :=
  let s := s.endRamp n 3
  let s : State := if n = 1 then { s with ck := { s.ck with goal := none } } else s
  s.pll n fun q =>
    { q with
      locked := false, coast := true, cause := cause, frozenAt := if q.coast then q.frozenAt else s.now,
      pull := if q.coast then q.pull else -100 * s.ck.refErr }

/-- REFCLK is lost: every PLL coasts (14 R307, R310), and the seconds in a row of R314 end. -/
def State.loseRef (s : State) (reason : Nat) (ppm : Int) : State :=
  if s.ck.refValid then
    let s := { s with ck := { s.ck with refValid := false, refLosses := s.ck.refLosses + 1, hkBad := 0, hkGood := 0 } }
    let s := s.raise 0x0A01 0 (2 * reason + 65536 * pattern 16 (clampI (-32768) 32767 ppm))
    (List.range 4).foldl (fun s n => s.coast n 0) s
  else s

/-- One small step towards a goal: at most 50 ppm (14 R302). -/
def smallStep (from_ goal : Int) : Int := from_ + clampI (-5000) 5000 (goal - from_)

/-- At least 100 µs have passed since the last step of a PLL (14 R302). -/
def State.stepSpaced (s : State) (n : Nat) : Bool :=
  match (at_ s.ck.plls n).stepAt with
  | none => true
  | some t => decide (t + 100 * tuUs ≤ s.now)

/-- The instant from which the next step of a PLL may be made. -/
def State.nextStep (s : State) (n : Nat) : Nat :=
  match (at_ s.ck.plls n).stepAt with
  | none => s.now
  | some t => t + 100 * tuUs

/-- The genlock target of a boundary (14 R305): FREQ_EST + PHASE_ERR ÷ (T × PULL_TICKS), clamped to ±300 ppm. -/
def genlockTarget (freqEst phaseErr : Int) (len pullTicks : Nat) : Int :=
  clampI (-30000) 30000 (freqEst + roundDiv (phaseErr * 100000000) (len * pullTicks))

/-! ## Commands (14 R315) -/

/-- CLOCK_CONFIG. A change of LNK_SSC is refused with STATE unless every array is DISABLED (R301). -/
def cmdClockConfig : Cmd where
  op := 0x0A00
  len := lenIs 8
  run := fun _ p s =>
    if !(inRange 0 10 (byteAt p 0) && inRange 0 10 (byteAt p 1) && inRange 3000 3300 (u16 p 2) &&
        inRange 8 1024 (u16 p 4)) then refuse cBadParam s
    else if byteAt p 1 ≠ byteAt s.ck.cfg 1 ∧ s.allDisabled = false then refuse cState s
    else
      let q := at_ s.ck.plls 2
      ok { s with ck := { s.ck with cfg := p, lnkSsc := if q.locked || q.coast then byteAt p 1 else s.ck.lnkSsc } }

/-- A PLL that the host may step or ramp now: not coasting, no ramp running, and for SEQPLL the internal source active
(14 R303, R304, R310). -/
def State.pllFree (s : State) (n : Nat) : Bool :=
  let q := at_ s.ck.plls n
  !q.coast && q.ramp.isNone && (n == 0 || s.tk.active == 4)

/-- A step or ramp of the host on SEQPLL ends what is left of the steps to a held value (14 R303, R308). -/
def State.hostGoal (s : State) (n : Nat) : State := if n = 1 then { s with ck := { s.ck with goal := none } } else s

/-- CLOCK_STEP. -/
def cmdClockStep : Cmd where
  op := 0x0A01
  len := lenIs 8
  run := fun _ p s =>
    let n := byteAt p 0
    let step := i32 p 4
    let ofs := (at_ s.ck.plls n).offset + step
    if 1 < n ∨ 5000 < step.natAbs ∨ pllLimit n < ofs.natAbs then refuse cBadParam s
    else if s.pllFree n = false then refuse cState s
    else if s.stepSpaced n = false then refuse cBusy s
    else okWith (leI 4 ofs) ((s.hostGoal n).setOffset n ofs s.now)

/-- The segments of a CLOCK_RAMP payload as (TARGET, TIME). -/
def rampSegs (p : Rec) (count : Nat) : List (Int × Nat) :=
  (List.range count).map fun i => (i32 p (4 + 8 * i), u32 p (8 + 8 * i))

/-- Every segment lies within the PLL's limit, and no slope exceeds 0.5 ppm per µs, from a first offset on (14 R304). -/
def rampOk (limit : Int) : Int → List (Int × Nat) → Bool
  | _, [] => true
  | o, (t, us) :: rest =>
    inRange 100 100000000 us && decide (t.natAbs ≤ limit) && decide ((t - o).natAbs ≤ 50 * us) && rampOk limit t rest

/-- CLOCK_RAMP. With LOOP the slope of segment 0 is checked from the last TARGET too. -/
def cmdClockRamp : Cmd where
  op := 0x0A02
  len := lenByCount8 4 1 8
  run := fun _ p s =>
    let n := byteAt p 0
    let count := byteAt p 1
    let loop := bit (byteAt p 2) 0
    let segs := rampSegs p count
    let o := (at_ s.ck.plls n).offset
    let last := (segs.getLastD (0, 0)).1
    if 1 < n ∨ inRange 1 16 count = false ∨ rampOk (pllLimit n) o segs = false ∨
        (loop ∧ rampOk (pllLimit n) last (segs.take 1) = false) then refuse cBadParam s
    else if s.pllFree n = false then refuse cState s
    else ok ((s.hostGoal n).pll n fun q => { q with ramp := some ⟨segs, loop, 0, o, s.now⟩ })

/-- CLOCK_RAMP_STOP: the ramp ends with reason 1 and the offset holds. -/
def cmdClockRampStop : Cmd where
  op := 0x0A03
  len := lenIs 4
  run := fun _ p s =>
    let n := byteAt p 0
    if 3 < n then refuse cBadParam s
    else if (at_ s.ck.plls n).ramp.isNone then refuse cState s
    else okWith (leI 4 (at_ s.ck.plls n).offset) (s.endRamp n 1)

/-- CLOCK_STATUS. -/
def cmdClockStatus : Cmd where
  op := 0x0A04
  len := lenIs 0
  run := fun _ _ s =>
    let k := s.ck
    okWith (le 1 (maskOf [k.refValid, k.hkCrystal, k.hkComp]) ++ le 1 (maskOf (k.plls.map fun q => q.locked)) ++
      le 1 (maskOf (k.plls.map fun q => q.coast)) ++ le 1 (maskOf (k.plls.map fun q => q.ramp.isSome)) ++
      leI 4 (at_ k.plls 0).offset ++ leI 4 (at_ k.plls 1).offset ++ leI 4 k.freqEst ++ leI 4 k.refErr ++
      leI 4 k.hkErr ++ le 4 k.refLosses.toNat ++ le 4 k.lockLosses.toNat) s

/-- HK_COMP_READ: the record in force, STATE if none. -/
def cmdHkCompRead : Cmd where
  op := 0x0A05
  len := lenIs 0
  run := fun _ _ s => match s.ck.comp with
    | none => refuse cState s
    | some r => okWith r s

/-! ## Events -/

/-- The segment of a ramp that runs at instant `t`; each segment lasts 100 µs or more, so that a step passes at most one end. -/
def Ramp.advance (r : Ramp) (t : Nat) : Option Ramp :=
  match r.segs[r.seg]? with
  | none => none
  | some (target, us) =>
    if t < r.at_ + us * tuUs then some r
    else if r.seg + 1 < r.segs.length then some { r with seg := r.seg + 1, from_ := target, at_ := r.at_ + us * tuUs }
    else if r.loop then some { r with seg := 0, from_ := target, at_ := r.at_ + us * tuUs }
    else none

/-- CLOCK_RAMP_STEP: the offset that the line has reached at instant `t`; past the last segment without LOOP the ramp ends on its
TARGET (14 R304). -/
def rampStepTo (t : Nat) (r : Ramp) : Option Ramp × Int :=
  match r.advance t with
  | none => (none, (r.segs.getLastD (r.from_, 0)).1)
  | some r =>
    let (target, us) := (r.segs[r.seg]?).getD (r.from_, 1)
    (some r, r.from_ + roundDiv ((target - r.from_) * (t - r.at_ : Nat)) (us * tuUs))

/-- The step of a ramp on one PLL at its instant, 100 µs after the last. -/
def State.clockRampStep (s : State) (n : Nat) : State :=
  match (at_ s.ck.plls n).ramp with
  | none => s
  | some r =>
    let t := max ((at_ s.ck.plls n).stepAt.getD r.at_) r.at_ + 100 * tuUs
    let s := s.forward t
    let (r', o) := rampStepTo t r
    let s := s.setOffset n o t
    match r' with
    | some r' => s.pll n fun q => { q with ramp := some r' }
    | none => s.endRamp n 0

/-- GENLOCK_STEP: one small step of SEQPLL towards the genlock target, 100 µs after the last (14 R302, R305, R308).
Steering is suspended while SEQPLL coasts (R310). -/
def State.genlockStep (s : State) : State :=
  match s.ck.goal with
  | none => s
  | some g =>
    let q := at_ s.ck.plls 1
    if q.coast ∨ q.offset = g then s
    else
      let s := s.forward (s.nextStep 1)
      s.setOffset 1 (clampI (-30000) 30000 (smallStep q.offset g)) s.now

/-- REFCLK_FREQ_CHECK: REFCLK counted against HKOSC over 1 ms (14 R307); an HKOSC that counts as uncompensated judges nothing
(14 R314). -/
def State.refclkFreqCheck (s : State) (ppm : Int) : State :=
  let s := { s with ck := { s.ck with refErr := ppm } }
  let bound := if s.ck.hkDistrust then none else if s.ck.hkCrystal then some 1000 else if s.ck.hkComp then some 20000 else none
  match bound with
  | none => s
  | some b => if bit (byteAt s.ck.cfg 6) 0 ∧ b < ppm.natAbs then s.loseRef 1 ppm else s

/-- REFCLK_RESTORE: after 10 ms without failure every coasting PLL closes its difference by steps (14 R307, R311). -/
def State.refclkRestore (s : State) (ppm : Int) : State :=
  if s.ck.refValid then s else
  let s := { s with ck := { s.ck with refValid := true, refErr := ppm } }
  let s := s.raise 0x0A01 0 (1 + 4 + 65536 * pattern 16 (clampI (-32768) 32767 ppm))
  (List.range 4).foldl (fun s n => s.pll n fun q =>
    if q.coast then { q with pull := q.pull + 100 * ppm, stepAt := some s.now } else q) s

/-- The steps of at most 50 ppm that close a difference. -/
def stepsFor (d : Int) : Nat := ceilDiv d.natAbs 5000

/-- The difference that a PLL measures before it locks again (14 R311): what its reference has moved by since the freeze, both as
counted against HKOSC, less its own drift, which R310 bounds by 10 ppm for the first second. -/
def State.coastDrift (s : State) (n : Nat) : Int × State :=
  let q := at_ s.ck.plls n
  let (k, s) := s.takeFree
  let d := Config.freeInt k
  let d := if s.now ≤ q.frozenAt + tuS then clampI (-1000) 1000 d else d
  ((if q.cause = 0 then q.pull else q.pull + 100 * s.ck.refErr) - d, s)

/-- PLL_RELOCK: the last step has settled for 20 µs and the phase has stayed within 2 ns for 100 µs (14 R302, R311). The steps begin as
REFCLK is restored; a PLL that lost lock alone finds its reference again at the freeze at the earliest. -/
def State.pllRelock (s : State) (n : Nat) : State :=
  let q := at_ s.ck.plls n
  if q.coast ∧ s.ck.refValid then
    let (d, s) := s.coastDrift n
    let found := if q.cause = 0 then q.stepAt.getD s.now else q.frozenAt
    let s := s.forward (found + 100 * tuUs * (stepsFor d - 1) + 120 * tuUs)
    let s := s.pll n fun q => { q with coast := false, locked := true, pull := 0 }
    s.raise 0x0A02 n (1 + 2 * q.cause)
  else s

/-- PLL_LOCK_LOSS while REFCLK is valid (14 R309). -/
def State.pllLockLoss (s : State) (n : Nat) : State :=
  let q := at_ s.ck.plls n
  if s.ck.refValid ∧ q.locked then
    let s := s.coast n 1
    let s := { s with ck := { s.ck with lockLosses := s.ck.lockLosses + 1 } }
    s.raise 0x0A02 n 2
  else s

/-- HK_MEASURE: HKOSC against REFCLK over 1 s (14 R314). -/
def State.hkMeasure (s : State) (ppm : Int) : State :=
  if s.ck.refValid = false then s else
  let bad := if 10000 < ppm.natAbs then min (s.ck.hkBad + 1) 3 else 0
  let good := if ppm.natAbs ≤ 5000 then min (s.ck.hkGood + 1) 3 else 0
  let newBad := bad == 3 && !s.ck.hkDistrust
  let s := { s with ck := { s.ck with
    hkErr := ppm, hkBad := bad, hkGood := good,
    hkDistrust := if bad = 3 then true else if good = 3 then false else s.ck.hkDistrust,
    hkComp := if bad = 3 then false else if good = 3 then s.ck.comp.isSome else s.ck.hkComp } }
  s.raiseIf newBad 0x0A04 0 2

/-- The CHECK of a compensation record (14 R313). -/
def compOk (r : Rec) : Bool := r.length == 80 && u32 r 0x4C == (crc32 (r.take 0x4C)).toNat

/-- At a thermal round a record that waits comes into force (14 R313, R314). -/
def State.compRound (s : State) : State :=
  match s.ck.compWait with
  | none => s
  | some r =>
    if compOk r then
      let s := { s with ck := { s.ck with comp := some r, compWait := none, hkComp := !s.ck.hkDistrust } }
      s.raise 0x0A04 0 (1 + 4)
    else
      let s := { s with ck := { s.ck with comp := none, compWait := none, hkComp := false } }
      s.raise 0x0A04 0 0

/-- The two entries of a table around a temperature, interpolated linearly, end entries outside it (14 R313). -/
def trimAt (r : Rec) (o : Nat) (temp : Rat) : Int :=
  let x := (temp - i16 r 4) / (max 1 (i16 r 6) : Int)
  let i := (clampI 0 15 x.floor).toNat
  let f := max 0 (min 1 (x - i))
  roundRat (i16 r (o + 2 * i) + f * (i16 r (o + 2 * i + 2) - i16 r (o + 2 * i) : Int))

/-- The trims of a thermal round at the mean of zones Z8 to Z15; none while no record is in force (14 R313, R314). -/
def State.applyTrims (s : State) (temp : Rat) : State :=
  { s with ck := match s.ck.comp with
    | some r => { s.ck with rcTrim := trimAt r 0x08 temp, bgTrim := trimAt r 0x2A temp }
    | none => { s.ck with rcTrim := 0, bgTrim := 0 } }

/-- NV_REFCLK runs: enabled, and REFCLK present (14 R310). -/
def State.nvRefclk (s : State) : Bool := s.ck.nvRef && s.ck.refValid

/-- CLOCK_CONFIG (14 R315). -/
def execClockConfig (h : Hdr) (p : Rec) (s : State) : Out := done (s.command cmdClockConfig h p)
/-- CLOCK_STEP (14 R315). -/
def execClockStep (h : Hdr) (p : Rec) (s : State) : Out := done (s.command cmdClockStep h p)
/-- CLOCK_RAMP (14 R304). -/
def execClockRamp (h : Hdr) (p : Rec) (s : State) : Out := done (s.command cmdClockRamp h p)
/-- CLOCK_RAMP_STOP (14 R315). -/
def execClockRampStop (h : Hdr) (p : Rec) (s : State) : Out := done (s.command cmdClockRampStop h p)
/-- CLOCK_STATUS (14 R315). -/
def execClockStatus (h : Hdr) (p : Rec) (s : State) : Out := done (s.command cmdClockStatus h p)
/-- HK_COMP_READ (14 R315). -/
def execHkCompRead (h : Hdr) (p : Rec) (s : State) : Out := done (s.command cmdHkCompRead h p)
/-- GENLOCK_STEP (14 R305). -/
def execGenlockStep (s : State) : Out := done s.genlockStep
/-- CLOCK_RAMP_STEP (14 R304). -/
def execClockRampStep (pll : Nat) (s : State) : Out := done (s.clockRampStep pll)
/-- REFCLK_LOSS: no rising edge for 40 ns (14 R307). -/
def execRefclkLoss (s : State) : Out := done (s.loseRef 0 s.ck.refErr)
/-- REFCLK_FREQ_CHECK (14 R307). -/
def execRefclkFreqCheck (ppm : Int) (s : State) : Out := done (s.refclkFreqCheck ppm)
/-- REFCLK_RESTORE (14 R311). -/
def execRefclkRestore (ppm : Int) (s : State) : Out := done (s.refclkRestore ppm)
/-- PLL_LOCK_LOSS (14 R309). -/
def execPllLockLoss (pll : Nat) (s : State) : Out := done (s.pllLockLoss pll)
/-- PLL_RELOCK (14 R311). -/
def execPllRelock (pll : Nat) (s : State) : Out := done (s.pllRelock pll)
/-- HK_CRYSTAL_START (14 R299). -/
def execHkCrystalStart (s : State) : Out := done { s with ck := { s.ck with hkCrystal := true } }
/-- HK_CRYSTAL_STOP: HKOSC returns to the RC oscillator and raises CLOCK_REF (14 R299). -/
def execHkCrystalStop (s : State) : Out :=
  done (if s.ck.hkCrystal then
    ({ s with ck := { s.ck with hkCrystal := false } }).raise 0x0A01 1
      (2 * 3 + 65536 * pattern 16 (clampI (-32768) 32767 s.ck.hkErr))
  else s)
/-- HK_MEASURE (14 R314). -/
def execHkMeasure (ppm : Int) (s : State) : Out := done (s.hkMeasure ppm)
/-- SSC_TURNING_POINT: a changed SYS_SSC takes effect; spread continues while SYSPLL coasts (14 R301, R310). -/
def execSscTurningPoint (s : State) : Out :=
  done (if (at_ s.ck.plls 0).locked || (at_ s.ck.plls 0).coast then { s with ck := { s.ck with sysSsc := byteAt s.ck.cfg 0 } } else s)

end Sys2Proof.Machine
end

