-- ==== Sys2Proof/Machine/Tick.lean ====
section
/-! DEFINITION. Tick sources and the commands of chapter 02 on the tick and the armature record. -/
namespace Sys2Proof.Machine

/-! ## Tick sources (02 R35, R36) -/

/-- Change the record kept of a listed source (ids 1 to 3). -/
def State.tref (s : State) (id : Nat) (f : TickRef → TickRef) : State :=
  { s with tk := { s.tk with refs := upd s.tk.refs (id - 1) f } }

/-- A reference at `t` lies within ±2 % of a nominal tick period of the time predicted from the last one: one period
later (02 R35). -/
def inWindow (mode : Nat) (last t : Int) : Bool :=
  let (c, n) := cadence mode
  decide (((t - last) * c - n).natAbs * 50 ≤ n)

/-- The period averaged over the last 8 ticks lies within ±300 ppm of the nominal period (02 R35). -/
def periodOk (mode : Nat) (refs : List Int) : Bool :=
  match refs[0]?, refs[8]? with
  | some (a : Int), some (b : Int) =>
    let (c, n) := cadence mode
    decide (((a - b) * (c : Int) - 8 * (n : Int)).natAbs * 1000000 ≤ 300 * 8 * n)
  | _, _ => false

/-- A whole average over 8 ticks is known. -/
def periodKnown (refs : List Int) : Bool := decide (9 ≤ refs.length)

/-- SYNC_IN_DELAY is less than the base tick of a mode (02 R35, R38). -/
def State.delayOk (s : State) (mode : Nat) : Bool := decide (s.tk.syncInDelay < baseTick mode)

/-- A source meets every condition of validity of 02 R35 in the live mode. -/
def State.sourceMeets (s : State) (id : Nat) : Bool :=
  let r := at_ s.tk.refs (id - 1)
  r.inWindow == 8 && periodOk s.liveMode r.refs && (id != 3 || decide (s.tk.stampAge < 64)) &&
    (id != 2 || s.delayOk s.liveMode) && (id != 1 || !s.isRoot)

/-- A source is valid; the internal source always is (02 R35). -/
def State.sourceValid (s : State) (id : Nat) : Bool := id == 4 || (at_ s.tk.refs (id - 1)).valid

/-- The sources of the priority list in falling priority, the internal source last (02 R36, R50). -/
def State.prioList (s : State) : List Nat := (s.tk.prio.map BitVec.toNat).filter (fun i => i != 0) ++ [4]

/-- The highest-listed valid source (02 R36). -/
def State.bestSource (s : State) : Nat := (s.prioList.find? s.sourceValid).getD 4

/-- A listed source becomes invalid: if it is active, TICK_COAST, and SEQPLL is held at FREQ_EST (02 R36, 14 R308). -/
def State.loseSource (s : State) (id reason : Nat) : State :=
  if (at_ s.tk.refs (id - 1)).valid then
    let s := s.tref id fun r => { r with valid := false }
    if s.tk.active = id then
      let s := { s with
        tk := { s.tk with reason := 1 },
        ck := { s.ck with goal := if (at_ s.ck.plls 1).coast then none else some (clampI (-30000) 30000 s.ck.freqEst) } }
      s.raise 0x0202 0 (id + 256 * reason)
    else s
  else s

/-- PHASE_ERR: the reference minus the nearest local boundary (02 R50). -/
def State.phaseOf (s : State) (t : Int) : Int :=
  let d := t - s.tk.start
  if 2 * d ≤ s.tk.len then d else d - s.tk.len

/-- A reference of a listed source arrives at instant `t`; `window` tells whether it lay in the ±2 % window. -/
def State.refArrive (s : State) (id : Nat) (t : Int) (window : Bool) : State :=
  let s := s.tref id fun r => { r with
    refs := (t :: r.refs).take 9, sums := (s.ofsAt t :: r.sums).take 9,
    inWindow := if window then min 8 (r.inWindow + 1) else 0,
    misses := if window then 0 else r.misses + 1 }
  let s := if s.tk.active = id then { s with tk := { s.tk with phaseErr := s.phaseOf t } } else s
  let r := at_ s.tk.refs (id - 1)
  if 2 ≤ r.misses then s.loseSource id 1
  else if r.valid ∧ periodKnown r.refs ∧ periodOk s.liveMode r.refs = false then s.loseSource id 2
  else if s.sourceMeets id then s.tref id fun r => { r with valid := true } else s

/-- A reference of a source arrives at `t`, judged against its last reference. The first one has no prediction. -/
def State.refAt (s : State) (id : Nat) (t : Int) : State :=
  match (at_ s.tk.refs (id - 1)).refs with
  | [] => s.tref id fun r => { r with refs := [t], sums := [s.ofsAt t] }
  | last :: _ => s.refArrive id t (inWindow s.liveMode last t)

/-- A reference is missing, or arrived outside its window: it counts as a miss, and the prediction moves on by one
period (02 R35). -/
def State.refMissing (s : State) (id : Nat) (outside : Bool) : State :=
  if id < 1 ∨ 3 < id then s else
  let (c, n) := cadence s.liveMode
  let s := s.tref id fun r => { r with
    refs := match r.refs with
      | [] => []
      | last :: _ => ((last + n / c) :: r.refs).take 9
    sums := match r.refs with
      | [] => []
      | last :: _ => (s.ofsAt (last + n / c) :: r.sums).take 9
    inWindow := 0, misses := r.misses + 1 }
  if 2 ≤ (at_ s.tk.refs (id - 1)).misses then s.loseSource id (if outside then 1 else 0) else s

/-- Re-evaluate every source against a new nominal period (02 R38): one that no longer meets R35 becomes invalid, one that now
meets it valid. -/
def State.rejudgeSources (s : State) : State :=
  [1, 2, 3].foldl (fun s id =>
    let r := at_ s.tk.refs (id - 1)
    if r.valid then
      if id = 2 ∧ s.delayOk s.liveMode = false then s.loseSource 2 4
      else if periodOk s.liveMode r.refs = false then s.loseSource id 2 else s
    else if s.sourceMeets id then s.tref id fun r => { r with valid := true } else s) s

/-! ## Commands (02 R50) -/

/-- MODE_SET changes the maquette's mode. -/
def cmdModeSet : Cmd where
  op := 0x0200
  len := lenIs 1
  run := fun _ p s =>
    if modeOk (byteAt p 0) then
      ok { s with com := { s.com with maq := { s.com.maq with mode := p.getD 0 0 } } }
    else refuse cBadParam s

/-- ARMATURE_WRITE writes bytes of the maquette's 528-byte buffer. -/
def cmdArmatureWrite : Cmd where
  op := 0x0201
  len := lenByField 4 2
  run := fun _ p s =>
    let o := u16 p 0
    let n := u16 p 2
    if inRange 0 527 o && inRange 1 236 n && decide (o + n ≤ 528) then
      ok { s with com := { s.com with maq :=
        { s.com.maq with armature := overlay s.com.maq.armature o (slice p 4 n) } } }
    else refuse cBadParam s

/-- ARMATURE_READ reads bytes of the maquette's or the live buffer. -/
def cmdArmatureRead : Cmd where
  op := 0x0202
  len := lenIs 6
  run := fun _ p s =>
    let o := u16 p 2
    let n := u16 p 4
    if inRange 0 1 (byteAt p 0) && inRange 0 527 o && inRange 1 240 n && decide (o + n ≤ 528) then
      okWith (slice (if byteAt p 0 = 0 then s.com.maq.armature else s.com.live.armature) o n) s
    else refuse cBadParam s

/-- PRIO: ids 0 to 3, no id repeated, none after an empty place (02 R50). -/
def prioOk : List Nat → Bool
  | [] => true
  | 0 :: t => t.all fun x => x == 0
  | i :: t => decide (i ≤ 3) && !t.contains i && prioOk t

/-- TICK_SOURCE_SET takes effect on its reply; a switch it causes is made at the next boundary. A pulse of SYNC_OUT under way ends
with its enable, and an enabled output waits for the next boundary (02 R42). Where the command changes which source is the highest valid one,
it is what causes the switch (02 R51). References that have been taken keep the SYNC_IN_DELAY
of their edge, and the next edge is judged against them (DESIGN CHOICE, assumption 117). -/
def cmdTickSourceSet : Cmd where
  op := 0x0203
  len := lenIs 12
  run := fun _ p s =>
    let delay := u32 p 8
    let old := s.bestSource
    if prioOk ((p.take 4).map BitVec.toNat) && inRange 0 1 (byteAt p 4) && inRange 1 65535 (u16 p 6) &&
        decide (delay < baseTick s.liveMode) then
      let s := { s with tk := { s.tk with
        prio := p.take 4, syncInKind := p.getD 4 0, syncOutCtl := p.getD 5 0, syncOutWidth := u16 p 6,
        syncInDelay := delay, syncUntil := if bit (byteAt p 5) 0 then s.tk.syncUntil else 0 } }
      let s := if s.sourceMeets 2 then s.tref 2 fun r => { r with valid := true } else s
      let new := s.bestSource
      ok { s with tk := { s.tk with reason := if new = old then s.tk.reason else if new = s.tk.active then 0 else 2 } }
    else refuse cBadParam s

/-- STATE of TICK_STATUS: 0 locked, 1 steering, 2 coasting, 3 internal (14 R306, R308, R310). -/
def State.tickState (s : State) : Nat :=
  if !s.ck.refValid || (at_ s.ck.plls 1).coast then 2
  else if s.tk.active = 4 then 3
  else if s.sourceValid s.tk.active then s.tk.track else 2

/-- TICK_STATUS. While the internal source is active, which has no reference, PHASE_ERR keeps its last value (DESIGN CHOICE,
assumption 117). -/
def cmdTickStatus : Cmd where
  op := 0x0204
  len := lenIs 0
  run := fun _ _ s =>
    okWith (le 4 s.tk.tick.toNat ++ le 4 s.offset ++ le 1 s.tk.active ++ le 1 s.tickState ++ [s.com.live.mode] ++
      le 1 (maskOf (false :: [1, 2, 3, 4].map s.sourceValid)) ++ leI 4 s.tk.phaseErr ++
      leI 4 (at_ s.ck.plls 1).offset) s

/-- The instant of a tick boundary at a host time: the doorbell's instant plus the host time that separates them, 2.5 ns
per tu (02 R39). -/
def stampInstant (doorbell : Nat) (hostTick hostDoorbell : Nat) : Int :=
  doorbell + roundDiv (2 * ((hostTick : Int) - hostDoorbell)) 5

/-- The nine values, newest first, that two values `n` ticks apart give: the line through both. -/
def stampRefs (a b : Int) (n : Nat) : List Int :=
  (List.range 9).map fun k => b - roundDiv ((b - a) * k) n

/-- The number of ticks from the current tick to a numbered one, negative for a past one (02 R41). -/
def State.boundariesTo (s : State) (no : W32) : Int := (no - s.tk.tick).toInt

/-- Where the last stamp puts the boundary that opened the running tick: its instant less the ticks between them at the source's
period, or at the nominal one while that is not known (02 R39). -/
def State.stampHere (s : State) : Option Int := s.tk.stampLast.map fun (no, x, _) =>
  let (c, n) := cadence s.liveMode
  let d := s.boundariesTo no
  match (at_ s.tk.refs 2).refs[8]? with
  | some old => x - roundDiv ((x - old) * d) 8
  | none => x - roundDiv (d * n) c

/-- TICK_STAMP: a phase reference from host times; a stamp for the current or a past tick counts for validity only
(02 R35, R39, R41). -/
def State.tickStamp (s : State) (p : Rec) : State :=
  let s := { s with tk := { s.tk with stampAge := 0 } }
  let tick := u32 p 0
  if s.tickKind tick ≠ 1 then (if s.sourceMeets 3 then s.tref 3 fun r => { r with valid := true } else s) else
  let x := stampInstant (s.mbx.doorbell.getD s.now) (u64 p 4) (u64 p 12)
  let sum := s.ofsAt x
  let prev := s.tk.stampLast
  let s := { s with tk := { s.tk with stampLast := some (BitVec.ofNat 32 tick, x, sum) } }
  let s := if s.tk.active = 3 then
      { s with tk := { s.tk with phaseErr := x - s.boundaryAt (s.tickDist tick) } } else s
  match prev with
  | none => s
  | some (t0, x0, sum0) =>
    let n := (BitVec.ofNat 32 tick - t0).toNat
    if n = 0 ∨ 2 ^ 31 ≤ n then s else
    let (c, nn) := cadence s.liveMode
    let near := decide (((x - x0) * c - n * nn).natAbs * 50 ≤ nn)
    let s := s.tref 3 fun r => { r with
      refs := stampRefs x0 x n, sums := stampRefs sum0 sum n, inWindow := if near then min 8 (r.inWindow + n) else 0,
      misses := if near then 0 else r.misses + 1 }
    let r := at_ s.tk.refs 2
    if 2 ≤ r.misses then s.loseSource 3 1
    else if r.valid ∧ periodOk s.liveMode r.refs = false then s.loseSource 3 2
    else if s.sourceMeets 3 then s.tref 3 fun r => { r with valid := true } else s

/-- TICK_STAMP. -/
def cmdTickStamp : Cmd where
  op := 0x0205
  len := lenIs 20
  run := fun _ p s => ok (s.tickStamp p)

/-- MODE_SET (02 R50). -/
def execModeSet (h : Hdr) (p : Rec) (s : State) : Out := done (s.command cmdModeSet h p)
/-- ARMATURE_WRITE (02 R50). -/
def execArmatureWrite (h : Hdr) (p : Rec) (s : State) : Out := done (s.command cmdArmatureWrite h p)
/-- ARMATURE_READ (02 R50). -/
def execArmatureRead (h : Hdr) (p : Rec) (s : State) : Out := done (s.command cmdArmatureRead h p)
/-- TICK_SOURCE_SET (02 R50). -/
def execTickSourceSet (h : Hdr) (p : Rec) (s : State) : Out := done (s.command cmdTickSourceSet h p)
/-- TICK_STATUS (02 R50). -/
def execTickStatus (h : Hdr) (p : Rec) (s : State) : Out := done (s.command cmdTickStatus h p)
/-- TICK_STAMP (02 R39). -/
def execTickStamp (h : Hdr) (p : Rec) (s : State) : Out := done (s.command cmdTickStamp h p)
/-- SYNC_IN_EDGE: the reference is the edge plus SYNC_IN_DELAY (02 R35). -/
def execSyncInEdge (s : State) : Out := done (s.refAt 2 (s.now + s.tk.syncInDelay))
/-- TICK_REFERENCE_MISSING (02 R35). -/
def execTickReferenceMissing (source : Nat) (outside : Bool) (s : State) : Out := done (s.refMissing source outside)

end Sys2Proof.Machine
end

