-- ==== Sys2Proof/Machine/Layers.lean ====
section
/-! DEFINITION. Layer descriptors, formats, the fetch budgets of admission, the scaler's coefficients, and the commands
of chapter 03. -/
namespace Sys2Proof.Machine

/-! ## The descriptor (03 R53, R55) -/

def lyEnable (d : Rec) : Bool := bit (byteAt d 0) 0
def lyLive (d : Rec) : Bool := bit (byteAt d 0) 1
def lySource (d : Rec) : Nat := bits (byteAt d 0) 3 2
def lyZ (d : Rec) : Nat := byteAt d 1
def lyFormat (d : Rec) : Nat := u16 d 2
def lyBufW (d : Rec) : Nat := u16 d 4
def lyBufH (d : Rec) : Nat := u16 d 6
def lyAddrY (d : Rec) : Nat := u64 d 0x08
def lyAddrC (d : Rec) : Nat := u64 d 0x10
def lyAddrCr (d : Rec) : Nat := u64 d 0x18
def lyAddrA (d : Rec) : Nat := u64 d 0x20
def lyStrideY (d : Rec) : Nat := u32 d 0x28
def lyStrideC (d : Rec) : Nat := u32 d 0x2C
def lyStrideA (d : Rec) : Nat := u32 d 0x30
def lyCropX (d : Rec) : Nat := u16 d 0x34
def lyCropY (d : Rec) : Nat := u16 d 0x36
def lyCropW (d : Rec) : Nat := u16 d 0x38
def lyCropH (d : Rec) : Nat := u16 d 0x3A
def lyDstX (d : Rec) : Int := i16 d 0x3C
def lyDstY (d : Rec) : Int := i16 d 0x3E
def lyDstW (d : Rec) : Nat := u16 d 0x40
def lyDstH (d : Rec) : Nat := u16 d 0x42
def lyAlpha (d : Rec) : Nat := u16 d 0x44
def lyMatrix (d : Rec) : Nat := bits (byteAt d 0x46) 1 0
def lyFullRange (d : Rec) : Bool := bit (byteAt d 0x46) 2
def lyTransfer (d : Rec) : Nat := bits (byteAt d 0x46) 5 4
def lyFilterH (d : Rec) : Nat := bits (byteAt d 0x47) 3 0
def lyFilterV (d : Rec) : Nat := bits (byteAt d 0x47) 7 4
def lyPhaseH (d : Rec) : Int := i16 d 0x48
def lyPhaseV (d : Rec) : Int := i16 d 0x4A
def lyMaskColour (d : Rec) : Nat := u32 d 0x4C
def lyFence (d : Rec) : Nat := u64 d 0x50
def lyFreezeN (d : Rec) : Nat := byteAt d 0x58
/-- CLIP_ID of a descriptor with SOURCE 2. -/
def lyClip (d : Rec) : Nat := u32 d 0x08

/-- LAYOUT, SUBSAMPLING, DEPTH, siting and mask bits of a FORMAT (03 R55). -/
def fmLayout (f : Nat) : Nat := bits f 1 0
def fmSub (f : Nat) : Nat := bits f 3 2
def fmDepth (f : Nat) : Nat := match bits f 5 4 with
  | 0 => 8
  | 1 => 10
  | 2 => 12
  | _ => 16
def fmSiteH (f : Nat) : Bool := bit f 6
def fmSiteV (f : Nat) : Bool := bit f 7
def fmAlpha (f : Nat) : Bool := bit f 8
def fmAlpha16 (f : Nat) : Bool := bit f 9
def fmMask (f : Nat) : Bool := bit f 10

/-- Container size of a sample and of an alpha sample in bytes (03 R56, R57). -/
def fmBytes (f : Nat) : Nat := if fmDepth f = 8 then 1 else 2
def fmABytes (f : Nat) : Nat := if fmAlpha16 f then 2 else 1
def fmLumaOnly (f : Nat) : Bool := fmLayout f == 2
/-- Chroma is halved horizontally (4:2:0, 4:2:2) and vertically (4:2:0). -/
def fmHalfH (f : Nat) : Bool := !fmLumaOnly f && decide (fmSub f ≤ 1)
def fmHalfV (f : Nat) : Bool := !fmLumaOnly f && fmSub f == 0

/-- Bytes of a luma row, of a row of each chroma plane and of an alpha row for a width of `w` luma samples (03 R57). -/
def lumaRow (f w : Nat) : Nat := w * fmBytes f
def chromaRow (f w : Nat) : Nat :=
  if fmLayout f = 0 then (if fmSub f = 2 then 2 * w * fmBytes f else w * fmBytes f)
  else if fmLayout f = 1 then (if fmSub f = 2 then w * fmBytes f else w / 2 * fmBytes f)
  else 0
def alphaRow (f w : Nat) : Nat := w * fmABytes f

/-- The planes a FORMAT uses: 0 luma, 1 Cb or CbCr, 2 Cr, 3 alpha. -/
def fmPlanes (f : Nat) : List Nat :=
  [0] ++ (if fmLumaOnly f then [] else [1]) ++ (if fmLayout f = 1 then [2] else []) ++ (if fmAlpha f then [3] else [])

def lyPlaneAddr (d : Rec) (plane : Nat) : Nat := match plane with
  | 0 => lyAddrY d
  | 1 => lyAddrC d
  | 2 => lyAddrCr d
  | _ => lyAddrA d

def lyPlaneStride (d : Rec) (plane : Nat) : Nat := match plane with
  | 0 => lyStrideY d
  | 3 => lyStrideA d
  | _ => lyStrideC d

/-- Where a row of a plane begins, counted within the crop, and its first byte within the row: plane address + k × stride, and the
columns from CROP_X on (03 R56); of a subsampled plane CROP_X ÷ 2 and CROP_Y ÷ 2. -/
def rowOffset (d : Rec) (plane row stride : Nat) : Nat :=
  let f := lyFormat d
  let chroma := plane = 1 ∨ plane = 2
  let y := row + if chroma ∧ fmHalfV f then lyCropY d / 2 else lyCropY d
  let x := if chroma ∧ fmHalfH f then lyCropX d / 2 else lyCropX d
  let size := if plane = 3 then fmABytes f else if plane = 1 ∧ fmLayout f = 0 then 2 * fmBytes f else fmBytes f
  y * stride + x * size

/-- Bytes of a row of a plane for a width. -/
def planeRow (f plane w : Nat) : Nat := match plane with
  | 0 => lumaRow f w
  | 3 => alphaRow f w
  | _ => chromaRow f w

/-- B_line (03 R57). -/
def bLine (d : Rec) : Nat :=
  let f := lyFormat d
  let w := lyCropW d
  (if fmLumaOnly f then lumaRow f w else if fmSub f = 2 then 3 * lumaRow f w else 2 * lumaRow f w) +
    (if fmAlpha f then alphaRow f w else 0)

/-! ## Checks at LAYER_WRITE (03 R52, R54) -/

/-- Coded fields, judged in every descriptor. -/
def layerCodedOk (d : Rec) : Bool :=
  let f := lyFormat d
  let okFilter := fun n : Nat => decide (n ≤ 4 ∨ 8 ≤ n)
  lySource d != 3 && decide (lyZ d ≤ 7) && fmLayout f != 3 && fmSub f != 3 &&
    (!fmLumaOnly f || fmSub f == 0) && (fmLumaOnly f || !fmMask f) && decide (lyMatrix d ≤ 1) &&
    decide (lyTransfer d ≤ 2) && okFilter (lyFilterH d) && okFilter (lyFilterV d)

/-- Addresses and strides of the planes that the FORMAT uses, for SOURCE 0 or 1. -/
def layerPlanesOk (d : Rec) : Bool :=
  lySource d == 2 || (fmPlanes (lyFormat d)).all fun k =>
    lyPlaneAddr d k % 256 == 0 && lyPlaneStride d k % 256 == 0 &&
      decide (planeRow (lyFormat d) k (lyBufW d) ≤ lyPlaneStride d k)

def even (n : Nat) : Bool := n % 2 == 0

/-- DST ÷ CROP from 1/4 to 8. -/
def scaleOk (dst crop : Nat) : Bool := decide (crop ≤ 4 * dst) && decide (dst ≤ 8 * crop)

/-- Size and range fields of an enabled descriptor. -/
def layerRangeOk (d : Rec) : Bool :=
  let f := lyFormat d
  inRange 16 8192 (lyBufW d) && inRange 16 8192 (lyBufH d) && inRange 1 8192 (lyCropW d) &&
    inRange 1 8192 (lyCropH d) && inRange 1 32767 (lyDstW d) && inRange 1 32767 (lyDstH d) && layerPlanesOk d &&
    decide (lyCropX d + lyCropW d ≤ lyBufW d) && decide (lyCropY d + lyCropH d ≤ lyBufH d) &&
    (!fmHalfH f || (even (lyBufW d) && even (lyCropX d) && even (lyCropW d))) &&
    (!fmHalfV f || (even (lyBufH d) && even (lyCropY d) && even (lyCropH d))) &&
    scaleOk (lyDstW d) (lyCropW d) && scaleOk (lyDstH d) (lyCropH d)

def layerOk (d : Rec) : Bool := layerCodedOk d && (!lyEnable d || layerRangeOk d)

/-! ## Budgets (03 R67, R68, R70) -/

/-- r_v and D. -/
def lyRv (d : Rec) : Nat := ceilDiv (lyCropH d) (lyDstH d)
def lyDemand (d : Rec) : Nat := bLine d * lyRv d

/-- HOST_LAT of FETCH_CONFIG in ns. -/
def hostLatNs (c : Cfg) : Nat := 100 * u16 c.fetchCfg 0

/-- Tag demand of a layer: ceil(D ÷ LT_LINE ÷ 2.5 × L ÷ 256). -/
def lyTags (c : Cfg) (d : Rec) : Nat :=
  let l := if lySource d = 1 then hostLatNs c else 2000
  ceilDiv (lyDemand d * vTotal c.mode.toNat * 2 * l) (baseTick c.mode.toNat * 5 * 256)

def Cfg.enabled (c : Cfg) : List Rec := c.layers.filter lyEnable

/-- Line-buffer demand of R68. -/
def Cfg.lineBuffer (c : Cfg) : Nat :=
  (c.enabled.map fun d => bLine d * (8 + lyRv d) + 256 * lyTags c d).sum

/-- FETCH_LOAD: the largest of the three ratios of R67 in units of 1/1,000, rounded up. -/
def Cfg.fetchLoad (c : Cfg) : Nat :=
  let m := c.mode.toNat
  let dOf := fun (host : Bool) => ((c.enabled.filter fun d => (lySource d == 1) == host).map lyDemand).sum
  max (ceilDiv (dOf false * vTotal m * 1000) (250 * baseTick m))
    (max (ceilDiv (dOf true * vTotal m * 1000) (60 * baseTick m)) (ceilDiv (c.lineBuffer * 1000) 6029312))

/-- The sum of tag demands with 8 tags for each enabled layer that names a fence (03 R70). -/
def Cfg.tagSum (c : Cfg) : Nat := (c.enabled.map fun d => lyTags c d + if lyFence d = 0 then 0 else 8).sum

def Cfg.tagLoad (c : Cfg) : Nat := ceilDiv (c.tagSum * 1000) (c.allot.getD 0 0)
def Cfg.tagsOk (c : Cfg) : Bool := decide (c.tagSum ≤ c.allot.getD 0 0)

/-! ## Scaler coefficients (03 R63) -/

/-- π to 20 decimal places. -/
def piRat : Rat := 314159265358979323846 / 100000000000000000000

/-- Taylor terms of sin at `x`: the term of order 2k + 1 and those after it. -/
def sinTerms (x2 : Rat) : Nat → Nat → Rat → Rat
  | 0, _, _ => 0
  | n + 1, k, t => t + sinTerms x2 n (k + 1) (-t * x2 / ((2 * k + 2) * (2 * k + 3)))

/-- sin(πu), the argument reduced to −1 to 1. -/
def sinPi (u : Rat) : Rat :=
  let v := u - 2 * ((u / 2 + 1 / 2).floor : Int)
  let x := piRat * v
  sinTerms (x * x) 14 0 x

def sinc (u : Rat) : Rat := if u = 0 then 1 else sinPi u / (piRat * u)

/-- Raw tap i of phase p at cutoff 1 ÷ n. -/
def rawTap (n p i : Nat) : Rat :=
  let t : Rat := (i : Rat) - 3 - (p : Rat) / 64
  (1 / (n : Rat)) * sinc (t / n) * sinc (t / 4)

/-- The position of the tap of largest magnitude, lowest on a tie. -/
def argMaxAbs : List Int → Nat
  | [] => 0
  | x :: xs => (xs.foldl (fun (st : Nat × Nat × Nat) y =>
      let (i, best, m) := st
      if m < y.natAbs then (i + 1, i + 1, y.natAbs) else (i + 1, best, m)) (0, 0, x.natAbs)).2.1

/-- The eight built-in taps of phase p at cutoff 1 ÷ n, summing to 16,384. -/
def builtinTaps (n p : Nat) : List Int :=
  let raw := (List.range 8).map (rawTap n p)
  let c := raw.map fun k => roundRat (16384 * k / raw.sum)
  upd c (argMaxAbs c) fun x => x + (16384 - c.sum)

/-- The cutoff 1 ÷ n of the automatic set: the largest f not greater than DST ÷ CROP, 1 when the ratio is 1 or more. -/
def autoCutoff (dst crop : Nat) : Nat :=
  if crop ≤ dst then 1 else if crop ≤ 2 * dst then 2 else if crop ≤ 3 * dst then 3 else 4

/-- The taps that a FILTER nibble selects for a phase. -/
def Cfg.taps (c : Cfg) (nibble dst crop p : Nat) : List Int :=
  if nibble = 0 then builtinTaps (autoCutoff dst crop) p
  else if nibble ≤ 4 then builtinTaps nibble p
  else (builtinTaps 1 p).mapIdx fun i x => x + spGet 0 c.filters (512 * (nibble - 8) + 8 * p + i)

/-! ## Scaler positions (03 R61, R62) -/

/-- STEP = CROP ÷ DST in Q16.16, rounded to nearest. -/
def scalerStep (crop dst : Nat) : Int := roundDiv (crop * 65536) dst

/-- s of output position x, with 32 fraction bits. -/
def scalerPos (crop dst : Nat) (phase : Int) (x : Nat) : Int :=
  scalerStep crop dst * (2 * x + 1) * 2 ^ 15 - 2 ^ 31 + phase * 2 ^ 17

/-- s_c of a subsampled direction: (s − σ) ÷ 2, σ 0.5 for interstitial siting. -/
def chromaPos (site : Bool) (s : Int) : Int := (s - if site then 2 ^ 31 else 0).fdiv 2

/-- floor(s) and the phase index floor(frac(s) × 64). -/
def posFloor (s : Int) : Int := s.fdiv (2 ^ 32)
def posPhase (s : Int) : Nat := ((s.fmod (2 ^ 32)) * 64 / 2 ^ 32).toNat

/-- The eight sample indices of a position, each moved to the nearest inside 0 to n − 1. -/
def tapIndices (s : Int) (n : Nat) : List Nat :=
  (List.range 8).map fun i => (clampI 0 ((n : Int) - 1) (posFloor s - 3 + i)).toNat

/-- (Σ c × sample + 8,192) ÷ 16,384, truncated towards minus infinity. -/
def tapSum (c xs : List Int) : Int := ((List.zipWith (· * ·) c xs).sum + 8192).fdiv 16384

/-! ## Commands (03 R78) -/

/-- LAYER_WRITE replaces one maquette descriptor after its checks. -/
def cmdLayerWrite : Cmd where
  op := 0x0300
  len := lenIs 100
  run := fun _ p s =>
    let d := slice p 4 96
    if decide (byteAt p 0 ≤ 7) && layerOk d then
      ok { s with com := { s.com with maq :=
        { s.com.maq with layers := upd s.com.maq.layers (byteAt p 0) fun _ => d } } }
    else refuse cBadParam s

/-- LAYER_READ. -/
def cmdLayerRead : Cmd where
  op := 0x0301
  len := lenIs 2
  run := fun _ p s =>
    if decide (byteAt p 0 ≤ 1) && decide (byteAt p 1 ≤ 7) then
      okWith (at_ (if byteAt p 0 = 0 then s.com.maq.layers else s.com.live.layers) (byteAt p 1)) s
    else refuse cBadParam s

/-- The taps of a FILTER_WRITE payload, phase by phase. -/
def filterRows (p : Rec) (count : Nat) : List (List Int) :=
  (List.range count).map fun k => (List.range 8).map fun i => i16 p (4 + 16 * k + 2 * i)

/-- FILTER_WRITE loads phases of a custom set. -/
def cmdFilterWrite : Cmd where
  op := 0x0302
  len := lenByCount8 4 2 16
  run := fun _ p s =>
    let set := byteAt p 0
    let first := byteAt p 1
    let count := byteAt p 2
    let rows := filterRows p count
    if inRange 8 15 set && decide (first ≤ 63) && inRange 1 14 count && decide (first + count ≤ 64) &&
        rows.all (fun r => r.sum == 16384) then
      let m := (rows.zipIdx).foldl (fun m (r, k) =>
        spPut 0 m (512 * (set - 8) + 8 * (first + k))
          (List.zipWith (· - ·) r (builtinTaps 1 (first + k)))) s.com.maq.filters
      ok { s with com := { s.com with maq := { s.com.maq with filters := m } } }
    else refuse cBadParam s

/-- BACKGROUND_SET. -/
def cmdBackgroundSet : Cmd where
  op := 0x0303
  len := lenIs 12
  run := fun _ p s =>
    ok { s with com := { s.com with maq :=
      { s.com.maq with background := [bits (u32 p 0) 19 0, bits (u32 p 4) 19 0, bits (u32 p 8) 19 0] } } }

/-- Allotments that sum to 16,384, each at least its minimum (03 R69). -/
def allotOk (a : List Nat) : Bool :=
  a.sum == 16384 && decide (1024 ≤ a.getD 0 0) && decide (256 ≤ a.getD 1 0) && decide (64 ≤ a.getD 2 0) &&
    decide (256 ≤ a.getD 3 0)

/-- TAG_ALLOT. -/
def cmdTagAllot : Cmd where
  op := 0x0304
  len := lenIs 8
  run := fun _ p s =>
    let a := [u16 p 0, u16 p 2, u16 p 4, u16 p 6]
    if allotOk a then ok { s with com := { s.com with maq := { s.com.maq with allot := a } } }
    else refuse cBadParam s

/-- FETCH_CONFIG. -/
def cmdFetchConfig : Cmd where
  op := 0x0305
  len := lenIs 8
  run := fun _ p s =>
    if inRange 10 640 (u16 p 0) && inRange 40 10000 (u16 p 2) then
      ok { s with com := { s.com with maq := { s.com.maq with fetchCfg := p } } }
    else refuse cBadParam s

/-- LAYER_WRITE (03 R52). -/
def execLayerWrite (h : Hdr) (p : Rec) (s : State) : Out := done (s.command cmdLayerWrite h p)
/-- LAYER_READ (03 R78). -/
def execLayerRead (h : Hdr) (p : Rec) (s : State) : Out := done (s.command cmdLayerRead h p)
/-- FILTER_WRITE (03 R78). -/
def execFilterWrite (h : Hdr) (p : Rec) (s : State) : Out := done (s.command cmdFilterWrite h p)
/-- BACKGROUND_SET (03 R78). -/
def execBackgroundSet (h : Hdr) (p : Rec) (s : State) : Out := done (s.command cmdBackgroundSet h p)
/-- TAG_ALLOT (03 R69). -/
def execTagAllot (h : Hdr) (p : Rec) (s : State) : Out := done (s.command cmdTagAllot h p)
/-- FETCH_CONFIG (03 R78). -/
def execFetchConfig (h : Hdr) (p : Rec) (s : State) : Out := done (s.command cmdFetchConfig h p)
end Sys2Proof.Machine
end

