-- ==== Sys2Proof/Machine/Clips.lean ====
section
/-! DEFINITION. What other chapters read of the content store (19 R412 to R415, R420): clip records, the staging pool, the layout of
the volume with the NVMe commands that it takes, and the frames of play states. -/
namespace Sys2Proof.Machine

def clId (r : Rec) : Nat := u32 r 0
def clType (r : Rec) : Nat := byteAt r 4
def clSealed (r : Rec) : Bool := byteAt r 5 == 1
def clBytes (r : Rec) : Nat := u64 r 8
/-- Extents as (START_BLOCK, BLOCKS). -/
def clExtents (r : Rec) : List (Nat × Nat) := (List.range 4).map fun i => (u32 r (0x10 + 8 * i), u32 r (0x14 + 8 * i))
def clInfo (r : Rec) : Rec := slice r 0x38 64

def inFormat (i : Rec) : Nat := u16 i 0
def inBufW (i : Rec) : Nat := u16 i 2
def inBufH (i : Rec) : Nat := u16 i 4
def inHold (i : Rec) : Nat := u16 i 6
def inFrames (i : Rec) : Nat := u32 i 8
def inFrameBytes (i : Rec) : Nat := u32 i 0x0C
/-- OFF and STRIDE of a plane. -/
def inOff (i : Rec) (plane : Nat) : Nat := u32 i (0x10 + 4 * plane)
def inStride (i : Rec) (plane : Nat) : Nat := match plane with
  | 0 => u32 i 0x20
  | 3 => u32 i 0x28
  | _ => u32 i 0x24
def inPtFormat (i : Rec) : Nat := byteAt i 0
def inPtPeriod (i : Rec) : Nat := u32 i 4
def inPoints (i : Rec) : Nat := u32 i 8

/-- The store is MOUNTED. -/
def State.mounted (s : State) : Bool := s.cs.state == 3

/-- The record of a clip in use, with its index. -/
def State.clip (s : State) (id : Nat) : Option (Nat × Rec) := s.cs.table.find? fun x => clId x.2 == id

/-- Staging allotted to play states, those in place and those that replace them at the next boundary. -/
def State.playBytes (s : State) : Nat :=
  ((s.cs.plays ++ s.cs.playWait).map fun p => match p with
    | some x => x.bytes
    | none => 0).sum

/-- Bytes of the pool not allotted. -/
def State.poolFree (s : State) : Nat := s.cs.poolBytes - (s.playBytes + s.cs.rings.sum)

/-- The staging ring of a head: 1 MiB (19 R422). -/
def ringBytes : Nat := 1048576

/-- Set the staging ring of a head. -/
def State.setRing (s : State) (n bytes : Nat) : State := { s with cs := { s.cs with rings := upd s.cs.rings n fun _ => bytes } }

/-! ## Volume layout (19 R412) -/

def lbaBytes : Nat := 4096
def blockBytes : Nat := 1048576
def blockLba (b : Nat) : Nat := 2048 + 256 * b
def volumeBlocks (lbas : Nat) : Nat := (lbas - 2048) / 256

/-- The LBA and the byte within it at which a clip record lies. -/
def recordPlace (i : Nat) : Nat × Nat := (1024 + i / 32, 128 * (i % 32))

/-- The runs of LBAs, as (LBA, count), of `n` LBAs of content from LBA `k` of it on: content runs through the extents in order. -/
def contentRuns : List (Nat × Nat) → Nat → Nat → List (Nat × Nat)
  | [], _, _ => []
  | (b, m) :: l, k, n =>
    if 256 * m ≤ k then contentRuns l (k - 256 * m) n
    else
      let here := min n (256 * m - k)
      if n = 0 then [] else (blockLba b + k, here) :: contentRuns l 0 (n - here)

/-- A run in pieces of at most `unit` LBAs. -/
def splitRun (unit : Nat) (x : Nat × Nat) : List (Nat × Nat) :=
  (List.range (ceilDiv x.2 (max 1 unit))).map fun i => (x.1 + max 1 unit * i, min (max 1 unit) (x.2 - max 1 unit * i))

/-- The Reads or Writes of runs of LBAs, each of at most `unit` LBAs; the data of a Write lie in host memory from `host` on, or in the
LPDDR5X. An operation with nothing to move is one Flush (DESIGN CHOICE, assumption 95). -/
def dataSteps (write : Bool) (unit : Nat) (runs : List (Nat × Nat)) (host : Option Nat) : List DriveStep :=
  let l := ((runs.map (splitRun unit)).flatten.foldl (fun (st : List DriveStep × Nat) x =>
    (st.1 ++ [.data write x.1 x.2 (host.map fun a => a + lbaBytes * st.2)], st.2 + x.2)) ([], 0)).1
  if l = [] then [.flush] else l

/-- The commands that move `len` bytes of a clip's content from `ofs` on, which is a multiple of 4,096 (19 R410, R412). -/
def State.contentSteps (s : State) (write : Bool) (r : Rec) (ofs len : Nat) (host : Option Nat) : List DriveStep :=
  dataSteps write s.cs.unit (contentRuns (clExtents r) (ofs / lbaBytes) (ceilDiv len lbaBytes)) host

/-- The write of a clip record: its LBA, then Flush (19 R416). -/
def recordSteps (i : Nat) : List DriveStep := [.data true (recordPlace i).1 1 none, .flush]

/-- The deallocation of a record's blocks (19 R410). -/
def freeSteps (r : Rec) : List DriveStep := ((clExtents r).filter fun e => decide (0 < e.2)).map fun e => .dealloc (blockLba e.1) (256 * e.2)

/-- LBA runs of the volume that a format writes 0: all but the superblocks and the data blocks (19 R412). -/
def zeroRuns : List (Nat × Nat) := [(2, 1022), (1024, 128), (1152, 896)]

/-- The commands of a format: the cleared table with the reserved LBAs, both superblocks, each with its Flush, and the deallocation of
every data block. -/
def formatSteps (unit blocks : Nat) : List DriveStep :=
  dataSteps true unit zeroRuns none ++ [.flush, .data true 0 1 none, .flush, .data true 1 1 none, .flush,
    .dealloc (blockLba 0) (256 * blocks), .flush]

/-! ## Frames of a play state (19 R419, R420) -/

/-- The frame shown `k` boundaries after the start. -/
def Play.frameAt (p : Play) (hold frames k : Nat) : Nat :=
  let i := p.first + k / max 1 hold
  if p.loop then i % max 1 frames else min i (frames - 1)

/-- The frame lit in the tick opened `d` boundaries from now (19 R420). -/
def State.playFrame (s : State) (p : Play) (d : Nat) : Nat :=
  let i := match s.clip p.clip with
    | some (_, r) => clInfo r
    | none => []
  if p.started then p.frameAt (inHold i) (inFrames i) (p.sinceStart + d)
  else if d < p.startAt then p.first
  else p.frameAt (inHold i) (inFrames i) (d - p.startAt)

/-- The frames needed, the one composed now first, at most STAGE_FRAMES. -/
def State.framesNeeded (s : State) (p : Play) : List Nat :=
  let hold := match s.clip p.clip with
    | some (_, r) => max 1 (inHold (clInfo r))
    | none => 1
  (((List.range (hold * p.stage)).map fun j => s.playFrame p (j + 1)).eraseDups).take p.stage

/-- The commands that read frame f of a clip, which lies at content byte f × FRAME_BYTES (19 R415). -/
def State.frameSteps (s : State) (id f : Nat) : List DriveStep := match s.clip id with
  | some (_, r) => s.contentSteps false r (f * inFrameBytes (clInfo r)) (inFrameBytes (clInfo r)) none
  | none => [.flush]

/-- How soon a layer's play state needs a frame of a clip: the boundaries to the one that opens its compose tick, and a large number
for a frame it needs no more. -/
def State.needOf (s : State) (l clip f : Nat) : Nat := match s.cs.plays.getD l none with
  | none => 65535
  | some p =>
    let hold := match s.clip p.clip with
      | some (_, r) => max 1 (inHold (clInfo r))
      | none => 1
    if p.clip ≠ clip then 65535
    else ((List.range (hold * p.stage)).findIdx? fun j => s.playFrame p (j + 1) == f).getD 65535

end Sys2Proof.Machine
end

