-- ==== Sys2Proof/Machine/Requests.lean ====
section
/-! DEFINITION. Requests to memories and to the drive: the tag pool, reads and fences in flight (03 R69 to R73, 04 R94), drive
operations (19 R410 to R412, R421), and latency tolerance (03 R72, R74). -/
namespace Sys2Proof.Machine

/-! ## Tags and reads in flight (03 R69, R71, R73; 11 R255) -/

/-- Tags held by a class: 0 LAYER, 1 POINT, 2 NVME, 3 DMA. -/
def State.tags (s : State) (cls : Nat) : Nat := s.fetch.held.getD cls 0

/-- Tags a class may take now: within its allotment and free in the pool. -/
def State.tagRoom (s : State) (cls : Nat) : Nat :=
  min (s.com.live.allot.getD cls 0 - s.tags cls) (16384 - s.fetch.held.sum)

def State.takeTags (s : State) (cls n : Nat) : State :=
  let held := upd s.fetch.held cls fun v => v + n
  { s with fetch := { s.fetch with held := held, layerPeak := max s.fetch.layerPeak (held.getD 0 0) } }
def State.returnTags (s : State) (cls n : Nat) : State :=
  { s with fetch := { s.fetch with held := upd s.fetch.held cls fun v => v - n } }

/-- A request for the LPDDR5X ends self-refresh at once. -/
def State.wake (s : State) : State := { s with fetch := { s.fetch with selfRefresh := false } }

/-- No request goes to host memory: the link is down, Bus Master Enable is clear, or the device is in D3hot (17 R356). -/
def State.hostBlocked (s : State) : Bool := !s.mbx.busMaster || s.mbx.d3hot || !s.mbx.linkUp

/-- Most tags one user holds. -/
def userCap (u : ReadUser) : Nat := match u with
  | .layerRow _ _ _ => 16384
  | .points _ => 32
  | .castCopy => 64

/-- The tags a user holds. -/
def State.userTags (s : State) (u : ReadUser) : Nat := ((s.fetch.inflight.filter fun e => e.user == u).map InFlight.tags).sum

/-- The next place among the requests. -/
def State.nextAsk (s : State) : State := { s with fetch := { s.fetch with asked := s.fetch.asked + 1 } }

/-- What waits is given up because host memory is out of reach: a layer's row ends in an error (17 R356, 03 R76). The point ring
of a head waits and goes on later. -/
def State.refuseAt (s : State) (i : Nat) : State :=
  match (at_ s.fetch.inflight i).user with
  | .layerRow l p r =>
    let bad := fun (x : LineRow) => if x.layer = l ∧ x.plane = p ∧ x.row = r then { x with failed := true } else x
    { s with fetch := { s.fetch with
        inflight := upd s.fetch.inflight i fun e => { e with left := 0 }, lines := s.fetch.lines.map bad } }
  | _ => s

/-- Issue what the entry at a place may issue; layer fetch issues no request in plinth (03 R73). -/
def State.issueAt (s : State) (cls i : Nat) : State :=
  let e := at_ s.fetch.inflight i
  let n := min e.left (min (s.tagRoom cls) (userCap e.user - s.userTags e.user))
  if e.cls ≠ cls ∨ n = 0 ∨ s.inTrip ∨ (s.chi.plinth ∧ cls = 0) then s
  else if e.host ∧ s.hostBlocked then s.refuseAt i else
  let s := { s with fetch := { s.fetch with
    inflight := upd s.fetch.inflight i fun e => { e with tags := e.tags + n, left := e.left - n } } }
  let s := s.takeTags cls n
  if e.host then s else s.wake

/-- Read the start or the end word of a fence, as far as a tag is free (04 R94). One that falls due as plinth begins is read when plinth
is over: layer fetch issues no request in it (03 R73; DESIGN CHOICE, assumption 121). -/
def State.issueFence (s : State) (i : Nat) : State :=
  let f := at_ s.com.fences i
  let host := f.buf.source == 1
  let put := fun (s : State) (g : Fence → Fence) => { s with com := { s.com with fences := upd s.com.fences i g } }
  let st := fun (s : State) (v : Nat) => put s fun f => if f.startSt = 0 then { f with startSt := v } else { f with endSt := v }
  if s.inTrip ∨ s.chi.plinth ∨ (f.startSt ≠ 0 ∧ (f.endSt ≠ 0 ∨ f.endDue = false)) then s
  else if host ∧ s.hostBlocked then st s 3
  else if s.tagRoom 0 = 0 then s
  else
    let s := st (s.takeTags 0 1) 1
    if host then s else s.wake

/-- The requests of a class that wait, each with its place in the order asked: reads (false) and fence reads (true). -/
def State.waiting (s : State) (cls : Nat) : List (Nat × Bool × Nat) :=
  let reads := (indices s.fetch.inflight fun e => e.cls == cls && decide (0 < e.left)).map fun i =>
    ((at_ s.fetch.inflight i).no, false, i)
  let fence := fun (i : Nat) => let f := at_ s.com.fences i
    (if f.startSt = 0 then [(f.startNo, true, i)] else []) ++ (if f.endDue ∧ f.endSt = 0 then [(f.endNo, true, i)] else [])
  let fences := if cls = 0 then ((List.range s.com.fences.length).map fence).flatten else []
  sortBy (fun a b => decide (a.1 ≤ b.1)) (fences ++ reads)

/-- A class issues its requests in the order its users asked (03 R71). -/
def State.pumpReads (s : State) (cls : Nat) : State :=
  let s := (s.waiting cls).foldl (fun (s : State) x => if x.2.1 then s.issueFence x.2.2 else s.issueAt cls x.2.2) s
  { s with fetch := { s.fetch with inflight := s.fetch.inflight.filter fun e => decide (0 < e.tags + e.left) } }

/-- A user asks for `n` reads. -/
def State.addReads (s : State) (u : ReadUser) (cls n : Nat) (host : Bool) (buf : Buffer) (key : Nat) : State :=
  if n = 0 then s else
  let s := s.nextAsk
  ({ s with fetch := { s.fetch with
    inflight := s.fetch.inflight ++ [InFlight.mk u cls 0 n host buf key s.fetch.asked] } }).pumpReads cls

/-! ### Drive operations (19 R411) -/

/-- The order of precedence; the records that mount frees come with the uploads (DESIGN CHOICE, assumption 95). -/
def opRank (u : NvmeUse) : Nat := match u with
  | .clipFrame _ _ _ => 0
  | .points _ _ _ => 1
  | .command op _ => if op = 0x0E09 ∨ op = 0x0485 then 2 else 3
  | .tidy => 3

/-- Precedence, and among frames of layer clips the order of need (19 R411, R421). -/
def State.opKey (s : State) (o : NvmeOp) : Nat := match o.use with
  | .clipFrame l clip f => s.needOf l clip f
  | u => 65536 * opRank u

/-- A clip plays on some layer. -/
def State.clipPlays (s : State) : Bool := s.cs.plays.any fun p => p.isSome

/-- NVME tags held by uploads and read-backs. -/
def State.uploadTags (s : State) : Nat := ((s.cs.ops.filter fun o => opRank o.use == 3).map NvmeOp.tags).sum

/-- The operations that bring the memory out of self-refresh in plinth: those that stage points and casts (01 R20, 03 R73). -/
def servesPlinth (u : NvmeUse) : Bool := match u with
  | .points _ _ _ => true
  | .command op _ => op == 0x0485
  | .clipFrame _ _ _ => false
  | .tidy => false

/-- The LBAs of 4 KiB that a command moves, and whether it reads them from host memory. -/
def DriveStep.lbas (x : DriveStep) : Nat := match x with
  | .data _ _ n _ => n
  | .flush => 0
  | .dealloc _ _ => 0
def DriveStep.fromHost (x : DriveStep) : Bool := match x with
  | .data _ _ _ host => host.isSome
  | .flush => false
  | .dealloc _ _ => false

/-- An operation has a command to issue but for want of tags: a Flush waits for the commands before it, and what follows waits for the
Flush; frames of layer clips wait while layer fetch stops in plinth; while a clip plays, uploads keep to a quarter of the allotment; data
in host memory wait while that is out of reach (17 R356; DESIGN CHOICE, assumption 95). -/
def State.opReady (s : State) (o : NvmeOp) : Bool := match o.todo with
  | [] => false
  | x :: _ => !o.barrier && !s.inTrip && (x != DriveStep.flush || o.tags == 0) && !(s.chi.plinth && opRank o.use == 0) &&
      (opRank o.use != 3 || !s.clipPlays || decide (4 * (s.uploadTags + 1) ≤ s.com.live.allot.getD 2 0)) &&
      !(x.fromHost && s.hostBlocked)

/-- The place of the operation that issues next: by precedence, then by age. One that lacks tags holds up those after it (DESIGN
CHOICE, assumption 95). -/
def State.nextOp (s : State) : Option Nat :=
  let key := fun (i : Nat) => s.opKey (at_ s.cs.ops i)
  (indices s.cs.ops s.opReady).foldl (fun (b : Option Nat) i => match b with
    | none => some i
    | some x => if key i < key x then some i else b) none

/-- A command of `n` LBAs finds an NVME tag, a DMA tag for each 4 KiB and a place in a queue. -/
def State.opRoom (s : State) (n : Nat) : Bool :=
  decide (1 ≤ s.tagRoom 2) && decide (n ≤ s.tagRoom 3) && decide (s.fetch.held.sum + 1 + n ≤ 16384) &&
    decide ((s.cs.ops.map NvmeOp.tags).sum < s.cs.slots)

/-- Issue what may be issued: one NVME tag for each command and a DMA tag for each 4 KiB it moves (19 R411). -/
def State.pumpOps : Nat → State → State
  | 0, s => s
  | n + 1, s => match s.nextOp with
    | none => s
    | some i =>
      let o := at_ s.cs.ops i
      let x := o.todo.headD DriveStep.flush
      if s.opRoom x.lbas = false then s else
      let s := { s with cs := { s.cs with
        ops := upd s.cs.ops i fun o => { o with todo := o.todo.tail, tags := o.tags + 1, barrier := x == DriveStep.flush } } }
      let s := (s.takeTags 2 1).takeTags 3 x.lbas
      (if x.lbas = 0 ∨ (s.chi.plinth ∧ servesPlinth o.use = false) then s else s.wake).pumpOps n

/-- A new operation. -/
def State.addOp (s : State) (u : NvmeUse) (steps : List DriveStep) : State :=
  let s := { s with cs := { s.cs with ops := s.cs.ops ++ [NvmeOp.mk u steps 0 false 0 0] } }
  s.pumpOps (s.tagRoom 2)

/-- Tags that have become free are offered to the users of the pool in their order (01 R23): layer fetch, point streams, drive
operations with their transfers. -/
def State.offerTags (s : State) : State :=
  let s := (s.pumpReads 0).pumpReads 1
  s.pumpOps (s.tagRoom 2)

/-- A read of a user has finished: its tag returns, and what waits for one is issued. Answers the entry, and none where
the user has no read in flight. -/
def State.readDone (s : State) (u : ReadUser) : Option InFlight × State :=
  match s.fetch.inflight.findIdx? fun e => e.user == u && decide (0 < e.tags) with
  | none => (none, s)
  | some i =>
    let e := at_ s.fetch.inflight i
    let e := { e with tags := e.tags - 1 }
    let l := upd s.fetch.inflight i fun _ => e
    let s := { s with fetch := { s.fetch with inflight := l.filter fun x => decide (0 < x.tags + x.left) } }
    (some e, (s.returnTags e.cls 1).offerTags)

/-- Reads not issued are given up; those in flight still return their tags (23 R474). -/
def State.dropReads (s : State) : State :=
  { s with fetch := { s.fetch with
    inflight := (s.fetch.inflight.map fun e => { e with left := 0 }).filter fun e => decide (0 < e.tags) } }

/-! ## LTR (03 R72, R74) -/

/-- ns of a number of tu. -/
def nsOf (tu : Nat) : Nat := tu * 5 / 2

/-- LT_DDR and LT_HOST fall with elapsed time from the values of the last line start (03 R72): the ns since then. -/
def State.sinceLine (s : State) (t : Nat) : Nat :=
  nsOf (t - (s.tk.start + lineOffset s.liveMode s.tk.len (s.fetch.line - 1)))

/-- The stated tolerances as they stand at an instant, in ns. -/
def State.ltDdrAt (s : State) (t : Nat) : Nat := s.fetch.ltDdr - s.sinceLine t
def State.ltHostAt (s : State) (t : Nat) : Nat := s.fetch.ltHost - s.sinceLine t

/-- The largest LTR value and scale not above x. -/
def ltrEncode (x : Nat) : Nat := ((List.range 6).map fun k => min 1023 (x / 32 ^ k) * 32 ^ k).foldl max 0

/-- LTR is enabled in FETCH_CONFIG and by the host. -/
def State.ltrOn (s : State) : Bool := s.mbx.ltrEnable && bit (byteAt s.com.live.fetchCfg 4) 0

/-- A layer with SOURCE 1 is live. -/
def Cfg.hostLayer (c : Cfg) : Bool := c.layers.any fun d => lyEnable d && lySource d == 1

/-- An LTR message with a latency, or with both requirement bits clear. -/
def State.ltrSend (s : State) (x : Option Nat) (t : Nat) : State :=
  let v := match x with
    | none => 0xFFFFFFFF
    | some n => ltrEncode n
  { s with fetch := { s.fetch with ltrLast := BitVec.ofNat 32 v, ltrAt := t } }

/-- Messages are sent for host layers: LTR is on, one is live, and no plinth. -/
def State.ltrRuns (s : State) : Bool := s.ltrOn && !s.chi.plinth && s.com.live.hostLayer

/-- The messages of the last compose line up to an instant: LT_HOST falls with elapsed time, and each time it has fallen below 7/8 of
the last value sent a message goes at once (03 R74). -/
def State.ltrFalls (t : Nat) : Nat → State → State
  | 0, s => s
  | n + 1, s =>
    let start := s.tk.start + lineOffset s.liveMode s.tk.len (s.fetch.line - 1)
    let last := s.fetch.ltrLast.toNat
    let at_ := start + ceilDiv (2 * (s.fetch.ltHost + 1 - ceilDiv (7 * last) 8)) 5
    if last = 0 ∨ last = 0xFFFFFFFF ∨ s.fetch.ltHost < ceilDiv (7 * last) 8 ∨ t < at_ then s
    else ltrFalls t n (s.ltrSend (some (s.ltHostAt at_)) at_)

/-- LTR up to an instant of the running tick. -/
def State.ltrTo (s : State) (t : Nat) : State :=
  if s.ltrRuns && s.tk.open_ && decide (0 < s.fetch.line) && !s.inTrip then State.ltrFalls t 256 s else s

/-- The message of a compose line start. A rise is sent at most once per 100 µs, counted from the last message of any kind (DESIGN
CHOICE, assumption 121). -/
def State.ltrLine (s : State) : State :=
  if s.ltrOn = false then s
  else if s.ltrRuns = false then (if s.fetch.ltrLast = 0xFFFFFFFF then s else s.ltrSend none s.now)
  else
    let last := s.fetch.ltrLast.toNat
    let x := s.fetch.ltHost
    if s.fetch.ltrLast = 0xFFFFFFFF ∨ 8 * x < 7 * last then s.ltrSend (some x) s.now
    else if 2 * last < x ∧ 100 * tuUs ≤ s.now - s.fetch.ltrAt then s.ltrSend (some x) s.now else s

/-- FETCH_STATUS, with the LTR messages that have gone by now; the peak of LAYER tags starts again from the tags held. -/
def cmdFetchStatus : Cmd where
  op := 0x0306
  len := lenIs 0
  run := fun _ _ s =>
    let s := s.ltrTo s.now
    let f := s.fetch
    okWith ((f.underruns.map fun c => le 4 c.toNat).flatten ++ (f.held.map (le 2)).flatten ++ le 4 f.ltDdr ++
      le 4 f.ltHost ++ le 4 f.ltrLast.toNat ++ le 4 f.srCount.toNat ++ le 2 f.layerPeak ++ zeros 2)
      { s with fetch := { f with layerPeak := f.held.getD 0 0 } }

/-- FETCH_STATUS (03 R78). -/
def execFetchStatus (h : Hdr) (p : Rec) (s : State) : Out := done (s.command cmdFetchStatus h p)

end Sys2Proof.Machine
end

