-- ==== Sys2Proof/Machine/Colour.lean ====
section
/-! DEFINITION. Layer colour into the composition space, the primaries, tables, clip and dither, and the commands of
chapter 05. -/
namespace Sys2Proof.Machine

/-! ## COLOUR_CONFIG (05 R122) -/

def Cfg.compPeak (c : Cfg) : Nat := u16 c.colour 0
def Cfg.sdrWhite (c : Cfg) : Nat := u16 c.colour 2
def Cfg.hlgPeak (c : Cfg) : Nat := u16 c.colour 4
def Cfg.rollKnee (c : Cfg) : Nat := u16 c.colour 6
def Cfg.primaries (c : Cfg) : Nat := byteAt c.colour 8
def Cfg.clipMode (c : Cfg) : Bool := bit (byteAt c.colour 9) 0
def Cfg.ditherMode (c : Cfg) : Nat := bits (byteAt c.colour 9) 2 1
def Cfg.clipAlert (c : Cfg) : Nat := u16 c.colour 0x0A

/-! ## Real functions in fixed point with 64 fraction bits

The exact results of R103 to R105 to far better than the tolerance of R108. -/

def fxOne : Nat := 2 ^ 64
def fxMul (a b : Int) : Int := a * b / fxOne
def fxDiv (a b : Int) : Int := a * fxOne / b

/-- ln 2 in fixed point. -/
def fxLn2 : Int := 12786308645202655660

/-- Σ y^(2k+1) ÷ (2k + 1) from term k on. -/
def atanhTerms (y2 : Int) : Nat → Nat → Int → Int
  | 0, _, _ => 0
  | n + 1, k, t => t / (2 * k + 1) + atanhTerms y2 n (k + 1) (fxMul t y2)

/-- ln of a positive fixed-point value. -/
def fxLn (x : Nat) : Int :=
  let e := Nat.log2 x
  let m : Int := (x * fxOne / 2 ^ e : Nat)
  let y := fxDiv (m - fxOne) (m + fxOne)
  2 * atanhTerms (fxMul y y) 24 0 y + ((e : Int) - 64) * fxLn2

/-- Σ r^k ÷ k! from term k on. -/
def expTerms (r : Int) : Nat → Nat → Int → Int
  | 0, _, _ => 0
  | n + 1, k, t => t + expTerms r n (k + 1) (fxMul t r / (k + 1))

/-- exp of a fixed-point value. -/
def fxExp (x : Int) : Int :=
  let k := x.fdiv fxLn2
  let v := expTerms (x - k * fxLn2) 26 0 fxOne
  if 0 ≤ k then v * 2 ^ k.toNat else v / 2 ^ (-k).toNat

/-- x^p for x ≥ 0. -/
def fxPow (x p : Int) : Int := if x ≤ 0 then 0 else fxExp (fxMul p (fxLn x.toNat))

/-- A decimal fraction in fixed point. -/
def fxRat (a b : Nat) : Int := (a * fxOne / b : Nat)
def fxOfRat (q : Rat) : Int := (q * fxOne).floor

/-! ## Transfer functions (05 R103 to R105) -/

/-- BT.1886: SDR_WHITE ÷ COMP_PEAK × V^2.4. -/
def bt1886 (c : Cfg) (v : Int) : Int := fxPow v (fxRat 24 10) * c.sdrWhite / c.compPeak

/-- SMPTE ST 2084: F ÷ COMP_PEAK. -/
def pq (c : Cfg) (v : Int) : Int :=
  let vp := fxPow v (fxDiv fxOne (fxRat 2523 32))
  let num := max 0 (vp - fxRat 3424 4096)
  let den := fxRat 2413 128 - fxMul (fxRat 2392 128) vp
  fxPow (fxDiv num den) (fxDiv fxOne (fxRat 2610 16384)) * 10000 / c.compPeak

/-- BT.2100 HLG inverse OETF. -/
def hlgScene (v : Int) : Int :=
  if 2 * v ≤ fxOne then fxMul v v / 3
  else (fxExp (fxDiv (v - fxRat 55991073 100000000) (fxRat 17883277 100000000)) + fxRat 28466892 100000000) / 12

/-- Kr and Kb of a MATRIX in 1/10,000 (03 R60). -/
def krKb (matrix : Nat) : Nat × Nat := if matrix = 0 then (2126, 722) else (2627, 593)

/-- HLG with the system gamma of HLG_PEAK. -/
def hlg (c : Cfg) (matrix : Nat) (v : List Int) : List Int :=
  let e := v.map hlgScene
  let (kr, kb) := krKb matrix
  let ys := (kr * e.getD 0 0 + (10000 - kr - kb) * e.getD 1 0 + kb * e.getD 2 0) / 10000
  let gamma1 := fxRat 2 10 + fxMul (fxRat 42 100) (fxDiv (fxLn (c.hlgPeak * fxOne / 1000)) (fxLn (10 * fxOne)))
  let g := fxPow ys gamma1
  e.map fun x => fxMul g x * c.hlgPeak / c.compPeak

/-- Linear components in the layer's own primaries (05 R102 stage 1). -/
def linearise (c : Cfg) (d : Rec) (v : List Int) : List Int :=
  match lyTransfer d with
  | 0 => v.map (bt1886 c)
  | 1 => v.map (pq c)
  | _ => hlg c (lyMatrix d) v

/-- BT.709 to BT.2020 primaries (05 R106). -/
def toBt2020 (d : Rec) (v : List Int) : List Int :=
  if lyMatrix d = 0 then
    [[6274, 3293, 433], [691, 9195, 114], [164, 880, 8956]].map fun row =>
      (List.zipWith (fun (k : Int) x => k * x) row v).sum / 10000
  else v

/-- Roll-off of PQ and HLG layers (05 R107). -/
def rollOff (c : Cfg) (d : Rec) (v : List Int) : List Int :=
  if lyTransfer d = 0 then v else
  let m := v.foldl max 0
  let k : Int := fxRat c.rollKnee 65536
  if c.rollKnee = 0 then (if (fxOne : Int) < m then v.map fun x => fxDiv x m else v)
  else if k < m then
    let t := fxDiv (m - k) (fxOne - k)
    let y := k + fxMul (fxOne - k) (fxDiv t (fxOne + t))
    v.map fun x => fxDiv (fxMul x y) m
  else v

/-- Rounding to a 20-bit code, off by the implementation's interpolation within the tolerance of 05 R108. -/
def toCode (err : Int) (x : Int) : Nat :=
  let v := x * 1048575
  let exact := (2 * v + fxOne).fdiv (2 * fxOne)
  let tol := max 2 (exact.natAbs / 2000)
  (clampI 0 1048575 (exact + clampI (-tol) tol err)).toNat

/-- Non-linear R′G′B′, each 0 to 1, into composition codes (05 R102). -/
def toComposition (c : Cfg) (d : Rec) (rgb : List Rat) : List Nat :=
  let v := rgb.map fxOfRat
  (rollOff c d (toBt2020 d (linearise c d v))).mapIdx fun i x => toCode (Config.transferErr v i) x

/-! ## Y′CbCr to R′G′B′ (03 R60) -/

def clamp01 (q : Rat) : Rat := max 0 (min 1 q)

/-- Normalised luma and colour difference of 16-bit scaled samples of depth d. -/
def normY (d : Rec) (y : Int) : Rat :=
  let n := fmDepth (lyFormat d)
  let v : Rat := (y : Rat) / 2 ^ (16 - n)
  if lyFullRange d then v / (2 ^ n - 1) else (v - 16 * 2 ^ (n - 8)) / (219 * 2 ^ (n - 8))

def normC (d : Rec) (x : Int) : Rat :=
  let n := fmDepth (lyFormat d)
  let v : Rat := (x : Rat) / 2 ^ (16 - n)
  if lyFullRange d then (v - 2 ^ (n - 1)) / (2 ^ n - 1) else (v - 128 * 2 ^ (n - 8)) / (224 * 2 ^ (n - 8))

/-- R′, G′, B′ of 16-bit scaled Y, Cb, Cr; a luma-only layer is grey. -/
def toRgb (d : Rec) (y cb cr : Int) : List Rat :=
  let ny := normY d y
  if fmLumaOnly (lyFormat d) then [clamp01 ny, clamp01 ny, clamp01 ny]
  else
    let (kr, kb) := krKb (lyMatrix d)
    let kr : Rat := kr / 10000
    let kb : Rat := kb / 10000
    let r := ny + 2 * (1 - kr) * normC d cr
    let b := ny + 2 * (1 - kb) * normC d cb
    let g := (ny - kr * r - kb * b) / (1 - kr - kb)
    [clamp01 r, clamp01 g, clamp01 b]

/-- MASK_COLOUR as full-range R′G′B′ (03 R53, R65). -/
def maskRgb (d : Rec) : List Rat :=
  let m := lyMaskColour d
  [(bits m 29 20 : Rat) / 1023, (bits m 19 10 : Rat) / 1023, (bits m 9 0 : Rat) / 1023]

/-! ## Primaries (05 R110, R111) -/

/-- Matrix coefficient of row i, column j. -/
def Cfg.coef (c : Cfg) (i j : Nat) : Int := c.matrix.getD (3 * i + j) 0

/-- x_j: a composite code as a 24-bit fraction, rounded to nearest. -/
def compX (code : Nat) : Int := roundDiv (code * 2 ^ 24) 1048575

/-- p_i in Q4.28 from the inputs x_j. -/
def Cfg.matrixOut (c : Cfg) (i : Nat) (x : List Int) : Int :=
  let sum := c.coef i 0 * x.getD 0 0 + c.coef i 1 * x.getD 1 0 + c.coef i 2 * x.getD 2 0
  clampI (-(2 ^ 31)) (2 ^ 31 - 1) (roundDiv sum (2 ^ 28))

/-- Entry k of the identity table: (k − 1,024) × 2^19. -/
def identEntry (k : Nat) : Int := ((k : Int) - 1024) * 2 ^ 19

/-- Entry k of table i as a 32-bit word. -/
def Cfg.entry (c : Cfg) (i k : Nat) : W32 :=
  BitVec.ofInt 32 (identEntry k) + spGet 0 (at_ c.tables i) k

/-- The entry as the lookup reads it: the identity value where the word has a double-bit error (05 R112). -/
def Cfg.entryVal (c : Cfg) (bad : List (Nat × Nat)) (i k : Nat) : Int :=
  if bad.contains (i, k) then identEntry k else (c.entry i k).toInt

/-- t_i in Q2.30 (05 R111). -/
def Cfg.lookup (c : Cfg) (bad : List (Nat × Nat)) (i : Nat) (p : Int) : Int :=
  let u := clampI 0 (4095 * 2 ^ 17) (p + 2 ^ 27)
  let k := (u / 2 ^ 17).toNat
  let f := u % 2 ^ 17
  if k < 4095 then
    let a := c.entryVal bad i k
    let b := c.entryVal bad i (k + 1)
    roundDiv (a * 2 ^ 17 + f * (b - a)) (2 ^ 17)
  else c.entryVal bad i 4095

/-- WT_i: the table output for composite white, of the tables as the commit carries them (05 R113). -/
def Cfg.white (c : Cfg) (i : Nat) : Int := c.lookup [] i (c.matrixOut i [2 ^ 24, 2 ^ 24, 2 ^ 24])

/-! ## Clip (05 R113) -/

def q30 (t : Int) : Rat := (t : Rat) / 2 ^ 30

/-- s: how far the pixel may stay from grey. Where a table maps white below 0, so that g = t below 0, the quotient is a division by 0,
of which the spec says nothing; the model takes 0 (DESIGN CHOICE, assumption 122). -/
def clipScale (ts gs : List Rat) : Rat :=
  (List.zip ts gs).foldl (fun s (t, g) =>
    let s := if 1 < t ∧ g < 1 then min s ((1 - g) / (t - g)) else s
    if t < 0 then min s (g / (g - t)) else s) 1

/-- q_i of the hue-preserving clip, or plain clamping with CLIP_MODE 0. -/
def clipOut (mode : Bool) (ts gs : List Rat) : List Rat :=
  if mode then
    let s := clipScale ts gs
    let q := List.zipWith (fun t g => g + s * (t - g)) ts gs
    let m := q.foldl max 0
    let q := if 1 < m then q.map fun x => x / m else q
    q.map clamp01
  else ts.map clamp01

/-- q carried in 24 bits, 1.0 exact. -/
def q24 (q : Rat) : Nat := (roundRat (q * 16777215)).toNat

/-! ## Dither (05 R115, R116) -/

/-- The built-in mask set (05 R117): each phase holds every value 16k + 8 exactly once, in the places that the keys order. -/
def builtinMask (phase k : Nat) : W16 :=
  let key := Config.maskKey phase
  BitVec.ofNat 16 (16 * ((List.range 4096).filter fun j =>
    decide (key j < key k) || (key j == key k && decide (j < k))).length + 8)

/-- A value of the active mask set; 32,768 where the word has a double-bit error. -/
def maskVal (u : ColourUnit) (phase k : Nat) : Nat :=
  if u.badMask.contains (phase, k) then 32768
  else (builtinMask phase k + spGet 0 (at_ u.active phase) k).toNat

/-- θ × 65,536 for a pixel and primary (05 R115, R116); `f` is the tick counter during the compose tick. -/
def theta (c : Cfg) (u : ColourUnit) (f i x y : Nat) : Nat :=
  if c.ditherMode = 0 then 32768
  else
    let phase := if c.ditherMode = 1 then 0 else (f + i) % 8
    maskVal u phase (64 * ((y + 29 * i) % 64) + (x + 17 * i) % 64)

/-- The output code at depth d: min(floor(L + θ), 2^d − 1). -/
def ditherCode (q d th : Nat) : Nat :=
  min ((q * (2 ^ d - 1) * 65536 + th * 16777215) / (16777215 * 65536)) (2 ^ d - 1)

/-! ## One pixel -/

structure PixelOut where
  p : List Int
  t : List Int
  q : List Nat
  codes : List Nat
  overs : List Bool
  unders : List Bool
  clipped : Bool
  deriving DecidableEq, Repr, Inhabited

/-- The pipeline of chapter 05 for one composite pixel. `depths` are the plane depths of the cast, 0 for a primary it
does not name. -/
def pixelOut (c : Cfg) (u : ColourUnit) (depths : List Nat) (f x y : Nat) (comp : List Nat) : PixelOut :=
  let n := c.primaries
  let xs := comp.map compX
  let p := (List.range n).map fun i => c.matrixOut i xs
  let t := p.mapIdx fun i v => c.lookup u.badTable i v
  let fr : Nat → Rat := fun j => (comp.getD j 0 : Rat) / 1048575
  let yc : Rat := 2627 / 10000 * fr 0 + 6780 / 10000 * fr 1 + 593 / 10000 * fr 2
  let gs := (List.range n).map fun i => yc * q30 (c.white i)
  let ts := t.map q30
  let qs := clipOut c.clipMode ts gs
  let q := qs.map q24
  let codes := q.mapIdx fun i v =>
    let d := depths.getD i 0
    if d = 0 then 0 else ditherCode v d (theta c u f i x y)
  { p := p, t := t, q := q, codes := codes, overs := ts.map fun v => decide (1 < v),
    unders := ts.map fun v => decide (v < 0), clipped := decide (qs ≠ ts) }

/-- The clip counts with one more pixel, each saturating (05 R114). -/
def ClipStats.add (a : ClipStats) (o : PixelOut) : ClipStats :=
  let bump := fun (l : List Nat) (bs : List Bool) => l.mapIdx fun i n => sat 32 (n + b2n (bs.getD i false))
  { a with overs := bump a.overs o.overs, unders := bump a.unders o.unders, clip := sat 32 (a.clip + b2n o.clipped) }

/-- The capture of PIXEL_PROBE (05 R122). Primaries at or above NUM_PRIMARIES, which the pipeline does not compute, read 0: the spec does
not say what they read (DESIGN CHOICE, assumption 122). -/
def probeBytes (tick : W32) (x y : Nat) (comp : List Nat) (o : PixelOut) : Rec :=
  let pad := fun (l : List Int) => (l ++ List.replicate (8 - l.length) 0).map fun v => leI 4 v
  le 4 tick.toNat ++ le 2 x ++ le 2 y ++ (comp.map (le 4)).flatten ++ (pad o.p).flatten ++ (pad o.t).flatten ++
    (pad (o.q.map Int.ofNat)).flatten ++
    ((o.codes ++ List.replicate (8 - o.codes.length) 0).map (le 2)).flatten

/-! ## Commands (05 R122) -/

/-- COLOUR_CONFIG. -/
def colourCfgOk (p : Rec) : Bool :=
  inRange 100 10000 (u16 p 0) && inRange 10 (u16 p 0) (u16 p 2) && inRange 400 4000 (u16 p 4) &&
    (u16 p 6 == 0 || decide (0x8000 ≤ u16 p 6)) && inRange 1 8 (byteAt p 8) && bits (byteAt p 9) 2 1 != 3

def cmdColourConfig : Cmd where
  op := 0x0400
  len := lenIs 16
  run := fun _ p s =>
    if colourCfgOk p then ok { s with com := { s.com with maq := { s.com.maq with colour := p } } }
    else refuse cBadParam s

/-- MATRIX_WRITE: rows of 8-byte containers, bits [63:40] ignored. -/
def cmdMatrixWrite : Cmd where
  op := 0x0401
  len := lenByCount8 8 1 24
  run := fun _ p s =>
    let first := byteAt p 0
    let rows := byteAt p 1
    if decide (first ≤ 7) && inRange 1 8 rows && decide (first + rows ≤ 8) then
      let v := (List.range (3 * rows)).map fun k => i40 p (8 + 8 * k)
      ok { s with com := { s.com with maq := { s.com.maq with matrix := overlay s.com.maq.matrix (3 * first) v } } }
    else refuse cBadParam s

/-- The maquette (0) or the live (1) copy. -/
def State.which (s : State) (w : Nat) : Cfg := if w = 0 then s.com.maq else s.com.live

/-- MATRIX_READ: sign-extended containers. -/
def cmdMatrixRead : Cmd where
  op := 0x0402
  len := lenIs 1
  run := fun _ p s =>
    if decide (byteAt p 0 ≤ 1) then okWith ((s.which (byteAt p 0)).matrix.map fun v => leI 8 v).flatten s
    else refuse cBadParam s

/-! ### Error codes of the words that commands read and write (05 R112) -/

/-- A word, by table or phase and entry, lies among `n` from `first` on. -/
def inSpan (i first n : Nat) (w : Nat × Nat) : Bool := w.1 == i && decide (first ≤ w.2) && decide (w.2 < first + n)

/-- The words of a copy with an error of two bits, or of one. -/
def ColourUnit.marksIn (u : ColourUnit) (copy : Nat) (double : Bool) : List (Nat × Nat) :=
  (u.marks.filter fun m => m.copy == copy && m.double == double).map fun m => (m.table, m.entry)

/-- Words that are written hold no error any longer. -/
def ColourUnit.rewrite (u : ColourUnit) (copy i first n : Nat) : ColourUnit :=
  { u with marks := u.marks.filter fun m => !(m.copy == copy && inSpan i first n (m.table, m.entry)) }

/-- A read of `n` words finds those that hold a single-bit error, and counts each correction. A word with a double-bit error reads as it
was written: the spec does not say what a command reads there (DESIGN CHOICE, assumption 126). -/
def State.fixWords (s : State) (soft : List (Nat × Nat)) (i first n : Nat) : State :=
  { s with col := { s.col with corrected := s.col.corrected + BitVec.ofNat 32 (soft.filter (inSpan i first n)).length } }

/-- The words of the maquette (0) or live (1) tables with a single-bit error. -/
def State.softWhich (s : State) (w : Nat) : List (Nat × Nat) := if w = 0 then s.col.marksIn 2 false else s.col.softTable

/-- TABLE_WRITE writes entries of a maquette table. -/
def cmdTableWrite : Cmd where
  op := 0x0403
  len := lenByCount16 8 4 4
  run := fun _ p s =>
    let i := byteAt p 0
    let first := u16 p 2
    let n := u16 p 4
    if decide (i ≤ 7) && decide (first ≤ 4095) && inRange 1 58 n && decide (first + n ≤ 4096) then
      let v := (List.range n).map fun k =>
        BitVec.ofNat 32 (u32 p (8 + 4 * k)) - BitVec.ofInt 32 (identEntry (first + k))
      ok { s with
        com := { s.com with maq := { s.com.maq with tables := upd s.com.maq.tables i fun m => spPut 0 m first v } }
        col := s.col.rewrite 2 i first n }
    else refuse cBadParam s

/-- TABLE_READ. -/
def cmdTableRead : Cmd where
  op := 0x0404
  len := lenIs 6
  run := fun _ p s =>
    let i := byteAt p 1
    let first := u16 p 2
    let n := u16 p 4
    if decide (byteAt p 0 ≤ 1) && decide (i ≤ 7) && inRange 1 60 n && decide (first + n ≤ 4096) then
      okWith ((List.range n).map fun k => le 4 ((s.which (byteAt p 0)).entry i (first + k)).toNat).flatten
        (s.fixWords (s.softWhich (byteAt p 0)) i first n)
    else refuse cBadParam s

/-- TABLE_FILL sets the masked maquette tables to the identity. -/
def cmdTableFill : Cmd where
  op := 0x0405
  len := lenIs 4
  run := fun _ p s =>
    ok { s with
      com := { s.com with maq :=
        { s.com.maq with tables := s.com.maq.tables.mapIdx fun i m => if bit (byteAt p 0) i then [] else m } }
      col := { s.col with marks := s.col.marks.filter fun m => !(m.copy == 2 && bit (byteAt p 0) m.table) } }

/-- CRC-32 over a table's entries as little-endian words. -/
def Cfg.tableCrc (c : Cfg) (i : Nat) : W32 :=
  crc32Done ((List.range 4096).foldl (fun a k => crc32Feed a (le 4 (c.entry i k).toNat)) crc32Init)

/-- TABLE_CRC. -/
def cmdTableCrc : Cmd where
  op := 0x0406
  len := lenIs 2
  run := fun _ p s =>
    if decide (byteAt p 0 ≤ 1) && decide (byteAt p 1 ≤ 7) then
      okWith (le 4 ((s.which (byteAt p 0)).tableCrc (byteAt p 1)).toNat)
        (s.fixWords (s.softWhich (byteAt p 0)) (byteAt p 1) 0 4096)
    else refuse cBadParam s

/-- DITHER_MASK_WRITE writes the staging set; BUSY while a SELECT waits for its boundary (05 R119). -/
def cmdDitherMaskWrite : Cmd where
  op := 0x0407
  len := lenByCount16 8 4 2
  run := fun _ p s =>
    let ph := byteAt p 0
    let first := u16 p 2
    let n := u16 p 4
    if decide (ph ≤ 7) && decide (first ≤ 4095) && inRange 1 116 n && decide (first + n ≤ 4096) then
      if s.col.maskWait.isSome then refuse cBusy s
      else
        let v := (List.range n).map fun k =>
          BitVec.ofNat 16 (u16 p (8 + 2 * k)) - builtinMask ph (first + k)
        ok { s with col := { s.col.rewrite 3 ph first n with staging := upd s.col.staging ph fun m => spPut 0 m first v } }
    else refuse cBadParam s

/-- DITHER_MASK_SELECT takes effect at the next boundary (05 R119). -/
def cmdDitherMaskSelect : Cmd where
  op := 0x0408
  len := lenIs 4
  run := fun _ p s =>
    if decide (byteAt p 0 ≤ 1) then ok { s with col := { s.col with maskWait := some (byteAt p 0) } }
    else refuse cBadParam s

/-- The boundary's copy of a selected mask set (05 R112, R119): the copy corrects and counts what errors of one bit it reads. -/
def ColourUnit.applyMask (u : ColourUnit) : ColourUnit :=
  match u.maskWait with
  | none => u
  | some src =>
    { u with
      active := if src = 1 then u.staging else List.replicate 8 [], maskWait := none,
      badMask := if src = 1 then u.marksIn 3 true else [], softMask := [],
      corrected := u.corrected + BitVec.ofNat 32 (if src = 1 then (u.marksIn 3 false).length else 0) }

/-- DITHER_MASK_READ: set 0 active, 1 staging, 2 built-in. -/
def cmdDitherMaskRead : Cmd where
  op := 0x0409
  len := lenIs 6
  run := fun _ p s =>
    let set := byteAt p 0
    let ph := byteAt p 1
    let first := u16 p 2
    let n := u16 p 4
    if decide (set ≤ 2) && decide (ph ≤ 7) && inRange 1 120 n && decide (first + n ≤ 4096) then
      let m := if set = 0 then at_ s.col.active ph else if set = 1 then at_ s.col.staging ph else []
      okWith ((List.range n).map fun k =>
        le 2 (builtinMask ph (first + k) + spGet 0 m (first + k)).toNat).flatten
        (s.fixWords (if set = 0 then s.col.softMask else if set = 1 then s.col.marksIn 3 false else []) ph first n)
    else refuse cBadParam s

/-- COLOUR_STATS. -/
def cmdColourStats : Cmd where
  op := 0x040A
  len := lenIs 0
  run := fun _ _ s =>
    let a := s.col.stats
    okWith (le 4 a.tick.toNat ++ (a.overs.map (le 4)).flatten ++ (a.unders.map (le 4)).flatten ++ le 4 a.clip ++
      le 4 s.col.corrected.toNat) s

/-- PIXEL_PROBE sets the position of the next boundary and returns the last capture. -/
def cmdPixelProbe : Cmd where
  op := 0x040B
  len := lenIs 4
  run := fun _ p s =>
    let x := u16 p 0
    let y := u16 p 2
    if decide (x < activeW s.liveMode) && decide (y < activeH s.liveMode) then
      okWith s.col.probe { s with col := { s.col with probeNext := some (x, y) } }
    else refuse cBadParam s

/-- COLOUR_CONFIG (05 R122). -/
def execColourConfig (h : Hdr) (p : Rec) (s : State) : Out := done (s.command cmdColourConfig h p)
/-- MATRIX_WRITE (05 R110). -/
def execMatrixWrite (h : Hdr) (p : Rec) (s : State) : Out := done (s.command cmdMatrixWrite h p)
/-- MATRIX_READ (05 R122). -/
def execMatrixRead (h : Hdr) (p : Rec) (s : State) : Out := done (s.command cmdMatrixRead h p)
/-- TABLE_WRITE (05 R111). -/
def execTableWrite (h : Hdr) (p : Rec) (s : State) : Out := done (s.command cmdTableWrite h p)
/-- TABLE_READ (05 R122). -/
def execTableRead (h : Hdr) (p : Rec) (s : State) : Out := done (s.command cmdTableRead h p)
/-- TABLE_FILL (05 R122). -/
def execTableFill (h : Hdr) (p : Rec) (s : State) : Out := done (s.command cmdTableFill h p)
/-- TABLE_CRC (05 R122). -/
def execTableCrc (h : Hdr) (p : Rec) (s : State) : Out := done (s.command cmdTableCrc h p)
/-- DITHER_MASK_WRITE (05 R119). -/
def execDitherMaskWrite (h : Hdr) (p : Rec) (s : State) : Out := done (s.command cmdDitherMaskWrite h p)
/-- DITHER_MASK_SELECT (05 R119). -/
def execDitherMaskSelect (h : Hdr) (p : Rec) (s : State) : Out := done (s.command cmdDitherMaskSelect h p)
/-- DITHER_MASK_READ (05 R122). -/
def execDitherMaskRead (h : Hdr) (p : Rec) (s : State) : Out := done (s.command cmdDitherMaskRead h p)
/-- COLOUR_STATS (05 R114). -/
def execColourStats (h : Hdr) (p : Rec) (s : State) : Out := done (s.command cmdColourStats h p)
/-- PIXEL_PROBE (05 R122). -/
def execPixelProbe (h : Hdr) (p : Rec) (s : State) : Out := done (s.command cmdPixelProbe h p)

end Sys2Proof.Machine
end

