-- ==== Sys2Proof/Machine/Planes.lean ====
section
/-! DEFINITION. Armature slots (02 R43 to R46), array records (07 R158), lanes in service (07 R161), stored casts (06
R127 to R130), the timing of an entry (06 R131), and the admission of a cast with its report (06 R134, R135, R142). -/
namespace Sys2Proof.Machine

/-! ## The armature (02 R43, R44) -/

def slotAt (r : Rec) (i : Nat) : Slot :=
  ⟨u32 r (0x10 + 8 * i), byteAt r (0x14 + 8 * i), bits (byteAt r (0x15 + 8 * i)) 3 0, bits (byteAt r (0x16 + 8 * i)) 3 0⟩

/-- The slots the checks run over: the first 64 at most (02 R47). -/
def Cfg.slots (c : Cfg) : List Slot := (List.range (min 64 (byteAt c.armature 1))).map (slotAt c.armature)

def Cfg.hasPic (c : Cfg) : Bool := c.slots.any fun k => k.type == 0

/-- The PIC slots that name an array. -/
def Cfg.picSlots (c : Cfg) (a : Nat) : List Slot := c.slots.filter fun k => k.type == 0 && bit k.units a

/-- The index of the last DUMP slot, which takes the long-tick tu (02 R30). -/
def Cfg.lastDump (c : Cfg) : Option Nat := ((indices c.slots fun k => k.type == 2).getLast?)

/-- The sum of the slot durations. -/
def Cfg.slotSum (c : Cfg) : Nat := (c.slots.map Slot.dur).sum

/-- The offset at which slot i starts in a tick of `len` tu: the extra tu of a long tick lie in the last DUMP slot (02 R30). -/
def Cfg.slotOffset (c : Cfg) (len i : Nat) : Nat :=
  let extra := match c.lastDump with
    | some d => if d < i then len - c.slotSum else 0
    | none => 0
  ((c.slots.take i).map Slot.dur).sum + extra

def State.slotOffset (s : State) (i : Nat) : Nat := s.com.live.slotOffset s.tk.len i

/-! ## Array records (07 R158, R159) -/

def arRows (r : Rec) : Nat := u16 r 0x06
def arCols (r : Rec) : Nat := u16 r 0x08
def arRowLoad (r : Rec) : Nat := u16 r 0x0C
def arReset (r : Rec) : Nat := u16 r 0x0E
def arSettle (r : Rec) : Nat := u16 r 0x10
def arMinPlane (r : Rec) : Nat := u16 r 0x12
def arBiasMin (r : Rec) : Nat := u16 r 0x14
def arBiasMax (r : Rec) : Nat := u16 r 0x16
def arBiasDefault (r : Rec) : Nat := u16 r 0x18
def arTWarn (r : Rec) : Int := i16 r 0x1A
def arTMax (r : Rec) : Int := i16 r 0x1C
def arRating (r : Rec) : Nat := u64 r 0x28

/-- Lanes per array of a split (07 R144). -/
def shareOf (count : Nat) : Nat := 96 / count

/-- The bit of LANE_SET for a split. -/
def laneSetBit (count : Nat) : Nat := match count with
  | 4 => 0
  | 3 => 1
  | 2 => 2
  | _ => 3

/-- 07 R159, with the failure reasons of R160: 4 CHECK or VERSION, 5 range, 6 lane share. The order of the biases and T_WARN < T_MAX count
as ranges, and where several conditions fail the lowest reason is given: 07 says neither (DESIGN CHOICE, assumption 130). -/
def recordFault (count : Nat) (r : Rec) : Option Nat :=
  if u16 r 0 ≠ 1 ∨ u32 r 0x3C ≠ (crc32 (r.take 0x3C)).toNat then some 4
  else if !(inRange 16 2160 (arRows r) && inRange 64 4096 (arCols r) && arCols r % 64 == 0 &&
      inRange 1 32 (byteAt r 0x0B) && decide (arRowLoad r ≤ 16) && inRange 40 4000 (arReset r) &&
      decide (arSettle r ≤ 8000) && inRange 400 40000 (arMinPlane r) && decide (arBiasMin r ≤ arBiasDefault r) &&
      decide (arBiasDefault r ≤ arBiasMax r) && decide (arTWarn r < arTMax r) && decide (u16 r 0x1E ≤ 200)) then some 5
  else if !bit (byteAt r 0x0A) (laneSetBit count) then some 6
  else none

/-! ## Lanes (07 R144, R161) -/

def State.array (s : State) (a : Nat) : ArrayUnit := at_ s.pl.arrays a

/-- The array a lane belongs to under the split; a lane outside it belongs to none. -/
def State.laneArray (s : State) (lane : Nat) : Option Nat :=
  let w := shareOf s.pl.count
  if lane < 96 ∧ lane / w < s.pl.count then some (lane / w) else none

def State.lanesOf (s : State) (a : Nat) : List Nat :=
  let w := shareOf s.pl.count
  if a < s.pl.count then (List.range w).map fun i => a * w + i else []

/-- 07 R161. -/
def State.laneServes (s : State) (lane : Nat) : Bool :=
  let l := at_ s.pl.lanes lane
  match s.laneArray lane with
  | none => false
  | some a => (s.array a).state == 5 && l.ok && !l.held

def State.servesOf (s : State) (a : Nat) : List Nat := (s.lanesOf a).filter s.laneServes
def State.laneCount (s : State) (a : Nat) : Nat := (s.servesOf a).length

/-- An array has completed training: RUN or PARKED (07 R160). -/
def State.trained (s : State) (a : Nat) : Bool :=
  decide (a < s.pl.count) && ((s.array a).state == 5 || (s.array a).state == 6)

/-! ## Timing of one entry (06 R131) -/

/-- Blocks per row and rows per packet (07 R151). -/
def arBlk (r : Rec) : Nat := arCols r / 64
def arK (r : Rec) : Nat := ceilDiv 256 (arBlk r)

/-- LOAD_TU with n lanes in service. -/
def loadTu (r : Rec) (n : Nat) : Nat :=
  let sN := ceilDiv (ceilDiv (arRows r) (arK r) + arRows r * arBlk r + 1) n
  max (ceilDiv (2 * arRows r * arCols r) (75 * n)) (max (arRows r * arRowLoad r) (ceilDiv ((sN + 5) * 330) 199))

/-- A picture channel that lights an array. -/
def chLights (a : Nat) (r : Rec) : Bool := chRole r == 1 && chArray r == a

/-- HERD_SPAN of an array (08 R185). -/
def SourceSet.herdSpan (set : SourceSet) (a : Nat) : Nat :=
  ((set.chans.filter (chLights a)).map chHerd).foldl max 0

/-- The gap G of an array with a record. -/
def gapOf (set : SourceSet) (a : Nat) (r : Rec) : Nat := set.herdSpan a + arReset r + arSettle r

/-! ## Stored casts (06 R128, R129) -/

structure CEntry where
  lit : Nat
  prim : Nat
  bitNo : Nat
  level : Nat
  brk : Bool
  deriving DecidableEq, Repr, Inhabited

structure Section where
  first : Nat
  count : Nat
  ox : Nat
  oy : Nat
  deriving DecidableEq, Repr, Inhabited

/-- A cast as read from its slot. -/
structure Cast where
  version : Nat
  mode : Nat
  arrays : Nat
  win : Nat
  count : Nat
  depth : List Nat
  ratio : List Nat
  sections : List Section
  entries : List CEntry
  crcOk : Bool
  deriving DecidableEq, Repr, Inhabited

/-- An n-byte value in a sparse byte store. -/
def spU (m : Sparse Byte) (o n : Nat) : Nat := leAt (spRead 0 m o n) 0 n

def readEntry (m : Sparse Byte) (i : Nat) : CEntry :=
  let r := spRead 0 m (0x60 + 8 * i) 8
  ⟨u32 r 0, bits (byteAt r 4) 2 0, bits (byteAt r 5) 3 0, bits (byteAt r 5) 7 4, bit (byteAt r 6) 0⟩

/-- CHECK is correct over the header and an ENTRY_COUNT of at most 4,096 entries (06 R128). -/
def castCrcOk (m : Sparse Byte) : Bool :=
  let n := spU m 6 2
  if n ≤ 4096 then
    let body := overlay (spRead 0 m 0 (0x60 + 8 * n)) 0x50 (zeros 4)
    spU m 0x50 4 == (crc32 body).toNat
  else false

def readCast (m : Sparse Byte) : Cast :=
  { version := spU m 0 2, mode := spU m 2 1, arrays := bits (spU m 3 1) 3 0, win := spU m 4 1, count := spU m 6 2,
    depth := (List.range 8).map fun p => spU m (8 + p) 1,
    ratio := (List.range 16).map fun k => spU m (0x10 + 2 * k) 2,
    sections := (List.range 4).map fun a =>
      ⟨spU m (0x30 + 8 * a) 2, spU m (0x32 + 8 * a) 2, spU m (0x34 + 8 * a) 2, spU m (0x36 + 8 * a) 2⟩,
    entries := (List.range (min 4096 (spU m 6 2))).map (readEntry m), crcOk := castCrcOk m }

def State.cast (s : State) (slot : Nat) : Cast := readCast (at_ s.chi.slots slot)

/-- A slot is valid when its CHECK is correct (06 R127). -/
def State.slotValid (s : State) (slot : Nat) : Bool := castCrcOk (at_ s.chi.slots slot)

def fourArrays : List Nat := [0, 1, 2, 3]

/-- The arrays a cast shows. -/
def Cast.shows (c : Cast) (a : Nat) : Bool := bit c.arrays a

/-- The section of an array: its entries with their indices. -/
def Cast.section (c : Cast) (a : Nat) : List (Nat × CEntry) :=
  let k := at_ c.sections a
  if c.shows a then ((c.entries.zipIdx).map fun (e, i) => (i, e)).filter fun (i, _) =>
    decide (k.first ≤ i) && decide (i < k.first + k.count) else []

/-- The array whose section holds an entry, 0xFF if none does. -/
def Cast.arrayOf (c : Cast) (i : Nat) : Nat :=
  (fourArrays.find? fun a => (c.section a).any fun x => x.1 == i).getD 0xFF

/-- Groups of entries: a BREAK opens a new one, except on the first entry (06 R133). -/
def groupEntries : List (Nat × CEntry) → List (List (Nat × CEntry))
  | [] => []
  | e :: es => match groupEntries es with
    | [] => [[e]]
    | g :: gs => match g with
      | [] => [e] :: gs
      | f :: _ => if f.2.brk then [e] :: g :: gs else (e :: g) :: gs

def Cast.groups (c : Cast) (a : Nat) : List (List (Nat × CEntry)) := groupEntries (c.section a)

/-- Primaries a section shows: those its entries name. -/
def sectionPrims (es : List (Nat × CEntry)) : List Nat := (List.range 8).filter fun p => es.any fun e => e.2.prim == p

/-- Σ DEPTH[p]. -/
def Cast.planeBits (c : Cast) : Nat := c.depth.sum

/-! ## Checks of R134 -/

/-- One failure of a check; a field that it does not involve holds 0xFF, the entry 0xFFFF (06 R142). -/
structure CastFail where
  check : Nat
  array : Nat := 0xFF
  prim : Nat := 0xFF
  bitNo : Nat := 0xFF
  entry : Nat := 0xFFFF
  deriving DecidableEq, Repr, Inhabited

/-- What a cast is checked against: the configuration, the source settings, and for each array the lanes in service and
the accepted record. -/
structure CastEnv where
  cfg : Cfg
  set : SourceSet
  lanes : List Nat
  recs : List (Option Rec)
  trained : List Bool
  valid : Nat → Bool
  cast : Nat → Cast

def State.castEnv (s : State) (cfg : Cfg) (set : SourceSet) : CastEnv :=
  { cfg := cfg, set := set, lanes := (List.range 4).map s.laneCount,
    recs := (List.range 4).map fun a => (s.array a).record, trained := (List.range 4).map s.trained,
    valid := s.slotValid, cast := s.cast }

/-- FORMAT. An overlap of two sections is reported on the higher-numbered array, as the spec does not say on which (DESIGN CHOICE,
assumption 124). -/
def failFormat (e : CastEnv) (c : Cast) : List CastFail :=
  let head := c.version == 1 && c.mode == e.cfg.mode.toNat && c.crcOk && decide (c.win ≤ 16) &&
    inRange 1 4096 c.count && c.count == ((fourArrays.filter c.shows).map fun a => (at_ c.sections a).count).sum && c.ratio.getD 0 0 == 32768 && (c.ratio.drop 1).all (inRange 1 32768)
  let overlap := fun a => fourArrays.any fun b =>
    let x := at_ c.sections a
    let y := at_ c.sections b
    decide (b < a) && c.shows a && c.shows b && decide (x.first < y.first + y.count) &&
      decide (y.first < x.first + x.count)
  (if head then [] else [{ check := 0 }]) ++
    ((fourArrays.filter fun a =>
      let k := at_ c.sections a
      c.shows a != decide (0 < k.count) || (c.shows a && decide (c.count < k.first + k.count)) || overlap a).map
        fun a => { check := 0, array := a }) ++
    ((indices c.entries fun x => decide (x.lit < 200)).map fun i =>
      { check := 0, array := c.arrayOf i, entry := i })

/-- GEOMETRY. -/
def failGeometry (e : CastEnv) (c : Cast) : List CastFail :=
  (fourArrays.filter fun a => c.shows a && match at_ e.recs a with
    | none => true
    | some r =>
      let k := at_ c.sections a
      let m := e.cfg.mode.toNat
      !(at_ e.trained a) || decide (arCols r < k.ox + activeW m) || decide (arRows r < k.oy + activeH m)).map
    fun a => { check := 1, array := a }

/-- DEPTH. -/
def failDepth (e : CastEnv) (c : Cast) : List CastFail :=
  let n := e.cfg.primaries
  let d := fun p => c.depth.getD p 0
  let shown := fun p => fourArrays.any fun a => (c.section a).any fun x => x.2.prim == p
  ((List.range 8).filter fun p => decide (16 < d p) || (decide (0 < d p) && (decide (n ≤ p) || !shown p))).map
      (fun p => { check := 2, prim := p }) ++
    ((indices c.entries fun x => decide (d x.prim ≤ x.bitNo)).map fun i =>
      let x := at_ c.entries i
      { check := 2, array := c.arrayOf i, prim := x.prim, bitNo := x.bitNo, entry := i }) ++
    (fourArrays.map fun a =>
      let es := c.section a
      ((sectionPrims es).map fun p => ((List.range (min 16 (d p))).filter fun b =>
        !es.any fun x => x.2.prim == p && x.2.bitNo == b).map fun b =>
          ({ check := 2, array := a, prim := p, bitNo := b } : CastFail)).flatten).flatten

/-- N(p, b) of a section (06 R126). -/
def weightOf (c : Cast) (es : List (Nat × CEntry)) (p b : Nat) : Nat :=
  ((es.filter fun x => x.2.prim == p && x.2.bitNo == b).map fun x => x.2.lit * c.ratio.getD x.2.level 0).sum

/-- WEIGHT. -/
def failWeight (c : Cast) : List CastFail :=
  (fourArrays.map fun a =>
    let es := c.section a
    ((sectionPrims es).map fun p =>
      let n0 := weightOf c es p 0
      (if n0 = 0 then [({ check := 3, array := a, prim := p, bitNo := 0 } : CastFail)] else []) ++
        ((List.range (c.depth.getD p 0)).filter fun b =>
          decide (1 ≤ b) && decide (n0 < 2 * ((weightOf c es p b : Int) - 2 ^ b * n0).natAbs)).map
            fun b => { check := 3, array := a, prim := p, bitNo := b }).flatten).flatten

/-- The instants of entries within the array's summed PIC time: group k opens at the start of PIC slot k. -/
def entryStarts (g : Nat) : Nat → List (List (Nat × CEntry)) → List Slot → List (Nat × CEntry × Nat)
  | base, grp :: gs, k :: ks =>
    (grp.foldl (fun (st : List (Nat × CEntry × Nat) × Nat) x =>
      (st.1 ++ [(x.1, x.2, st.2)], st.2 + g + x.2.lit)) ([], base)).1 ++ entryStarts g (base + k.dur) gs ks
  | _, _, _ => []

/-- SPREAD. -/
def failSpread (e : CastEnv) (c : Cast) : List CastFail :=
  if c.win = 0 then [] else
  (fourArrays.map fun a => match at_ e.recs a with
    | none => []
    | some r =>
      let slots := e.cfg.picSlots a
      let gs := c.groups a
      if c.shows a = false ∨ gs.length ≠ slots.length then [] else
      let total := (slots.map Slot.dur).sum
      let st := entryStarts (gapOf e.set a r) 0 gs slots
      ((sectionPrims (c.section a)).map fun p => ((List.range 16).filter fun b =>
        let mine := st.filter fun x => x.2.1.prim == p && x.2.1.bitNo == b
        let k := mine.length
        decide (c.win ≤ k) && (List.range c.win).any fun w =>
          let n := (mine.filter fun x => decide (w * total ≤ x.2.2 * c.win) &&
            decide (x.2.2 * c.win < (w + 1) * total)).length
          decide (n < k / c.win) || decide (ceilDiv k c.win < n)).map fun b =>
            ({ check := 4, array := a, prim := p, bitNo := b } : CastFail)).flatten).flatten

/-- SOURCES. -/
def failSources (e : CastEnv) (c : Cast) : List CastFail :=
  (fourArrays.map fun a => ((sectionPrims (c.section a)).filter fun p =>
    !e.set.chans.any fun r => chLights a r && chPrimary r == p).map fun p =>
      ({ check := 5, array := a, prim := p } : CastFail)).flatten

/-- PERIOD. -/
def failPeriod (e : CastEnv) (c : Cast) : List CastFail :=
  ((fourArrays.filter c.shows).map fun a =>
    let n := at_ e.lanes a
    match at_ e.recs a with
    | none => [{ check := 6, array := a }]
    | some r =>
      if n = 0 then [({ check := 6, array := a } : CastFail)] else
      let least := max (arMinPlane r) (loadTu r n)
      ((c.section a).filter fun x => decide (gapOf e.set a r + x.2.lit < least)).map fun x =>
        { check := 6, array := a, prim := x.2.prim, bitNo := x.2.bitNo, entry := x.1 }).flatten

/-- The use of a group: Σ (G + LIT_TU) + G. -/
def groupUse (g : Nat) (grp : List (Nat × CEntry)) : Nat := (grp.map fun x => g + x.2.lit).sum + g

/-- The slack of an array: the least of slot duration minus group use over its PIC slots that have a group; none where
FIT cannot be judged. -/
def slackOf (e : CastEnv) (c : Cast) (a : Nat) : Option Int := match at_ e.recs a with
  | none => none
  | some r =>
    let g := gapOf e.set a r
    let l := List.zipWith (fun grp (k : Slot) => (k.dur : Int) - groupUse g grp) (c.groups a) (e.cfg.picSlots a)
    some (l.foldl min 0x7FFFFFFF)

/-- FIT. -/
def failFit (e : CastEnv) (c : Cast) : List CastFail :=
  ((fourArrays.filter c.shows).map fun a => match at_ e.recs a with
    | none => [{ check := 7, array := a }]
    | some r =>
      let slots := e.cfg.picSlots a
      let gs := c.groups a
      let g := gapOf e.set a r
      (if slots.length ≠ gs.length then [({ check := 7, array := a } : CastFail)] else []) ++
      ((List.zip gs slots).filter fun (grp, k) => decide (k.dur < groupUse g grp)).map fun (grp, _) =>
        { check := 7, array := a, entry := (grp.headD (0xFFFF, default)).1 }).flatten

/-- The slot before each PIC slot of an array, cyclically. -/
def beforePic (slots : List Slot) (a : Nat) : List Slot :=
  (indices slots fun k => k.type == 0 && bit k.units a).map fun i => at_ slots ((i + slots.length - 1) % slots.length)

/-- LOAD. -/
def failLoad (e : CastEnv) (c : Cast) : List CastFail :=
  (fourArrays.filter fun a => c.shows a && match at_ e.recs a with
    | none => true
    | some r =>
      let n := at_ e.lanes a
      n == 0 || (beforePic e.cfg.slots a).any fun k =>
        (k.type == 0 && bit k.units a) || decide (k.dur < loadTu r n)).map fun a => { check := 8, array := a }

/-- The plane-store rule of 01 R19. -/
def storeOk (mode bitsPp : Nat) : Bool := decide (2 * (activeW mode * activeH mode) * bitsPp ≤ 805306368)

/-- SHAPE: this cast as fallback of an active cast. -/
def failShape (e : CastEnv) (c : Cast) (active : Nat) : List CastFail :=
  if e.valid active then
    let d := (e.cast active).depth
    ((List.range 8).filter fun p => decide (d.getD p 0 < c.depth.getD p 0)).map fun p => { check := 10, prim := p }
  else []

/-- Every failure of a cast; `fallbackTo` names the active cast when the cast is checked as fallback. -/
def castFails (e : CastEnv) (c : Cast) (fallbackTo : Option Nat) : List CastFail :=
  failFormat e c ++ failGeometry e c ++ failDepth e c ++ failWeight c ++ failSpread e c ++ failSources e c ++
    failPeriod e c ++ failFit e c ++ failLoad e c ++
    (if storeOk e.cfg.mode.toNat c.planeBits then [] else [{ check := 9 }]) ++
    (match fallbackTo with
      | none => []
      | some a => failShape e c a)

/-- PERIOD, FIT and LOAD hold for one array (06 R137). -/
def castFits (e : CastEnv) (c : Cast) (a : Nat) : Bool :=
  ((failPeriod e c ++ failFit e c ++ failLoad e c).all fun f => f.array != a)

/-! ## The cast report (06 R135, R142) -/

/-- PL_LOAD of an array. -/
def plLoad (e : CastEnv) (c : Cast) (a : Nat) : Nat :=
  if c.shows a = false then 0 else match at_ e.recs a with
  | none => 0xFFFF
  | some r =>
    let n := at_ e.lanes a
    if n = 0 then 0xFFFF else
    let g := gapOf e.set a r
    let ivals := (beforePic e.cfg.slots a).map Slot.dur ++ (c.section a).map fun x => g + x.2.lit
    let least := ivals.foldl min (ivals.headD 1)
    sat 16 (ceilDiv (1000 * loadTu r n) (max 1 least))

/-- LOADS of an array: entries plus one closing load per group. -/
def loadsOf (c : Cast) (a : Nat) : Nat := (c.section a).length + (c.groups a).length

/-- A failure orders before another (06 R142). A field that it does not involve counts as the value it reads, 0xFF, and so comes last
(DESIGN CHOICE, assumption 124). -/
def CastFail.key (f : CastFail) : Nat := (((f.check * 256 + f.array) * 256 + f.prim) * 256 + f.bitNo) * 65536 + f.entry

def firstFail (l : List CastFail) : Option CastFail := match l with
  | [] => none
  | f :: fs => some (fs.foldl (fun b x => if x.key < b.key then x else b) f)

def failMask (l : List CastFail) : Nat := maskOf ((List.range 11).map fun n => l.any fun f => f.check == n)

/-- The 48 bytes of a cast report. A SLACK below −2^31 wraps modulo 2^32: the spec does not say what stands in its 32 bits then (DESIGN
CHOICE, assumption 124). -/
def castReport (e : CastEnv) (c : Cast) (fails : List CastFail) : Rec :=
  let f := (firstFail fails).getD { check := 0 }
  le 4 (failMask fails) ++ le 2 f.entry ++ le 1 f.array ++ le 1 f.prim ++ le 1 f.bitNo ++ zeros 3 ++
    (fourArrays.map fun a => le 2 (plLoad e c a)).flatten ++ (fourArrays.map fun a => le 2 (loadsOf c a)).flatten ++
    (fourArrays.map fun a => leI 4 (if c.shows a then (slackOf e c a).getD (-(2 ^ 31)) else 0x7FFFFFFF)).flatten ++
    le 4 c.planeBits

end Sys2Proof.Machine
end

