-- ==== Sys2Proof/Machine/PlaneLink.lean ====
section
/-! DEFINITION. The plane link (chapter 07): training, messages of the arrays, lanes lost and restored, and the commands.
Array states: 0 DISABLED, 1 DETECT, 2 LOCK, 3 DESKEW, 4 RECORD, 5 RUN, 6 PARKED, 7 FAILED. -/
namespace Sys2Proof.Machine

/-- Change one array. -/
def State.arr (s : State) (a : Nat) (f : ArrayUnit → ArrayUnit) : State :=
  { s with pl := { s.pl with arrays := upd s.pl.arrays a f } }

/-- Change one lane. -/
def State.lane (s : State) (n : Nat) (f : Lane → Lane) : State :=
  { s with pl := { s.pl with lanes := upd s.pl.lanes n f } }

/-- An array enters a state (07 R160); ARRAY_STATE on entry to RUN, PARKED, FAILED or DISABLED (R171). -/
def State.enterArray (s : State) (a st reason : Nat) : State :=
  let old := (s.array a).state
  let s := s.arr a fun x =>
    { x with state := st, since := s.now, reason := if st = 7 then reason else x.reason }
  s.raiseIf (st == 5 || st == 6 || st == 7 || st == 0) 0x0504 a (st + 16 * old + 256 * (if st = 7 then reason else 0))

/-- Every lane of an array's share leaves the striping. -/
def State.dropLanes (s : State) (a : Nat) : State :=
  (s.lanesOf a).foldl (fun s n => s.lane n fun l =>
    { l with ok := false, ready := false, trying := none, lockedAt := none, attempt := false }) s

/-- DISABLED or FAILED: electrical idle on every lane of the share (07 R160). An array that leaves RUN so takes its lanes
out of service. Out of DISABLED its transmitters start again, in their order
(15 R331). -/
def State.stopArray (s : State) (a st reason : Nat) : State :=
  let s := { s with chi := { s.chi with laneLost := s.chi.laneLost || (s.array a).state == 5 } }
  let s := (s.enterArray a st reason).dropLanes a
  if st ≠ 0 then s
  else { s with pl := { s.pl with
    groupsAt := s.pl.groupsAt.mapIdx fun g x => if (s.lanesOf a).any fun n => n / 8 == g then none else x } }

/-- The groups that have no start instant yet, of those named, get one each, in order and 20 µs apart from `t` on. -/
def startSeq (named : Nat → Bool) : Nat → Nat → List (Option Nat) → List (Option Nat)
  | _, _, [] => []
  | g, t, some x :: l => some x :: startSeq named (g + 1) t l
  | g, t, none :: l =>
    if named g then some t :: startSeq named (g + 1) (t + 20 * tuUs) l else none :: startSeq named (g + 1) t l

/-- The transmitter groups of an array's lanes start, after those still to start (15 R331). -/
def State.startGroups (s : State) (a : Nat) : State :=
  let t := (s.pl.groupsAt.filterMap id).foldl (fun m x => max m (x + 20 * tuUs)) s.now
  { s with pl := { s.pl with groupsAt := startSeq (fun g => (s.lanesOf a).any fun n => n / 8 == g) 0 t s.pl.groupsAt } }

/-- The transmitter of a lane has started: until then it is in electrical idle (15 R331). -/
def State.laneStarted (s : State) (n : Nat) : Bool := startedBy (at_ s.pl.groupsAt (n / 8)) 0 0 s.now

/-- Training starts with DETECT (07 R160); the lanes of the share are idle. -/
def State.startArray (s : State) (a : Nat) : State :=
  ((s.startGroups a).enterArray a 1 0).dropLanes a |>.arr a fun x =>
    { x with lock := 0, deskew := 0, accepted := false, acked := 0, lastMsg := s.now }

/-- Lanes of the share that could carry planes in RUN or PARKED. -/
def State.laneUsable (s : State) (n : Nat) : Bool :=
  let l := at_ s.pl.lanes n
  l.ok && !l.held

/-- An array in RUN or PARKED with no lane left fails with reason 2 (07 R160). -/
def State.checkLanes (s : State) (a : Nat) : State :=
  if s.trained a ∧ ((s.lanesOf a).any s.laneUsable) = false then s.stopArray a 7 2 else s

/-- Payload of LANE_DOWN. -/
def State.laneDownEvent (s : State) (a n reason : Nat) : State :=
  s.raise 0x0501 n (s.laneCount a + 256 * a + 4096 * reason)

/-- A lane leaves the striping: counted, retried after 1 s, held out at the third loss within 60 s (07 R165, R169). -/
def Lane.lose (l : Lane) (now : Nat) : Lane × Bool :=
  let times := (now :: l.lossTimes).filter fun t => decide (now - t ≤ 60 * tuS)
  let flap := decide (3 ≤ times.length)
  ({ l with ok := false, ready := false, trying := some now, lockedAt := none, attempt := false, lossTimes := times,
            losses := l.losses + 1, held := l.held || flap }, flap)

/-- A lane is lost (07 R165): CLEAR on every RESET of the array from here to its map point (R166). One of an array that is not trained is
lost as well, once until it is retrained or released. -/
def State.loseLane (s : State) (n reason : Nat) : State :=
  match s.laneArray n with
  | none => s
  | some a =>
    if s.inTrip then s
    else if s.trained a = false then
      if (at_ s.pl.lanes n).held ∨ (at_ s.pl.lanes n).trying.isSome then s
      else
        let (l, flap) := (at_ s.pl.lanes n).lose s.now
        (s.lane n fun _ => l).laneDownEvent a n (if flap then 5 else reason)
    else if s.laneUsable n = false then
      s.lane n fun l => if l.ready ∨ l.lockedAt.isSome then
        { l with ready := false, lockedAt := none, trying := some s.now, attempt := false } else l
    else
      let (l, flap) := (at_ s.pl.lanes n).lose s.now
      let s := s.lane n fun _ => l
      let s := { s with chi := { s.chi with laneLost := true, runs := upd s.chi.runs a fun r => { r with clear := true } } }
      (s.laneDownEvent a n (if flap then 5 else reason)).checkLanes a

/-- Entry to RUN at the end of training (07 R160): lanes left out count as lost and raise LANE_DOWN, with reason 6, or with reason 4 where
only LANE_CONTROL leaves them out (07 R165). -/
def State.enterRun (s : State) (a : Nat) : State :=
  let x := s.array a
  let good := fun (s : State) n => x.lock.getLsbD n && x.deskew.getLsbD n && !(at_ s.pl.lanes n).held
  let s := (s.lanesOf a).foldl (fun s n => s.lane n fun l => { l with ok := good s n, trying := if good s n then none else l.trying }) s
  let s := s.arr a fun x => { x with bias := arBiasDefault (x.record.getD []), biasNext := none }
  let s := s.enterArray a 5 0
  let bad := (s.lanesOf a).filter fun n => !(at_ s.pl.lanes n).ok
  let s := { s with chi := { s.chi with laneLost := s.chi.laneLost || !bad.isEmpty } }
  let s := bad.foldl (fun s n =>
    let (l, flap) := (at_ s.pl.lanes n).lose s.now
    (s.lane n fun _ => l).laneDownEvent a n (if flap then 5 else if x.lock.getLsbD n && x.deskew.getLsbD n then 4 else 6)) s
  s.checkLanes a

/-- The step from DESKEW to RECORD: the RECORD command goes to the array. -/
def State.toRecord (s : State) (a : Nat) : State :=
  let s := s.enterArray a 4 0
  s.arr a fun x => { x with
    accepted := false, acked := 0, cmdSeq := (x.cmdSeq + 1) % 256,
    wire := x.wire ++ [.command 5 ((x.cmdSeq + 1) % 256) 0] }

/-- The lanes of an array that training has locked and deskewed and that are not held out, as a mask. -/
def State.trainedMask (s : State) (a : Nat) : BitVec 96 :=
  let x := s.array a
  BitVec.ofNat 96 (((s.lanesOf a).filter fun n =>
    x.lock.getLsbD n && x.deskew.getLsbD n && !(at_ s.pl.lanes n).held).map fun n => 2 ^ n).sum

/-- What goes to an array once its record is accepted (07 R160): LANE_MAP, one all-off load, one mirror-block RESET per block,
then one global RESET. -/
def acceptedTraffic (r : Rec) (epoch : Nat) (mask : BitVec 96) (seq : Nat) (clear : Bool) : List PlOut :=
  [.laneMap epoch mask, .load seq (arRows r) (arCols r) 0 0 none []] ++
    ((List.range (byteAt r 0x0B)).map fun b => PlOut.reset (some b) clear none seq) ++ [.reset none clear none seq]

/-- A mask with the bits of the array's share only. -/
def State.shareMask (s : State) (a : Nat) (m : BitVec 96) : BitVec 96 :=
  let w := shareOf s.pl.count
  (m >>> (a * w) <<< (96 - w)) >>> (96 - w) <<< (a * w)

/-- All lanes of the share set in a mask. -/
def State.shareFull (s : State) (a : Nat) : BitVec 96 := s.shareMask a (BitVec.allOnes 96)

/-- A valid message arrived on PBa (07 R164). -/
def State.heard (s : State) (a : Nat) : State := s.arr a fun x => { x with lastMsg := s.now }

/-- A message of an array counts only inside the split (07 R144). -/
def State.fromArray (s : State) (a : Nat) (f : State → State) : State :=
  if a < s.pl.count then f (s.heard a) else s

/-- What STATUS shows of a lane that is being retrained: locked and deskewed from now on at the latest, or not (07 R169). -/
def Lane.shown (now : Nat) (good : Bool) (l : Lane) : Lane :=
  if l.attempt && !l.ok && !l.held && !l.ready then { l with lockedAt := if good then some (l.lockedAt.getD now) else none } else l

/-- STATUS (07 R160, R163, R169). -/
def State.arrayStatus (s : State) (a : Nat) (lock deskew : BitVec 96) : State :=
  let lk := s.shareMask a lock
  let dk := s.shareMask a deskew
  let s := s.arr a fun x => { x with lock := lk, deskew := dk }
  if s.inTrip then s else
  match (s.array a).state with
  | 1 => s.enterArray a 2 0
  | 2 => if lk = s.shareFull a then s.enterArray a 3 0 else s
  | 3 => if lk ≠ 0 ∧ lk &&& dk = lk then s.toRecord a else s
  | 5 => (s.lanesOf a).foldl (fun s n => s.lane n (Lane.shown s.now (lk.getLsbD n && dk.getLsbD n))) s
  | _ => s

/-- The level of a TEMP reading (07 R164, R171): 2 after two readings in a row at or above T_MAX. -/
def State.arrayTemp (s : State) (a : Nat) (v : Int) : State :=
  let x := s.array a
  match x.record with
  | none => s.arr a fun x => { x with temp := some v }
  | some r =>
    let hot := if arTMax r ≤ v then x.hotRun + 1 else 0
    let level := if 2 ≤ hot then 2 else if arTWarn r ≤ v then 1 else 0
    let s := s.arr a fun x =>
      { x with temp := some v, hotRun := hot, level := level,
               clear := if v < arTWarn r then false else x.clear || decide (2 ≤ hot) }
    s.raiseIf (level != x.level) 0x0505 a (level + 65536 * pattern 16 v)

/-- The parameter record in training (07 R159, R160). -/
def State.arrayRecordIn (s : State) (a : Nat) (r : Rec) : State :=
  if s.inTrip ∨ (s.array a).state ≠ 4 then s else
  match recordFault s.pl.count r with
  | some reason => s.stopArray a 7 reason
  | none =>
    let mask := s.trainedMask a
    let s := { s with chi := { s.chi with runs := upd s.chi.runs a fun r => { r with mapLanes := mask } } }
    s.arr a fun x => { x with
      record := some r, accepted := true, acked := 0, epoch := (x.epoch + 1) % 16, loadSeq := (x.loadSeq + 1) % 256,
      loadsSent := x.loadsSent + 1,
      wire := x.wire ++ acceptedTraffic r ((x.epoch + 1) % 16) mask ((x.loadSeq + 1) % 256) (x.clear || x.sgnd) }

/-- TICK_REPORT (07 R160, R163): loads not complete, and loads sent but not closed, add to LOAD_FAILS. -/
def State.tickReport (s : State) (a closed notComplete resets : Nat) : State :=
  let s := s.arr a fun x =>
    { x with loadFails := x.loadFails + BitVec.ofNat 32 (notComplete + (x.sentTick - closed)), acked := x.acked + resets }
  let x := s.array a
  if x.state = 4 ∧ x.accepted ∧ byteAt (x.record.getD []) 0x0B + 1 ≤ x.acked ∧ s.inTrip = false then s.enterRun a else s

/-- LANE_REPORT: BIP errors of 48 lanes; an error on a lane being restored starts its 100 ms again (07 R163, R169). -/
def State.laneReport (s : State) (a part : Nat) (counts : List Nat) : State :=
  (counts.zipIdx).foldl (fun s (c, i) =>
    let n := 48 * part + i
    if s.laneArray n = some a then
      s.lane n fun l => { l with
        bip := l.bip + BitVec.ofNat 32 c,
        lockedAt := if c = 0 then l.lockedAt else l.lockedAt.map fun _ => s.now }
    else s) s

/-- CMD_ACK answers the command it names (07 R154, R170). -/
def State.cmdAck (s : State) (a cmd seq result : Nat) : State :=
  match (s.array a).cmds.find? fun c => c.cmd == cmd && c.seq == seq with
  | none => s
  | some c =>
    let s := s.arr a fun x => { x with cmds := x.cmds.erase c }
    let s := if result ≠ 0 ∨ s.inTrip then s else match cmd with
      | 0x01 => s.arr a fun x => { x with biasNext := some (c.arg % 65536) }
      | 0x02 => if (s.array a).state = 5 then s.enterArray a 6 0 else s
      | 0x03 => if (s.array a).state = 6 then s.enterArray a 5 0 else s
      | _ => s
    s.finishKey 0x0504 (256 * a + seq) cOk (le 1 result)

/-- No CMD_ACK for 10 ms: TIMEOUT for the oldest command outstanding (07 R170). -/
def State.arrayCmdTimeout (s : State) (a : Nat) : State :=
  match (s.array a).cmds with
  | [] => s
  | c :: _ =>
    let s := s.forward (c.sent + 10 * tuMs)
    let s := s.arr a fun x => { x with cmds := x.cmds.erase c }
    s.finishKey 0x0504 (256 * a + c.seq) cTimeout []

/-! ## Timers of training (07 R160, R164) -/

/-- A timer of a training state fires if the array is still in it. -/
def State.trainTimer (s : State) (a st us : Nat) (f : State → State) : State :=
  let x := s.array a
  if x.state = st ∧ s.inTrip = false then f (s.forward (x.since + us * tuUs)) else s

/-- 2 ms in LOCK: DESKEW with a lane locked, else FAILED with reason 2. -/
def State.lockTimeout (s : State) (a : Nat) : State :=
  s.trainTimer a 2 2000 fun s => if (s.array a).lock = 0 then s.stopArray a 7 2 else s.enterArray a 3 0

/-- 1 ms in DESKEW: RECORD with a lane deskewed, else FAILED with reason 3. -/
def State.deskewTimeout (s : State) (a : Nat) : State :=
  s.trainTimer a 3 1000 fun s =>
    if (s.array a).lock &&& (s.array a).deskew = 0 then s.stopArray a 7 3 else s.toRecord a

/-- 1 s after FAILED, with automatic array retraining on: DETECT. -/
def State.retrainTimer (s : State) (a : Nat) : State :=
  if bit s.pl.ctl.toNat 0 then s.trainTimer a 7 1000000 fun s => s.startArray a else s

/-- No valid message on PBa for 1 ms (07 R164): an array in RUN or PARKED fails with reason 7. -/
def State.backchannelLost (s : State) (a : Nat) : State :=
  if s.trained a ∧ s.inTrip = false then (s.forward ((s.array a).lastMsg + tuMs)).stopArray a 7 7 else s

/-! ## Retraining of lanes (07 R169) -/

/-- One attempt, 1 s after the loss or the last attempt. `locked` tells that STATUS shows the lane locked and deskewed at once; later
STATUS messages set and clear it. -/
def State.retrainLane (s : State) (n : Nat) (locked : Bool) : State :=
  match s.laneArray n, (at_ s.pl.lanes n).trying with
  | some a, some t =>
    let l := at_ s.pl.lanes n
    if (s.array a).state = 5 ∧ bit s.pl.ctl.toNat 1 ∧ !l.ok ∧ !l.held ∧ !l.ready ∧ l.lockedAt.isNone ∧
        s.inTrip = false then
      let s := s.forward (t + tuS)
      s.lane n fun l => { l with trying := some s.now, attempt := true, lockedAt := if locked then some s.now else none }
    else s
  | _, _ => s

/-- Ready after 100 ms without a BIP error. -/
def State.laneReady (s : State) (n : Nat) : State :=
  match (at_ s.pl.lanes n).lockedAt with
  | none => s
  | some t =>
    if s.inTrip then s else
    (s.forward (t + 100 * tuMs)).lane n fun l => { l with ready := true, trying := none, lockedAt := none, attempt := false }

/-! ## Commands (07 R170) -/

/-- PL_CONFIG. -/
def cmdPlConfig : Cmd where
  op := 0x0500
  len := lenIs 8
  run := fun _ p s =>
    if inRange 1 4 (byteAt p 0) = false then refuse cBadParam s
    else if s.allDisabled = false then refuse cState s
    else ok { s with pl := { s.pl with
      count := byteAt p 0, ctl := p.getD 1 0, flight := (slice p 4 4).map BitVec.toNat } }

/-- The arrays a PL_TRAIN names. -/
def State.trainArrays (s : State) (which : Nat) : List Nat := if which = 0xFF then List.range s.pl.count else [which]

/-- PL_TRAIN. -/
def cmdPlTrain : Cmd where
  op := 0x0501
  len := lenIs 4
  run := fun _ p s =>
    let which := byteAt p 0
    let action := byteAt p 1
    if 1 < action ∨ (which ≠ 0xFF ∧ s.pl.count ≤ which) then refuse cBadParam s
    else ok ((s.trainArrays which).foldl (fun s a =>
      let st := (s.array a).state
      if action = 0 then (if st = 0 then s else s.stopArray a 0 0)
      else if st = 0 ∨ st = 7 then s.startArray a else s) s)

/-- One array's part of PL_STATUS. -/
def State.arrayStatusBytes (s : State) (a : Nat) : Rec :=
  let x := s.array a
  let n := s.laneCount a
  le 1 x.state ++ le 1 x.reason ++ le 1 n ++ zeros 1 ++
    le 4 (match x.record with
      | some r => if n = 0 then 0 else loadTu r n
      | none => 0) ++
    (match x.temp with
      | some t => leI 2 t
      | none => le 2 0x8000) ++ le 2 x.bias ++ le 4 x.loadFails.toNat

/-- PL_STATUS. -/
def cmdPlStatus : Cmd where
  op := 0x0502
  len := lenIs 0
  run := fun _ _ s =>
    okWith (le 12 (maskOf ((List.range 96).map s.laneServes)) ++ le 12 (maskOf (s.pl.lanes.map fun l => l.held)) ++
      (fourArrays.map s.arrayStatusBytes).flatten) s

/-- ARRAY_RECORD_READ. -/
def cmdArrayRecordRead : Cmd where
  op := 0x0503
  len := lenIs 4
  run := fun _ p s =>
    if 3 < byteAt p 0 then refuse cBadParam s
    else match (s.array (byteAt p 0)).record with
      | none => refuse cState s
      | some r => okWith r s

/-- The cast in force shows an array. -/
def State.showsInForce (s : State) (a : Nat) : Bool :=
  s.chi.inForce != 0xFF && (s.cast s.chi.inForce).shows a

/-- ARRAY_CMD: the command is sent and the reply waits for CMD_ACK. While the sequencer is stopped nothing leaves beyond training
(22 R460), no CMD_ACK comes, and the 10 ms run out (DEDUCED, assumption 137). -/
def cmdArrayCmd : Cmd where
  op := 0x0504
  len := lenIs 12
  parks := fun _ => true
  run := fun _ p s =>
    let a := byteAt p 0
    let cmd := byteAt p 1
    let arg := u64 p 4
    if 3 < a then refuse cBadParam s
    else if s.trained a = false then refuse cState s
    else
      let r := (s.array a).record.getD []
      if cmd = 1 ∧ inRange (arBiasMin r) (arBiasMax r) (arg % 65536) = false then refuse cBadParam s
      else if cmd = 2 ∧ s.showsInForce a then refuse cState s
      else
        let seq := ((s.array a).cmdSeq + 1) % 256
        (.park (256 * a + seq), s.arr a fun x =>
          { x with
            cmdSeq := seq, cmds := x.cmds ++ [⟨cmd, arg, seq, s.now⟩],
            wire := if s.chi.sequencing then x.wire ++ [.command cmd seq arg] else x.wire })

/-- LANE_CONTROL: a lane held out is lost; a released one is retrained while its array runs (07 R165, R169). -/
def cmdLaneControl : Cmd where
  op := 0x0505
  len := lenIs 4
  run := fun _ p s =>
    let n := byteAt p 0
    if 95 < n ∨ 1 < byteAt p 1 then refuse cBadParam s
    else if byteAt p 1 = 0 then
      let s := s.loseLane n 4
      let s := s.lane n fun l => { l with held := true, ready := false, lockedAt := none, attempt := false }
      ok (match s.laneArray n with
        | some a => s.checkLanes a
        | none => s)
    else ok (s.lane n fun l => { l with held := false, trying := if l.ok then none else some s.now })

/-- LANE_COUNTERS. -/
def cmdLaneCounters : Cmd where
  op := 0x0506
  len := lenIs 4
  run := fun _ p s =>
    let first := byteAt p 0
    let n := byteAt p 1
    if decide (first ≤ 95) && inRange 1 24 n && decide (first + n ≤ 96) then
      okWith ((slice s.pl.lanes first n).map fun l => le 4 l.losses.toNat ++ le 4 l.bip.toNat).flatten s
    else refuse cBadParam s

/-- PL_CONFIG (07 R170). -/
def execPlConfig (h : Hdr) (p : Rec) (s : State) : Out := done (s.command cmdPlConfig h p)
/-- PL_TRAIN (07 R160). -/
def execPlTrain (h : Hdr) (p : Rec) (s : State) : Out := done (s.command cmdPlTrain h p)
/-- PL_STATUS (07 R170). -/
def execPlStatus (h : Hdr) (p : Rec) (s : State) : Out := done (s.command cmdPlStatus h p)
/-- ARRAY_RECORD_READ (07 R170). -/
def execArrayRecordRead (h : Hdr) (p : Rec) (s : State) : Out := done (s.command cmdArrayRecordRead h p)
/-- ARRAY_CMD (07 R154, R170). -/
def execArrayCmd (h : Hdr) (p : Rec) (s : State) : Out := done (s.command cmdArrayCmd h p)
/-- LANE_CONTROL (07 R165). -/
def execLaneControl (h : Hdr) (p : Rec) (s : State) : Out := done (s.command cmdLaneControl h p)
/-- LANE_COUNTERS (07 R170). -/
def execLaneCounters (h : Hdr) (p : Rec) (s : State) : Out := done (s.command cmdLaneCounters h p)

/-- STATUS of an array (07 R163); its state and temperature flags repeat what the device knows by TEMP and CMD_ACK. -/
def execArrayStatusMessage (a _state : Nat) (_flags : Byte) (lock deskew : BitVec 96) (s : State) : Out :=
  done (s.fromArray a fun s => s.arrayStatus a lock deskew)
/-- LANE_ALARM (07 R165). -/
def execLaneAlarm (a n reason : Nat) (s : State) : Out :=
  done (s.fromArray a fun s => if s.laneArray n = some a then s.loseLane n reason else s)
/-- TICK_REPORT (07 R163). -/
def execTickReport (a : Nat) (_tick : W16) (closed notComplete resets _cleared : Nat) (s : State) : Out :=
  done (s.fromArray a fun s => s.tickReport a closed notComplete resets)
/-- TEMP (07 R164). -/
def execTemp (a : Nat) (v : Int) (s : State) : Out := done (s.fromArray a fun s => s.arrayTemp a v)
/-- RECORD of an array (07 R159). -/
def execArrayRecord (a : Nat) (r : Rec) (s : State) : Out := done (s.fromArray a fun s => s.arrayRecordIn a r)
/-- LANE_REPORT (07 R163). -/
def execLaneReport (a part : Nat) (counts : List Nat) (s : State) : Out :=
  done (s.fromArray a fun s => s.laneReport a part counts)
/-- CMD_ACK (07 R154). -/
def execCmdAck (a cmd seq result : Nat) (s : State) : Out := done (s.fromArray a fun s => s.cmdAck a cmd seq result)
/-- IDENT (07 R163). -/
def execIdent (a : Nat) (serial fw : W64) (s : State) : Out :=
  done (s.fromArray a fun s => s.arr a fun x => { x with identSerial := serial, identFw := fw })
/-- BACKCHANNEL_TIMEOUT (07 R164). -/
def execBackchannelTimeout (a : Nat) (s : State) : Out := done (s.backchannelLost a)
/-- BACKCHANNEL_BAD_MESSAGE (07 R162): discarded and counted. -/
def execBackchannelBadMessage (a : Nat) (s : State) : Out :=
  done (if a < s.pl.count then { s with pl := { s.pl with badMsgs := s.pl.badMsgs + 1 } } else s)
/-- TRAIN_DETECT_TIMEOUT (07 R160). -/
def execTrainDetectTimeout (a : Nat) (s : State) : Out := done (s.trainTimer a 1 100000 fun s => s.stopArray a 7 1)
/-- TRAIN_LOCK_TIMEOUT (07 R160). -/
def execTrainLockTimeout (a : Nat) (s : State) : Out := done (s.lockTimeout a)
/-- TRAIN_DESKEW_TIMEOUT (07 R160). -/
def execTrainDeskewTimeout (a : Nat) (s : State) : Out := done (s.deskewTimeout a)
/-- TRAIN_RECORD_TIMEOUT (07 R160): RECORD not completed in 10 ms takes reason 4, which the table explains by CHECK or VERSION only (DESIGN
CHOICE, assumption 130). -/
def execTrainRecordTimeout (a : Nat) (s : State) : Out := done (s.trainTimer a 4 10000 fun s => s.stopArray a 7 4)
/-- ARRAY_RETRAIN_TIMER (07 R160). -/
def execArrayRetrainTimer (a : Nat) (s : State) : Out := done (s.retrainTimer a)
/-- ARRAY_CMD_TIMEOUT (07 R170). -/
def execArrayCmdTimeout (a : Nat) (s : State) : Out := done (s.arrayCmdTimeout a)
/-- TRANSMITTER_FAULT (07 R165): reason 3. -/
def execTransmitterFault (n : Nat) (s : State) : Out := done (s.loseLane n 3)
/-- LANE_RETRAIN_ATTEMPT (07 R169). -/
def execLaneRetrainAttempt (n : Nat) (locked : Bool) (s : State) : Out := done (s.retrainLane n locked)
/-- LANE_READY (07 R169). -/
def execLaneReady (n : Nat) (s : State) : Out := done (s.laneReady n)

end Sys2Proof.Machine
end

