-- ==== Sys2Proof/Machine/Sources.lean ====
section
/-! DEFINITION. Source channels and drive (chapter 08): current codes, charge, headroom, dissipation, effect PWM and the
commands. -/
namespace Sys2Proof.Machine

/-- A channel is enabled: its live role is not disabled (08 R172). -/
def State.enabled (s : State) (c : Nat) : Bool := chRole (s.chan c) != 0

/-! ## Current codes (08 R178, R179) -/

/-- The code of a picture channel in a lit window of level index k. -/
def State.pictureCode (s : State) (c k : Nat) : Nat :=
  let r := s.chan c
  let l := (at_ s.src.live.levels c).getD k 0
  codeOf (bkScale (s.bankOf c) * chTrim r * l * s.con.s.getD (chPrimary r) 0 * s.th.c)
    (255 * 4095 * 32768 * 32768 * 16)

/-- The code of an effect channel in the on part of its period. -/
def State.effectCode (s : State) (c : Nat) : Nat := codeOf (bkScale (s.bankOf c) * chTrim (s.chan c)) (255 * 4095)

/-- The code of a test pulse, at least 1,311 (09 R204). -/
def State.testCode (s : State) (c level : Nat) : Nat :=
  max 1311 (codeOf (bkScale (s.bankOf c) * chTrim (s.chan c) * level) (255 * 4095 * 32768))

/-- The channels of a role. -/
def State.withRole (s : State) (role : Nat) : List Nat := channels.filter fun c => chRole (s.chan c) == role

/-! ## Windows: charge and headroom (08 R192, R194) -/

/-- The increment of the charge counters: the sensed charge, times BOOST_GAIN ÷ 16 in booster range, rounded. -/
def State.emitterCharge (s : State) (c q : Nat) : Nat :=
  let b := s.bankOf c
  if bkBooster b then (roundDiv (q * bkGain b) 16).toNat else q

/-- Charge of a window in 100 pC: what the running tick takes with the part of it in DUMP slots, what the tick that ended takes, and what
came before both. -/
structure Charge where
  now : Nat
  dump : Nat
  prev : Nat
  prevDump : Nat
  old : Nat
  deriving DecidableEq, Repr, Inhabited

/-- LIFE_CHARGE grows by a charge exactly, the remainder below 1 nC carried. -/
def Sink.addLife (k : Sink) (q : Nat) : Sink :=
  let t := k.lifeRem + q
  { k with life := sat 64 (k.life + t / 10), lifeRem := t % 10 }

/-- Add the charge of a window. What belongs to a tick that has ended goes to the counts latched of it and to LIFE_CHARGE (08 R192). -/
def State.addCharge (s : State) (c : Nat) (q : Charge) : State :=
  let e := s.emitterCharge c
  s.sink c fun k => { (k.addLife (e q.prev + e q.old)) with
    emit := sat 32 (k.emit + e q.now), dump := sat 32 (k.dump + e q.dump),
    lastEmit := sat 32 (k.lastEmit + e q.prev), lastDump := sat 32 (k.lastDump + e q.prevDump),
    sinkCharge := k.sinkCharge + q.now }

/-- The pin voltage lies below the minimum headroom of 08 R176 at a code. -/
def headShort (booster : Bool) (code vpin : Nat) : Bool :=
  if booster then decide (vpin < 300) else decide (vpin * 65535 < 150 * 65535 + 450 * code)

/-- One headroom sample, at the middle of a window: instant `mid`, to which HEADROOM_LOW is dated (08 R197). -/
def State.headroom (s : State) (c code vpin mid : Nat) : State :=
  let k := at_ s.src.sinks c
  let low := headShort (bkBooster (s.bankOf c)) code vpin
  let lowRun := if low then min 8 (k.lowRun + 1) else 0
  let okRun := if low then 0 else min 8 (k.okRun + 1)
  let state := if lowRun = 8 then true else if okRun = 8 then false else k.headLow
  let s := s.sink c fun k => { k with vpin := some vpin, lowRun := lowRun, okRun := okRun, headLow := state }
  if state != k.headLow then s.raiseAt mid 0x0602 c (b2n state + 65536 * sat 16 vpin) else s

/-- What the device knows of a window that is reported: the code conducted, the middle of the window, the stretch over which its charge
was delivered, and whether that may lie in DUMP slots. -/
structure Window where
  code : Nat
  mid : Nat
  start : Nat
  stop : Nat
  dumps : Bool
  deriving DecidableEq, Repr, Inhabited

/-- The tu that a stretch shares with the stretches of a list. -/
def overlapTu (start stop : Nat) (l : List (Nat × Nat)) : Nat := (l.map fun x => min stop x.2 - max start x.1).sum

/-- The DUMP slots of the running tick, none while the sequencer is stopped (02 R43). -/
def State.dumpSlots (s : State) : List (Nat × Nat) :=
  if s.tk.open_ ∧ s.chi.sequencing then
    (indices s.com.live.slots fun k => k.type == 2).map fun i => (s.tk.start + s.slotOffset i, s.tk.start + s.slotOffset (i + 1))
  else []

/-- A charge shared out evenly over its stretch between the ticks, and between DUMP slots and others (08 R192; DEDUCED, assumption
119). -/
def State.sharesOf (s : State) (w : Window) (q : Nat) : Charge :=
  let part := fun (tu : Nat) => (roundDiv (q * tu) (max 1 (w.stop - w.start))).toNat
  let t0 := s.tk.start
  let t1 := t0 - s.tk.prevLen
  let prev := part (overlapTu w.start w.stop [(t1, t0)])
  let old := min (q - prev) (part (overlapTu w.start w.stop [(0, t1)]))
  { now := q - prev - old, dump := if w.dumps then part (overlapTu w.start w.stop s.dumpSlots) else 0,
    prev := prev, prevDump := if w.dumps then part (overlapTu w.start w.stop s.tk.dumpWas) else 0, old := old }

/-- A window of a sink as its sense element measured it. A channel held off all through it counts no charge. -/
def State.sinkWindow (s : State) (w : WindowObs) (x : Window) : State :=
  if x.code = 0 ∨ w.channel ≥ 192 ∨ s.enabled w.channel = false then s else
  let s := s.addCharge w.channel (s.sharesOf x w.charge)
  if 400 ≤ w.length then s.headroom w.channel x.code w.vpin x.mid else s

/-- The window of the last pulse of a sink: a lit window, or a PWM pulse, which alone may lie in DUMP slots. -/
def State.pulseWindow (s : State) (w : WindowObs) : Window := match s.lastPulse w.channel with
  | none => ⟨0, s.now, s.now, s.now, false⟩
  | some p => ⟨p.code, p.start + w.length / 2, p.start, p.stop, chRole (s.chan w.channel) == 3⟩

/-- The window of a channel in the point interval that ends. -/
def State.pointWindow (s : State) (n : Nat) (w : WindowObs) : Window :=
  let h := at_ s.heads n
  let d := hdIntDelay h.record
  ⟨s.pointCode w.channel, h.dueAt + d + w.length / 2, h.dueAt + d, h.dueEnd + d, false⟩

/-! ## The boundary's part (08 R192, R193, R195) -/

/-- The dissipation sum Σ charge × V_PIN of the tick just ended, in 10^−13 J. -/
def State.dissSum (s : State) : Nat := (s.src.sinks.map fun k => k.sinkCharge * k.vpin.getD 0).sum

/-- The counters of the tick that ends are latched and start again at 0. -/
def Sink.latch (k : Sink) : Sink :=
  let k := k.addLife k.emit
  { k with prevEmit := k.lastEmit, prevDump := k.lastDump, lastEmit := k.emit, lastDump := k.dump, emit := 0, dump := 0,
           sinkCharge := 0 }

/-- P_z of a drive-die zone in 1/16 W: the dissipation of its three banks over a tick, plus 7/16 W (15, before R321). -/
def State.zonePower (s : State) (len z : Nat) : Nat :=
  let cs := (List.range 24).map fun i => 24 * (z - 8) + i
  (roundDiv (16 * (cs.map fun c => (at_ s.src.sinks c).sinkCharge * (at_ s.src.sinks c).vpin.getD 0).sum) (25000 * len)).toNat + 7

/-- Charge and dissipation at the boundary that ends tick `t` of `len` tu; SINK_POWER is dated to the boundary. -/
def State.sourceBoundary (s : State) (t : W32) (len : Nat) : State :=
  let sum := s.dissSum
  let diss := (roundDiv (16 * sum) (25000 * len)).toNat
  let hotRun := if 600000 * len < sum then min 4 (s.src.overRun + 1) else 0
  let under := if sum ≤ 575000 * len then min 4 (s.src.underRun + 1) else 0
  let high := if hotRun = 4 then true else if under = 4 then false else s.src.powerHigh
  let was := s.src.powerHigh
  let s := { s with th := { s.th with zones := s.th.zones.mapIdx fun z x =>
    if z < 8 then x else { x with power := s.zonePower len z } } }
  let s := { s with src := { s.src with
    sinks := s.src.sinks.map Sink.latch, prevTick := s.src.countTick, countTick := t, diss := diss, dissTick := t,
    overRun := hotRun, underRun := under, powerHigh := high } }
  if high != was then s.raiseB 0x0603 0 (b2n high + 65536 * sat 16 diss) else s

/-! ## Effect channels (08 R189, R190) -/

/-- On-time of a DUTY: 1 to 199 tu become 200. -/
def onTimeOf (duty : Nat) : Nat :=
  let t := (roundDiv (duty * 100000) 65535).toNat
  if t = 0 then 0 else max 200 t

/-- The active effect channels, ascending: those that no condition on the channel or its bank holds off (08 R190). -/
def State.effectActive (s : State) : List Nat :=
  (s.withRole 3).filter fun c => decide (0 < chDuty (s.chan c)) && !s.chanDead c

/-- A pulse of an effect channel that has not ended takes a new code (01 R21, 08 R178). -/
def Pulse.recode (p : Pulse) (now code : Nat) : Pulse :=
  if p.test ∨ p.stop ≤ now then p else { p with code := code }

/-- A sink with the codes of the effect pulses planned on it formed anew. -/
def State.recodeSink (s : State) (c : Nat) (k : Sink) : Sink :=
  if chRole (s.chan c) = 3 then { k with plan := k.plan.map fun p => p.recode s.now (s.effectCode c) } else k

/-- The codes of the pulses of effect channels, formed anew from what is live (01 R21, 08 R178). -/
def State.recodeEffect (s : State) : State :=
  { s with src := { s.src with sinks := s.src.sinks.mapIdx s.recodeSink } }

/-- The boundary's part of the effect channels: their codes, and the active set that the next period start takes. -/
def State.effectBoundary (s : State) : State :=
  { s.recodeEffect with src := { s.recodeEffect.src with effectSet := s.effectActive } }

/-- A pulse of a sink runs on past instant t. -/
def Sink.runsPast (k : Sink) (t : Nat) : Bool := k.plan.any fun p => !p.test && decide (p.start < t) && decide (t < p.stop)

/-- The pulse of one effect channel in the period that starts at t, at place i of m; a pulse still running skips it (08 R190). -/
def State.effectPulse (s : State) (t m i c : Nat) : State :=
  let k := at_ s.src.sinks c
  let ph := i * 100000 / m
  let on := onTimeOf (chDuty (s.chan c))
  let on := if k.widen then max 400 on else on
  if k.runsPast (t + ph) then s.sink c fun k => { k with phase := ph }
  else
    (s.sink c fun k => { k with phase := ph, onTime := on, widen := false }).place c (t + ph) (t + ph + on) (s.effectCode c) false

/-- The start of a PWM period at instant `t`: phases, on-times and codes. -/
def State.effectPeriod (s : State) (t : Nat) : State :=
  let set := s.src.effectSet
  let s := { s with src := { s.src with effectM := set.length, effectNext := t + 100000 } }
  (set.zipIdx).foldl (fun s (c, i) => s.effectPulse t set.length i c) s

/-! ## Commands (08 R196) -/

def bankOk (r : Rec) : Bool :=
  decide (byteAt r 0 ≤ 1) && (byteAt r 0 == 0 || (inRange 16 16383 (u16 r 2) && decide (u16 r 4 ≤ 400)))

def chanOk (r : Rec) : Bool :=
  let role := chRole r
  (role == 1 || role == 2 || byteAt r 1 == 0) && (role == 1 || bits (byteAt r 2) 2 0 == 0) && decide (byteAt r 3 ≤ 32) &&
    (role == 3 || u16 r 6 == 0)

/-- The `n` records of `size` bytes from offset `o`. -/
def recordsAt (p : Rec) (o size n : Nat) : List Rec := (List.range n).map fun i => slice p (o + size * i) size

/-- FIRST, COUNT and their sum. -/
def spanOk (total maxCount first count : Nat) : Bool :=
  decide (first < total) && inRange 1 maxCount count && decide (first + count ≤ total)

/-- Change the staged set. -/
def State.staged (s : State) (f : SourceSet → SourceSet) : State :=
  { s with src := { s.src with staged := f s.src.staged } }

/-- BANK_WRITE. -/
def cmdBankWrite : Cmd where
  op := 0x0600
  len := lenByCount8 4 1 8
  run := fun _ p s =>
    let rs := recordsAt p 4 8 (byteAt p 1)
    if spanOk 24 24 (byteAt p 0) (byteAt p 1) && rs.all bankOk then
      ok (s.staged fun t => { t with banks := overlay t.banks (byteAt p 0) rs })
    else refuse cBadParam s

/-- CHANNEL_WRITE. -/
def cmdChannelWrite : Cmd where
  op := 0x0601
  len := lenByCount8 4 1 8
  run := fun _ p s =>
    let rs := recordsAt p 4 8 (byteAt p 1)
    if spanOk 192 29 (byteAt p 0) (byteAt p 1) && rs.all chanOk then
      ok (s.staged fun t => { t with chans := overlay t.chans (byteAt p 0) rs })
    else refuse cBadParam s

/-- A level table of a payload. -/
def levelTable (p : Rec) (o : Nat) : List Nat := (List.range 16).map fun k => u16 p (o + 2 * k)
def levelOk (t : List Nat) : Bool := t.all fun v => decide (v ≤ 32768)

/-- LEVEL_WRITE. -/
def cmdLevelWrite : Cmd where
  op := 0x0602
  len := lenByCount8 4 1 32
  run := fun _ p s =>
    let ts := (List.range (byteAt p 1)).map fun i => levelTable p (4 + 32 * i)
    if spanOk 192 7 (byteAt p 0) (byteAt p 1) && ts.all levelOk then
      ok (s.staged fun t => { t with levels := overlay t.levels (byteAt p 0) ts })
    else refuse cBadParam s

/-- A bit of a 24-byte channel mask. -/
def chanMask (p : Rec) (o c : Nat) : Bool := bit (byteAt p (o + c / 8)) (c % 8)

/-- LEVEL_FILL. -/
def cmdLevelFill : Cmd where
  op := 0x0603
  len := lenIs 56
  run := fun _ p s =>
    let t := levelTable p 24
    if levelOk t then
      ok (s.staged fun x => { x with levels := x.levels.mapIdx fun c old => if chanMask p 0 c then t else old })
    else refuse cBadParam s

/-- 08 R177: a bank's RANGE may change only while its channels are disabled live and in the set applied. -/
def rangeRule (live new : SourceSet) : Bool :=
  (List.range 24).all fun b =>
    byteAt (at_ live.banks b) 0 == byteAt (at_ new.banks b) 0 ||
      (List.range 8).all fun i => chRole (at_ live.chans (8 * b + i)) == 0 && chRole (at_ new.chans (8 * b + i)) == 0

/-- 08 R177 for a set that would stand at a later boundary: against the live set, and against each set that an accepted commit carries
and that may be live by then (DEDUCED, assumption 119). -/
def State.rangeOk (s : State) (set : SourceSet) : Bool :=
  (s.src.live :: ((s.com.next.toList ++ s.com.later.toList).filterMap Pending.bound)).all fun live => rangeRule live set

/-- The failures among the checks of 08 R182. -/
def applyFails (e : CastEnv) (c : Cast) : List CastFail :=
  failSources e c ++ failPeriod e c ++ failFit e c ++ failLoad e c

/-- A commit has admitted the live casts (08 R182). -/
def State.castsLive (s : State) : Bool := s.chi.castLive && s.com.live.hasPic

/-- The two reports of SOURCE_APPLY WHEN 0, and whether both casts hold. -/
def State.applyReports (s : State) (set : SourceSet) : Bool × Rec :=
  let e := s.castEnv s.com.live set
  let act := s.cast s.com.live.activeCast
  let fb := s.com.live.fallbackCast
  let fbc : Cast := if fb = 0xFF then default else s.cast fb
  let fa := applyFails e act
  let ff := if fb = 0xFF then [] else applyFails e fbc
  (fa.isEmpty && ff.isEmpty, castReport e act fa ++ castReport e fbc ff)

/-- A commit waits for its boundary. -/
def State.commitPending (s : State) : Bool := s.com.next.isSome || s.com.later.isSome

/-- The number of the tick that the next boundary opens, as a reply names it. -/
def State.nextTick (s : State) : Rec := le 4 (s.tk.tick + 1).toNat

/-- SOURCE_APPLY (08 R182, R183). -/
def cmdSourceApply : Cmd where
  op := 0x0604
  len := lenIs 4
  run := fun _ p s =>
    let set := s.src.staged
    match byteAt p 0 with
    | 0 =>
      if s.commitPending || s.src.apply.isSome || s.src.bound.isSome || !rangeRule s.src.live set then refuse cState s
      else
        let (good, rep) := s.applyReports set
        if s.castsLive && !good then (.reply cOverBudget rep, s)
        else okWith s.nextTick { s with src := { s.src with apply := some set } }
    | 1 =>
      if s.src.apply.isSome || s.src.bound.isSome || !s.rangeOk set then refuse cState s
      else ok { s with src := { s.src with bound := some set, bindNo := s.src.bindNo + 1 } }
    | 2 =>
      if s.src.bound.isNone then refuse cState s else ok { s with src := { s.src with bound := none } }
    | _ => refuse cBadParam s

def tableBytes (t : List Nat) : Rec := (t.map (le 2)).flatten

/-- SOURCE_READ. -/
def cmdSourceRead : Cmd where
  op := 0x0605
  len := lenIs 4
  run := fun _ p s =>
    let set := if byteAt p 0 = 0 then s.src.staged else s.src.live
    let first := byteAt p 2
    let n := byteAt p 3
    if 1 < byteAt p 0 then refuse cBadParam s else
    match byteAt p 1 with
    | 0 => if spanOk 24 24 first n then okWith (slice set.banks first n).flatten s else refuse cBadParam s
    | 1 => if spanOk 192 30 first n then okWith (slice set.chans first n).flatten s else refuse cBadParam s
    | 2 => if spanOk 192 7 first n then okWith ((slice set.levels first n).map tableBytes).flatten s
           else refuse cBadParam s
    | _ => refuse cBadParam s

/-- CHARGE_READ: in the first 20 µs of a tick the values of the tick before the last (08 R192). -/
def cmdChargeRead : Cmd where
  op := 0x0606
  len := lenIs 4
  run := fun _ p s =>
    let old := decide (s.offset < 20 * tuUs)
    if spanOk 192 14 (byteAt p 0) (byteAt p 1) then
      okWith (le 4 (if old then s.src.prevTick else s.src.countTick).toNat ++ zeros 4 ++
        ((slice s.src.sinks (byteAt p 0) (byteAt p 1)).map fun k =>
          le 4 (if old then k.prevEmit else k.lastEmit) ++ le 4 (if old then k.prevDump else k.lastDump) ++
            le 8 k.life).flatten) s
    else refuse cBadParam s

/-- A head is safety-blanked (11 R253). -/
def State.blanked (s : State) (n : Nat) : Bool := (at_ s.heads n).state == 3

/-- FLAGS of SINK_STATUS. -/
def State.sinkFlags (s : State) (c : Nat) : Nat :=
  let r := s.chan c
  let d := at_ s.diag.chans c
  maskOf [s.enabled c, (at_ s.src.sinks c).headLow, d.kind != 0 || d.otOff, s.sinksHeld,
    (chRole r == 2 && s.blanked (chHead r)) || (chRole r == 1 && chShare r && s.blanked (chShareHead r))]

/-- SINK_STATUS. -/
def cmdSinkStatus : Cmd where
  op := 0x0609
  len := lenIs 4
  run := fun _ p s =>
    if spanOk 192 48 (byteAt p 0) (byteAt p 1) then
      okWith (le 4 s.src.dissTick.toNat ++ le 2 (sat 16 s.src.diss) ++ le 1 s.th.c ++
        le 1 (maskOf [s.src.apply.isSome, s.src.bound.isSome]) ++ le 1 s.src.effectM ++ zeros 7 ++
        ((List.range (byteAt p 1)).map fun i =>
          let c := byteAt p 0 + i
          le 2 ((at_ s.src.sinks c).vpin.getD 0xFFFF) ++ le 1 (s.sinkFlags c) ++ zeros 1).flatten) s
    else refuse cBadParam s

/-- BANK_WRITE (08 R174). -/
def execBankWrite (h : Hdr) (p : Rec) (s : State) : Out := done (s.command cmdBankWrite h p)
/-- CHANNEL_WRITE (08 R173). -/
def execChannelWrite (h : Hdr) (p : Rec) (s : State) : Out := done (s.command cmdChannelWrite h p)
/-- LEVEL_WRITE (08 R180). -/
def execLevelWrite (h : Hdr) (p : Rec) (s : State) : Out := done (s.command cmdLevelWrite h p)
/-- LEVEL_FILL (08 R196). -/
def execLevelFill (h : Hdr) (p : Rec) (s : State) : Out := done (s.command cmdLevelFill h p)
/-- SOURCE_APPLY (08 R183). -/
def execSourceApply (h : Hdr) (p : Rec) (s : State) : Out := done (s.command cmdSourceApply h p)
/-- SOURCE_READ (08 R196). -/
def execSourceRead (h : Hdr) (p : Rec) (s : State) : Out := done (s.command cmdSourceRead h p)
/-- CHARGE_READ (08 R192). -/
def execChargeRead (h : Hdr) (p : Rec) (s : State) : Out := done (s.command cmdChargeRead h p)
/-- SINK_STATUS (08 R196). -/
def execSinkStatus (h : Hdr) (p : Rec) (s : State) : Out := done (s.command cmdSinkStatus h p)

end Sys2Proof.Machine
end

