-- ==== Sys2Proof/Machine/Beam.lean ====
section
/-! DEFINITION. Beam heads and point streams (chapter 11). Head states: 0 OFF, 1 PARKED, 2 RUN, 3 BLANKED. Set-points are
in units of 2^−39 of full scale. -/
namespace Sys2Proof.Machine

/-! ## Ticks and instants (11 R244) -/

/-- The largest m with `m` ticks of a mode, from cadence position k on, within r tu. -/
def ticksWithin (mode k r : Nat) : Nat :=
  let (c, n) := cadence mode
  ((r + k * n / c + 1) * c - 1) / n - k

/-- The tick ahead in which an instant at or after the running tick's start falls. -/
def State.ticksTo (s : State) (t : Nat) : Nat :=
  if t < s.boundaryAt 1 then 0
  else if t < s.boundaryAt 2 then 1
  else
    let m := s.modeAhead.2
    let first := (s.tk.tick.toNat + 2) % 2 ^ 32
    let r := t - s.boundaryAt 2
    let d := ticksWithin m (first % (cadence m).1) r
    let room := 2 ^ 32 - first
    if d ≤ room then 2 + d else 2 + room + ticksWithin m 0 (r - ticksSpan m first room)

/-- The instant of a tick and offset that a command names; none for a tick already past (02 R41). -/
def State.instantOf (s : State) (tick ofs : Nat) : Option Nat :=
  if s.tickKind tick = 2 then none else some (s.boundaryAt (s.tickDist tick) + ofs)

/-- An offset less than the length of the named tick; a past tick's length is not judged. -/
def State.offsetOk (s : State) (tick ofs : Nat) : Bool :=
  s.tickKind tick == 2 || decide (ofs < s.lenAhead (s.tickDist tick))

/-! ## The head record (11 R240) -/

def headOk (r : Rec) : Bool :=
  decide (byteAt r 0 ≤ 3) && inRange 1 32767 (hdParkTol r) && decide (1 ≤ hdBlankErr r) && inRange 1 32767 (hdFloor r) &&
    inRange 1 1000 (hdDwell r) && decide (hdIntDelay r ≤ 40000) && inRange 10 1000000 (hdParkIdle r) &&
    u64 r 0x24 % 256 == 0 && inRange 256 1048576 (hdRing r)

/-- Change one head. -/
def State.head (s : State) (n : Nat) (f : Head → Head) : State := { s with heads := upd s.heads n f }

/-! ## Set-points (11 R241, R246) -/

/-- The set-points of AX(2n) and AX(2n+1) for a point. -/
def pointSet (r : Rec) (x y : Int) : Int × Int :=
  let sx := clampQ (i16 r 4 * x * 2 ^ 10 + fromQ15 (i16 r 8))
  let sy := clampQ (i16 r 6 * y * 2 ^ 10 + fromQ15 (i16 r 0x0A))
  if hdSwap r then (sy, sx) else (sx, sy)

/-! ## The queue (11 R243, R245, R251) -/

/-- QUEUED. -/
def Head.queued (h : Head) : Nat := (h.segs.map Segment.left).sum

/-- Segments whose last point has been played and whose end has come leave the queue. -/
def Head.trim (h : Head) (now : Nat) : Head :=
  { h with segs := h.segs.filter fun g => decide (0 < g.left) || decide (now < g.ends) }

/-- Ring entries held by points queued, and free entries. -/
def Head.ringHeld (h : Head) : Nat := ((h.segs.filter fun g => g.clip.isNone).map Segment.left).sum
def Head.ringFree (h : Head) : Nat := hdRing h.record - h.ringHeld

/-- Discard the points still queued: the target holds at the point played last. -/
def Head.discard (h : Head) : Head :=
  { h with discarded := h.discarded + BitVec.ofNat 64 h.queued, segs := [], stalled := none, ahead := none }

/-- The delay line takes intensities from instant `t` on, in place of what it held from there (11 R247). -/
def Head.pushLight (h : Head) (now t : Nat) (ints : List Nat) : Head :=
  let prior := h.line.filter fun e => decide (e.at_ < t)
  let old := prior.headD ⟨0, [], []⟩
  let on := (List.range 8).map fun i =>
    if ints.getD i 0 = 0 then 0 else if old.ints.getD i 0 = 0 then t else old.on.getD i 0
  { h with line := ⟨t, ints, on⟩ :: (prior.filter fun e => decide (now < e.at_)) ++ (prior.filter fun e => decide (e.at_ ≤ now)).take 2 }

/-! ## States (11 R239, R253) -/

/-- A head changes state and raises HEAD_STATE. It is off its dump once it leaves park (11 R252). -/
def State.enterHead (s : State) (n st : Nat) : State :=
  let old := (at_ s.heads n).state
  let leaves := decide (st = 0) || decide (st = 2)
  if old = st then s else
  (s.head n fun h => { h with
    state := st, onDump := h.onDump && !leaves, parkAt := if leaves then none else h.parkAt, dwell := none }).raise
    0x0801 n (st + 16 * old)

/-- The light that follows a head's points ends. -/
def State.headStill (s : State) (n : Nat) : State :=
  s.head n fun h => { h with ints := List.replicate 8 0, line := [] }

/-- A head goes dark at once: its points, and the pulses of its beam channels, in a slot other than PIC of its shared channels as well
(08 R191, 09 R213). -/
def State.headDark (s : State) (n : Nat) : State :=
  let pic : Bool := match s.slotNow with
    | some k => k.type == 0
    | none => false
  (s.unplan ((s.headChans n).filter fun c => beamOf n (s.chan c) || !pic)).headStill n

/-- Points queued on a head are discarded, and reads of them that have not been issued are given up (11 R251, R255). -/
def State.discardHead (s : State) (n : Nat) : State :=
  let cut := fun (e : InFlight) => if e.user = .points n then { e with left := 0 } else e
  let s := { s with fetch := { s.fetch with
    inflight := (s.fetch.inflight.map cut).filter fun e => decide (0 < e.tags + e.left) } }
  s.head n fun h => { h.discard with emptyAt := if h.queued = 0 then h.emptyAt else s.now }

/-- An axis of a head heels: the head is not on its dump. -/
def State.offDump (s : State) (n cause : Nat) : State :=
  if cause = 2 ∨ cause = 3 then s.head n fun h => { h with onDump := false, parkAt := none } else s

/-- Safety blanking (11 R253). -/
def State.blankHead (s : State) (n cause : Nat) : State :=
  let s := s.offDump n cause
  let h := at_ s.heads n
  if h.state = 0 then s
  else if h.state = 3 then
    if bit h.causes cause then s
    else (s.head n fun h => { h with causes := h.causes + 2 ^ cause }).raise 0x0802 n cause
  else
    let s := (s.headDark n).discardHead n
    let s := s.head n fun h => { h with causes := if bit h.causes cause then h.causes else h.causes + 2 ^ cause }
    (s.enterHead n 3).raise 0x0802 n (cause + 256 * sat 24 h.queued)

/-- Every head for a cause that acts on all. -/
def State.blankHeads (s : State) (cause : Nat) : State := [0, 1, 2, 3].foldl (fun s n => s.blankHead n cause) s

/-- A safety-blanking cause still holds. -/
def State.causeHolds (s : State) (n cause : Nat) : Bool := match cause with
  | 1 => s.show_.ilkOff
  | 2 => (at_ s.axes (2 * n)).state == 2
  | 3 => (at_ s.axes (2 * n + 1)).state == 2
  | 4 => (s.headChans n).any fun c => (at_ s.diag.chans c).kind == 2
  | 5 => s.mbx.fwState != 1
  | _ => false

/-- ENABLE needs both axes CLOSED with SP_SOURCE 0. -/
def State.axesReady (s : State) (n : Nat) : Bool :=
  [2 * n, 2 * n + 1].all fun a => (at_ s.axes a).state == 1 && byteAt (at_ s.ios a).record 3 == 0

/-! ## Points (11 R242, R244, R246, R250) -/

/-- Intensities and FLAGS of a point. -/
def pointInts (r p : Rec) : List Nat :=
  let v := leAt p 4 (if hdFormat r then 12 else 6)
  let n := if hdFormat r then 8 else 4
  (List.range 8).map fun i => if i < n then bits v (12 * i + 11) (12 * i) else 0
def pointFlags (r p : Rec) : Nat := u16 p (if hdFormat r then 0x10 else 0x0A)

/-- The set-points of point `i` of landed data. -/
def landedSet (r data : Rec) (i : Nat) : Int × Int :=
  pointSet r (i16 data (hdPoint r * i)) (i16 data (hdPoint r * i + 2))

/-- POINT_MARK, at most once per head in 100 µs (11 R258). -/
def State.pointMark (s : State) (n : Nat) (g : Segment) : State :=
  let free := match (at_ s.heads n).lastMark with
    | none => true
    | some t => decide (t + 100 * tuUs ≤ s.now)
  if free then
    (s.head n fun h => { h with lastMark := some s.now }).raise 0x0804 n (g.no.toNat % 65536 + 65536 * (g.next % 65536))
  else s.head n fun h => { h with marksLost := h.marksLost + 1 }

/-- Points that one request of 256 bytes holds, and the points of a segment that lie within 2 ms (11 R255). -/
def perRead (r : Rec) : Nat := 256 / hdPoint r
def Segment.ahead (g : Segment) : Nat := min g.count (ceilDiv (2 * tuMs) (max 1 g.period))

/-- Ask for `k` reads of points of a segment: ring points from host memory, clip points from the LPDDR5X. -/
def State.readPoints (s : State) (n k : Nat) (g : Segment) : State := s.addReads (.points n) 1 k g.clip.isNone default n

/-- Reading ahead as a point plays: one request for each 256 bytes that come within 2 ms. -/
def State.readAhead (s : State) (n : Nat) (g : Segment) : State :=
  let j := g.next + g.ahead
  if j < g.count ∧ j % perRead (at_ s.heads n).record = 0 ∧ g.has j then s.readPoints n 1 g else s

/-! ### Staging of clip points (19 R422) -/

/-- The clip's index of the first point of a segment. -/
def Segment.first (g : Segment) : Nat := (g.clip.map Prod.snd).getD 0

/-- The bytes that one read of a head's points moves at most. -/
def stretchBytes : Nat := 262144

/-- The LBA-aligned content offset and the bytes of the next read of a segment, and the points staged once it has landed, for points of
`size` bytes. -/
def Segment.stageFrom (g : Segment) (size : Nat) : Nat := (g.first + g.staged) * size / 4096 * 4096
def Segment.stageBytes (g : Segment) (size : Nat) : Nat :=
  min stretchBytes (ceilDiv ((g.first + g.count) * size - g.stageFrom size) 4096 * 4096)
def Segment.stagedNext (g : Segment) (size : Nat) : Nat :=
  min g.count ((g.stageFrom size + g.stageBytes size) / size - g.first)

/-- Bytes of the staging ring that points not yet played hold. -/
def Head.stageHeld (h : Head) : Nat :=
  (h.segs.map fun g => if g.clip.isSome then (g.staged - g.next) * hdPoint h.record else 0).sum

/-- The next read of a head's queued clip points, in order, one at a time and as far as the ring allows; none after one that failed. -/
def State.stageHead (s : State) (n : Nat) : State :=
  let h := at_ s.heads n
  let busy := s.cs.ops.any fun o => match o.use with
    | .points k _ _ => k == n
    | _ => false
  match h.segs.find? fun g => g.clip.isSome && decide (g.staged < g.count) with
  | some g =>
    let size := hdPoint h.record
    let steps := match g.clip.bind fun c => s.clip c.1 with
      | some (_, r) => s.contentSteps false r (g.stageFrom size) (g.stageBytes size) none
      | none => [.flush]
    if busy ∨ g.broken ∨ s.mounted = false ∨ ringBytes < h.stageHeld + stretchBytes then s
    else s.addOp (.points n g.no.toNat (g.first + g.staged)) steps
  | none => s

/-- A read of clip points has ended: they are staged and those within 2 ms are asked for, or the segment is broken. -/
def State.pointsStaged (s : State) (n no k : Nat) (good : Bool) : State :=
  let h := at_ s.heads n
  match h.segs.find? fun g => g.no.toNat == no && g.clip.isSome && g.first + g.staged == k with
  | none => s
  | some g =>
    let to_ := g.stagedNext (hdPoint h.record)
    let s := s.head n fun h => { h with segs := h.segs.map fun x => if x.no ≠ g.no then x
      else if good then { x with staged := to_ } else { x with broken := true } }
    if good then s.readPoints n (ceilDiv (min (g.next + g.ahead) to_ - g.staged) (perRead h.record)) g else s

/-- The error is judged: a point in whose interval it lies above BLANK_ERR is counted once (11 R248). -/
def State.noteError (s : State) (n : Nat) : State :=
  let h := at_ s.heads n
  if s.errBlanks n ∧ h.state = 2 ∧ h.limitedNow = false ∧ s.now < h.dueEnd then
    s.head n fun h => { h with limitedNow := true, limited := h.limited + 1 }
  else s

/-- The next queued point can be read. -/
def Head.nextIn (h : Head) : Bool := match h.front with
  | some g => g.has g.next
  | none => false

/-- A point of a segment has been played. -/
def Head.advance (h : Head) (g : Segment) : Head :=
  { h with segs := h.segs.map fun x => if x.no = g.no then { x with next := x.next + 1 } else x, played := h.played + 1 }

/-- A point plays: `data` is the point, followed by the next one where it has landed. -/
def State.playPoint (s : State) (n : Nat) (g : Segment) (data : Rec) : State :=
  let h := at_ s.heads n
  let r := h.record
  let flags := pointFlags r data
  let ints := if bit flags 0 then List.replicate 8 0 else pointInts r data
  let d := hdIntDelay r
  let s := s.head n fun h => { h.advance g with
    tgtFrom := landedSet r data 0,
    ahead := if 2 * hdPoint r ≤ data.length ∧ (h.advance g).nextIn then some (landedSet r data 1) else none,
    dueAt := g.due, dueEnd := g.due + g.period, ints := ints, shown := ints, limitedNow := false }
  let s := s.head n fun h => { (h.pushLight s.now (g.due + d) ints).pushLight s.now (g.due + g.period + d) (List.replicate 8 0)
    with emptyAt := if h.queued = 0 then s.now else h.emptyAt }
  let s := s.enterHead n 2
  let lit := (s.headChans n).any fun c => s.mayLight n c
  let s := if lit then s else s.head n fun h => { h with withheld := h.withheld + 1 }
  let s := if bit flags 1 then s.pointMark n g else s
  (s.readAhead n g).noteError n

/-- The segment whose point falls due now, on a head in PARKED or RUN that has not stalled. -/
def State.pointReady (s : State) (n : Nat) : Option Segment :=
  let h := at_ s.heads n
  if (h.state ≠ 1 ∧ h.state ≠ 2) ∨ h.stalled.isSome ∨ 3 < n then none else h.front

/-- Points that have landed ahead of their due instant: `data` begins with the next queued one. -/
def State.pointAhead (s : State) (n : Nat) (data : Rec) : State :=
  let h := at_ s.heads n
  if h.state = 2 ∧ h.ahead = none ∧ h.nextIn ∧ hdPoint h.record ≤ data.length then
    s.head n fun h => { h with ahead := some (landedSet h.record data 0) }
  else s

/-- A point falls due: it plays, or, where it has not landed or is not staged, the stream stalls with the target at the last played point, at park where none has been played in
this run (11 R239, R250). -/
def State.pointDue (s : State) (n : Nat) (data : Option Rec) : State :=
  let s := s.head n fun h => h.trim s.now
  match s.pointReady n with
  | none => s
  | some g =>
    let s := s.forward g.due
    match if g.has g.next then data else none with
    | some d => s.playPoint n g d
    | none =>
      let s := s.head n fun h => { h with
        stalled := some s.now, stalls := h.stalls + 1, ahead := none, ints := List.replicate 8 0,
        tgtFrom := if h.state = 1 then hdPark h.record else h.tgtFrom, dueEnd := if h.state = 1 then s.now else h.dueEnd }
      s.enterHead n 2

/-- Segments after a stall of `l` tu: unstated starts move on, a stated one only where it would overlap. -/
def shiftSegs (l : Nat) : Option Nat → List Segment → List Segment
  | _, [] => []
  | prev, g :: gs =>
    let g' := match prev with
      | none => { g with start := g.start + l }
      | some e => if g.fixed then { g with start := max g.start e } else { g with start := max (g.start + l) e }
    g' :: shiftSegs l (some g'.ends) gs

/-- Stalled data has landed: play resumes 400 tu later (11 R250). -/
def State.pointLanded (s : State) (n : Nat) : State :=
  match if (at_ s.heads n).nextIn then (at_ s.heads n).stalled else none with
  | none => s
  | some t =>
    let s := s.forward (s.now + 400)
    let l := s.now - t
    let s := s.head n fun h => { h with
      stalled := none,
      segs := (h.segs.filter fun g => g.left == 0) ++ shiftSegs l none (h.segs.filter fun g => g.left != 0) }
    s.raise 0x0803 n (sat 32 l)

/-- PARK_IDLE after the last interval has ended and the queue has become empty (11 R239, R257). -/
def State.parkIdle (s : State) (n : Nat) : State :=
  let h := at_ s.heads n
  if h.state = 2 ∧ h.queued = 0 then
    ((s.forward (max h.dueEnd h.emptyAt + hdParkIdle h.record * tuUs)).headStill n).enterHead n 1
  else s

/-! ## Park and the monitor (11 R252, R254) -/

/-- y of a fast axis from its last position code (13 R284). -/
def fastFb (io : AxisIo) : Int := clampQ (roundDiv (i32 io.record 4 * io.raw) 4 + i32 io.record 8 * 2 ^ 8)

/-- Both axes are CLOSED and lie within PARK_TOL of park. -/
def State.atPark (s : State) (n : Nat) : Bool :=
  let r := (at_ s.heads n).record
  let (px, py) := hdPark r
  let near := fun (a : Nat) (p : Int) =>
    (at_ s.axes a).state == 1 && decide ((p - (at_ s.axes a).r1).natAbs ≤ hdParkTol r * 2 ^ 23) &&
      decide ((p - fastFb (at_ s.ios a)).natAbs ≤ hdParkTol r * 2 ^ 23)
  near (2 * n) px && near (2 * n + 1) py

/-- Whether the axes of a head in PARKED or BLANKED lie at park, judged at every sample and conversion of theirs. -/
def State.notePark (s : State) (n : Nat) : State :=
  let st := (at_ s.heads n).state
  let near := (st == 1 || st == 3) && s.atPark n
  s.head n fun h => { h with parkAt := if near then some (h.parkAt.getD s.now) else none }

/-- The head has been at park for 1 ms. -/
def State.headOnDump (s : State) (n : Nat) : State :=
  let s := s.notePark n
  match (at_ s.heads n).parkAt with
  | none => s
  | some t => (s.forward (t + tuMs)).head n fun h => { h with onDump := true }

/-- A channel of a head conducts at instant t. -/
def State.headLit (s : State) (n t : Nat) : Bool := (s.headChans n).any fun c => s.pinCode c (at_ s.src.sinks c) t != 0

/-- The monitor of a head has been disarmed since its last sample: at the end of a command, or where the delay line asks for dark. -/
def State.monitorBroke (s : State) (n : Nat) : Bool :=
  let h := at_ s.heads n
  s.src.disarmed.getD n true ||
    h.line.any fun e => decide (h.sampAt < e.at_) && decide (e.at_ ≤ s.now) && !s.headLit n e.at_

/-- One feedback sample of the scan-speed monitor; a disarmed interval starts the dwell again. -/
def State.scanSample (s : State) (n : Nat) : State :=
  if 3 < n then s else
  let s := s.forward (max (400 * ceilDiv s.now 400) ((at_ s.heads n).sampAt + 400))
  let s := (s.noteError n).settleSources
  let h := at_ s.heads n
  let here := (fastFb (at_ s.ios (2 * n)), fastFb (at_ s.ios (2 * n + 1)))
  let old := h.history.getD 7 here
  let speed := max (here.1 - old.1).natAbs (here.2 - old.2).natAbs / 2 ^ 23
  let armed := s.monitorArmed n
  let slow := decide (speed < hdFloor h.record)
  let dwell := if armed && slow then some (if s.monitorBroke n then s.now else h.dwell.getD s.now) else none
  let s := s.head n fun h => { h with
    history := (here :: h.history).take 8, speed := sat 16 speed, dwell := dwell, sampAt := s.now }
  let s := { s with src := { s.src with disarmed := upd s.src.disarmed n fun _ => !armed } }
  match dwell with
  | none => s
  | some t => if t + hdDwell h.record * tuUs < s.now then s.blankHead n 0 else s

/-! ## Commands (11 R257) -/

/-- A head is named by a BEAM slot of the live armature or of a pending commit. -/
def State.headNamed (s : State) (n : Nat) : Bool :=
  let names := fun (c : Cfg) => c.slots.any fun k => k.type == 1 && bit k.units n
  names s.com.live || (s.com.next.map fun p => names p.cfg).getD false || (s.com.later.map fun p => names p.cfg).getD false

/-- HEAD_CONFIG. The producer index of a new ring is 0. -/
def cmdHeadConfig : Cmd where
  op := 0x0800
  len := lenIs 52
  run := fun h p s =>
    let n := byteAt p 0
    let old := (at_ s.heads n).record
    if headOk p = false then refuse cBadParam s
    else if hdMonitor old ∧ hdMonitor p = false ∧ s.unlocked h = false then refuse cLocked s
    else if (at_ s.heads n).state ≠ 0 ∨ s.headNamed n then refuse cState s
    else ok (s.head n fun x => { x with record := p, producer := 0 })

/-- HEAD_READ. -/
def cmdHeadRead : Cmd where
  op := 0x0801
  len := lenIs 4
  run := fun _ p s => if 3 < byteAt p 0 then refuse cBadParam s else okWith (at_ s.heads (byteAt p 0)).record s

/-- HEAD_CONTROL. -/
def cmdHeadControl : Cmd where
  op := 0x0802
  len := lenIs 4
  run := fun _ p s =>
    let n := byteAt p 0
    if 3 < n then refuse cBadParam s else
    let h := at_ s.heads n
    match byteAt p 1 with
    | 0 =>
      if h.state = 0 then ok s
      else ok ((((s.headDark n).discardHead n).enterHead n 0).setRing n 0)
    | 1 => if h.state ≠ 0 ∨ s.axesReady n = false then refuse cState s else ok (s.enterHead n 1)
    | 2 =>
      if h.state ≠ 3 ∨ ((List.range 7).any fun c => bit h.causes c && s.causeHolds n c) then refuse cState s
      else ok ((s.head n fun h => { h with causes := 0 }).enterHead n 1)
    | 3 => ok ((s.discardHead n).headStill n)
    | 4 => if h.state = 0 then refuse cState s else ok (s.blankHead n 6)
    | _ => refuse cBadParam s

/-- RETRY_US of POINT_APPEND: when the entries that are lacking will have played and a segment place opens. -/
def Head.retry (h : Head) (now count : Nat) : Nat :=
  if hdRing h.record < count then 0xFFFFFFFF else
  let lack := count - h.ringFree
  let dues := ((h.segs.filter fun g => g.clip.isNone).map fun g =>
    (List.range g.left).map fun i => g.start + (g.next + i) * g.period).flatten
  let byRing := if lack = 0 then now else dues.getD (lack - 1) now
  let bySeg := if h.segs.length < 64 then now else (h.segs.headD default).ends
  ceilDiv (max byRing bySeg - now) tuUs

/-- Why a SOURCE 1 append is refused, if it is: the clip, its type, its format and its length (11 R243, 19 R422). -/
def State.clipFault (s : State) (n : Nat) (p : Rec) : Option Nat :=
  if s.mounted = false then some cState else
  match s.clip (u32 p 0x14) with
  | none => some cBadParam
  | some (_, c) =>
    let i := clInfo c
    if clType c ≠ 2 ∨ inPtFormat i % 2 ≠ b2n (hdFormat (at_ s.heads n).record) ∨
        inPoints i < u32 p 0x18 + u32 p 4 then some cBadParam
    else if clSealed c = false then some cState
    else if s.cs.rings.getD n 0 = 0 ∧ s.poolFree < ringBytes then some cNoSpace
    else none

/-- PERIOD of an append. -/
def State.appendPeriod (s : State) (p : Rec) : Nat :=
  if u32 p 8 = 0 ∧ byteAt p 1 = 1 then ((s.clip (u32 p 0x14)).map fun c => inPtPeriod (clInfo c.2)).getD 0 else u32 p 8

/-- The queued segment and its reply. -/
def State.appendSeg (s : State) (n : Nat) (p : Rec) : Ans × State :=
  let h := at_ s.heads n
  let follow := bit (byteAt p 2) 0
  let q := match h.segs.getLast? with
    | none => s.now
    | some g => g.ends
  let a := s.now + 8000
  let want := s.instantOf (u32 p 0x0C) (u32 p 0x10)
  let good := match want with
    | some t => decide (q ≤ t) && decide (a ≤ t)
    | none => false
  let start := if follow ∨ good = false then max q a else want.getD 0
  let count := u32 p 4
  let ring := byteAt p 1 == 0
  let g : Segment :=
    { no := h.segNo, start := start, count := count, period := s.appendPeriod p,
      clip := if ring then none else some (u32 p 0x14, u32 p 0x18), next := 0, fixed := !follow,
      staged := 0, broken := false }
  let d := s.ticksTo start
  let s := s.head n fun h => { h with
    segs := h.segs ++ [g], segNo := h.segNo + 1, appended := h.appended + BitVec.ofNat 64 count,
    producer := if ring then (h.producer + count) % max 1 (hdRing h.record) else h.producer }
  let s := if ring then s.readPoints n (ceilDiv g.ahead (perRead h.record)) g else (s.setRing n ringBytes).stageHead n
  (.reply (if follow || good then cOk else cLate)
    (le 4 g.no.toNat ++ le 4 (s.tk.tick + BitVec.ofNat 32 d).toNat ++ le 4 (start - s.boundaryAt d) ++
      le 4 (at_ s.heads n).ringFree), s)

/-- POINT_APPEND. -/
def cmdPointAppend : Cmd where
  op := 0x0803
  len := lenIs 28
  run := fun _ p s =>
    let n := byteAt p 0
    let src := byteAt p 1
    let count := u32 p 4
    let s := if n ≤ 3 then s.head n fun h => h.trim s.now else s
    let h := at_ s.heads n
    let per := u32 p 8
    if 3 < n ∨ 1 < src ∨ count = 0 ∨ (inRange 4000 4000000 per = false ∧ ¬(src = 1 ∧ per = 0)) ∨
        (bit (byteAt p 2) 0 = false ∧ s.offsetOk (u32 p 0x0C) (u32 p 0x10) = false) then refuse cBadParam s
    else if h.state ≠ 1 ∧ h.state ≠ 2 then refuse cState s
    else match if src = 1 then s.clipFault n p else none with
      | some code => refuse code s
      | none =>
        if (src = 0 ∧ h.ringFree < count) ∨ 64 ≤ h.segs.length then
          (.reply cBusy (le 4 (h.retry s.now (if src = 0 then count else 0)) ++ le 4 h.ringFree), s)
        else s.appendSeg n p

/-- HEAD_STATUS; whether the monitor is armed is seen at the take. -/
def cmdHeadStatus : Cmd where
  op := 0x0804
  len := lenIs 4
  run := fun _ p s =>
    let n := byteAt p 0
    if 3 < n then refuse cBadParam s else
    let s := s.head n fun h => h.trim s.now
    let h := at_ s.heads n
    okWith (le 1 h.state ++ le 1 h.causes ++ le 1 h.segs.length ++
      le 1 (maskOf [h.onDump, s.settleSources.monitorArmed n, h.stalled.isSome]) ++ le 4 h.queued ++ le 8 h.appended.toNat ++
      le 8 h.played.toNat ++ le 8 h.discarded.toNat ++ le 4 h.withheld.toNat ++ le 4 h.limited.toNat ++
      le 4 h.stalls.toNat ++ le 4 h.marksLost.toNat ++ le 4 h.ringFree ++ le 2 h.speed ++ le 2 (s.trackErr n)) s

/-! ## Check BEAM (11 R256) -/

/-- A head named by a BEAM slot meets the shared-emitter rules of an armature. -/
def State.beamSlotOk (s : State) (c : Cfg) (k : Slot) (n : Nat) : Bool :=
  let h := at_ s.heads n
  let r := h.record
  let shared := channels.filter fun x => sharedOf n (s.chan x)
  h.state != 0 && !(s.headChans n).isEmpty &&
    (shared.isEmpty || (hdPthMask r != 0 && k.pth &&& hdPthMask r == hdPthBeam r &&& hdPthMask r &&
      c.slots.all fun q => q.type != 0 || !(shared.any fun x => bit q.units (chArray (s.chan x))) ||
        q.pth &&& hdPthMask r != hdPthBeam r &&& hdPthMask r))

/-- Check BEAM of an armature. -/
def State.beamOk (s : State) (c : Cfg) : Bool :=
  c.slots.all fun k => k.type != 1 || [0, 1, 2, 3].all fun n => !bit k.units n || s.beamSlotOk c k n

/-- HEAD_CONFIG (11 R240). -/
def execHeadConfig (h : Hdr) (p : Rec) (s : State) : Out := done (s.command cmdHeadConfig h p)
/-- HEAD_READ (11 R257). -/
def execHeadRead (h : Hdr) (p : Rec) (s : State) : Out := done (s.command cmdHeadRead h p)
/-- HEAD_CONTROL (11 R239). -/
def execHeadControl (h : Hdr) (p : Rec) (s : State) : Out := done (s.command cmdHeadControl h p)
/-- POINT_APPEND (11 R243 to R245). -/
def execPointAppend (h : Hdr) (p : Rec) (s : State) : Out := done (s.command cmdPointAppend h p)
/-- HEAD_STATUS (11 R257). -/
def execHeadStatus (h : Hdr) (p : Rec) (s : State) : Out := done (s.command cmdHeadStatus h p)
/-- POINT_DATA_LANDED (11 R250). -/
def execPointDataLanded (n : Nat) (s : State) : Out := done (s.pointLanded n)
/-- PARK_IDLE_EXPIRY (11 R239). -/
def execParkIdleExpiry (n : Nat) (s : State) : Out := done (s.parkIdle n)
/-- HEAD_ON_DUMP (11 R252). -/
def execHeadOnDump (n : Nat) (s : State) : Out := done (s.headOnDump n)
/-- SCAN_SPEED_SAMPLE (11 R254). -/
def execScanSpeedSample (n : Nat) (s : State) : Out := done (s.scanSample n)

end Sys2Proof.Machine
end

