-- ==== Sys2Proof/Machine/AxisIo.lean ====
section
/-! DEFINITION. Set-points, drive and feedback interfaces, feedback faults, heel, triggers and the interlock (chapter 13).
Axis states: 0 OPEN, 1 CLOSED, 2 HEEL. -/
namespace Sys2Proof.Machine

/-- Change one axis of the engine, or the interface side of it. -/
def State.axis (s : State) (a : Nat) (f : Axis → Axis) : State := { s with axes := upd s.axes a f }
def State.io (s : State) (a : Nat) (f : AxisIo → AxisIo) : State := { s with ios := upd s.ios a f }

def allAxes : List Nat := List.range 16

/-! ## Records (13 R278, R287, R296) -/

def ioKind (r : Rec) : Nat := byteAt r 1
def ioDrive (r : Rec) : Nat := byteAt r 2
def ioSource (r : Rec) : Nat := byteAt r 3
def ioEncZero (r : Rec) : Int := i32 r 0x10
def ioSsiBits (r : Rec) : Nat := byteAt r 0x15
def ioSsiStatus (r : Rec) : Nat := bits (byteAt r 0x16) 3 0
def ioSsiCrc (r : Rec) : Bool := bit (byteAt r 0x16) 4
def ioSsiGray (r : Rec) : Bool := bit (byteAt r 0x16) 5
def ioPwmTu (r : Rec) : Nat := u16 r 0x18
def ioMinPulse (r : Rec) : Nat := u16 r 0x1A
def ioVbusRatio (r : Rec) : Nat := u16 r 0x24

/-- 13 R287. -/
def ioOk (r : Rec) : Bool :=
  let a := byteAt r 0
  let k := ioKind r
  let d := ioDrive r
  decide (a ≤ 15) && (if a < 8 then k == 0 && d == 0 else inRange 1 3 k && inRange 1 2 d && (d != 2 || decide (k ≤ 2))) &&
    decide (ioSource r ≤ 2) && decide (byteAt r 0x14 ≤ 15) && inRange 10 32 (ioSsiBits r) && decide (ioSsiStatus r ≤ 8) &&
    inRange 10 100 (byteAt r 0x17) && inRange 4000 40000 (ioPwmTu r) && decide (ioMinPulse r ≤ 400) &&
    inRange 1 64 (byteAt r 0x1C) && inRange 16 (2 ^ 31) (u32 r 0x20) &&
    inRange 256 16384 (ioVbusRatio r)

def exStepMin (r : Rec) : Nat := u32 r 0x10
def dtMask (r : Rec) : Nat := byteAt r 1
def dtArmed (r : Rec) (cause : Nat) : Bool := bit (dtMask r) cause

/-- VMAX, AMAX and JMAX as fractions. -/
def limV (r : Rec) : Rat := (u64 r 8 : Rat) / 2 ^ 32
def limA (r : Rec) : Rat := (u64 r 0x10 : Rat) / 2 ^ 24
def limJ (r : Rec) : Rat := (u64 r 0x18 : Rat) / 2 ^ 16

/-- The output of an axis has started; until then its DAC is at code 0 and its PWM outputs are low (15 R331). -/
def AxisIo.started (x : AxisIo) (now : Nat) : Bool := startedBy x.startAt 0 0 now

/-! ## Heel (13 R288 to R292) -/

/-- FB_VALID in ms. -/
def State.fbValid (s : State) (a : Nat) : Nat := sat 16 ((s.now - (at_ s.ios a).badAt) / tuMs)

/-- The feedback of an axis has just been invalid. -/
def State.fbBad (s : State) (a : Nat) : State := s.io a fun x => { x with badAt := s.now }

/-- A move ends, and an armed move is discarded (13 R279). -/
def State.endMove (s : State) (a result : Nat) : State :=
  let was := (at_ s.ios a).moving || (at_ s.ios a).newTarget.isSome
  let s := s.io a fun x => { x with moving := false, newTarget := none, armed := none }
  s.raiseIf was 0x0982 a result

/-- Heel entry, or a further cause in HEEL, which also drops a close that waits for its sample: heel entry goes before a close
(12 R272, 13 R290). -/
def State.heel (s : State) (a cause : Nat) : State :=
  if (at_ s.axes a).state = 2 then
    let s := s.axis a fun x => { x with closeAt := none }
    if bit (at_ s.ios a).causes cause then s
    else (s.io a fun x => { x with causes := x.causes + 2 ^ cause }).raise 0x0981 a (1 + 256 * cause)
  else
    let s := s.axis a fun x => { x with state := 2, closeAt := none, openAt := none }
    let s := s.io a fun x => { x with
      causes := 2 ^ cause, brake := x.brake || decide (8 ≤ a), rampFrom := x.dac,
      rampStep := if a < 8 ∧ x.startAt.isSome then some 0 else none, rampAt := s.now, stallAt := none, frzRun := 0, frzU := [] }
    let s := s.raise 0x0981 a (1 + 256 * cause)
    let s := s.endMove a 1
    if a < 8 then s.blankHead (a / 2) (2 + a % 2) else s

/-- A detector of 13 R288 that acts always: the feedback is invalid; in CLOSED it sends the axis to heel, and in HEEL it is a further
cause (13 R290). -/
def State.detect (s : State) (a cause : Nat) : State :=
  if dtArmed (at_ s.ios a).det cause then
    let s := s.fbBad a
    if (at_ s.axes a).state = 0 then s else s.heel a cause
  else s

/-- One step of the 1 ms ramp of a heeled fast axis (13 R290). -/
def State.heelRamp (s : State) (a : Nat) : State :=
  match (at_ s.ios a).rampStep with
  | none => s
  | some k =>
    let s := s.forward ((at_ s.ios a).rampAt + 400 * (k + 1))
    s.io a fun x => { x with
      dac := roundDiv (x.rampFrom * ((1000 - (k + 1) : Nat) : Int)) 1000,
      rampStep := if k + 1 < 1000 then some (k + 1) else none }

/-! ## Feedback (13 R284, R286) -/

/-- Gray to binary, most significant bit first. -/
def grayBits : Bool → List Bool → List Bool
  | _, [] => []
  | p, b :: bs => (p != b) :: grayBits (p != b) bs

/-- Bits, most significant first, as a value. -/
def bitsVal (l : List Bool) : Nat := l.foldl (fun v b => 2 * v + b2n b) 0

/-- CRC-6 with polynomial x^6 + x + 1, initial value 0, output inverted. -/
def crc6 (l : List Bool) : Nat :=
  63 - l.foldl (fun c b =>
    let top := (c / 32 == 1) != b
    let c := c * 2 % 64
    if top then c ^^^ 3 else c) 0

/-- The position field of a frame, none if its CRC fails. -/
def ssiValue (r : Rec) (frame : List Bool) : Option Nat :=
  let n := ioSsiBits r
  let m := n + ioSsiStatus r
  let pos := frame.take n
  if ioSsiCrc r ∧ bitsVal (slice frame m 6) ≠ crc6 (frame.take m) then none
  else some (bitsVal (if ioSsiGray r then grayBits false pos else pos))

/-- y of a count. -/
def countFb (r : Rec) (count : Int) : Int := clampQ ((count - ioEncZero r) * u32 r 0x0C)

/-- y of a motion axis with analogue feedback. -/
def motionFb (io : AxisIo) : Int := clampQ (i32 io.record 4 * io.raw + i32 io.record 8 * 2 ^ 8)

/-- The feedback value of a sample instant; SSI frames are read here, with detectors 5 and 6. -/
def State.feedback (s : State) (a : Nat) (m : SsiIn) : Int × State :=
  let x := at_ s.ios a
  match ioKind x.record with
  | 0 => (fastFb x, s)
  | 1 => (countFb x.record x.count, s)
  | 2 =>
    let y := (at_ s.axes a).y
    match m with
    | .none => (countFb x.record x.count, s)
    | .noStart =>
      let s := s.io a fun x => { x with ssiErrors := x.ssiErrors + 1, toRun := x.toRun + 1, crcRun := 0, badAt := s.now }
      (y, if 2 ≤ (at_ s.ios a).toRun then s.detect a 6 else s)
    | .frame bs =>
      match ssiValue x.record bs with
      | none =>
        let s := s.io a fun x => { x with ssiErrors := x.ssiErrors + 1, crcRun := x.crcRun + 1, toRun := 0, badAt := s.now }
        (y, if 2 ≤ (at_ s.ios a).crcRun then s.detect a 5 else s)
      | some v =>
        let s := s.io a fun x => { x with
          count := v, edgeSeen := x.edgeSeen || decide (x.count ≠ v), crcRun := 0, toRun := 0 }
        (countFb x.record v, s)
  | _ => (motionFb x, s)

/-- A position conversion, with detector 2; a fast axis may be at park (11 R252). -/
def State.positionConv (s : State) (a : Nat) (code : Int) : State :=
  let full : Int := if a < 8 then 131072 else 32768
  let ext := decide (code ≤ -full) || decide (full - 1 ≤ code)
  let s := s.io a fun x => { x with raw := code, satRun := if ext then x.satRun + 1 else 0 }
  let k := ioKind (at_ s.ios a).record
  let s := if (k = 0 ∨ k = 3) ∧ 4 ≤ (at_ s.ios a).satRun then s.detect a 2 else s
  if a < 8 then s.notePark (a / 2) else s

/-- A sum conversion, with detector 1. -/
def State.sumConv (s : State) (a code : Nat) : State :=
  let d := (at_ s.ios a).det
  let out := decide (code < u16 d 4) || decide (u16 d 6 < code)
  let s := s.io a fun x => { x with sumCode := code, sumRun := if out then x.sumRun + 1 else 0 }
  if a < 8 ∧ 8 ≤ (at_ s.ios a).sumRun then s.detect a 1 else s

/-- Quadrature decoding: A leading B counts up. -/
def quadStep (a0 b0 a1 b1 : Bool) : Int :=
  match a0, b0, a1, b1 with
  | false, false, true, false => 1
  | true, false, true, true => 1
  | true, true, false, true => 1
  | false, true, false, false => 1
  | false, false, false, true => -1
  | false, true, true, true => -1
  | true, true, true, false => -1
  | true, false, false, false => -1
  | _, _, _, _ => 0

/-- A filtered edge of an encoder (13 R286, R288): `z` is a rising edge of Z. -/
def State.encoderEdge (s : State) (ax : Nat) (a b z : Bool) (gap : Nat) : State :=
  let x := at_ s.ios ax
  if ioKind x.record ≠ 1 then s else
  let da := x.encA != a
  let db := x.encB != b
  let s := s.io ax fun x => { x with
    count := signed 32 (pattern 32 (x.count + quadStep x.encA x.encB a b)), encA := a, encB := b,
    edgeSeen := x.edgeSeen || da || db }
  let s := if z && a && b then s.io ax fun x => { x with zCount := x.count } else s
  if (da && db) || ((da || db) && decide (gap < 14)) then (s.fbBad ax).detect ax 4 else s

/-! ## The profile generator (13 R277) -/

/-- A fraction held to 64 fraction bits. -/
def hold64 (q : Rat) : Rat := (roundRat (q * 2 ^ 64) : Rat) / 2 ^ 64

/-- A square root to within 2^−30 relative. -/
def ratSqrt (x : Rat) : Rat :=
  let r : Rat := (Nat.sqrt (x * 2 ^ 128).floor.toNat : Rat) / 2 ^ 64
  r * (1 + (clampI (-512) 512 (Config.sqrtErr (x * 2 ^ 39).floor.toNat) : Rat) / 2 ^ 39)

def signRat (x : Rat) : Rat := if x < 0 then -1 else if 0 < x then 1 else 0
def absRat (x : Rat) : Rat := if x < 0 then -x else x
def clampRat (lo hi x : Rat) : Rat := max lo (min hi x)

/-- SAMPLE_TU in seconds. -/
def tsOf (r : Rec) : Rat := (u32 r 4 : Rat) / 400000000

/-- A signal in units of 2^−39 as a fraction, and back. -/
def ofQ39 (v : Int) : Rat := (v : Rat) / 2 ^ 39
def toQ39 (q : Rat) : Int := clampQ (roundRat (q * 2 ^ 39))

/-- One sample of the generator: the next (p, v, a), and whether it snapped to the target. -/
def genStep (lim : Rec) (ts t p v a : Rat) : Rat × Rat × Rat × Bool :=
  let vm := limV lim
  let am := limA lim
  let jm := limJ lim
  let d := t - p
  let k := am * am / (2 * jm)
  let vb := -k + ratSqrt (k * k + 2 * am * absRat d)
  let vc := signRat d * min vm vb
  let dv := vc - v
  let ad := signRat dv * min am (ratSqrt (2 * jm * absRat dv))
  let j := clampRat (-jm) jm ((ad - a) / ts)
  let a := hold64 (a + j * ts)
  let v := hold64 (clampRat (-vm) vm (v + a * ts))
  let p := hold64 (p + v * ts)
  let e : Rat := 1 / 2 ^ 32
  if absRat (t - p) ≤ e ∧ absRat v * ts ≤ e ∧ absRat a * ts * ts ≤ e then (t, 0, 0, true) else (p, v, a, false)

/-- The generator is set to y and holds still. -/
def AxisIo.setGen (x : AxisIo) (y : Int) : AxisIo := { x with p := ofQ39 y, v := 0, a := 0, target := y, pExt := y }

/-- An axis of a head that is not OFF. -/
def State.headAxis (s : State) (a : Nat) : Bool := decide (a < 8) && (at_ s.heads (a / 2)).state != 0

/-- A target whose command was taken before this sample (13 R279). -/
def State.newTarget (s : State) (a : Nat) : Option Int := match (at_ s.ios a).newTarget with
  | some (t, v) => if t < s.now then some v else none
  | none => none

/-- T of a sample: stream mode, a new target, or the last one. -/
def State.genTarget (s : State) (a : Nat) : Int :=
  let x := at_ s.ios a
  if s.headAxis a then
    let (tx, ty) := s.headTarget (a / 2)
    clampI (ioSoftLo x.record) (ioSoftHi x.record) (if a % 2 = 0 then tx else ty)
  else (s.newTarget a).getD x.target

/-- SP_SOURCE 0. -/
def State.genSetpoint (s : State) (a : Nat) : Int × State :=
  let t := s.genTarget a
  let x := at_ s.ios a
  let (p, v, acc, snap) := genStep x.lim (tsOf (at_ s.axes a).record) (ofQ39 t) x.p x.v x.a
  let taken := (s.newTarget a).isSome
  let moving := x.moving || taken
  let s := s.io a fun x =>
    { x with p := p, v := v, a := acc, target := t, newTarget := if taken then none else x.newTarget,
             moving := moving && !snap }
  (toQ39 p, s.raiseIf (moving && snap) 0x0982 a 0)

/-- The rate clamp of the external sources (13 R283). -/
def State.rateClamp (s : State) (a : Nat) (t : Int) : Int × State :=
  let r1 := (at_ s.axes a).r1
  let x := at_ s.ios a
  let lim := roundRat ((u64 x.ext 0x14 : Rat) / 2 ^ 32 * tsOf (at_ s.axes a).record * 2 ^ 39)
  let d := clampI (-lim) lim (t - r1)
  (r1 + d, if d ≠ t - r1 then s.io a fun x => { x with rateClamped := x.rateClamped + 1 } else s)

/-- The median of the last three values. -/
def median3 (l : List Int) : Int := match l with
  | [a, b, c] => max (min a b) (min (max a b) c)
  | x :: _ => x
  | [] => 0

/-- A conversion of the external input (13 R281). -/
def AxisIo.extConv (x : AxisIo) (code : Int) : AxisIo :=
  let ext := decide (code ≤ -32768) || decide (32767 ≤ code)
  let v := if ext then x.lastExt else code
  { x with lastExt := v, median := (v :: x.median).take 3, extSat := if ext then x.extSat + 1 else x.extSat }

/-- The set-point of a CLOSED axis at a sample. -/
def State.setpoint (s : State) (a : Nat) : Int × State :=
  let x := at_ s.ios a
  match ioSource x.record with
  | 0 => s.genSetpoint a
  | 1 =>
    let m := median3 x.median
    let t := clampI (ioSoftLo x.record) (ioSoftHi x.record) (i32 x.ext 4 * m + i32 x.ext 8 * 2 ^ 8)
    s.rateClamp a t
  | _ => s.rateClamp a (clampI (ioSoftLo x.record) (ioSoftHi x.record) x.pExt)

/-- A step edge (13 R282); steps while the axis is not CLOSED are discarded and not counted. -/
def State.extStep (s : State) (a : Nat) (dirHigh : Bool) : State :=
  let x := at_ s.ios a
  if ioSource x.record ≠ 2 ∨ (at_ s.axes a).state ≠ 1 then s else
  let early := match x.stepAt with
    | none => false
    | some t => decide (s.now < t + exStepMin x.ext)
  if early then s.io a fun x => { x with stepsClamped := x.stepsClamped + 1 }
  else
    let pos := dirHigh != bit (byteAt x.ext 1) 0
    let d : Int := u32 x.ext 0x0C
    s.io a fun x => { x with pExt := x.pExt + (if pos then d else -d), stepAt := some s.now }

/-! ## Drive (13 R284, R285) -/

/-- The DAC code of u. -/
def dacCode (u : Int) : Int := clampI (-131072) 131071 (roundDiv u (2 ^ 22))

/-- The on-time of a duty, with MIN_PULSE. -/
def onTime (pwm minPulse : Nat) (d : Rat) : Nat :=
  let t := (clampI 0 pwm (roundRat (d * pwm))).toNat
  if t < minPulse then 0 else if pwm - t < minPulse then pwm else t

/-- cos and sin of 2π × turns through sin(πu). -/
def sinTurn (t : Rat) : Rat := sinPi (2 * t)

/-- The duties of an axis (13 R285). -/
def axisDuties (x : AxisIo) (state : Nat) : List Rat :=
  let r := x.record
  if ioDrive r = 1 then
    let u : Rat := if state = 1 then ofQ39 x.ub else 0
    [1 / 2 + u / 2, 1 / 2 - u / 2, 0]
  else
    let u : Rat := if state = 1 then ofQ39 x.ub else 0
    let th : Rat := (x.count - ioEncZero r : Int) * (byteAt r 0x1C : Rat) / (max 1 (u32 r 0x20) : Nat) +
      (u16 r 0x1E : Rat) / 65536
    (List.range 3).map fun k => 1 / 2 + u * sinTurn (th - (k : Rat) / 3) / 2

/-- A PWM period of a motion axis starts. -/
def State.pwmPeriod (s : State) (a : Nat) : State :=
  if a < 8 then s else
  s.io a fun x =>
    if x.started s.now = false ∨ x.brake then { x with duties := [0, 0, 0] }
    else { x with duties := (axisDuties x (at_ s.axes a).state).map (onTime (ioPwmTu x.record) (ioMinPulse x.record)) }

/-! ## Triggers and the interlock (13 R293 to R295) -/

/-- Change one trigger input. -/
def State.trig (s : State) (i : Nat) (f : Trigger → Trigger) : State :=
  { s with show_ := { s.show_ with trigs := upd s.show_.trigs i f } }

def State.trigEnabled (s : State) (i : Nat) : Bool := decide (i < 8) && bit (byteAt s.show_.cfg (4 * i)) 0
def State.trigFilt (s : State) (i : Nat) : Nat := u16 s.show_.cfg (4 * i + 2)

/-- The moves armed on an input start at the first sample after it. -/
def State.startArmed (s : State) (i : Nat) : State :=
  allAxes.foldl (fun s a => s.io a fun x => match x.armed with
    | some (t, v) => if t = i then { x with armed := none, newTarget := some (s.now, v) } else x
    | none => x) s

/-- The raw level of an input that is its active one. -/
def State.trigHigh (s : State) (i : Nat) : Bool := bit (byteAt s.show_.cfg (4 * i)) 1

/-- Trigger settings take effect: a disabled input is inactive, and an enabled one is judged by its level without a trigger; a
stuck input that is active no more is no longer stuck (13 R293, R294). -/
def State.setTriggers (s : State) (cfg : Rec) : State :=
  let act := fun (i : Nat) (t : Trigger) => bit (byteAt cfg (4 * i)) 0 && t.level == bit (byteAt cfg (4 * i)) 1
  let freed := (List.range 8).filter fun i => (at_ s.show_.trigs i).stuck && !act i (at_ s.show_.trigs i)
  freed.foldl (fun s i => s.raise 0x0984 i 0)
    { s with show_ := { s.show_ with
        cfg := cfg
        trigs := s.show_.trigs.mapIdx fun i t => { t with
          active := act i t, since := if act i t && !t.active then s.now else t.since, stuck := t.stuck && act i t } } }

/-- A filtered change to active (13 R293); a stuck input is held. -/
def State.trigger (s : State) (i : Nat) : State :=
  let t := at_ s.show_.trigs i
  if s.trigEnabled i = false ∨ t.stuck then s else
  let (tick, ofs) := s.dateOf (s.now - s.trigFilt i)
  let s := s.trig i fun t => { t with level := s.trigHigh i, active := true, since := s.now }
  if t.lastTick = some tick then s.trig i fun t => { t with extra := t.extra + 1 }
  else
    let s := s.trig i fun t => { t with lastTick := some tick, count := t.count + 1 }
    (s.deliver (mkEvent 0x0983 i tick ofs (at_ s.show_.trigs i).count.toNat)).startArmed i

/-- An input active for 10 s (13 R294). -/
def State.triggerHeld (s : State) (i : Nat) : State :=
  let t := at_ s.show_.trigs i
  if s.trigEnabled i ∧ t.active ∧ t.stuck = false then
    let s := s.forward (t.since + 10 * tuS)
    (s.trig i fun t => { t with stuck := true }).raise 0x0984 i 1
  else s

/-- A filtered change to inactive. -/
def State.triggerRelease (s : State) (i : Nat) : State :=
  let t := at_ s.show_.trigs i
  if t.active = false ∨ 7 < i then s else
  (s.trig i fun t => { t with level := !s.trigHigh i, active := false, stuck := false }).raiseIf t.stuck 0x0984 i 0

/-- ILK_N deasserted; a run of its 10 ms that has begun is over. -/
def State.interlockOff (s : State) : State :=
  if s.show_.ilkOff then { s with show_ := { s.show_ with ilkLowAt := none } } else
  let s := { s with show_ := { s.show_ with ilkOff := true, ilkLowAt := none, deassertions := s.show_.deassertions + 1 } }
  let s := (s.blankHeads 1).raise 0x0985 0 0
  if bit (byteAt s.show_.cfg 0x20) 0 then
    (allAxes.filter fun a => (at_ s.axes a).state != 0).foldl (fun s a => s.heel a 10) s
  else s

/-- ILK_N low while the interlock is deasserted: its 10 ms begin, or once they are over, counted from the release of PORST_N at the
earliest, the interlock is restored, and the effect outputs may send again (13 R295, 20 R432). -/
def State.interlockRun (s : State) : State :=
  if s.show_.ilkOff = false then s
  else match s.show_.ilkLowAt with
    | none => { s with show_ := { s.show_ with ilkLowAt := some s.now } }
    | some t =>
      if s.boot.porstLow then s else
      let s := s.forward (max t s.boot.released + 10 * tuMs)
      ({ s with
        show_ := { s.show_ with ilkOff := false },
        epb := { s.epb with outs := s.epb.outs.map fun (o : EffectOut) => { o with zeroSent := false } } }).raise 0x0985 0 1

/-! ## Commands (13 R296) -/

/-- AXIS_IO_CONFIG. -/
def cmdAxisIoConfig : Cmd where
  op := 0x0980
  len := lenIs 48
  run := fun _ p s =>
    let a := byteAt p 0
    if ioOk p = false then refuse cBadParam s
    else if (at_ s.axes a).state ≠ 0 then refuse cState s
    else ok (s.io a fun x => { x with record := p })

/-- A read of a record by AXIS. -/
def axisRead (f : State → Nat → Rec) (p : Rec) (s : State) : Ans × State :=
  if 15 < byteAt p 0 then refuse cBadParam s else okWith (f s (byteAt p 0)) s

/-- AXIS_IO_READ. -/
def cmdAxisIoRead : Cmd where
  op := 0x0981
  len := lenIs 4
  run := fun _ p s => axisRead (fun s a => (at_ s.ios a).record) p s

/-- EXT_CONFIG. -/
def cmdExtConfig : Cmd where
  op := 0x0982
  len := lenIs 32
  run := fun _ p s =>
    let a := byteAt p 0
    if 15 < a ∨ inRange 4 400 (u16 p 2) = false ∨ inRange 80 4000000 (exStepMin p) = false then refuse cBadParam s
    else if (at_ s.axes a).state ≠ 0 then refuse cState s
    else ok (s.io a fun x => { x with ext := p })

/-- DETECT_CONFIG: in force from the next sample instant. -/
def cmdDetectConfig : Cmd where
  op := 0x0983
  len := lenIs 32
  run := fun h p s =>
    let a := byteAt p 0
    let x := at_ s.ios a
    let cur := dtMask ((x.detWait.map Prod.snd).getD x.det) % 128
    if 15 < a ∨ inRange 1 10000 (u16 p 0x10) = false ∨ inRange 1 100 (u16 p 0x12) = false then refuse cBadParam s
    else if cur &&& dtMask p ≠ cur ∧ s.unlocked h = false then refuse cLocked s
    else ok (s.io a fun x => { x with detWait := some (s.now, p) })

/-- PROFILE_LIMITS: in force from the next sample instant. -/
def cmdProfileLimits : Cmd where
  op := 0x0984
  len := lenIs 32
  run := fun _ p s =>
    if 15 < byteAt p 0 ∨ u64 p 8 = 0 ∨ u64 p 0x10 = 0 ∨ u64 p 0x18 = 0 then refuse cBadParam s
    else ok (s.io (byteAt p 0) fun x => { x with limWait := some (s.now, p) })

/-- PROFILE_MOVE. -/
def cmdProfileMove : Cmd where
  op := 0x0985
  len := lenIs 16
  run := fun _ p s =>
    let a := byteAt p 0
    let t := i40 p 8
    let x := at_ s.ios a
    if 15 < a ∨ 1 < byteAt p 1 ∨ 7 < byteAt p 2 ∨ t < ioSoftLo x.record ∨ ioSoftHi x.record < t then refuse cBadParam s
    else if (at_ s.axes a).state ≠ 1 ∨ ioSource x.record ≠ 0 ∨ s.headAxis a then refuse cState s
    else if byteAt p 1 = 0 then
      let again := x.moving || x.newTarget.isSome
      ok (s.io a fun x => { x with
        newTarget := some (s.now, t), movesReplaced := if again then x.movesReplaced + 1 else x.movesReplaced })
    else
      ok (s.io a fun x => { x with
        armed := some (byteAt p 2, t),
        movesReplaced := if x.armed.isSome then x.movesReplaced + 1 else x.movesReplaced })

/-- SETPOINT_SOURCE. -/
def cmdSetpointSource : Cmd where
  op := 0x0986
  len := lenIs 4
  run := fun _ p s =>
    let a := byteAt p 0
    if 15 < a ∨ 2 < byteAt p 1 then refuse cBadParam s
    else if (at_ s.axes a).state = 1 ∨ s.headAxis a then refuse cState s
    else ok (s.io a fun x => { x with record := overlay x.record 3 [p.getD 1 0] })

/-- The active coefficient bank and its validity. -/
def Axis.bank (x : Axis) : Rec := if x.active then x.bankB else x.bankA
def Axis.bankValid (x : Axis) : Bool := if x.active then x.validB else x.validA

/-- A cause of heel still holds (13 R292). -/
def State.heelHolds (s : State) (a : Nat) : Bool :=
  let c := (at_ s.ios a).causes
  (bit c 7 && s.show_.bridgeLost) || (bit c 8 && s.mbx.fwState != 1) || (bit c 10 && s.show_.ilkOff)

/-- HEEL_CONTROL. -/
def cmdHeelControl : Cmd where
  op := 0x0987
  len := lenIs 4
  run := fun _ p s =>
    let a := byteAt p 0
    let x := at_ s.axes a
    if 15 < a then refuse cBadParam s else
    match byteAt p 1 with
    | 0 => if x.state = 2 then ok s else ok (s.heel a 9)
    | 1 =>
      if x.state ≠ 2 ∨ s.heelHolds a ∨ s.fbValid a < 100 ∨ x.bankValid = false then refuse cState s
      else ok (s.axis a fun x => { x with closeAt := some (s.now, none) })
    | 2 =>
      if x.state ≠ 2 ∨ s.heelHolds a then refuse cState s
      else
        let s := s.axis a fun x => { x with state := 0, closeAt := none }
        let s := s.io a fun o => { o.setGen x.y with brake := false, rampStep := none, dac := 0 }
        ok (s.raise 0x0981 a 2)
    | _ => refuse cBadParam s

/-- AXIS_IO_STATUS. -/
def cmdAxisIoStatus : Cmd where
  op := 0x0988
  len := lenIs 4
  run := fun _ p s =>
    axisRead (fun s a =>
      let x := at_ s.ios a
      let raw := if ioKind x.record = 1 ∨ ioKind x.record = 2 then x.count else x.raw
      le 1 (at_ s.axes a).state ++ le 1 (ioSource x.record) ++ le 2 x.causes ++ le 2 (s.fbValid a) ++
        le 1 (maskOf [x.moving || x.newTarget.isSome, x.armed.isSome, x.rampStep.isSome, x.brake]) ++ zeros 1 ++
        leI 8 (toQ39 x.p) ++ leI 8 x.target ++ leI 4 raw ++ leI 4 x.zCount ++ le 4 x.ssiErrors.toNat ++
        le 4 x.rateClamped.toNat ++ le 4 x.stepsClamped.toNat ++ le 4 x.extSat.toNat ++ le 4 x.movesReplaced.toNat) p s

/-- TRIGGER_CONFIG; an input that is not enabled reads inactive. -/
def cmdTriggerConfig : Cmd where
  op := 0x0989
  len := lenIs 36
  run := fun _ p s =>
    if (List.range 8).all fun i => inRange 40 40000 (u16 p (4 * i + 2)) then
      ok (s.setTriggers p)
    else refuse cBadParam s

/-- TRIGGER_STATUS. A restore is pending while ILK_N is in the 10 ms of R295. -/
def cmdTriggerStatus : Cmd where
  op := 0x098A
  len := lenIs 0
  run := fun _ _ s =>
    okWith ((s.show_.trigs.map fun t =>
        le 4 t.count.toNat ++ le 4 t.extra.toNat ++ le 1 (maskOf [t.active, t.stuck]) ++ zeros 3).flatten ++
      le 1 (maskOf [s.show_.ilkOff, s.show_.ilkOff && s.show_.ilkLowAt.isSome]) ++ zeros 3 ++ le 4 s.show_.deassertions.toNat) s

/-- AXIS_IO_CONFIG (13 R287). -/
def execAxisIoConfig (h : Hdr) (p : Rec) (s : State) : Out := done (s.command cmdAxisIoConfig h p)
/-- AXIS_IO_READ (13 R296). -/
def execAxisIoRead (h : Hdr) (p : Rec) (s : State) : Out := done (s.command cmdAxisIoRead h p)
/-- EXT_CONFIG (13 R296). -/
def execExtConfig (h : Hdr) (p : Rec) (s : State) : Out := done (s.command cmdExtConfig h p)
/-- DETECT_CONFIG (13 R288). -/
def execDetectConfig (h : Hdr) (p : Rec) (s : State) : Out := done (s.command cmdDetectConfig h p)
/-- PROFILE_LIMITS (13 R278). -/
def execProfileLimits (h : Hdr) (p : Rec) (s : State) : Out := done (s.command cmdProfileLimits h p)
/-- PROFILE_MOVE (13 R279). -/
def execProfileMove (h : Hdr) (p : Rec) (s : State) : Out := done (s.command cmdProfileMove h p)
/-- SETPOINT_SOURCE (13 R276). -/
def execSetpointSource (h : Hdr) (p : Rec) (s : State) : Out := done (s.command cmdSetpointSource h p)
/-- HEEL_CONTROL (13 R290, R292). -/
def execHeelControl (h : Hdr) (p : Rec) (s : State) : Out := done (s.command cmdHeelControl h p)
/-- AXIS_IO_STATUS (13 R296). -/
def execAxisIoStatus (h : Hdr) (p : Rec) (s : State) : Out := done (s.command cmdAxisIoStatus h p)
/-- TRIGGER_CONFIG (13 R296). -/
def execTriggerConfig (h : Hdr) (p : Rec) (s : State) : Out := done (s.command cmdTriggerConfig h p)
/-- TRIGGER_STATUS (13 R296). -/
def execTriggerStatus (h : Hdr) (p : Rec) (s : State) : Out := done (s.command cmdTriggerStatus h p)
/-- HEEL_RAMP_STEP (13 R290). -/
def execHeelRampStep (a : Nat) (s : State) : Out := done (s.heelRamp a)
/-- EXT_STEP_INPUT (13 R282). -/
def execExtStepInput (a : Nat) (dirHigh : Bool) (s : State) : Out := done (s.extStep a dirHigh)
/-- TRIGGER_INPUT (13 R293). -/
def execTriggerInput (i : Nat) (s : State) : Out := done (s.trigger i)
/-- TRIGGER_HELD_10S (13 R294). -/
def execTriggerHeld10s (i : Nat) (s : State) : Out := done (s.triggerHeld i)
/-- TRIGGER_RELEASE (13 R294). -/
def execTriggerRelease (i : Nat) (s : State) : Out := done (s.triggerRelease i)
/-- ENCODER_EDGE (13 R288). -/
def execEncoderEdge (ax : Nat) (a b z : Bool) (gap : Nat) (s : State) : Out := done (s.encoderEdge ax a b z gap)
/-- AXIS_PWM_PERIOD (13 R285). -/
def execAxisPwmPeriod (a : Nat) (s : State) : Out := done (s.pwmPeriod a)

end Sys2Proof.Machine
end

