-- ==== Sys2Proof/Machine/Engine.lean ====
section
/-! DEFINITION. The closed-loop control engine (chapter 12). -/
namespace Sys2Proof.Machine

/-! ## Arithmetic (12 R262): values in 2^−39, coefficients in 2^−32, the accumulator in 2^−71; each saturation counted -/

/-- A value held to a range, and 1 if it lay outside. -/
def satTo (lo hi v : Int) : Int × Nat := (clampI lo hi v, b2n (decide (v < lo) || decide (hi < v)))

/-- A sum into the accumulator. -/
def accAdd (x : Int × Nat) (v : Int) : Int × Nat :=
  let (r, n) := satTo (-(2 ^ 79)) (2 ^ 79 - 1) (x.1 + v)
  (r, x.2 + n)

/-- The terms of a sum, added in order. -/
def accSum (l : List Int) : Int × Nat := l.foldl accAdd (0, 0)

/-- Return to Q1.39: rounded to nearest, halves up, then saturated. -/
def accOut (x : Int × Nat) : Int × Nat :=
  let (r, n) := satTo q39Lo q39Hi (roundDiv x.1 (2 ^ 32))
  (r, x.2 + n)

/-- An addend of Q1.39. -/
def accIn (v : Int) : Int := v * 2 ^ 32

/-! ## The coefficient record (12 R266) -/

def cfForm (r : Rec) : Nat := byteAt r 0
def cfHold (r : Rec) : Bool := bit (byteAt r 1) 0
def cfShift (r : Rec) : Nat := byteAt r 2
/-- Container k: KP, KI, B0, B1, B2, A1, A2, KAFF, LEASH_LO, LEASH_HI, OUT_LO, OUT_HI. -/
def cf (r : Rec) (k : Nat) : Int := i40 r (8 + 8 * k)
def cfB2 (r : Rec) : Int := if cfForm r = 0 then 0 else cf r 4
def cfA2 (r : Rec) : Int := if cfForm r = 0 then 0 else cf r 6

def coefOk (r : Rec) : Bool :=
  decide (cfForm r ≤ 1) && decide (cfShift r ≤ 31) && decide (cf r 8 < cf r 9) && decide (cf r 10 < cf r 11)

/-! ## One sample (12 R263) -/

/-- The compensator: `fresh` is the w that a swap or a close takes in place of F (12 R270, R271). -/
def Axis.compute (x : Axis) (accFf : Bool) (r y : Int) (fresh : Option Int) : Axis :=
  let c := x.bank
  let (e, n1) := satTo q39Lo q39Hi (r - y)
  let (i1, n2) := accOut (accSum [accIn x.iVal, cf c 1 * e])
  let hold := cfHold c && x.held
  let i := if hold then x.iVal else clampI (cf c 8) (cf c 9) i1
  let n2 := if hold then 0 else n2
  let (v, n3) := accOut (accSum [cf c 0 * e, accIn i])
  let (wF, nF) := accOut (accSum [cf c 2 * v, cf c 3 * x.v1, cfB2 c * x.v2, -(cf c 5 * x.w1), -(cfA2 c * x.w2)])
  let w := fresh.getD wF
  let n4 := if fresh.isSome then 0 else nF
  let (a, n5) := accOut (accSum [accIn ((r - 2 * x.r1 + x.r2) * 2 ^ cfShift c)])
  let (u0, n6) := accOut (accSum (accIn w :: if accFf then [cf c 7 * a] else []))
  let u := clampI (cf c 10) (cf c 11) u0
  let n5 := if accFf then n5 else 0
  let ki := cf c 1 * e
  let held := (decide (u = cf c 11) && decide (0 < ki)) || (decide (u = cf c 10) && decide (ki < 0))
  let clamped := decide (u ≠ u0)
  { x with
    iVal := i, e := e, w := w, u := u, y := y, held := held,
    v1 := v, v2 := if fresh.isSome then v else x.v1, w1 := w, w2 := if fresh.isSome then w else x.w1,
    r1 := r, r2 := x.r1, satCount := x.satCount + BitVec.ofNat 32 (n1 + n2 + n3 + n4 + n5 + n6),
    clampRun := if clamped then x.clampRun + 1 else 0, freeRun := if clamped then 0 else x.freeRun + 1,
    limSide := if clamped then decide (cf c 11 < u0) else x.limSide,
    iHist := (i :: x.iHist).take 65536 }

/-- I_MEAN. -/
def Axis.iMean (x : Axis) : Int := if x.iHist.isEmpty then 0 else roundDiv x.iHist.sum x.iHist.length

/-- In OPEN and HEEL r follows y and only the r histories move on (12 R263, 13 R276). -/
def Axis.follow (x : Axis) (y : Int) : Axis := { x with y := y, r2 := x.r1, r1 := y }

/-- OUTPUT_LIMIT (12 R275). -/
def State.outputLimit (s : State) (a : Nat) : State :=
  let x := at_ s.axes a
  if x.clampRun = 1024 ∧ x.limited = false then
    (s.axis a fun x => { x with limited := true }).raise 0x0903 a (1 + 2 * b2n x.limSide)
  else if x.freeRun = 1024 ∧ x.limited then
    (s.axis a fun x => { x with limited := false }).raise 0x0903 a (2 * b2n x.limSide)
  else s

/-! ## Bus voltage (12 R265) -/

def axRec (x : Axis) : Rec := x.record
def vbusNom (r : Rec) : Nat := u16 r 0x0C

/-- One VBUS sample of a motion axis: VB is the mean of the last 16. -/
def State.vbusSample (s : State) (a pinMv : Nat) : State :=
  if a < 8 then s else
  let s := s.axis a fun x =>
    let hist := (pinMv * ioVbusRatio (at_ s.ios a).record / 256 :: x.vbHist).take 16
    { x with vbHist := hist, vb := hist.sum / hist.length }
  let x := at_ s.axes a
  if bit (byteAt x.record 1) 1 = false then s else
  let nom := vbusNom x.record
  let low := if 2 * x.vb < nom then min 16 (x.vbLow + 1) else 0
  let good := if 11 * nom ≤ 20 * x.vb then min 16 (x.vbOk + 1) else 0
  let st := if low = 16 then true else if good = 16 then false else x.vbState
  let s := s.axis a fun x => { x with vbLow := low, vbOk := good, vbState := st }
  s.raiseIf (st != x.vbState) 0x0904 a (b2n st + 65536 * sat 16 x.vb)

/-- u_bus. -/
def Axis.uBus (x : Axis) : Int :=
  if bit (byteAt x.record 1) 1 then
    let nom := vbusNom x.record
    let ratio : Rat := if x.vb = 0 then 2 else clampRat (1 / 2) 2 ((nom : Rat) / x.vb)
    clampQ (roundRat ((x.u : Rat) * ratio))
  else x.u

/-! ## The sample instant (12 R260, R268 to R272) -/

/-- The first instant at or after t with (t − PHASE) mod SAMPLE_TU = 0. -/
def gridAt (step phase t : Nat) : Nat := if step = 0 then t else t + (phase + step - t % step) % step

/-- The next sample instant of an axis. -/
def State.nextSample (s : State) (a : Nat) : Nat :=
  let x := at_ s.axes a
  let from_ := match x.sampAt with
    | none => s.now
    | some t => max s.now (t + 1)
  gridAt (u32 x.record 4) (u32 x.record 8) from_

/-- A pending swap whose instant has come: steps 1 and 2 of 12 R270. Answers whether one was made. -/
def State.swapDue (s : State) (a : Nat) : Bool × State :=
  let x := at_ s.axes a
  match x.swapAt with
  | none => (false, s)
  | some t =>
    if s.now < t then (false, s) else
    let x' := { x with active := !x.active, swapAt := none, swaps := x.swaps + 1 }
    let i := clampI (cf x'.bank 8) (cf x'.bank 9) x.iVal
    let s := s.axis a fun _ => { x' with iVal := i }
    let d := (i - x.iVal).natAbs
    let s := s.raiseIf (i != x.iVal) 0x0901 a
      (b2n (decide (i < x.iVal)) + 2 * b2n x'.active + 256 * sat 24 (d / 2 ^ 16))
    (true, s.raise 0x0902 a (b2n x'.active + 2 * b2n (x.state != 1)))

/-- What detectors 0 and 3 keep of a CLOSED sample (13 R288): the run of one raw code with its u, and since which sample the
set-point has moved with no edge: an edge before a sample restarts the time at it. -/
def State.watchSample (s : State) (a : Nat) (r0 r : Int) : State :=
  let x := at_ s.axes a
  s.io a fun o =>
    let same := decide (o.frzRun ≠ 0) && decide (o.frzCode = o.raw)
    let fast := decide ((u64 o.det 8 : Int) * 2 ^ 39 * (u32 x.record 4 : Nat) < (r - r0).natAbs * 400000000 * 2 ^ 32)
    { o with
      frzCode := o.raw
      frzRun := if same then min 64 (o.frzRun + 1) else 1
      frzU := if same then (x.u :: o.frzU).take 64 else [x.u]
      stallAt := if fast = false then none else if o.edgeSeen then some s.now else some (o.stallAt.getD s.now)
      edgeSeen := false }

/-- The largest less the least of a list. -/
def spread (l : List Int) : Int := l.foldl max (l.headD 0) - l.foldl min (l.headD 0)

/-- The detector of cause 0 or 3 that fires at a sample, if one does. -/
def State.firing (s : State) (a : Nat) : Option Nat :=
  let o := at_ s.ios a
  let k := ioKind o.record
  if (k = 0 ∨ k = 3) ∧ o.frzRun = 64 ∧ fromQ15 (i16 o.det 2) < spread o.frzU ∧ dtArmed o.det 0 then some 0
  else match o.stallAt with
    | some t => if (k = 1 ∨ k = 2) ∧ t + u16 o.det 0x10 * tuMs ≤ s.now ∧ dtArmed o.det 3 then some 3 else none
    | none => none

/-- The CLOSED computation and what follows from it: drive and the watch of detectors 0 and 3 (12 R263, 13 R288). A bridge loss holds
every fast drive at 0 (01 R17). -/
def State.closedSample (s : State) (a : Nat) (r y : Int) (fresh : Option Int) : State :=
  let r0 := (at_ s.axes a).r1
  let s := s.axis a fun x => x.compute (bit (byteAt x.record 1) 0) r y fresh
  let x := at_ s.axes a
  let s := s.io a fun o => { o with dac := if a < 8 ∧ o.started s.now ∧ s.show_.bridgeLost = false then dacCode x.u else 0, ub := x.uBus }
  (s.outputLimit a).watchSample a r0 r

/-- The loop closes at this sample (12 R271): I from the command or frozen, F from rest, the generator at y. -/
def State.closeLoop (s : State) (a : Nat) (preset : Option Int) (y : Int) : State :=
  let was := (at_ s.axes a).state
  let s := s.axis a fun x =>
    { x with state := 1, closeAt := none, held := false, clampRun := 0, freeRun := 0,
             iVal := clampI (cf x.bank 8) (cf x.bank 9) (preset.getD x.iVal) }
  let s := s.io a fun o => { o.setGen y with
    brake := false, rampStep := none, stallAt := none, frzRun := 0, frzU := [], edgeSeen := false }
  let s := s.raiseIf (was == 2) 0x0981 a 0
  s.closedSample a y y (some 0)

/-- The loop opens at this sample: the drive output is 0 and I keeps its value. -/
def State.openLoop (s : State) (a : Nat) : State :=
  let s := s.axis a fun x => { x with state := 0, openAt := none, clampRun := 0, freeRun := 0 }
  let s := s.io a fun o => { o with dac := 0, ub := 0 }
  s.endMove a 2

/-- An instant that was taken before now. -/
def State.past (s : State) (t : Nat) : Bool := decide (t < s.now)

/-- A pending swap, a close or open taken before this sample, and the computation (12 R270 to R272). -/
def State.sampleSteps (s : State) (a : Nat) (y : Int) : State :=
  let (swapped, s) := s.swapDue a
  let x := at_ s.axes a
  let s := if x.state = 1 ∧ x.openAt.any s.past then s.openLoop a else s
  let x := at_ s.axes a
  match x.closeAt.filter fun c => s.past c.1 with
  | some (_, preset) => s.closeLoop a preset y
  | none =>
    if x.state = 1 then
      let (r, s) := s.setpoint a
      s.closedSample a r y (if swapped then some x.w1 else none)
    else (s.axis a fun x => x.follow y).io a fun o => { o with pExt := y, edgeSeen := false }

/-- The steps of a sample in their order: a detector that the computation of this sample makes fire sends the axis to heel first, so
that the computation does not take place and a swap is made as in HEEL (12 R272). -/
def State.sampleOrder (s : State) (a : Nat) (y : Int) : State :=
  let t := s.sampleSteps a y
  match if (at_ s.axes a).state = 1 ∧ (at_ t.axes a).state = 1 then t.firing a else none with
  | some cause => (s.heel a cause).sampleSteps a y
  | none => t

/-- A record that waits for the first sample after its take (13 R278, R288). -/
def State.dueRec (s : State) (wait : Option (Nat × Rec)) (cur : Rec) : Rec × Option (Nat × Rec) := match wait with
  | some (t, r) => if t < s.now then (r, none) else (cur, wait)
  | none => (cur, none)

/-- The tracking error of an axis of a head at this sample: |T − r| (13 R280). -/
def State.keepError (s : State) (a : Nat) : State :=
  let (tx, ty) := s.headTarget (a / 2)
  let e := ((if a % 2 = 0 then tx else ty) - (at_ s.axes a).r1).natAbs
  s.io a fun o => { o with errQ := e }

/-- One sample instant of an axis (12 R272): feedback with its detectors, then the steps in their order. -/
def State.axisSample (s : State) (a : Nat) (m : SampleIn) : State :=
  if 15 < a then s else
  let s := s.forward (s.nextSample a)
  let s := s.axis a fun x => { x with sampAt := some s.now, sampTick := s.tk.tick, sampOfs := s.offset }
  let s := s.io a fun o =>
    let d := s.dueRec o.detWait o.det
    let l := s.dueRec o.limWait o.lim
    { o with det := d.1, detWait := d.2, lim := l.1, limWait := l.2 }
  let s := s.vbusSample a m.vbusMv
  let s := s.io a fun x => if ioSource x.record = 1 then m.spi.foldl AxisIo.extConv x else x
  let (y, s) := s.feedback a m.ssi
  let s := s.sampleOrder a y
  if a < 8 then ((s.keepError a).noteError (a / 2)).notePark (a / 2) else s

/-! ## Commands (12 R274) -/

def axisRecOk (p : Rec) : Bool :=
  let a := byteAt p 0
  let t := u32 p 4
  decide (a ≤ 15) && (decide (8 ≤ a) || !bit (byteAt p 1) 1) &&
    (if a < 8 then inRange 2000 400000 t else inRange 20000 4000000 t) && decide (u32 p 8 < t) &&
    inRange 1000 60000 (vbusNom p)

/-- AXIS_CONFIG. -/
def cmdAxisConfig : Cmd where
  op := 0x0900
  len := lenIs 16
  run := fun _ p s =>
    if axisRecOk p = false then refuse cBadParam s
    else if (at_ s.axes (byteAt p 0)).state ≠ 0 then refuse cState s
    else ok (s.axis (byteAt p 0) fun x => { x with record := p })

/-- AXIS_CONFIG_READ. -/
def cmdAxisConfigRead : Cmd where
  op := 0x0901
  len := lenIs 4
  run := fun _ p s => axisRead (fun s a => (at_ s.axes a).record) p s

/-- COEF_WRITE: the inactive bank only, and not the target of a pending swap. -/
def cmdCoefWrite : Cmd where
  op := 0x0902
  len := lenIs 112
  run := fun _ p s =>
    let a := byteAt p 0
    let b := byteAt p 1
    let r := slice p 8 104
    let x := at_ s.axes a
    if 15 < a ∨ 1 < b ∨ coefOk r = false then refuse cBadParam s
    else if (b == 1) = x.active ∨ x.swapAt.isSome then refuse cState s
    else ok (s.axis a fun x => if b = 1 then { x with bankB := r, validB := true } else { x with bankA := r, validA := true })

/-- A record with its Q8.32 and Q1.39 containers sign-extended from bit 39. -/
def coefBytes (r : Rec) : Rec := r.take 8 ++ ((List.range 12).map fun k => leI 8 (cf r k)).flatten

/-- COEF_READ. -/
def cmdCoefRead : Cmd where
  op := 0x0903
  len := lenIs 4
  run := fun _ p s =>
    let x := at_ s.axes (byteAt p 0)
    if 15 < byteAt p 0 ∨ 1 < byteAt p 1 then refuse cBadParam s
    else okWith (coefBytes (if byteAt p 1 = 1 then x.bankB else x.bankA)) s

/-- BANK_SELECT (12 R268, R269). -/
def cmdBankSelect : Cmd where
  op := 0x0904
  len := lenIs 12
  run := fun _ p s =>
    let mask := u16 p 0
    let imm := bit (byteAt p 2) 0
    let tick := u32 p 4
    let ofs := u32 p 8
    let named := allAxes.filter fun a => bit mask a
    let want := if imm then some (s.now + 1) else s.instantOf tick ofs
    if imm = false ∧ s.offsetOk tick ofs = false then refuse cBadParam s
    else if (named.any fun a =>
        let x := at_ s.axes a
        x.swapAt.isSome || !(if x.active then x.validA else x.validB)) ∨
        (want.getD 0) > s.now + 2 ^ 31 then refuse cState s
    else
      let late := match want with
        | none => true
        | some t => decide (t < s.now)
      let at' := if late then s.now + 1 else want.getD s.now
      (.reply (if late then cLate else cOk) (le 2 mask),
        named.foldl (fun s a => s.axis a fun x => { x with swapAt := some at' }) s)

/-- AXIS_LOOP (12 R271). -/
def cmdAxisLoop : Cmd where
  op := 0x0905
  len := lenIs 16
  run := fun _ p s =>
    let a := byteAt p 0
    let x := at_ s.axes a
    if 15 < a ∨ 1 < byteAt p 1 then refuse cBadParam s
    else if byteAt p 1 = 1 then
      if x.state ≠ 0 ∨ x.bankValid = false ∨ s.fbValid a < 1 then refuse cState s
      else ok (s.axis a fun x => { x with closeAt := some (s.now, some (i40 p 8)) })
    else if x.state = 2 then refuse cState s
    else ok (s.axis a fun x => { x with closeAt := none, openAt := if x.state = 1 then some s.now else none })

/-- AXIS_STATUS. -/
def cmdAxisStatus : Cmd where
  op := 0x0906
  len := lenIs 4
  run := fun _ p s =>
    axisRead (fun s a =>
      let x := at_ s.axes a
      le 1 x.state ++ le 1 (maskOf [x.active, x.swapAt.isSome, x.validA, x.validB]) ++
        le 1 (maskOf [x.iVal == cf x.bank 8, x.iVal == cf x.bank 9, decide (0 < x.clampRun), x.held && cfHold x.bank,
          x.vbState]) ++ zeros 1 ++ le 4 x.sampTick.toNat ++ le 4 x.sampOfs ++ le 4 x.satCount.toNat ++ leI 8 x.e ++
        leI 8 x.iVal ++ leI 8 x.w ++ leI 8 x.u ++ leI 8 x.iMean ++ le 2 (if a < 8 then 0 else x.vb) ++ zeros 2 ++
        le 4 x.swaps.toNat) p s

/-- AXIS_CONFIG (12 R267). -/
def execAxisConfig (h : Hdr) (p : Rec) (s : State) : Out := done (s.command cmdAxisConfig h p)
/-- AXIS_CONFIG_READ (12 R274). -/
def execAxisConfigRead (h : Hdr) (p : Rec) (s : State) : Out := done (s.command cmdAxisConfigRead h p)
/-- COEF_WRITE (12 R268). -/
def execCoefWrite (h : Hdr) (p : Rec) (s : State) : Out := done (s.command cmdCoefWrite h p)
/-- COEF_READ (12 R274). -/
def execCoefRead (h : Hdr) (p : Rec) (s : State) : Out := done (s.command cmdCoefRead h p)
/-- BANK_SELECT (12 R269). -/
def execBankSelect (h : Hdr) (p : Rec) (s : State) : Out := done (s.command cmdBankSelect h p)
/-- AXIS_LOOP (12 R271). -/
def execAxisLoop (h : Hdr) (p : Rec) (s : State) : Out := done (s.command cmdAxisLoop h p)
/-- AXIS_STATUS (12 R274). -/
def execAxisStatus (h : Hdr) (p : Rec) (s : State) : Out := done (s.command cmdAxisStatus h p)

end Sys2Proof.Machine
end

