-- ==== Sys2Proof/Machine/Diagnostics.lean ====
section
/-! DEFINITION. Source faults and diagnostics (chapter 09): observations, cells, neighbour rounds, supply loss, reactions. -/
namespace Sys2Proof.Machine

/-- Change the diagnostic state of one channel. -/
def State.dchan (s : State) (c : Nat) (f : DiagChan → DiagChan) : State :=
  { s with diag := { s.diag with chans := upd s.diag.chans c f } }

def dgLevel (r : Rec) : Nat := u16 r 0
def dgPeriod (r : Rec) : Nat := u16 r 2
def dgSupply (r : Rec) : Bool := bit (byteAt r 4) 0
def dgDark (r : Rec) : Bool := bit (byteAt r 4) 1

/-- The package neighbours of a channel that exist (09 R208). -/
def neighboursOf (c : Nat) : List Nat := ((Config.neighbours c).filter fun n => decide (n < 192)).take 4

/-! ## Faults and reactions (09 R202, R211) -/

/-- An event of the diagnostic hardware, dated to instant `at_`: raised now, or kept until the firmware is ready again (chapter head, R26). -/
def State.diagEvent (s : State) (at_ code src payload : Nat) : State :=
  if s.mbx.fwState = 2 then
    let e := mkEvent code src (s.dateOf at_).1 (s.dateOf at_).2 payload
    { s with diag := { s.diag with deferredEvents := s.diag.deferredEvents ++ [e] } }
  else s.raiseAt at_ code src payload

/-- A channel that ceases to be live keeps none of the emitter measurements (10 R226). -/
def State.dropEmitter (s : State) (c : Nat) : State :=
  { s with con := { s.con with emitters := upd s.con.emitters c fun e => { e with vals := [], fresh := 0 } } }

/-- A fault is confirmed at instant `at_` and latched (09 R211). -/
def State.latchFault (s : State) (c kind partner at_ : Nat) : State :=
  let s := (s.dropEmitter c).dchan c fun d =>
    { d with kind := kind, partner := partner, failed := false, due := false, quietDue := false, probeWait := false,
             judged := [] }
  let s := s.diagEvent at_ 0x0681 c (kind + 256 * partner + 65536 * (c / 8))
  if kind ≠ 2 then s else
  let r := s.chan c
  let s := if chRole r = 1 ∧ dgDark s.diag.cfg then s.arr (chArray r) fun x => { x with sgnd := true } else s
  ([0, 1, 2, 3].filter fun n => beamOf n r || sharedOf n r).foldl (fun s n => s.blankHead n 4) s

/-! ## Observations (09 R198 to R202, R207) -/

/-- The bank of a channel is in supply suspect. -/
def State.suspect (s : State) (c : Nat) : Bool := at_ s.diag.suspect (c / 8)

/-- A pulse due at once is served from the next tick on. -/
def DiagChan.again (d : DiagChan) (tick : W32) : DiagChan := { d with due := true, dueTick := tick + 1 }

/-- A pulse that is due at once may be served in this tick (09 R201). -/
def State.dueReached (s : State) (d : DiagChan) : Bool := d.due && decide ((s.tk.tick - d.dueTick).toNat < 2 ^ 31)

/-- A failed observation: a pulse falls due at once, unless a natural observation finds one due already (09 R201). -/
def State.failedOnce (s : State) (d : DiagChan) (test : Bool) : DiagChan := if test || !d.due then d.again s.tk.tick else d

/-- An observation of a channel at instant `at_`: `test` tells a test observation, `probe` the mV of the probe in its cell. An effect
channel that fails twice waits for the first cell that can take its probe (09 R206). -/
def State.observe (s : State) (c : Nat) (fails test : Bool) (probe : Option Nat) (at_ : Nat) : State :=
  let d := Sys2Proof.Machine.at_ s.diag.chans c
  if s.enabled c = false ∨ d.kind ≠ 0 then s
  else if fails = false then
    s.dchan c fun d => { d with quiet := 0, quietDue := false, due := false, failed := false, passed := true,
                                probeWait := false, waited := false }
  else
    let s := s.dchan c fun d =>
      { d with quiet := 0, quietDue := false, waited := false, failAny := true, failTick := d.failTick || d.passed, passed := false }
    if s.suspect c then s.dchan c fun d => s.failedOnce d test
    else if d.failed ∧ test then
      match probe with
      | some mv => s.latchFault c (if mv < 200 then 2 else 1) 0xFF at_
      | none => if d.probeWait then s else s.dchan c fun d => { d with due := true, dueTick := s.tk.tick, probeWait := true }
    else s.dchan c fun d => { s.failedOnce d test with failed := true }

/-- A window in which a sink conducted: charge, headroom, and the observation 400 tu after its start: natural at a code of at least
1,311, and at any code the test observation that an effect channel makes on a pulse as its test is due (09 R198, R206). -/
def State.window (s : State) (w : WindowObs) (x : Window) : State :=
  let c := w.channel
  let s := s.sinkWindow w x
  let d := Sys2Proof.Machine.at_ s.diag.chans c
  let test := chRole (s.chan c) == 3 && (s.dueReached d || d.quietDue)
  if x.code ≠ 0 ∧ (1311 ≤ x.code ∨ test) ∧ 400 ≤ w.length ∧ c < 192 then
    s.observe c (decide (4 * w.sensed < x.code)) test none s.now
  else s

def State.windows (s : State) (ws : List WindowObs) (f : WindowObs → Window) : State := ws.foldl (fun s w => s.window w (f w)) s

/-- The tick's end for a channel: QUIET rises; a test pulse falls due at 192 (09 R200). -/
def DiagChan.endTick (d : DiagChan) (enabled : Bool) : DiagChan :=
  if enabled then
    let q := min 255 (d.quiet + 1)
    { d with quiet := q, quietDue := decide (192 ≤ q), failTick := false, failAny := false }
  else { d with failTick := false, failAny := false }

/-- Supply loss of one bank, judged at the boundary that ends a tick (09 R207). -/
def State.supplyJudge (s : State) (b : Nat) : State :=
  let cs := (List.range 8).map fun i => 8 * b + i
  let first := (cs.filter fun c => s.enabled c && (at_ s.diag.chans c).failTick).length
  let all := (cs.filter fun c => s.enabled c && (at_ s.diag.chans c).failAny).length
  let set := fun (s : State) v => { s with diag := { s.diag with suspect := upd s.diag.suspect b fun _ => v } }
  let afresh := fun (s : State) => cs.foldl (fun s c => s.dchan c fun d => { d with failed := false, probeWait := false }) s
  if at_ s.diag.suspect b then
    if all < 2 then (afresh (set s false)).raiseB 0x0682 b (256 * all) else s
  else if dgSupply s.diag.cfg ∧ 4 ≤ first then (afresh (set s true)).raiseB 0x0682 b (1 + 256 * all)
  else s

/-! ## Cells (09 R203 to R206, R208, R209) -/

/-- Cells of a DUMP slot. -/
def cellsOf (d : Nat) : Nat := (d - 200) / 1600

/-- A channel's pulse can be given in a cell now (09 R206, 11 R239). -/
def State.pulsable (s : State) (c : Nat) : Bool :=
  let r := s.chan c
  match chRole r with
  | 1 => !chShare r || match s.slotNow with
    | none => true
    | some k => (s.com.live.picSlots (chArray r)).any fun q => q.pth == k.pth
  | 2 => (at_ s.heads (chHead r)).state == 1 && (at_ s.heads (chHead r)).onDump
  | _ => false

/-- Greedy choice of up to 8 channels of distinct banks, none of them package neighbours. -/
def pickCell : List Nat → List Nat → List Nat
  | acc, [] => acc
  | acc, c :: cs =>
    if 8 ≤ acc.length then acc
    else if acc.any fun x => x / 8 == c / 8 || (neighboursOf c).contains x || (neighboursOf x).contains c then pickCell acc cs
    else pickCell (acc ++ [c]) cs

/-- Channels whose pulse fell due under R201, and effect channels that wait for their probe. -/
def State.dueNow (s : State) : List Nat :=
  channels.filter fun c =>
    let d := at_ s.diag.chans c
    s.enabled c && d.kind == 0 && s.dueReached d && d.judged.isEmpty && (s.pulsable c || d.probeWait)

/-- Channels due under R200: the highest QUIET first, then the lowest number. -/
def State.dueQuiet (s : State) : List Nat :=
  let l := channels.filter fun c =>
    let d := at_ s.diag.chans c
    s.enabled c && d.kind == 0 && d.quietDue && !d.due && s.pulsable c
  ((List.range 64).map fun i => l.filter fun c => (at_ s.diag.chans c).quiet == 255 - i).flatten

/-- What the next cell does. -/
inductive CellWork where
  | test (cs : List Nat)
  | neighbour (c : Nat) (round : Bool)
  | none
  deriving DecidableEq, Repr

/-- No pulse of a channel is due in a later tick: tests of one channel are at least one tick apart (09 R201). -/
def State.mayTest (s : State) (c : Nat) : Bool :=
  let d := at_ s.diag.chans c
  (!d.due || s.dueReached d) && (d.judged.isEmpty || decide ((s.tk.tick - d.dueTick).toNat < 2 ^ 31))

/-- The next channel that a round from `pos` on tests: enabled, past its start-up test and not latched. -/
def State.roundFrom (s : State) (pos : Nat) : Option Nat :=
  channels.find? fun c => decide (pos ≤ c) && s.enabled c && !(at_ s.diag.chans c).pending && (at_ s.diag.chans c).kind == 0

/-- The next channel of the round that runs. -/
def State.roundNext (s : State) : Option Nat := if s.diag.running then s.roundFrom s.diag.pos else Option.none

/-- A neighbour test can be given in a cell now: the light of the tested channel is routed as its pulse needs (09 R206). -/
def State.nbrReady (s : State) (c : Nat) : Bool := s.pulsable c || chRole (s.chan c) == 3

/-- A repeat test of a pair judged shorted once, due at once (09 R208). -/
def State.nbrAgain (s : State) : Option Nat := channels.find? fun c =>
  let d := at_ s.diag.chans c
  !d.judged.isEmpty && d.kind == 0 && decide ((s.tk.tick - d.dueTick).toNat < 2 ^ 31) && s.nbrReady c

/-- The next channel that waits for its start-up test, in turn from `nextPending` on (09 R208). -/
def State.nbrPending (s : State) : Option Nat :=
  let l := channels.filter fun c =>
    let d := at_ s.diag.chans c
    s.enabled c && d.pending && d.kind == 0 && d.judged.isEmpty && s.nbrReady c && s.mayTest c
  match l.find? fun c => decide (s.diag.nextPending ≤ c) with
  | some c => some c
  | none => l.head?

/-- The precedence of 09 R205: pulses and repeat tests due at once, pulses due under R200, start-up tests, the round, which waits at a
channel whose light is not routed (R206). -/
def State.cellWork (s : State) : CellWork :=
  let due := s.dueNow
  match due, s.nbrAgain, pickCell [] (due ++ s.dueQuiet), s.nbrPending, s.roundNext with
  | [], some c, _, _, _ => .neighbour c false
  | _, _, c :: cs, _, _ => .test (c :: cs)
  | _, _, [], some c, _ => .neighbour c false
  | _, _, [], Option.none, some c => if s.nbrReady c && s.mayTest c then .neighbour c true else .none
  | _, _, [], Option.none, Option.none => .none

/-- The reading of a channel in a list of a cell. -/
def reading (l : List (Nat × Nat)) (c : Nat) : Option Nat := (l.find? fun x => x.1 == c).map Prod.snd

/-- A channel that has passed its probe and its neighbour test conducts from its next opening (09 R208). -/
def DiagChan.settle (d : DiagChan) : DiagChan := { d with pending := d.pending && !(d.probeOk && d.nbrOk) }

/-- Probe and test observation of a channel of a cell, 600 tu after it opened; a probe is sampled at 180 tu (09 R203, R215). `pulsed` tells
that the cell pulses it: an effect channel only in a neighbour cell (R206). -/
def State.testChannel (s : State) (m : CellMeas) (c : Nat) (pulsed : Bool) : State :=
  let probe := reading m.probe c
  let s := match probe with
    | some mv => s.dchan c fun d => { d with probeOk := d.probeOk || decide (200 ≤ mv) }
    | none => s
  let d := at_ s.diag.chans c
  match if chRole (s.chan c) = 3 ∧ d.probeWait then probe else none with
  | some mv => s.latchFault c (if mv < 200 then 2 else 1) 0xFF (s.now - 420)
  | none => match if pulsed then reading m.sensed c else none with
    | some v => s.observe c (decide (4 * v < s.testCode c (dgLevel s.diag.cfg))) true probe s.now
    | none => s

/-- The neighbour of a tested channel is judged shorted to it (09 R208). -/
def judgedShort (m : CellMeas) (c n : Nat) : Bool :=
  match reading m.vTest c, reading m.vTest n, reading m.vBase n with
  | some vc, some vn, some v0 => decide (((vn : Int) - vc).natAbs ≤ 30) && decide (100 < ((vn : Int) - v0).natAbs)
  | _, _, _ => false

/-- Both channels of a pair are latched (09 R211). -/
def State.latchPair (s : State) (c n : Nat) : State :=
  let s := { s with diag := { s.diag with shorts := s.diag.shorts + b2n s.diag.running } }
  (if (at_ s.diag.chans c).kind = 0 then s.latchFault c 3 n s.now else s).latchFault n 3 c s.now

/-- The judgement of a test: the neighbours judged shorted now, against those of the test before. A pair judged twice is confirmed. -/
def State.judgeNeighbours (s : State) (m : CellMeas) (c : Nat) : State :=
  let bad := (neighboursOf c).filter fun n => s.enabled n && judgedShort m c n
  match bad.filter (at_ s.diag.chans c).judged.contains, bad with
  | [], [] => s.dchan c fun d => { d with judged := [], nbrOk := true }
  | [], _ => s.dchan c fun d => { d with judged := bad, dueTick := s.tk.tick + 1 }
  | sure, _ => sure.foldl (fun s n => s.latchPair c n) s

/-- The round ends with DIAG_ROUND; one that fell due meanwhile starts (09 R209). -/
def State.endRound (s : State) : State :=
  let n := s.diag.shorts
  let again := s.diag.roundWait
  let s := { s with diag := { s.diag with running := again, roundWait := false, pos := 0, shorts := 0 } }
  s.raise 0x0684 0 (n % 256)

/-- A round that has no channel left to test ends. -/
def State.roundOver (s : State) : State := if s.diag.running ∧ s.roundNext = none then s.endRound else s

/-- That, and once more for the round that had waited. -/
def State.roundCheck (s : State) : State := s.roundOver.roundOver

/-- A neighbour test of the round is over. -/
def State.roundStep (s : State) (c : Nat) : State := ({ s with diag := { s.diag with pos := c + 1 } }).roundCheck

/-- A channel's pulse in a cell that opened at `t`: conduction from 200 to 1,000 tu, and a headroom sample in its middle (08 R194). -/
def State.cellPulse (s : State) (t level c : Nat) (m : CellMeas) : State :=
  let code := s.testCode c level
  let s := s.place c (t + 200) (t + 1000) code true
  match reading m.vTest c with
  | some v => s.headroom c code v s.now
  | none => s

/-- A channel that a cell holds off, its effect pulse among what stops (09 R206). -/
def State.holdOff (s : State) (t c : Nat) : State := s.sink c fun k => { k with away := (t, t + 1600) }

/-- A test cell: an effect channel takes its probe only. -/
def State.testCell (s : State) (t : Nat) (m : CellMeas) (c : Nat) : State :=
  let effect := chRole (s.chan c) == 3
  let s := if effect then s.holdOff t c else s.cellPulse t (dgLevel s.diag.cfg) c m
  (s.testChannel m c !effect).dchan c DiagChan.settle

/-- A neighbour cell. One that a safety blanking has ended for the channel has no readings of it, and judges nothing (09 R213). -/
def State.neighbourCell (s : State) (t : Nat) (m : CellMeas) (c : Nat) (round : Bool) : State :=
  let s := (neighboursOf c).foldl (fun s n => s.holdOff t n) s
  let s := (s.cellPulse t (dgLevel s.diag.cfg) c m).testChannel m c true
  let s := if (at_ s.diag.chans c).pending then { s with diag := { s.diag with nextPending := c + 1 } } else s
  if (reading m.vTest c).isNone then s else
  let s := (s.judgeNeighbours m c).dchan c DiagChan.settle
  if round then s.roundStep c else s

/-- A diagnostic cell that opened at `t`: the work of 09 R205. Answers whether the cell was used. -/
def State.diagCell (s : State) (t : Nat) (m : CellMeas) : Bool × State :=
  match s.cellWork with
  | .none => (false, s)
  | .test cs => (true, cs.foldl (fun s c => s.testCell t m c) s)
  | .neighbour c round => (true, s.neighbourCell t m c round)

/-- Beam-channel pulses that wait for park are counted once each (09 R214 DEFERRED). -/
def State.countWaiting (s : State) : State :=
  channels.foldl (fun s c =>
    let d := at_ s.diag.chans c
    if chRole (s.chan c) = 2 ∧ (d.due ∨ d.quietDue) ∧ d.waited = false ∧ d.kind = 0 ∧ s.pulsable c = false then
      let s := s.dchan c fun d => { d with waited := true }
      { s with diag := { s.diag with deferred := s.diag.deferred + 1 } }
    else s) s

/-! ## The boundary's part -/

/-- A channel that goes from disabled to enabled is PENDING; one that goes back is not tested (09 R208). -/
def State.roleChange (s : State) (old : SourceSet) : State :=
  channels.foldl (fun s c =>
    let was := chRole (at_ old.chans c) != 0
    if was = s.enabled c then s
    else if was then s.dchan c fun d => { DiagChan.reset with kind := d.kind, partner := d.partner, otOff := d.otOff, otSince := d.otSince, otTimes := d.otTimes }
    else s.dchan c fun d => { d with pending := true, probeOk := false, nbrOk := false, quiet := 0 }) s

/-- The diagnostics at a boundary: supply loss of the tick that ended, QUIET, DIAG_CONFIG, DIAG_ROUND_NOW. -/
def State.diagBoundary (s : State) : State :=
  let s := (List.range 24).foldl (fun s b => s.supplyJudge b) s
  let s := { s with diag := { s.diag with
    chans := s.diag.chans.mapIdx fun c d => DiagChan.endTick d (s.enabled c), cfg := s.diag.cfgWait.getD s.diag.cfg,
    cfgWait := none, emitterUsed := false, sliceUsed := false } }
  let s := s.countWaiting
  let s := { s with src := { s.src with sinks := s.src.sinks.mapIdx fun c (k : Sink) =>
    let d := at_ s.diag.chans c
    { k with widen := k.widen || (chRole (s.chan c) == 3 && (d.due || d.quietDue)) } } }
  if s.diag.roundNow then
    let s := if s.diag.running then s.endRound else s
    ({ s with diag := { s.diag with
      roundNow := false, running := true, roundWait := false, pos := 0, shorts := 0, periodAt := s.now } }).roundCheck
  else s.roundCheck

/-- The start of a NEIGHBOUR_PERIOD (09 R209): a round still running goes on, and the next waits for it. -/
def State.neighbourPeriod (s : State) : State :=
  let s := s.forward (s.diag.periodAt + dgPeriod s.diag.cfg * tuS)
  let s := { s with diag := { s.diag with periodAt := s.now } }
  if s.diag.running then { s with diag := { s.diag with roundWait := true } }
  else ({ s with diag := { s.diag with running := true, pos := 0, shorts := 0 } }).roundCheck

/-! ## Sink over-temperature (09 R210) -/

/-- The local detector of a sink fires; the third shutdown within 60 s latches kind 4. -/
def State.overtemp (s : State) (c : Nat) : State :=
  if 191 < c ∨ (at_ s.diag.chans c).otOff then s else
  let times := (s.now :: (at_ s.diag.chans c).otTimes).filter fun t => decide (s.now - t ≤ 60 * tuS)
  let s := (s.dchan c fun d => { d with otOff := true, otSince := s.now, otTimes := times }).dropEmitter c
  let s := s.raise 0x0683 c 1
  if 3 ≤ times.length ∧ (at_ s.diag.chans c).kind = 0 then s.latchFault c 4 0xFF s.now else s

/-- 100 ms below 125 °C. -/
def State.overtempEnd (s : State) (c : Nat) : State :=
  if 191 < c ∨ (at_ s.diag.chans c).otOff = false then s else
  let s := s.forward ((at_ s.diag.chans c).otSince + 100 * tuMs)
  (s.dchan c fun d => { d with otOff := false }).raise 0x0683 c 0

/-! ## Commands (09 R214) -/

/-- DIAG_CONFIG. -/
def cmdDiagConfig : Cmd where
  op := 0x0680
  len := lenIs 8
  run := fun _ p s =>
    if inRange 1 32768 (dgLevel p) && inRange 60 3600 (dgPeriod p) then
      ok { s with diag := { s.diag with cfgWait := some p } }
    else refuse cBadParam s

/-- STATE of a channel. -/
def State.diagState (s : State) (c : Nat) : Nat :=
  let d := at_ s.diag.chans c
  if s.enabled c = false then 8 else if d.kind ≠ 0 then d.kind else if d.otOff then 7 else if d.pending then 5
  else if s.suspect c then 6 else 0

/-- DIAG_STATUS. -/
def cmdDiagStatus : Cmd where
  op := 0x0681
  len := lenIs 4
  run := fun _ p s =>
    let first := byteAt p 0
    let n := byteAt p 1
    if spanOk 192 56 first n then
      okWith (le 4 s.tk.tick.toNat ++
        le 2 (((s.com.live.slots.filter fun k => k.type == 2).map fun k => cellsOf k.dur).sum) ++ le 2 ((s.roundFrom s.diag.pos).getD 0) ++
        le 4 s.diag.deferred.toNat ++ ((List.range n).map fun i =>
          let d := at_ s.diag.chans (first + i)
          le 1 (s.diagState (first + i)) ++ le 1 d.quiet ++ le 1 d.partner ++
            le 1 (maskOf [d.failed, !d.judged.isEmpty])).flatten) s
    else refuse cBadParam s

/-- DIAG_CLEAR returns latched channels to PENDING (09 R212). -/
def cmdDiagClear : Cmd where
  op := 0x0682
  len := lenIs 24
  run := fun _ p s =>
    let s := channels.foldl (fun s c =>
      if chanMask p 0 c ∧ (at_ s.diag.chans c).kind ≠ 0 then
        s.dchan c fun d => { DiagChan.reset with
          pending := s.enabled c, otOff := d.otOff, otSince := d.otSince, otTimes := d.otTimes }
      else s) s
    ok { s with pl := { s.pl with arrays := s.pl.arrays.mapIdx fun a x =>
      { x with sgnd := x.sgnd && channels.any fun c => chLights a (s.chan c) && (at_ s.diag.chans c).kind == 2 } } }

/-- DIAG_ROUND_NOW. -/
def cmdDiagRoundNow : Cmd where
  op := 0x0683
  len := lenIs 0
  run := fun _ _ s => ok { s with diag := { s.diag with roundNow := true } }

/-- NEIGHBOUR_READ. -/
def cmdNeighbourRead : Cmd where
  op := 0x0684
  len := lenIs 4
  run := fun _ p s =>
    if spanOk 192 60 (byteAt p 0) (byteAt p 1) then
      okWith ((List.range (byteAt p 1)).map fun i =>
        let l := neighboursOf (byteAt p 0 + i)
        (l.map fun n => le 1 n).flatten ++ List.replicate (4 - l.length) 0xFF).flatten s
    else refuse cBadParam s

/-- DIAG_CONFIG (09 R214). -/
def execDiagConfig (h : Hdr) (p : Rec) (s : State) : Out := done (s.command cmdDiagConfig h p)
/-- DIAG_STATUS (09 R214). -/
def execDiagStatus (h : Hdr) (p : Rec) (s : State) : Out := done (s.command cmdDiagStatus h p)
/-- DIAG_CLEAR (09 R212). -/
def execDiagClear (h : Hdr) (p : Rec) (s : State) : Out := done (s.command cmdDiagClear h p)
/-- DIAG_ROUND_NOW (09 R214). -/
def execDiagRoundNow (h : Hdr) (p : Rec) (s : State) : Out := done (s.command cmdDiagRoundNow h p)
/-- NEIGHBOUR_READ (09 R214). -/
def execNeighbourRead (h : Hdr) (p : Rec) (s : State) : Out := done (s.command cmdNeighbourRead h p)
/-- NEIGHBOUR_PERIOD_START (09 R209). -/
def execNeighbourPeriodStart (s : State) : Out := done s.neighbourPeriod
/-- SINK_OVERTEMP_DETECT (09 R210). -/
def execSinkOvertempDetect (c : Nat) (s : State) : Out := done (s.overtemp c)
/-- SINK_OVERTEMP_RESUME (09 R210). -/
def execSinkOvertempResume (c : Nat) (s : State) : Out := done (s.overtempEnd c)
/-- EFFECT_PWM_PERIOD: the windows of the period that ends, then the new phases and duties (08 R190). -/
def execEffectPwmPeriod (ws : List WindowObs) (s : State) : Out :=
  done (
    let s := s.forward (max (100000 * ceilDiv s.now 100000) s.src.effectNext)
    (s.windows ws s.pulseWindow).effectPeriod s.now)
/-- POINT_DUE: the windows of the interval that ends, then the point (11 R244). -/
def execPointDue (n : Nat) (data : Option Rec) (ws : List WindowObs) (s : State) : Out :=
  done (
    let s := match (s.head n fun h => h.trim s.now).pointReady n with
      | some g => s.forward g.due
      | none => s
    (s.windows ws (s.pointWindow n)).pointDue n data)

end Sys2Proof.Machine
end

