-- ==== Sys2Proof/Machine/Constancy.lean ====
section
/-! DEFINITION. Colour constancy (chapter 10): light inputs, content trace, emitter cells, confidence and the solver. -/
namespace Sys2Proof.Machine

/-! ## Records -/

def ccMode (r : Rec) : Nat := byteAt r 0
/-- TAU fields as tu: units of 0.1 s. -/
def ccTauEff (r : Rec) : Nat := u16 r 2 * 40000000
def ccTauConf (r : Rec) : Nat := u16 r 6 * 40000000
def ccQmin (r : Rec) : Nat := u32 r 0x0C
def ccSens (r : Rec) : Rat := u16 r 0x10 / 65536
def ccGMin (r : Rec) : Rat := u16 r 0x12 / 32768
def ccEmit (r : Rec) : Nat := u16 r 0x14
def ccIqr (r : Rec) : Nat := u16 r 0x16

def snArray (r : Rec) (i : Nat) : Nat := byteAt r (4 * i)
def snRange (r : Rec) (i : Nat) : Nat := byteAt r (4 * i + 1)
def snMask (r : Rec) (i : Nat) : Nat := byteAt r (4 * i + 2)

/-- The input that serves a primary of an array (10 R217). -/
def servingIn (r : Rec) (a p : Nat) : Option Nat := (List.range 8).find? fun i => snArray r i == a && bit (snMask r i) p
def State.serving (s : State) (a p : Nat) : Option Nat := servingIn s.con.sense a p

def State.lightIn (s : State) (i : Nat) (f : LightIn → LightIn) : State :=
  { s with con := { s.con with inputs := upd s.con.inputs i f } }
def State.trace (s : State) (a p : Nat) (f : Trace → Trace) : State :=
  { s with con := { s.con with traces := upd s.con.traces (8 * a + p) f } }
def State.traceOf (s : State) (a p : Nat) : Trace := at_ s.con.traces (8 * a + p)
def State.emitter (s : State) (c : Nat) (f : Emitter → Emitter) : State :=
  { s with con := { s.con with emitters := upd s.con.emitters c f } }

/-- The cast in force names a primary on an array. -/
def State.namesOn (s : State) (a p : Nat) : Bool :=
  s.chi.inForce != 0xFF && ((s.cast s.chi.inForce).section a).any fun x => x.2.prim == p

/-- The arrays on which a primary has constancy: shown there and served by one input (10 R217). -/
def State.constArrays (s : State) (p : Nat) : List Nat :=
  fourArrays.filter fun a => s.namesOn a p && (s.serving a p).isSome

/-- Live for a primary on an array (10 R227). -/
def State.liveFor (s : State) (a p c : Nat) : Bool :=
  let r := s.chan c
  let d := at_ s.diag.chans c
  chLights a r && chPrimary r == p && d.kind == 0 && !d.otOff

def State.liveChans (s : State) (a p : Nat) : List Nat := channels.filter (s.liveFor a p)

/-- The arrays on which an input serves a primary. -/
def State.servedArrays (s : State) (p : Nat) : List Nat := fourArrays.filter fun a => (s.serving a p).isSome

/-- The arrays over which the figures of a primary are taken: those that show it, or while the cast in force does not name it those on
which an input serves it, and without any all four (DEDUCED, assumption 120). -/
def State.figureArrays (s : State) (p : Nat) : List Nat :=
  if (s.constArrays p).isEmpty then (if (s.servedArrays p).isEmpty then fourArrays else s.servedArrays p) else s.constArrays p

/-- The mean of a value over those arrays, weighted by W; the plain mean while every W is 0. -/
def State.overArrays (s : State) (p : Nat) (f : Nat → Rat) : Rat :=
  let l := s.figureArrays p
  let w := (l.map fun a => (s.traceOf a p).weight).sum
  if w = 0 then (l.map f).sum / l.length else (l.map fun a => (s.traceOf a p).weight * f a).sum / w

/-- C_p. -/
def State.confOf (s : State) (p : Nat) : Rat := s.overArrays p fun a => (s.traceOf a p).conf

/-! ## Light (10 R218 to R222) -/

/-- A light-sense sample of this magnitude is saturated. -/
def satCode (x : Int) : Bool := decide (32000 ≤ x.natAbs)

/-- Light units of a sum of samples at the range in force (10 R218). -/
def LightIn.units (l : LightIn) (sum : Int) (count : Nat) : Int :=
  (sum - count * l.darkCode.getD l.range 0) * 4 ^ (3 - l.range)

/-- Saturated samples of an input. -/
def State.saturate (s : State) (i n : Nat) : State :=
  s.lightIn i fun l => { l with satTick := l.satTick + n, satTotal := l.satTotal + BitVec.ofNat 32 n }

/-- T_TAIL of an array (10 R221). -/
def tTail (r : Rec) : Nat := min 80 (arReset r + arSettle r - 20)

/-- The attribution interval of an entry that opened at `e0` and is lit for `lit` tu (10 R221). -/
def State.attribution (s : State) (a e0 lit : Nat) : Nat × Nat :=
  let r := (s.array a).record.getD []
  let g := gapOf s.src.live a r
  (e0 + g, e0 + g + lit + s.src.live.herdSpan a + tTail r)

/-- Samples of an input in an interval: one every 20 tu of the SEQPLL grid (10 R216). -/
def samplesIn (x : Nat × Nat) : Nat := ceilDiv x.2 20 - ceilDiv x.1 20

/-- The light of the attribution interval of `n` samples that ends, credited to the entry's primary (10 R221); more samples than it
holds were not all taken in it. -/
def State.attributeLight (s : State) (a p n : Nat) (o : LightObs) : State :=
  if n < o.count then s else
  let s := s.saturate o.input o.saturated
  let s := s.lightIn o.input fun l => { l with peak := max l.peak o.peak }
  if s.serving a p = some o.input then
    s.trace a p fun t => { t with
      light := t.light + (at_ s.con.inputs o.input).units o.sum o.count, saturated := t.saturated || decide (0 < o.saturated) }
  else s

/-- The charge of a picture window in an attribution interval (10 R221, R222). -/
def State.attributeCharge (s : State) (a p : Nat) (w : WindowObs) : State :=
  let r := s.chan w.channel
  if chLights a r ∧ chPrimary r = p ∧ s.pulseCode w.channel ≠ 0 ∧ w.channel < 192 then
    s.trace a p fun t => { t with charge := t.charge + s.emitterCharge w.channel w.charge }
  else s

/-! ## Dark blocks (10 R220, R237) -/

/-- SENSE_FAULT as it is entered or left. -/
def State.senseFault (s : State) (i : Nat) (f : Option Nat) : State :=
  let old := (at_ s.con.inputs i).fault
  let s := s.lightIn i fun l => { l with fault := f }
  match f, old with
  | some r, none => s.raise 0x0704 i (1 + 16 * r)
  | none, some r => s.raise 0x0704 i (16 * r)
  | _, _ => s

/-- A channel conducts now, or has stopped within the last 80 tu. -/
def State.litLately (s : State) (c : Nat) : Bool :=
  let k := at_ s.src.sinks c
  (k.plan.any fun p => decide (p.start ≤ s.now) && decide (s.now < p.stop + 80)) ||
    s.pinCode c k s.now != 0 || s.pinCode c k (s.now - 80) != 0

/-- A dark sample of an input can be taken now: in a DUMP slot, 200 tu or more after its start, with no picture channel of the input's
array conducting or just gone dark (10 R220). -/
def State.darkNow (s : State) (i : Nat) : Bool :=
  (match s.slotNow with
    | some k => k.type == 2 && decide (s.tk.slotAt + 200 ≤ s.now) && decide (s.now < s.tk.slotAt + k.dur)
    | none => false) &&
  channels.all fun c => !chLights (snArray s.con.sense i) (s.chan c) || !s.litLately c

/-- Samples of a block that were taken in the slot that runs: those before it fell in earlier ticks (10 R219). -/
def State.darkHere (s : State) : Nat := (s.now - (s.tk.slotAt + 200)) / 20 + 1

/-- The ticks without a saturated sample, once a block brings those that it took in earlier slots: as many lie in each of those as in
this one (10 R219; DEDUCED, assumption 131). -/
def State.quietBefore (s : State) (samples : List Int) (quiet : Nat) : Nat :=
  match (samples.take (4096 - s.darkHere)).reverse.findIdx? satCode with
  | some j => min quiet (j / max 1 s.darkHere)
  | none => quiet

/-- A block of 4,096 dark samples of an input at its range; the last of them is taken now. -/
def State.darkBlock (s : State) (i : Nat) (samples : List Int) : State :=
  if samples.length ≠ 4096 ∨ 8 ≤ i ∨ s.darkNow i = false then s else
  let sats := fun (l : List Int) => (l.filter satCode).length
  let new := sats (samples.drop (4096 - s.darkHere))
  let s := s.saturate i new
  let s := s.lightIn i fun l => { l with
    satTotal := l.satTotal + BitVec.ofNat 32 (sats samples - new), quietTicks := s.quietBefore samples l.quietTicks }
  let v := sortBy (fun a b => decide (a ≤ b)) samples
  let iqr := at_ v 3071 - at_ v 1023
  if iqr ≤ (ccIqr s.con.cfg : Int) then
    let s := s.lightIn i fun l => { l with darkCode := upd l.darkCode l.range fun _ => at_ v 2047, rejRun := 0 }
    if (at_ s.con.inputs i).fault = some 0 then s.senseFault i none else s
  else
    let s := s.lightIn i fun l => { l with rejects := l.rejects + 1, rejRun := min 8 (l.rejRun + 1) }
    let l := at_ s.con.inputs i
    if l.rejRun = 8 ∧ l.fault = none then s.senseFault i (some 0) else s

/-! ## Emitter cells (10 R225, R226) -/

/-- The channels that emitter cells go through. -/
def State.emitterChans (s : State) : List Nat :=
  channels.filter fun c =>
    let r := s.chan c
    chRole r == 1 && s.liveFor (chArray r) (chPrimary r) c && (s.serving (chArray r) (chPrimary r)).isSome && s.pulsable c

/-- The channel of the next emitter cell: round-robin in ascending number. -/
def State.nextEmitter (s : State) : Option Nat :=
  let l := s.emitterChans
  match l.find? fun c => decide (s.con.rrNext ≤ c) with
  | some c => some c
  | none => l.head?

/-- The measurement of an emitter cell is accepted: nothing saturated, and at least 25 % of the code. -/
def State.emitAccepted (s : State) (c : Nat) (m : CellMeas) : Bool :=
  m.saturated == 0 && decide (s.testCode c (ccEmit s.con.cfg) ≤ 4 * m.current)

/-- An emitter cell: e is the mean light less the mean dark, in light units, over the sensed current. Its samples count for the
automatic range (10 R219). -/
def State.emitterCell (s : State) (c : Nat) (m : CellMeas) : State :=
  let r := s.chan c
  let i := (s.serving (chArray r) (chPrimary r)).getD 0
  let range := (at_ s.con.inputs i).range
  let good := s.emitAccepted c m
  let s := { s with con := { s.con with rrNext := c + 1 } }
  let s := s.saturate i m.saturated
  let s := s.lightIn i fun l => { l with peak := max l.peak m.peak }
  if good then
    let e : Rat := ((m.light : Rat) / 30 - (m.dark : Rat) / 10) * 4 ^ (3 - range) / m.current
    s.emitter c fun x => { x with
      vals := (e :: x.vals).take 8, fresh := min 8 (x.fresh + 1), accepted := sat 16 (x.accepted + 1) }
  else s.emitter c fun x => { x with discarded := sat 16 (x.discarded + 1) }

def meanOf (l : List Rat) : Rat := l.sum / l.length

/-- What was captured for a channel holds while it serves the array and primary of the capture (10 R227). -/
def State.atHome (s : State) (c : Nat) : Bool :=
  (at_ s.con.emitters c).home == some (chArray (s.chan c), chPrimary (s.chan c))

/-- w of a channel: 0 for one added to its primary since the capture. -/
def State.weightOf (s : State) (c : Nat) : Rat := if s.atHome c then (at_ s.con.emitters c).weight else 0

/-- The ratio r of a channel: none with fewer than 4 fresh values. -/
def Emitter.ratio (e : Emitter) : Option Rat := match e.ref with
  | none => none
  | some q => if 4 ≤ e.fresh then some (meanOf e.vals / q) else none

/-! ## Relative output (10 R227 to R229) -/

/-- The ratio of a channel against what was captured for it. -/
def State.ratioOf (s : State) (c : Nat) : Option Rat := if s.atHome c then (at_ s.con.emitters c).ratio else none

/-- The channels of an array and primary that are live and have a ratio, with weight and ratio. -/
def State.ratios (s : State) (a p : Nat) : List (Rat × Rat) :=
  (s.liveChans a p).filterMap fun c =>
    (s.ratioOf c).map fun r => (s.weightOf c, r)

/-- K of an array and primary; 0 before a capture. -/
def State.capacity (s : State) (a p : Nat) : Rat :=
  let w := (s.traceOf a p).weight
  if w = 0 then 0 else ((s.liveChans a p).map s.weightOf).sum / w

/-- The median; the mean of the two middle values with an even count. -/
def median (l : List Rat) : Rat :=
  let v := sortBy (fun a b => decide (a ≤ b)) l
  let n := v.length
  if n % 2 = 1 then v.getD (n / 2) 0 else (v.getD (n / 2 - 1) 0 + v.getD (n / 2) 0) / 2

def clampR (lo hi v : Rat) : Rat := max lo (min hi v)

/-- σ and SENSOR_DRIFT of an array and primary (10 R228). -/
def State.sensorFactor (s : State) (a p : Nat) : State :=
  let l := s.ratios a p
  if l.length < 3 then s else
  let m := median (l.map Prod.snd)
  let lim := ccSens s.con.cfg
  let t := s.traceOf a p
  let out := decide (m < 1 - lim ∨ 1 + lim < m)
  let inside := decide (1 - lim + 1 / 200 ≤ m ∧ m ≤ 1 + lim - 1 / 200)
  let drift := if out then true else if inside then false else t.drift
  let s := s.trace a p fun t => { t with sigma := clampR (1 - lim) (1 + lim) m, drift := drift }
  if drift != t.drift then
    s.raiseB 0x0702 p (b2n drift + 16 * a + 65536 * sat 16 (roundRat (m * 16384)).toNat)
  else s

/-- An estimate that does not exist is a free value. -/
def State.orFree (s : State) (x : Option Rat) : Rat × State := match x with
  | some v => (v, s)
  | none =>
    let (k, s) := s.takeFree
    ((Config.free k : Rat) / 16384, s)

/-- ρ of an array and primary (10 R229). -/
def State.relative (s : State) (a p : Nat) : Rat × State :=
  let t := s.traceOf a p
  let k := s.capacity a p
  let l := s.ratios a p
  let w := (l.map Prod.fst).sum
  let content := if t.qAvg = 0 ∨ t.eta0 = 0 then none else some (t.lAvg / t.qAvg / t.eta0 / t.sigma * k)
  let pulse := if w = 0 then none else some ((l.map fun x => x.1 * x.2).sum / w / t.sigma * k)
  let (c, s) := s.orFree content
  let (q, s) := s.orFree pulse
  (t.conf * c + (1 - t.conf) * q, s)

/-- ρ_p: the mean over the arrays, weighted by W. -/
def State.relativeOf (s : State) (p : Nat) : Rat × State :=
  let (l, s) := (s.constArrays p).foldl (fun (st : List (Nat × Rat) × State) a =>
    let (v, s) := st.2.relative a p
    (st.1 ++ [(a, v)], s)) ([], s)
  (s.overArrays p fun a => ((l.find? fun x => x.1 == a).map Prod.snd).getD 0, s)

/-! ## The solver (10 R230 to R233) -/

/-- The square root of a non-negative fraction, rounded to nearest. -/
def sqrtRound (q : Rat) : Nat :=
  let n := Nat.sqrt q.floor.toNat
  if (n : Rat) * n + n + 1 / 4 ≤ q then n + 1 else n

/-- X, Y, Z of a primary of chromaticity u′, v′ and weight y (CIE 1976). -/
def xyzOf (u v y : Rat) : Rat × Rat × Rat := (y * 9 * u / (4 * v), y, y * (12 - 3 * u - 20 * v) / (4 * v))

/-- u′, v′ of a white. -/
def whiteOf (l : List (Rat × Rat × Rat)) : Rat × Rat :=
  let x := (l.map fun t => t.1).sum
  let y := (l.map fun t => t.2.1).sum
  let z := (l.map fun t => t.2.2).sum
  let d := x + 15 * y + 3 * z
  (4 * x / d, 9 * y / d)

/-- DUV in units of 10^−5 from the targets and the ratio errors of the primaries in P (10 R233). -/
def duvOf (t : Rec) (errs : List (Nat × Rat)) : Nat :=
  let prim := fun (p : Nat) (k : Rat) =>
    xyzOf (u16 t (6 * p) / 65536) (u16 t (6 * p + 2) / 65536) (u16 t (6 * p + 4) / 65536 * k)
  let a := whiteOf (errs.map fun (p, e) => prim p (1 + e))
  let b := whiteOf (errs.map fun (p, _) => prim p 1)
  sat 16 (sqrtRound (((a.1 - b.1) ^ 2 + (a.2 - b.2) ^ 2) * 10 ^ 10))

/-- A white that the CIE relations do not give: no luminance, or a chromaticity with v′ 0. -/
def duvOpen (t : Rec) (ps : List Nat) : Bool :=
  ps.any (fun p => u16 t (6 * p + 2) == 0) || ps.all fun p => u16 t (6 * p + 4) == 0

/-- Σ and K, weighted over arrays, of every primary. -/
def prims8 : List Nat := List.range 8

/-- The estimates of a run: σ with SENSOR_DRIFT, K, ρ and the set P. -/
def State.estimates (s : State) : State :=
  let s := (prims8.map fun p => (s.servedArrays p).map fun a => (a, p)).flatten.foldl
    (fun s x => s.sensorFactor x.1 x.2) s
  prims8.foldl (fun s p =>
    let k := s.overArrays p fun a => s.capacity a p
    let member := !(s.constArrays p).isEmpty && decide (0 < k)
    let (rho, s) := if member then s.relativeOf p else (s.con.rho.getD p 0, s)
    { s with con := { s.con with
      rho := upd s.con.rho p fun _ => rho, kap := upd s.con.kap p fun _ => k, inP := upd s.con.inP p fun _ => member } })
    s

/-- The room of a primary: 32,768 × ρ ÷ S_0. -/
def State.roomOf (s : State) (p : Nat) : Rat := 32768 * s.con.rho.getD p 0 / s.con.s0.getD p 1

/-- Primaries in P that can limit G. -/
def State.inSet (s : State) : List Nat := prims8.filter fun p => s.con.inP.getD p false

/-- G and the primary that sets it, 0xFF if G is 1. -/
def State.gOf (s : State) : Rat × Nat :=
  (s.inSet.filter fun p => s.con.s0.getD p 0 != 0).foldl (fun best p =>
    if s.roomOf p < best.1 then (s.roomOf p, p) else best) ((1 : Rat), 0xFF)

/-- The new scale of a primary. -/
def State.stepScale (s : State) (p : Nat) (target : Rat) : Nat :=
  let old : Rat := s.con.s.getD p 0
  let lim : Rat := u16 s.con.cfg 0x0A
  let st := (target - old) * u16 s.con.cfg 8 / (u16 s.con.cfg 4 * 100)
  (clampI 0 32768 (roundRat (old + clampR (-lim) lim st))).toNat

/-- S_target of the primaries in P; where ρ is 0 the quotient is a free value. -/
def State.targetsOf (s : State) (g : Rat) : List (Nat × Rat) × State :=
  s.inSet.foldl (fun (st : List (Nat × Rat) × State) p =>
    let rho := s.con.rho.getD p 0
    let (v, s') := st.2.orFree (if rho = 0 then none else some (s.con.s0.getD p 0 * g / rho))
    (st.1 ++ [(p, v)], s')) ([], s)

/-- Ratio error e_p. -/
def State.ratioErr (s : State) (g : Rat) (p : Nat) : Rat :=
  s.con.s.getD p 0 * s.con.rho.getD p 0 / (s.con.s0.getD p 0 * g) - 1

/-- DUV after a run. -/
def State.judgeDuv (s : State) (g : Rat) : State :=
  match s.con.targets with
  | none => { s with con := { s.con with duv := 0xFFFF } }
  | some t =>
    let ps := s.inSet
    if duvOpen t ps ∨ g = 0 ∨ ps.any (fun p => s.con.s0.getD p 0 == 0) then
      let (k, s) := s.takeFree
      { s with con := { s.con with duv := Config.free k % 65536 } }
    else { s with con := { s.con with duv := duvOf t (ps.map fun p => (p, s.ratioErr g p)) } }

/-- One run of the solver at the boundary that opened the running tick, SOLVE_PERIOD or more after its last run. Off in MODE 0
and while no firmware runs. -/
def State.solverRun (s : State) : State :=
  if ccMode s.con.cfg = 0 ∨ s.mbx.fwState ≠ 1 ∨ s.tk.start < s.con.runAt + u16 s.con.cfg 8 * tuMs then s else
  let s := s.estimates
  let (g, lim) := s.gOf
  let (ts, s) := s.targetsOf g
  let held := decide (g < ccGMin s.con.cfg)
  let st := if held then 2 else if g < 1 then 1 else 0
  let old := s.con.limitState
  let new := if ccMode s.con.cfg = 2 ∧ held = false then
      ts.foldl (fun l x => upd l x.1 fun _ => s.stepScale x.1 x.2) s.con.s
    else s.con.s
  let s := { s with con := { s.con with
    target := ts.foldl (fun l (x : Nat × Rat) => upd l x.1 fun _ => sat 16 (roundRat x.2).toNat) s.con.target, g := g, limiting := lim,
    limitState := st, s := new, runTick := s.tk.tick, runAt := s.tk.start } }
  let s := if st ≠ old then s.raiseB 0x0701 0 (st + 256 * lim + 65536 * (roundRat (g * 32768)).toNat) else s
  s.judgeDuv g

/-! ## The boundary's part -/

/-- Q of a primary that an input serves is large, and its light is below 1 % of L_avg (10 R237). -/
def State.lowLight (s : State) (i : Nat) : Bool × Bool :=
  let r := s.con.sense
  let l := (prims8.filter fun p => bit (snMask r i) p).filterMap fun p =>
    let t := s.traceOf (snArray r i) p
    if snArray r i < 4 ∧ 100 * ccQmin s.con.cfg ≤ t.charge then some (decide ((t.light : Rat) < t.lAvg / 100)) else none
  (l.any id, l.any fun b => !b)

/-- The faults of an input as a tick ends. -/
def State.judgeInput (s : State) (i : Nat) : State :=
  let (low, good) := s.lowLight i
  let x := at_ s.con.inputs i
  let lowTicks := if low then min 64 (x.lowTicks + 1) else if good then 0 else x.lowTicks
  let satTicks := if 0 < x.satTick ∧ x.range = 0 then min 64 (x.satTicks + 1) else 0
  let s := s.lightIn i fun l => { l with lowTicks := lowTicks, satTicks := satTicks }
  match x.fault with
  | none => if lowTicks = 64 then s.senseFault i (some 1) else if satTicks = 64 then s.senseFault i (some 2) else s
  | some 1 => if good then s.senseFault i none else s
  | some 2 => if x.satTick = 0 then s.senseFault i none else s
  | some _ => s

/-- Whether the tick just ended qualifies for an array and primary (10 R223). -/
def State.qualifies (s : State) (a p : Nat) : Bool :=
  match s.serving a p with
  | none => false
  | some i =>
    let t := s.traceOf a p
    let x := at_ s.con.inputs i
    decide (ccQmin s.con.cfg ≤ t.charge) && !t.saturated && !x.changed && !s.con.stateHeld && x.fault.isNone

/-- The filters and the confidence of one trace as a tick of `len` tu ends (10 R223, R224). -/
def Trace.update (t : Trace) (cfg : Rec) (k : Bool) (len : Nat) : Trace :=
  let b : Rat := len / ccTauEff cfg
  let t := if k then { t with lAvg := t.lAvg + b * (t.light - t.lAvg), qAvg := t.qAvg + b * (t.charge - t.qAvg) } else t
  { t with
    conf := t.conf + (len : Rat) / ccTauConf cfg * ((if k then 1 else 0) - t.conf), light := 0, charge := 0, saturated := false }

/-- Automatic ranges (10 R219). -/
def LightIn.autoRange (l : LightIn) (setting : Nat) : LightIn :=
  let quiet := if l.satTick = 0 ∧ l.peak < 6000 then min 64 (l.quietTicks + 1) else 0
  let new := if setting < 4 then setting
    else if 64 < l.satTick then l.range - 1
    else if quiet = 64 then min 3 (l.range + 1) else l.range
  { l with range := new, changed := new != l.range, quietTicks := quiet, satTick := 0, peak := 0 }

/-- A channel that a source set moves to another primary or array begins its measurements again (10 R226). -/
def State.moveEmitters (s : State) (old : SourceSet) : State :=
  let key := fun (r : Rec) => (chRole r, chArray r, chPrimary r)
  { s with con := { s.con with
    emitters := s.con.emitters.mapIdx fun c (e : Emitter) =>
      if key (at_ old.chans c) = key (s.chan c) then e else { e with vals := [], fresh := 0 } } }

/-- A channel that is not live for any primary loses its measurements (10 R226). -/
def State.dropDead (s : State) : State :=
  { s with con := { s.con with
    emitters := s.con.emitters.mapIdx fun c (e : Emitter) =>
      let r := s.chan c
      if s.liveFor (chArray r) (chPrimary r) c then e else { e with vals := [], fresh := 0 } } }

/-- w of a channel: bank scale and trim (10 R227). -/
def State.weightNow (s : State) (c : Nat) : Rat := (bkScale (s.bankOf c) : Rat) / 255 * (chTrim (s.chan c) / 4095)

/-- σ of the eight primaries of each input, 1 where the input serves none (10 R228). -/
def State.sigmas (s : State) : List Rat :=
  ((List.range 8).map fun i => prims8.map fun p =>
    if s.serving (snArray s.con.sense i) p = some i then (s.traceOf (snArray s.con.sense i) p).sigma else 1).flatten

/-- TARGET_CAPTURE at its boundary (10 R231). -/
def State.captureNow (s : State) : State :=
  let prim := prims8.filter fun p => !(s.constArrays p).isEmpty
  let pairs := (prims8.map fun p => fourArrays.map fun a => (a, p)).flatten
  let live := fun c => let r := s.chan c
    chRole r == 1 && s.liveFor (chArray r) (chPrimary r) c
  let ws := channels.map fun c => if live c then s.weightNow c else 0
  let s := { s with con := { s.con with
    emitters := s.con.emitters.mapIdx fun c (e : Emitter) =>
      if live c then
        { e with ref := if e.vals.isEmpty then none else some (meanOf e.vals), weight := ws.getD c 0, fresh := 0,
                 accepted := 0, home := some (chArray (s.chan c), chPrimary (s.chan c)) }
      else { e with weight := 0, accepted := 0, home := none } } }
  let s := { s with pat := { s.pat with captures := s.pat.captures ++ [s.sigmas] } }
  let s := pairs.foldl (fun s x => s.trace x.1 x.2 fun t => { t with
    eta0 := if t.qAvg = 0 then 0 else t.lAvg / t.qAvg, sigma := 1, conf := 0,
    weight := ((s.liveChans x.1 x.2).map fun c => ws.getD c 0).sum }) s
  let s := { s with con := { s.con with s0 := s.con.s, capture := false },
                    ken := { s.ken with dirty := upd s.ken.dirty 1 fun _ => true } }
  s.raiseB 0x0705 0 (maskOf (prims8.map fun p => prim.contains p))

/-- CONFIDENCE_LOW of a primary at the boundary (10 R237). -/
def State.judgeConf (s : State) (p : Nat) : State :=
  if (s.constArrays p).isEmpty then s else
  let c := s.confOf p
  let was := s.con.confLow.getD p true
  let low := if c < 1 / 2 then true else if 3 / 5 ≤ c then false else was
  let s := { s with con := { s.con with confLow := upd s.con.confLow p fun _ => low } }
  if low != was then s.raiseB 0x0703 p (b2n low + 256 * (roundRat (c * 255)).toNat) else s

/-- The constancy of the tick of `len` tu that ends, before the new settings take effect. -/
def State.constancyEnd (s : State) (len : Nat) : State :=
  let qs := fourArrays.map fun a => prims8.map fun p => s.qualifies a p
  let s := (List.range 8).foldl State.judgeInput s
  let s := { s with con := { s.con with
    traces := s.con.traces.mapIdx fun j (t : Trace) => t.update s.con.cfg ((qs.flatten).getD j false) len } }
  s.dropDead

/-- What goes live at the boundary: SCALE_SET, capture, the two configurations, ranges (10 R219, R231, R236). -/
def State.constancyBoundary (s : State) : State :=
  let s := { s with con := { s.con with s := s.con.scaleWait.getD s.con.s, scaleWait := none } }
  let s := if s.con.capture then s.captureNow else s
  let s := prims8.foldl State.judgeConf s
  let s := { s with con := { s.con with
    cfg := s.con.cfgWait.getD s.con.cfg, cfgWait := none, sense := s.con.senseWait.getD s.con.sense, senseWait := none,
    stateHeld := s.allOff } }
  { s with con := { s.con with inputs := s.con.inputs.mapIdx fun i (l : LightIn) => l.autoRange (snRange s.con.sense i) } }

/-- The filters of R223, R224 and R226 restart empty (10 R235). What has been answered OK still acts at its boundary. -/
def State.constancyRestart (s : State) : State :=
  { s with con := { s.con with
    traces := s.con.traces.map fun t => { t with lAvg := 0, qAvg := 0, conf := 0 },
    emitters := s.con.emitters.map fun e => { e with vals := [], fresh := 0 } } }

/-! ## Commands (10 R236) -/

def constCfgOk (p : Rec) : Bool :=
  decide (byteAt p 0 ≤ 2) && inRange 5 6000 (u16 p 2) && inRange 10 6000 (u16 p 4) && inRange 10 6000 (u16 p 6) &&
    inRange 20 1000 (u16 p 8) && inRange 1 4096 (u16 p 0x0A) && inRange 1 100000000 (ccQmin p) &&
    decide (u16 p 0x10 ≤ 6554) && inRange 8192 32768 (u16 p 0x12) && inRange 1 32768 (ccEmit p) &&
    inRange 4 4096 (ccIqr p)

/-- CONSTANCY_CONFIG. -/
def cmdConstancyConfig : Cmd where
  op := 0x0700
  len := lenIs 24
  run := fun _ p s =>
    if constCfgOk p then ok { s with con := { s.con with cfgWait := some p } } else refuse cBadParam s

/-- Fields in range, and no primary of an array served twice. -/
def senseOk (p : Rec) : Bool :=
  ((List.range 8).all fun i => (snArray p i < 4 || snArray p i == 0xFF) && decide (snRange p i ≤ 4)) &&
    (List.range 8).all fun i => (List.range i).all fun j =>
      snArray p i == 0xFF || snArray p i != snArray p j || prims8.all fun q => !(bit (snMask p i) q && bit (snMask p j) q)

/-- SENSE_CONFIG. -/
def cmdSenseConfig : Cmd where
  op := 0x0701
  len := lenIs 32
  run := fun _ p s => if senseOk p then ok { s with con := { s.con with senseWait := some p } } else refuse cBadParam s

/-- TARGET_SET. -/
def cmdTargetSet : Cmd where
  op := 0x0702
  len := lenIs 48
  run := fun _ p s => ok { s with con := { s.con with targets := some p } }

/-- TARGET_CAPTURE (10 R231): every live channel that an input serves has its measurements, since R225 measures no other. -/
def cmdTargetCapture : Cmd where
  op := 0x0703
  len := lenIs 0
  run := fun _ _ s =>
    let conf := prims8.all fun p => (s.constArrays p).isEmpty || decide ((1 / 2 : Rat) ≤ s.confOf p)
    let meas := prims8.all fun p => (s.servedArrays p).all fun a =>
      (s.liveChans a p).all fun c => (at_ s.con.emitters c).vals.length == 8
    if conf && meas then okWith s.nextTick { s with con := { s.con with capture := true } } else refuse cState s

/-- SCALE_SET. -/
def cmdScaleSet : Cmd where
  op := 0x0704
  len := lenIs 16
  run := fun _ p s =>
    let v := prims8.map fun i => u16 p (2 * i)
    if v.any fun x => decide (32768 < x) then refuse cBadParam s
    else if ccMode s.con.cfg ≠ 0 then refuse cState s
    else ok { s with con := { s.con with scaleWait := some v } }

/-- A fraction in units of 2^−n, in two bytes. -/
def q16 (n : Nat) (x : Rat) : Rec := le 2 (sat 16 (roundRat (x * 2 ^ n)).toNat)

/-- CONSTANCY_STATUS. -/
def cmdConstancyStatus : Cmd where
  op := 0x0705
  len := lenIs 0
  run := fun _ _ s =>
    okWith (le 4 s.con.runTick.toNat ++ q16 15 s.con.g ++ le 1 s.con.limiting ++ le 1 (ccMode s.con.cfg) ++
      le 2 s.con.duv ++ zeros 6 ++ (prims8.map fun p =>
        let c := s.confOf p
        le 2 (s.con.s.getD p 0) ++ le 2 (s.con.target.getD p 0) ++ le 2 (s.con.s0.getD p 0) ++
          q16 14 (s.con.rho.getD p 0) ++ q16 14 (s.overArrays p fun a => (s.traceOf a p).sigma) ++
          q16 15 (s.overArrays p fun a => s.capacity a p) ++ le 1 (roundRat (c * 255)).toNat ++
          le 1 (maskOf [s.con.inP.getD p false, (s.servedArrays p).isEmpty,
            (s.figureArrays p).any fun a => (s.traceOf a p).drift, s.con.confLow.getD p true]) ++ zeros 2).flatten) s

/-- EMITTER_READ. -/
def cmdEmitterRead : Cmd where
  op := 0x0706
  len := lenIs 4
  run := fun _ p s =>
    if spanOk 192 28 (byteAt p 0) (byteAt p 1) then
      okWith ((List.range (byteAt p 1)).map fun i =>
        let c := byteAt p 0 + i
        let e := at_ s.con.emitters c
        let r := (s.ratioOf c).getD 0
        q16 14 r ++ q16 14 (r / (s.traceOf (chArray (s.chan c)) (chPrimary (s.chan c))).sigma) ++ le 2 e.accepted ++
          le 2 e.discarded).flatten s
    else refuse cBadParam s

/-- SENSE_READ. -/
def cmdSenseRead : Cmd where
  op := 0x0707
  len := lenIs 4
  run := fun _ p s =>
    if byteAt p 0 < 8 then
      let l := at_ s.con.inputs (byteAt p 0)
      okWith (le 1 l.range ++ le 1 (l.fault.getD 0xFF) ++ zeros 2 ++ (l.darkCode.map (leI 2)).flatten ++
        le 4 l.rejects.toNat ++ le 4 l.satTotal.toNat) s
    else refuse cBadParam s

/-- CONSTANCY_CONFIG (10 R236). -/
def execConstancyConfig (h : Hdr) (p : Rec) (s : State) : Out := done (s.command cmdConstancyConfig h p)
/-- SENSE_CONFIG (10 R217). -/
def execSenseConfig (h : Hdr) (p : Rec) (s : State) : Out := done (s.command cmdSenseConfig h p)
/-- TARGET_SET (10 R233). -/
def execTargetSet (h : Hdr) (p : Rec) (s : State) : Out := done (s.command cmdTargetSet h p)
/-- TARGET_CAPTURE (10 R231). -/
def execTargetCapture (h : Hdr) (p : Rec) (s : State) : Out := done (s.command cmdTargetCapture h p)
/-- SCALE_SET (10 R236). -/
def execScaleSet (h : Hdr) (p : Rec) (s : State) : Out := done (s.command cmdScaleSet h p)
/-- CONSTANCY_STATUS (10 R236). -/
def execConstancyStatus (h : Hdr) (p : Rec) (s : State) : Out := done (s.command cmdConstancyStatus h p)
/-- EMITTER_READ (10 R236). -/
def execEmitterRead (h : Hdr) (p : Rec) (s : State) : Out := done (s.command cmdEmitterRead h p)
/-- SENSE_READ (10 R236). -/
def execSenseRead (h : Hdr) (p : Rec) (s : State) : Out := done (s.command cmdSenseRead h p)
/-- DARK_BLOCK (10 R220). -/
def execDarkBlock (i : Nat) (samples : List Int) (s : State) : Out := done (s.darkBlock i samples)
/-- SOLVER_RUN (10 R230). -/
def execSolverRun (s : State) : Out := done s.solverRun

end Sys2Proof.Machine
end

