-- ==== Sys2Proof/Machine/Thermal.lean ====
section
/-! DEFINITION. Thermal management (chapter 15): zone readings, cross-checks, the throttle ceiling and the commands. The trip
is in Machine/Faults.lean, the warm restart in Machine/Boot.lean. -/
namespace Sys2Proof.Machine

def State.zone (s : State) (z : Nat) (f : Zone → Zone) : State :=
  { s with th := { s.th with zones := upd s.th.zones z f } }

/-- Neighbours in row and column on one die (15 R317). -/
def zoneNeighbours (z : Nat) : List Nat :=
  let d := z / 8 * 8
  let i := z % 8
  let l := (if i % 4 = 0 then [] else [i - 1]) ++ (if i % 4 = 3 then [] else [i + 1]) ++ [(i + 4) % 8]
  l.map fun n => d + n

/-- THETA_z in 1/256 °C per W; 205 without a record (15 R332). -/
def State.theta (s : State) (z : Nat) : Nat := match s.th.model with
  | some r => u16 r (4 + 2 * z)
  | none => 205

/-- T_est of a zone in 1/8 °C from its neighbours in service; none with fewer than two (15 R321). -/
def State.zoneEst (s : State) (z : Nat) : Option Rat :=
  let l := ((zoneNeighbours z).map fun n => at_ s.th.zones n).filter fun x => !x.suspect
  if l.length < 2 then none else
  let n : Rat := l.length
  let t : Rat := (l.map fun x => (x.effective : Rat)).sum / n
  let p : Rat := (l.map fun x => (x.power : Rat)).sum / n
  some (t + s.theta z * ((at_ s.th.zones z).power - p) / 512)

/-- The highest effective temperature of the other zones of a die, of those that a reading or an estimate of their own gives. -/
def State.dieTop (s : State) (z : Nat) : Option Int :=
  let own := fun (i : Nat) => if (at_ s.th.zones i).suspect then (s.zoneEst i).map fun t => roundRat t + 40
    else some (at_ s.th.zones i).effective
  match (((List.range 8).map fun i => z / 8 * 8 + i).filter fun i => i != z).filterMap own with
  | [] => none
  | x :: l => some (l.foldl max x)

/-- The effective temperature of a suspect zone (15 R322). Without an estimate it is the highest on its die plus 5 °C; a suspect zone
that has no estimate either is not counted in, so that such zones cannot raise one another without end, and where the die has no other
zone the last values of its zones stand in (DEDUCED, assumption 118). -/
def State.suspectTemp (s : State) (z : Nat) : Int :=
  match s.zoneEst z, s.dieTop z with
  | some t, _ => roundRat t + 40
  | none, some t => t + 40
  | none, none => ((List.range 8).map fun i => (at_ s.th.zones (z / 8 * 8 + i)).base).foldl max (at_ s.th.zones z).base + 40

/-- The effective temperatures of the suspect zones follow their neighbours. -/
def State.refreshZones (s : State) : State :=
  (List.range 16).foldl (fun s z =>
    if (at_ s.th.zones z).suspect then
      let t := s.suspectTemp z
      let e := (s.zoneEst z).map roundRat
      s.zone z fun x => { x with effective := t, estimate := e, base := if e.isSome then t else x.base }
    else s) s

/-- T_est as events carry it. -/
def estField (e : Option Int) : Nat := match e with
  | some t => pattern 16 t
  | none => 0x8000

/-- WARN of a zone (15 R323). -/
def State.judgeWarn (s : State) (z : Nat) : State :=
  let x := at_ s.th.zones z
  let warn := if 800 ≤ x.effective then true else if x.effective < 760 then false else x.warn
  let s := s.zone z fun x => { x with warn := warn }
  s.raiseIf (warn != x.warn) 0x0B01 z (b2n warn + 65536 * pattern 16 x.effective)

/-- A zone becomes suspect, or returns to service. -/
def State.setSuspect (s : State) (z : Nat) (v : Bool) (cause : Nat) (est : Option Int) : State :=
  let s := s.zone z fun x => { x with
    suspect := v, devRun := 0, okRun := 0, effective := if v then x.effective else x.reading,
    base := if v then x.base else x.reading }
  s.raise 0x0B05 z (b2n v + 2 * cause + 65536 * estField est)

/-- Reading outside −55 °C to +175 °C (15 R318). -/
def badReading (v : Int) : Bool := decide (v < -440) || decide (1400 < v)

/-- The cross-check of a reading (15 R321, R322). -/
def State.crossCheck (s : State) (z : Nat) (v : Int) : State :=
  let x := at_ s.th.zones z
  let est := s.zoneEst z
  let r := est.map roundRat
  let dev : Option Rat := est.map fun (t : Rat) => if (v : Rat) ≤ t then t - v else v - t
  let s := s.zone z fun x => { x with reading := v, estimate := r }
  if x.suspect then
    let good := !badReading v && match dev with
      | some d => decide (d ≤ 64)
      | none => false
    if good ∧ x.okRun = 63 then s.setSuspect z false 0 r
    else s.zone z fun x => { x with okRun := if good then x.okRun + 1 else 0 }
  else if badReading v then s.setSuspect z true 1 r
  else
    let s := s.zone z fun x => { x with effective := v, base := v }
    let off : Bool := match dev with
      | some d => decide (96 < d)
      | none => false
    if off ∧ x.devRun = 15 then s.setSuspect z true 0 r
    else s.zone z fun x => { x with devRun := if off then x.devRun + 1 else 0 }

/-- Every zone below 100 °C. -/
def State.allCool (s : State) : Bool := s.th.zones.all fun x => decide (x.effective < 800)

/-- How long every zone has been below 100 °C (15 R328). -/
def State.judgeCool (s : State) : State :=
  { s with th := { s.th with coolSince := if s.allCool then some (s.th.coolSince.getD s.now) else none } }

/-- The mean effective temperature of Z8 to Z15 in 1/8 °C, at which the trims are taken (14 R313). -/
def State.driveTemp (s : State) : Rat := (((s.th.zones.drop 8).map fun z => (z.effective : Rat)).sum) / 8

/-- A reading of a zone. The Bool tells that the reading path trips: 125 °C at two readings in a row (15 R326). -/
def State.zoneReading (s : State) (z : Nat) (v : Int) (power : Nat) : Bool × State :=
  let s := if z = 0 then
      let s := s.compRound.applyTrims s.driveTemp
      match s.th.modelWait with
      | some r => { s with th := { s.th with model := some r, modelWait := none } }
      | none => s
    else s
  let s := if z < 8 then s.zone z fun x => { x with power := power } else s
  let s := (s.crossCheck z v).refreshZones
  let s := (List.range 16).foldl State.judgeWarn s
  let x := at_ s.th.zones z
  let hot := if 1000 ≤ x.effective then min 3 (x.hotRun + 1) else 0
  let s := s.zone z fun x => { x with hotRun := hot }
  let s := s.judgeCool
  (hot == 2 && x.hotRun == 1, s)

/-! ## The throttle ceiling (15 R324, R325) -/

/-- The hottest zone, the lowest of equals, and the highest effective temperature. -/
def State.hottest (s : State) : Nat × Int :=
  (List.range 16).foldl (fun b z => if b.2 < (at_ s.th.zones z).effective then (z, (at_ s.th.zones z).effective) else b)
    (0, (at_ s.th.zones 0).effective)

/-- THROTTLE_STEP. -/
def State.stepEvent (s : State) (src new old reason : Nat) : State :=
  s.raiseB 0x0B02 src (new + 32 * old + 1024 * reason + 65536 * pattern 16 s.hottest.2)

def Thermal.dwell (t : Thermal) (now tu : Nat) : Bool := match t.lastStep with
  | none => true
  | some b => decide (b + tu ≤ now)

/-- Step 4 of R21 at a boundary. -/
def State.throttleBoundary (s : State) : State :=
  let t := s.th
  let mark := fun (s : State) c => { s with th := { s.th with c := c, lastStep := some s.now, lastStepTick := s.tk.tick } }
  if t.state ≠ 0 then s else
  match t.restartStep with
  | some (old, new) =>
    let s := mark s s.th.c
    ({ s with th := { s.th with restartStep := none } }).stepEvent s.hottest.1 new old 3
  | none =>
    if 840 ≤ s.hottest.2 ∧ t.dwell s.now 100000000 then
      if 4 < t.c then (mark s (t.c - 1)).stepEvent s.hottest.1 (t.c - 1) t.c 0
      else
        let free : Bool := match t.floorAt with
          | none => true
          | some b => decide (b + 800000000 ≤ s.now)
        if free then ({ s with th := { s.th with floorAt := some s.now } }).stepEvent s.hottest.1 t.c t.c 2 else s
    else if s.allCool ∧ t.c < 16 ∧ t.dwell s.now 800000000 then (mark s (t.c + 1)).stepEvent 0xFF (t.c + 1) t.c 1
    else s

/-! ## Commands (15 R332) -/

/-- THERMAL_STATUS. -/
def cmdThermalStatus : Cmd where
  op := 0x0B00
  len := lenIs 0
  run := fun _ _ s =>
    let t := s.th
    okWith (le 1 t.state ++ le 1 t.c ++ le 2 (maskOf (t.zones.map Zone.warn)) ++ le 2 (maskOf (t.zones.map Zone.suspect)) ++
      le 2 t.tripMask ++ le 4 t.trips.toNat ++ le 4 t.lastStepTick.toNat ++
      (t.zones.map fun x => leI 2 x.reading ++ leI 2 x.effective ++ le 2 x.power).flatten ++ zeros 4) s

/-- ZONE_SUSPECT_CLEAR: the masked suspect zones return to service at once. -/
def cmdZoneSuspectClear : Cmd where
  op := 0x0B04
  len := lenIs 4
  run := fun _ p s =>
    let s := (List.range 16).foldl (fun s z =>
      if bit (u16 p 0) z ∧ (at_ s.th.zones z).suspect then s.setSuspect z false 0 (at_ s.th.zones z).estimate else s) s
    ok ((List.range 16).foldl State.judgeWarn s.refreshZones).judgeCool

/-- THERMAL_STATUS (15 R332). -/
def execThermalStatus (h : Hdr) (p : Rec) (s : State) : Out := done (s.command cmdThermalStatus h p)
/-- ZONE_SUSPECT_CLEAR (15 R322). -/
def execZoneSuspectClear (h : Hdr) (p : Rec) (s : State) : Out := done (s.command cmdZoneSuspectClear h p)

end Sys2Proof.Machine
end

