-- ==== Sys2Proof/Machine/Kennel.lean ====
section
/-! DEFINITION. Calibration tasks and the kennel (chapter 16), with the commands of other chapters that write a store. -/
namespace Sys2Proof.Machine

/-! ## Calibration (16 R334 to R342) -/

/-- The place of a unit among the 48: 8 inputs, 24 banks, 16 axes. -/
def calIndex (task unit : Nat) : Nat := match task with
  | 0 => unit
  | 1 => 8 + unit
  | _ => 32 + unit

def calUnits (task : Nat) : Nat := match task with
  | 0 => 8
  | 1 => 24
  | 3 => 16
  | _ => 0

def State.calUnit (s : State) (j : Nat) (f : CalUnit → CalUnit) : State :=
  { s with cal := { s.cal with units := upd s.cal.units j f } }

def calEnabled (cfg : Rec) (task : Nat) : Bool := bit (byteAt cfg 0) task
/-- The period of a task in tu. -/
def calPeriod (cfg : Rec) (task : Nat) : Nat := u16 cfg (if task = 3 then 6 else 2 + 2 * task) * tuS

/-- What a value is judged by: nominal, range, largest change, limit of the standard error (16 R340). -/
structure CalRule where
  nominal : Rat
  low : Rat
  high : Rat
  change : Rat
  limit : Rat

def gainRule (low high change limit : Rat) : CalRule := ⟨32768, low * 32768, high * 32768, change * 32768, limit * 32768⟩

/-- The rule of value `i` of a task. -/
def calRule (task i : Nat) : CalRule := match task with
  | 0 => gainRule (95 / 100) (105 / 100) (5 / 1000) (5 / 10000)
  | 1 => if i % 2 = 0 then ⟨0, -500, 500, 100, 20⟩ else gainRule (97 / 100) (103 / 100) (1 / 100) (1 / 1000)
  | _ =>
    let fs : Rat := 1048576
    if i % 2 = 0 then ⟨0, -(fs * 5 / 1000), fs * 5 / 1000, fs / 1000, fs / 10000⟩
    else gainRule (98 / 100) (102 / 100) (2 / 1000) (2 / 10000)

def absR (x : Rat) : Rat := if x < 0 then -x else x

/-- The failures of one value: absolute range, change, confidence. -/
def judgeValue (r : CalRule) (old : Rat) (l : List Rat) : Bool × Bool × Bool :=
  let n : Rat := l.length
  let m := l.sum / n
  let var := (l.map fun x => (x - m) * (x - m)).sum / n
  (decide (m < r.low ∨ r.high < m), decide (r.change < absR (m - old)), decide (r.limit * r.limit * n < var))

/-- The mean of a run, as its value is stored. -/
def runMean (l : List Rat) : Int := roundRat (l.sum / l.length)

/-- A run is over: the unit rests until its next period. -/
def CalUnit.rest (u : CalUnit) (now : Nat) : CalUnit := { u with due := none, defer := 0, got := 0, samples := [], lastRun := now }

/-- The plausibility check of a completed run (16 R340, R341): a value that is nowhere in force is judged against nominal. -/
def State.calCheck (s : State) (j : Nat) (runs : List (List Rat)) : State :=
  let u := at_ s.cal.units j
  let fails := (runs.zipIdx).map fun (l, i) =>
    let r := calRule u.task i
    judgeValue r (if u.hasValues then ((u.values[i]?).map fun (v : Int) => (v : Rat)).getD r.nominal else r.nominal) l
  let bad := [fails.any (fun f => f.1), fails.any (fun f => f.2.1), fails.any fun f => f.2.2]
  if bad.any id then
    let n := u.rejects + 1
    let s := s.calUnit j fun u => { u.rest s.now with rejects := n, suspended := u.suspended || decide (8 ≤ n) }
    let s := { s with cal := { s.cal with rejected := s.cal.rejected + 1 } }
    s.raise 0x0C01 u.index (u.task + 4 * maskOf (bad ++ [decide (8 ≤ n)]) + 256 * sat 8 n)
  else
    let s := s.calUnit j fun u => { u.rest s.now with rejects := 0, waiting := some (runs.map runMean) }
    { s with cal := { s.cal with accepted := s.cal.accepted + 1 } }

/-- A sink conducts in the cell that opens at `t`: at its opening, or in a conduction placed in it. -/
def State.sinkConducts (s : State) (c t : Nat) : Bool :=
  let k := at_ s.src.sinks c
  s.pinCode c k t != 0 ||
    (!(s.sinksHeld || s.chanOff c) && k.plan.any fun p => p.code != 0 && decide (p.start < t + 1600) && decide (t < p.stop))

/-- A due unit of a DUMP-cell task that the cell opening at `t` can serve (16 R335). -/
def State.calServable (s : State) (t j : Nat) : Bool :=
  let u := at_ s.cal.units j
  u.due.isSome && !u.suspended && decide (u.task ≤ 1) && calEnabled s.cal.cfg u.task &&
    (u.task == 1 || channels.all fun c => !(chLights (snArray s.con.sense u.index) (s.chan c)) || !s.sinkConducts c t)

/-- The unit that is due longest; of equals the lower task, then the lower unit (16 R338). -/
def State.calNext (s : State) (t : Nat) : Option Nat :=
  ((List.range 32).filter (s.calServable t)).foldl (fun (b : Option Nat) j => match b with
    | none => some j
    | some k => if (at_ s.cal.units j).due.getD 0 < (at_ s.cal.units k).due.getD 0 then some j else b) none

/-- The owed unit with the highest DEFER (16 R339). -/
def State.calOwed (s : State) (t : Nat) : Option Nat :=
  (((List.range 32).filter (s.calServable t)).filter fun j => decide (64 ≤ (at_ s.cal.units j).defer)).foldl
    (fun (b : Option Nat) j => match b with
      | none => some j
      | some k => if (at_ s.cal.units k).defer < (at_ s.cal.units j).defer then some j else b) none

/-- The readings of a cell join those of the run. -/
def addReadings (n : Nat) (old new : List (List Int)) : List (List Int) :=
  (List.range n).map fun i => old.getD i [] ++ new.getD i []

/-- The readings that a cell opening at `t` gives its unit (16 R335): of an input those of the range under test, one range per cell;
of a bank those of the sinks that do not conduct in it. -/
def State.cellReadings (s : State) (t : Nat) (u : CalUnit) (l : List (List Int)) : List (List Int) :=
  l.mapIdx fun i x =>
    if u.task = 0 then (if i = u.got % 4 then x else [])
    else if s.sinkConducts (8 * u.index + i / 2) t then [] else x

/-- A calibration cell (16 R335): input values are one gain per range, bank values zero and gain of each sink. -/
def State.calCell (s : State) (t j : Nat) (m : CellMeas) : State :=
  let u := at_ s.cal.units j
  let n := if u.task = 0 then 4 else 16
  let got := addReadings n u.samples (s.cellReadings t u m.readings)
  let s := s.calUnit j fun u => { u with samples := got, got := u.got + 1 }
  let over_ := if u.task = 0 then decide (4 ≤ u.got + 1) else got.all fun l => decide (4 ≤ l.length)
  if over_ then s.calCheck j (got.map fun l => l.map fun (x : Int) => (x : Rat)) else s

/-- The spacing of an axis's position conversions in tu: 1 MS/s, and 100 kS/s of the analogue input (13 R284, R286). -/
def convPeriod (a : Nat) : Nat := if a < 8 then 400 else 4000

/-- The conversion slot of this instant may hold a reference: a sample reads the latest slot at or before it, so that none may fall due
before the third slot from here ends (16 R337). No sample reads a sum conversion. -/
def State.refSlot (s : State) (a k : Nat) : Bool :=
  k == 1 || decide (s.now + 3 * convPeriod a ≤ s.nextSample a)

/-- A reference conversion may take a slot of the axis now (16 R337). -/
def State.refGap (s : State) (a : Nat) : Bool :=
  let u := at_ s.cal.units (calIndex 3 a)
  let kind := ioKind (at_ s.ios a).record
  decide (a < 16) && u.due.isSome && !u.suspended && calEnabled s.cal.cfg 3 && (kind == 0 || kind == 3) &&
    ((at_ s.axes a).state != 1 || (decide (a < 8) && (at_ s.heads (a / 2)).onDump))

/-- Offsets in 2^−20 of full scale and gains in 2^−15 from the readings of both polarities. -/
def refRuns (full scale : Rat) (pos neg : List Int) : List (List Rat) :=
  let z := List.zip pos neg
  [z.map fun (x : Int × Int) => ((x.1 : Rat) + x.2) / 2 * scale,
   z.map fun (x : Int × Int) => if x.1 = x.2 then 0 else full * 32768 / (((x.1 : Rat) - x.2) / 2)]

/-- A reference conversion of AXIS_ADC; `k` 0 position, 1 sum. It counts for no detector. -/
def State.refConv (s : State) (a k : Nat) (negative : Bool) (code : Int) : State :=
  if s.refGap a = false ∨ s.refSlot a k = false then s else
  let j := calIndex 3 a
  let slot := 2 * k + b2n negative
  let u := at_ s.cal.units j
  let got := (List.range 4).map fun i =>
    let l := u.samples.getD i []
    if i = slot ∧ l.length < 256 then l ++ [code] else l
  let s := s.calUnit j fun u => { u with samples := got, got := u.got + 1 }
  let full := fun i => decide ((got.getD i []).length = 256)
  let both := ioKind (at_ s.ios a).record == 0
  if full 0 && full 1 && (!both || (full 2 && full 3)) then
    let pos := refRuns (Config.refCode a 0) (if a < 8 then 8 else 32) (got.getD 0 []) (got.getD 1 [])
    let sum := if both then refRuns (Config.refCode a 1) 16 (got.getD 2 []) (got.getD 3 []) else []
    s.calCheck j (pos ++ sum)
  else s

/-- A unit falls due (16 R334). -/
def State.calDue (s : State) (task unit : Nat) : State :=
  if unit < calUnits task then
    let j := calIndex task unit
    let u := at_ s.cal.units j
    if u.due.isSome ∨ u.suspended ∨ calEnabled s.cal.cfg task = false then s
    else
      let s := s.forward (u.lastRun + calPeriod s.cal.cfg task)
      s.calUnit j fun u => { u with due := some s.now, defer := 0 }
  else s

/-- The boundary: CAL_CONFIG, accepted values, DEFER (16 R338, R342). -/
def State.calBoundary (s : State) : State :=
  let change := s.cal.units.any fun u => u.waiting.isSome
  { s with
    cal := { s.cal with
      cfg := s.cal.cfgWait.getD s.cal.cfg, cfgWait := none,
      units := s.cal.units.map fun u => { u with
        values := u.waiting.getD u.values, hasValues := u.hasValues || u.waiting.isSome, waiting := none,
        defer := if u.due.isSome ∧ u.suspended = false then u.defer + 1 else u.defer } },
    ken := { s.ken with dirty := upd s.ken.dirty 1 fun d => d || change } }

/-! ## The kennel: slots in force (16 R346) -/

/-- Later under R346. -/
def seqLater (a b : W32) : Bool := let d := (a - b).toNat
  decide (1 ≤ d) && decide (d < 2 ^ 31)

def State.kslot (s : State) (store slot : Nat) : KSlot := at_ s.ken.slots (2 * store + slot)

/-- The slot in force of a store. -/
def State.inForceSlot (s : State) (store : Nat) : Option Nat :=
  let a := s.kslot store 0
  let b := s.kslot store 1
  if a.state = 1 ∧ b.state = 1 then some (if seqLater b.seq a.seq then 1 else 0)
  else if a.state = 1 then some 0 else if b.state = 1 then some 1 else none

/-- The content in force of a store. -/
def State.inForceContent (s : State) (store : Nat) : Content := match s.inForceSlot store with
  | some k => (s.kslot store k).content
  | none => .none

/-! ## What the stores hold (16 R345) -/

def State.storeCfg (s : State) : StoreCfg :=
  { src := s.src.live,
    axisRecs := s.axes.map fun a => (a.record, a.bankA, a.bankB, a.validA, a.validB, a.active),
    ioRecs := s.ios.map fun a => (a.record, a.ext, a.det, a.lim), heads := s.heads.map Head.record,
    clockCfg := s.ck.cfg, plCfg := (s.pl.count, s.pl.ctl, s.pl.flight),
    tickSrc := (s.tk.prio, s.tk.syncInKind, s.tk.syncOutCtl, s.tk.syncOutWidth, s.tk.syncInDelay),
    diagCfg := s.diag.cfg, trigCfg := s.show_.cfg, senseCfg := s.con.sense, constCfg := s.con.cfg, calCfg := s.cal.cfg,
    periods := (s.ken.period.getD 1 600, s.ken.period.getD 2 600), clCfg := s.cl.cfg,
    epb := s.epb.outs.map fun o => (o.record, o.pattern) }

/-- What the calibration store carries; a record that waits for its round counts (14 R313, 15 R332). -/
def State.storeCal (s : State) : StoreCal :=
  { comp := s.ck.compWait.or s.ck.comp, model := s.th.modelWait.or s.th.model, s := s.con.s, s0 := s.con.s0,
    traces := s.con.traces.map fun t => (t.eta0, t.sigma, t.weight),
    emitters := s.con.emitters.map fun e => (e.ref, e.weight, e.home), values := s.cal.units.map fun u => (u.values, u.hasValues) }

def State.storeLife (s : State) : List (Nat × Nat) := s.src.sinks.map fun k => (k.life, k.lifeRem)

def State.storeIdent (s : State) : StoreIdent :=
  { life := s.storeLife, patina := s.pat, arrays := s.pl.arrays.map fun x => (x.opTu, x.resetHist),
    ages := s.ken.writeTimes.map fun l => l.map fun t => (s.now : Int) - t }

/-- A content without the ages, which change as time passes. -/
def Content.ageless : Content → Content
  | .ident c => .ident { c with ages := [] }
  | c => c

/-- The values of a store that are live now. -/
def State.liveContent (s : State) (store : Nat) : Content := match store with
  | 0 => .config s.storeCfg
  | 1 => .calib s.storeCal
  | _ => .ident s.storeIdent

/-- A store is dirty: store 0 also while a setting differs from what is stored (16 R353), store 2 while LIFE_CHARGE does
(16 R349); an empty store stands for the values of reset. -/
def State.storeDirty (s : State) (store : Nat) : Bool :=
  s.ken.dirty.getD store false ||
  (store == 0 && match s.inForceContent 0 with
    | .config c => c != s.storeCfg
    | _ => State.reset.storeCfg != s.storeCfg) ||
  (store == 2 && match s.inForceContent 2 with
    | .ident c => c.life != s.storeLife
    | _ => s.storeLife.any fun x => x != (0, 0))

/-! ## Writing (16 R347 to R351) -/

def State.setKslot (s : State) (store slot : Nat) (x : KSlot) : State :=
  { s with ken := { s.ken with slots := upd s.ken.slots (2 * store + slot) fun _ => x } }

/-- Count a write of a slot. -/
def bumpCarry (carry : List (Nat × Nat)) (store slot : Nat) : List (Nat × Nat) :=
  upd carry store fun c => if slot = 0 then (c.1 + 1, c.2) else (c.1, c.2 + 1)

/-- The instants of a slot's writes within the last 1,000 h (21 R447). -/
def bumpTimes (l : List (List Int)) (slot now : Nat) : List (List Int) :=
  upd l slot fun ts => ((now : Int) :: ts).filter fun t => decide (now - t ≤ 3600000 * tuS)

/-- The write chosen next: commanded before paced, then the lower store. -/
def kennelPick (q : List KWrite) : Option KWrite :=
  q.foldl (fun (b : Option KWrite) w => match b with
    | none => some w
    | some x => if (w.commanded && !x.commanded) || (w.commanded == x.commanded && decide (w.store < x.store)) then some w
      else b) none

/-- Begin the next write while the flash is free: the slot not in force, erased first. A paced write carries the values live at its
start, a commanded one those of its take (16 R350, 23 R476); a change accepted between leaves the store dirty. -/
def State.kennelStart (s : State) : State :=
  match s.ken.writing, kennelPick s.ken.queue with
  | none, some w =>
    let slot := match s.inForceSlot w.store with
      | some 0 => 1
      | _ => 0
    let w' := { w with
      slot := slot, began := s.now, tick := s.tk.tick, content := if w.commanded then w.content else s.liveContent w.store }
    let s := { s with ken := { s.ken with queue := s.ken.queue.erase w, writing := some w' } }
    if w.erase then (s.setKslot w.store 0 ⟨2, 0, 0, 0, 0, .none, []⟩).setKslot w.store 1 ⟨2, 0, 0, 0, 0, .none, []⟩
    else
      let s := s.setKslot w.store slot ⟨2, 0, 0, 0, 0, .none, []⟩
      { s with ken := { s.ken with
        carry := bumpCarry s.ken.carry w.store slot, writeTimes := bumpTimes s.ken.writeTimes (2 * w.store + slot) s.now,
        dirty := upd s.ken.dirty w.store fun d => d && decide (w'.content.ageless ≠ (s.liveContent w.store).ageless),
        lastWrite := upd s.ken.lastWrite w.store fun _ => some s.now } }
  | _, _ => s

/-- Queue a write of the values live now. -/
def State.kennelQueue (s : State) (store : Nat) (commanded erase : Bool) (content : Content) : State :=
  { s with ken := { s.ken with queue := s.ken.queue ++ [⟨store, 0, commanded, erase, false, 0, 0, content⟩] } }

/-- The next sequence number. -/
def nextSeq (v : W32) : W32 := if v = 0xFFFFFFFF then 1 else v + 1

/-- KENNEL_WEAR of a slot whose count has just reached a mark. -/
def State.wearEvents (s : State) (store slot before count : Nat) : State :=
  let hit := fun m => decide (before < m) && decide (m ≤ count)
  let s := s.raiseIf (hit 9000) 0x0C04 store slot
  s.raiseIf (hit 10000) 0x0C04 store (slot + 2)

/-- The opcodes that wait for a kennel write: the key holds the stores outstanding, and bit 3 that one has failed. -/
def kennelOp (op : Nat) : Bool :=
  op == 0x0C04 || op == 0x0C08 || op == 0x0607 || op == 0x0608 || op == 0x0A06 || op == 0x0B03

/-- What a completed write brings about: a record in force from the next round, LIFE_CHARGE cleared (08 R193, 17 R375). -/
def State.recordWritten (s : State) (c : Parked) : State :=
  if c.opcode = 0x0A06 then { s with ck := { s.ck with compWait := some c.payload } }
  else if c.opcode = 0x0B03 then { s with th := { s.th with modelWait := some c.payload } }
  else if c.opcode = 0x0608 then { s with src := { s.src with
    sinks := s.src.sinks.mapIdx fun i (k : Sink) => if chanMask c.payload 0 i then { k with life := 0, lifeRem := 0 } else k } }
  else s

/-- A write or erase of a store ends: the command that has waited for it longest is answered, unless it waits for more. -/
def State.kennelAnswer (s : State) (store : Nat) (erase fail : Bool) : State :=
  let mine := s.mbx.parked.filter fun c => kennelOp c.opcode && (c.opcode == 0x0C08) == erase && bit (c.key % 8) store
  (mine.take 1).foldl (fun s c =>
    let key := c.key - 2 ^ store
    let key := if fail ∧ key < 8 then key + 8 else key
    if key % 8 ≠ 0 then
      { s with mbx := { s.mbx with parked := s.mbx.parked.map fun x => if x = c then { x with key := key } else x } }
    else if key = 0 then (s.recordWritten c).finish c cOk []
    else s.finish c cFault []) s

/-- The read-back of the write under way, or the end of an erase. -/
def State.kennelDone (s : State) (good : Bool) : State :=
  match s.ken.writing with
  | none => s
  | some w =>
    let count := fun (s : State) => let c := s.ken.carry.getD w.store (0, 0)
      if w.slot = 0 then c.1 else c.2
    let free := fun (s : State) => { s with ken := { s.ken with writing := none } }
    if w.erase then
      let s := (s.setKslot w.store 0 ⟨0, 0, 0, 0, 0, .none, []⟩).setKslot w.store 1 ⟨0, 0, 0, 0, 0, .none, []⟩
      ((free s).kennelAnswer w.store true (!good)).kennelStart
    else if good then
      let seq := match s.inForceSlot w.store with
        | some k => nextSeq (s.kslot w.store k).seq
        | none => 1
      let c := s.ken.carry.getD w.store (0, 0)
      let s := free (s.setKslot w.store w.slot ⟨1, seq, c.1, c.2, w.tick, w.content, []⟩)
      let s := s.raise 0x0C02 w.store (w.slot + 2 * b2n w.commanded + 65536 * (seq.toNat % 65536))
      let s := s.wearEvents w.store w.slot (count s - (if w.retried then 2 else 1)) (count s)
      (if w.commanded then s.kennelAnswer w.store false false else s).kennelStart
    else if w.retried then
      let s := free s
      let s := { s with ken := { s.ken with dirty := upd s.ken.dirty w.store fun _ => true } }
      let s := s.raise 0x0C03 w.store w.slot
      let s := s.wearEvents w.store w.slot (count s - 2) (count s)
      (if w.commanded then s.kennelAnswer w.store false true else s).kennelStart
    else { s with ken := { s.ken with
        writing := some { w with retried := true }, carry := bumpCarry s.ken.carry w.store w.slot,
        writeTimes := bumpTimes s.ken.writeTimes (2 * w.store + w.slot) s.now } }

/-- WRITE_PERIOD of a store in tu. -/
def State.writePeriod (s : State) (store : Nat) : Nat := s.ken.period.getD store 600 * tuS

/-- A paced write falls due (16 R349). -/
def State.kennelPaced (s : State) (store : Nat) : State :=
  if (store = 1 ∨ store = 2) ∧ s.storeDirty store ∧ s.mbx.fwState = 1 ∧
      (s.ken.queue.any fun w => w.store == store) = false then
    let s := s.forward ((s.ken.lastWrite.getD store none).getD 0 + s.writePeriod store)
    (s.kennelQueue store false false (s.liveContent store)).kennelStart
  else s

/-- A trip or loss of power cuts the write under way; writes queued end (15 R330, 16 R352). -/
def State.kennelCut (s : State) : State :=
  let lost : Option (Nat × Nat) := s.ken.writing.bind fun w => if w.erase then none else some (w.store, w.slot)
  { s with
    ken := { s.ken with
      writing := none, queue := [],
      dirty := match lost with
        | some x => upd s.ken.dirty x.1 fun _ => true
        | none => s.ken.dirty },
    th := { s.th with lostWrite := match lost with
      | some x => some x
      | none => s.th.lostWrite } }

/-- Commanded writes that are queued end with their commands (23 R473). -/
def State.kennelDropQueue (s : State) : State :=
  { s with ken := { s.ken with queue := s.ken.queue.filter fun w => !w.commanded } }

/-! ## Commands (16 R353) -/

/-- THERMAL_MODEL_READ: the record that the calibration store holds, if any (15 R332). -/
def cmdThermalModelRead : Cmd where
  op := 0x0B02
  len := lenIs 0
  run := fun _ _ s => match s.inForceContent 1 with
    | .calib c => match c.model with
      | some r => okWith r s
      | none => refuse cState s
    | _ => refuse cState s

def calCfgOk (p : Rec) : Bool := [2, 4, 6].all fun o => inRange 10 3600 (u16 p o)

/-- CAL_CONFIG. -/
def cmdCalConfig : Cmd where
  op := 0x0C00
  len := lenIs 8
  run := fun _ p s => if calCfgOk p then ok { s with cal := { s.cal with cfgWait := some p } } else refuse cBadParam s

/-- The suspended units of a task. -/
def State.suspMask (s : State) (task : Nat) : Nat :=
  maskOf ((List.range (calUnits task)).map fun n => (at_ s.cal.units (calIndex task n)).suspended)

/-- CAL_STATUS. -/
def cmdCalStatus : Cmd where
  op := 0x0C01
  len := lenIs 0
  run := fun _ _ s =>
    let c := s.cal
    let stale := maskOf ((List.range 16).map fun n =>
      decide ((at_ c.units (32 + n)).lastRun + 2 * calPeriod c.cfg 3 ≤ s.now))
    okWith (le 1 (byteAt c.cfg 0 % 16) ++ le 1 (s.suspMask 0) ++ le 2 (s.suspMask 3) ++ le 4 (s.suspMask 1) ++ le 2 stale ++
      le 2 (sat 16 ((c.units.map CalUnit.defer).foldl max 0)) ++ le 4 c.accepted.toNat ++ le 4 c.rejected.toNat ++
      le 4 c.slices.toNat ++ le 4 c.passes.toNat) s

/-- CAL_CONTROL (16 R341). -/
def cmdCalControl : Cmd where
  op := 0x0C02
  len := lenIs 4
  run := fun _ p s =>
    let task := byteAt p 0
    let unit := byteAt p 1
    if calUnits task ≤ unit ∨ 1 < byteAt p 2 then refuse cBadParam s else
    let j := calIndex task unit
    let u := at_ s.cal.units j
    if byteAt p 2 = 0 then ok (s.calUnit j fun u => { u with due := some (u.due.getD s.now) })
    else if u.suspended then ok (s.calUnit j fun u => { u with suspended := false, rejects := 0 })
    else refuse cState s

/-- An accepted value of a unit, or its nominal value. -/
def CalUnit.value (u : CalUnit) (i : Nat) : Int := u.values.getD i (if u.task ≠ 0 ∧ i % 2 = 0 then 0 else 32768)

/-- CAL_VALUES_READ. -/
def cmdCalValuesRead : Cmd where
  op := 0x0C03
  len := lenIs 4
  run := fun _ p s =>
    let task := byteAt p 0
    let first := byteAt p 1
    let n := byteAt p 2
    let total := if task = 1 then 192 else calUnits task
    if spanOk total 14 first n then
      okWith ((List.range n).map fun i =>
        let k := first + i
        match task with
        | 0 => ((List.range 4).map fun r => leI 4 ((at_ s.cal.units k).value r)).flatten
        | 1 =>
          let u := at_ s.cal.units (8 + k / 8)
          leI 2 (u.value (2 * (k % 8))) ++ leI 2 (u.value (2 * (k % 8) + 1))
        | _ =>
          let u := at_ s.cal.units (32 + k)
          leI 4 (u.value 0) ++ leI 2 (u.value 1) ++ leI 4 (u.value 2) ++ leI 2 (u.value 3) ++ zeros 4).flatten s
    else refuse cBadParam s

/-- The ms until every named store may be written on command again: none while no write of one began less than 10 s ago
(16 R350). -/
def State.kennelWait (s : State) (mask : Nat) : Option Nat :=
  let left := ([0, 1, 2].filter fun k => bit mask k).filterMap fun k => (s.ken.lastWrite.getD k none).bind fun t =>
    if s.now < t + 10 * tuS then some (ceilDiv (t + 10 * tuS - s.now) tuMs) else none
  if left.isEmpty then none else some (left.foldl max 0)

/-- Ask for commanded writes of the named stores, or BUSY with the ms remaining. -/
def State.kennelCommand (s : State) (mask : Nat) (content : State → Nat → Content) : Ans × State :=
  match s.kennelWait mask with
  | some ms => (.reply cBusy (le 4 ms), s)
  | none =>
    let s := ([0, 1, 2].filter fun k => bit mask k).foldl (fun s k => s.kennelQueue k true false (content s k)) s
    (.park mask, s.kennelStart)

/-- KENNEL_SAVE; bits [7:3] of STORE_MASK are not looked at (00 R6). -/
def cmdKennelSave : Cmd where
  op := 0x0C04
  len := lenIs 4
  parks := fun _ => true
  run := fun _ p s =>
    if byteAt p 0 % 8 = 0 then ok s else s.kennelCommand (byteAt p 0 % 8) State.liveContent

/-- KENNEL_CONFIG. -/
def cmdKennelConfig : Cmd where
  op := 0x0C05
  len := lenIs 8
  run := fun _ p s =>
    if inRange 600 86400 (u32 p 0) && inRange 600 86400 (u32 p 4) then
      ok { s with ken := { s.ken with period := [0, u32 p 0, u32 p 4] } }
    else refuse cBadParam s

/-- KENNEL_STATUS. The seconds of a store never written since power-on reset are a free value. -/
def cmdKennelStatus : Cmd where
  op := 0x0C06
  len := lenIs 0
  run := fun _ _ s =>
    let (k, s) := s.takeFree
    okWith (([0, 1, 2].map fun st =>
      let f := s.inForceSlot st
      let c := s.ken.carry.getD st (0, 0)
      le 1 (s.kslot st 0).state ++ le 1 (s.kslot st 1).state ++ le 1 (f.getD 0xFF) ++ le 1 (b2n (s.storeDirty st)) ++
        le 4 (match f with
          | some j => (s.kslot st j).seq.toNat
          | none => 0) ++ le 4 c.1 ++ le 4 c.2 ++
        le 4 (match s.ken.lastWrite.getD st none with
          | some t => sat 32 ((s.now - t) / tuS)
          | none => Config.free k) ++ zeros 4).flatten) s

/-! ## The bytes of a slot (16 R344, R345) -/

/-- The sections of a store (16 R345, 18 R405, 20 R433, 21 R446). -/
def sectionIds (store : Nat) : List Nat := match store with
  | 0 => [1, 2, 3, 4, 5, 6, 7]
  | 1 => [0x0101, 0x0102, 0x0103, 0x0104]
  | _ => [0x0201, 0x0202, 0x0203, 0x0204, 0x0205]

/-- Bytes of a section whose content 16 R345 names without a layout: free. -/
def KSlot.freeData (x : KSlot) (id : Nat) : Rec :=
  let n := x.writesA + x.writesB
  (List.range (Config.sectionLength id n % 32768)).map (Config.sectionByte id n)

/-- The records of the tick sources and of the plane link as their commands carry them (02 R50, 07 R169). -/
def StoreCfg.tickRec (c : StoreCfg) : Rec :=
  c.tickSrc.1 ++ [c.tickSrc.2.1, c.tickSrc.2.2.1] ++ le 2 c.tickSrc.2.2.2.1 ++ le 4 c.tickSrc.2.2.2.2
def StoreCfg.plRec (c : StoreCfg) : Rec := le 1 c.plCfg.1 ++ [c.plCfg.2.1] ++ zeros 2 ++ (c.plCfg.2.2.map (le 1)).flatten

/-- The data of a section: its records one after another, kind by kind as 16 R345 names them, each kind in the order of its units
(DEDUCED, assumption 132). -/
def KSlot.sectionData (x : KSlot) (id : Nat) : Rec :=
  match id, x.content with
  | 0x0001, .config c => c.src.banks.flatten ++ c.src.chans.flatten ++ (c.src.levels.map fun l => (l.map (le 2)).flatten).flatten
  | 0x0003, .config c =>
    (c.ioRecs.map fun r => r.1).flatten ++ (c.ioRecs.map fun r => r.2.1).flatten ++ (c.ioRecs.map fun r => r.2.2.1).flatten ++
      (c.ioRecs.map fun r => r.2.2.2).flatten
  | 0x0004, .config c => c.heads.flatten
  | 0x0005, .config c =>
    c.clockCfg ++ c.plRec ++ c.tickRec ++ c.diagCfg ++ c.trigCfg ++ c.senseCfg ++ c.constCfg ++ c.calCfg ++
      le 4 c.periods.1 ++ le 4 c.periods.2
  | 0x0006, .config c => c.clCfg
  | 0x0007, .config c => (c.epb.map fun r => r.1).flatten ++ (c.epb.map fun r => r.2).flatten
  | 0x0101, .calib c => c.comp.getD []
  | 0x0102, .calib c => c.model.getD []
  | 0x0201, .ident c => (c.life.map fun l => le 8 l.1).flatten
  | _, _ => x.freeData id

/-- A section: head, data, padding to a multiple of 8 bytes. -/
def sectionBytes (id : Nat) (version : Byte) (data : Rec) : Rec :=
  le 2 id ++ [version, 0] ++ le 4 data.length ++ data ++ zeros ((8 - data.length % 8) % 8)

/-- The payload of a VALID slot, at most 65,504 bytes; a record that the store does not hold has no section. -/
def KSlot.payload (x : KSlot) (store : Nat) : Rec :=
  let known := (sectionIds store).filter fun id => !((id == 0x0101 || id == 0x0102) && (x.sectionData id).isEmpty)
  ((known.map fun id => sectionBytes id (Config.sectionVersion id) (x.sectionData id)) ++
    x.extra.map fun k => sectionBytes k.1 k.2.1 k.2.2).flatten.take 65504

/-- Bytes 0x00 to 0x1B of a VALID slot. -/
def KSlot.header (x : KSlot) (store : Nat) : Rec :=
  [BitVec.ofNat 8 store, 1, 0, 0] ++ le 4 x.seq.toNat ++ le 4 (x.payload store).length ++ le 4 x.writesA ++ le 4 x.writesB ++
    le 4 x.tick.toNat ++ zeros 4

/-- A VALID slot as programmed: header, CHECK, payload. -/
def KSlot.bytes (x : KSlot) (store : Nat) : Rec :=
  x.header store ++ le 4 (crc32 (x.header store ++ x.payload store)).toNat ++ x.payload store

/-- A byte of a slot as stored: erased flash, also behind the payload, reads 0xFF; a BAD slot holds what a write cut off or a
failing flash has left, a free value. -/
def State.kennelByteAt (s : State) (store slot o : Nat) : Byte :=
  let x := s.kslot store slot
  if x.state = 0 then 0xFF
  else if x.state = 1 then (x.bytes store).getD o 0xFF
  else Config.kennelByte (2 * store + slot) (x.writesA + x.writesB) o

/-- KENNEL_READ. -/
def cmdKennelRead : Cmd where
  op := 0x0C07
  len := lenIs 10
  run := fun _ p s =>
    let o := u32 p 4
    let n := u16 p 8
    if byteAt p 0 ≤ 2 ∧ byteAt p 1 ≤ 1 ∧ inRange 1 240 n ∧ o + n ≤ 65536 then
      okWith ((List.range n).map fun i => s.kennelByteAt (byteAt p 0) (byteAt p 1) (o + i)) s
    else refuse cBadParam s

/-- KENNEL_ERASE. -/
def cmdKennelErase : Cmd where
  op := 0x0C08
  len := lenIs 4
  parks := fun _ => true
  run := fun h p s =>
    if s.unlocked h = false then refuse cLocked s
    else if byteAt p 0 % 8 = 0 then ok s
    else
      let s := ([0, 1, 2].filter fun k => bit (byteAt p 0) k).foldl (fun s k => s.kennelQueue k true true .none) s
      (.park (byteAt p 0 % 8), s.kennelStart)

/-- CHARGE_SAVE (08 R196): any write of the store begun less than 10 s before makes it BUSY. -/
def cmdChargeSave : Cmd where
  op := 0x0607
  len := lenIs 0
  parks := fun _ => true
  run := fun _ _ s => s.kennelCommand 4 State.liveContent

/-- LIFE_CHARGE with the masked channels at 0, as CHARGE_CLEAR writes it. -/
def State.clearedLife (s : State) (p : Rec) : Content :=
  .ident { s.storeIdent with life := s.storeLife.mapIdx fun c x => if chanMask p 0 c then (0, 0) else x }

/-- CHARGE_CLEAR writes the store with the LIFE_CHARGE of the masked channels at 0, and clears it as the write succeeds (08 R193;
17 R375: without effect where it fails; DEDUCED, assumption 90). -/
def cmdChargeClear : Cmd where
  op := 0x0608
  len := lenIs 24
  parks := fun _ => true
  run := fun h p s => if s.unlocked h = false then refuse cLocked s else s.kennelCommand 4 fun s _ => s.clearedLife p

/-- HK_COMP_WRITE (14 R313, R315). -/
def cmdHkCompWrite : Cmd where
  op := 0x0A06
  len := lenIs 80
  parks := fun _ => true
  run := fun h p s =>
    if s.unlocked h = false then refuse cLocked s
    else if compOk p = false then refuse cBadParam s
    else s.kennelCommand 2 fun s _ => .calib { s.storeCal with comp := some p }

/-- The CHECK of a thermal model record (15 R332). -/
def modelOk (r : Rec) : Bool := u32 r 0x24 == (crc32 (r.take 0x24)).toNat

/-- THERMAL_MODEL_WRITE (15 R332). -/
def cmdThermalModelWrite : Cmd where
  op := 0x0B03
  len := lenIs 40
  parks := fun _ => true
  run := fun h p s =>
    if s.unlocked h = false then refuse cLocked s
    else if modelOk p = false then refuse cBadParam s
    else s.kennelCommand 2 fun s _ => .calib { s.storeCal with model := some p }

/-- CAL_CONFIG (16 R353). -/
def execCalConfig (h : Hdr) (p : Rec) (s : State) : Out := done (s.command cmdCalConfig h p)
/-- CAL_STATUS (16 R353). -/
def execCalStatus (h : Hdr) (p : Rec) (s : State) : Out := done (s.command cmdCalStatus h p)
/-- CAL_CONTROL (16 R341). -/
def execCalControl (h : Hdr) (p : Rec) (s : State) : Out := done (s.command cmdCalControl h p)
/-- CAL_VALUES_READ (16 R353). -/
def execCalValuesRead (h : Hdr) (p : Rec) (s : State) : Out := done (s.command cmdCalValuesRead h p)
/-- KENNEL_SAVE (16 R350). -/
def execKennelSave (h : Hdr) (p : Rec) (s : State) : Out := done (s.command cmdKennelSave h p)
/-- KENNEL_CONFIG (16 R349). -/
def execKennelConfig (h : Hdr) (p : Rec) (s : State) : Out := done (s.command cmdKennelConfig h p)
/-- KENNEL_STATUS (16 R353). -/
def execKennelStatus (h : Hdr) (p : Rec) (s : State) : Out := done (s.command cmdKennelStatus h p)
/-- KENNEL_READ (16 R353). -/
def execKennelRead (h : Hdr) (p : Rec) (s : State) : Out := done (s.command cmdKennelRead h p)
/-- KENNEL_ERASE (16 R353). -/
def execKennelErase (h : Hdr) (p : Rec) (s : State) : Out := done (s.command cmdKennelErase h p)
/-- CHARGE_SAVE (08 R193). -/
def execChargeSave (h : Hdr) (p : Rec) (s : State) : Out := done (s.command cmdChargeSave h p)
/-- CHARGE_CLEAR (08 R193). -/
def execChargeClear (h : Hdr) (p : Rec) (s : State) : Out := done (s.command cmdChargeClear h p)
/-- HK_COMP_WRITE (14 R313). -/
def execHkCompWrite (h : Hdr) (p : Rec) (s : State) : Out := done (s.command cmdHkCompWrite h p)
/-- THERMAL_MODEL_WRITE (15 R332). -/
def execThermalModelWrite (h : Hdr) (p : Rec) (s : State) : Out := done (s.command cmdThermalModelWrite h p)
/-- CAL_UNIT_DUE (16 R334). -/
def execCalUnitDue (task unit : Nat) (s : State) : Out := done (s.calDue task unit)
/-- KENNEL_PACED_WRITE (16 R349). -/
def execKennelPacedWrite (store : Nat) (s : State) : Out := done (s.kennelPaced store)
/-- KENNEL_WRITE_DONE (16 R347). -/
def execKennelWriteDone (good : Bool) (s : State) : Out := done (s.kennelDone good)
/-- FEEDBACK_CONVERSION (13 R288, 16 R337). -/
def execFeedbackConversion (a : Nat) (c : Conv) (s : State) : Out :=
  done (if 16 ≤ a then s else match c with
    | .position code => s.positionConv a code
    | .sum code => s.sumConv a code
    | .refPosition n code => s.refConv a 0 n code
    | .refSum n code => s.refConv a 1 n code)
/-- THERMAL_MODEL_READ (15 R332). -/
def execThermalModelRead (h : Hdr) (p : Rec) (s : State) : Out := done (s.command cmdThermalModelRead h p)

end Sys2Proof.Machine
end

