-- ==== Sys2Proof/Machine/Cumaslink.lean ====
section
/-! DEFINITION. The Cumaslink show link (chapter 18): frames and symbols received, tick and time, enumeration, addresses, link
states and the commands. -/
namespace Sys2Proof.Machine

/-! ## The end of a service session (21 R445, R455) -/

/-- A session ends: the JTAG port closes and a debugger is cut off. -/
def State.endSession (s : State) (reason : Nat) : State := match s.sec.session with
  | none => s
  | some x =>
    let s := { s with sec := { s.sec with session := none, halted := false } }
    s.raise 0x1001 (b2n x.cl) (2 * x.scope + 8 * reason + 256 * (x.no.toNat % 2 ^ 24))

/-- A session of one mailbox ends. -/
def State.endSessionOf (s : State) (cl : Bool) (reason : Nat) : State := match s.sec.session with
  | some x => if x.cl = cl then s.endSession reason else s
  | none => s

/-! ## CL_CONFIG (18 R408) -/

def clRootBit (r : Rec) : Bool := bit (byteAt r 0) 0
def clPersist (r : Rec) : Bool := bit (byteAt r 0) 1
def clPAddr (r : Rec) : W16 := BitVec.ofNat 16 (u16 r 2)
def clDepthSet (r : Rec) : Nat := u16 r 4
/-- A port enabled in CL_CONFIG; CL_UP of the root is idle (18 R384, R408). -/
def clEnabled (r : Rec) (p : Nat) : Bool := match p with
  | 0 => !clRootBit r
  | 1 => bit (byteAt r 0) 2
  | _ => bit (byteAt r 0) 3

/-! ## Frames (18 R390 to R394) -/

/-- A frame of a class has been received on a port that is up: counted, its buffer named. -/
def State.clRecv (s : State) (p : Nat) (rsp : Bool) : Hold × State :=
  let n := (at_ s.cl.ports p).rx.toNat
  (⟨p, rsp, n⟩, s.port p fun q => { q with rx := q.rx + 1 })

/-- The buffer of a frame that was taken at once, or discarded, is free. -/
def State.clFree (s : State) (h : Hold) : State := s.port h.port fun q => q.free s.now h.rsp

/-- A frame sent on to one port, or discarded. -/
def State.clForward (s : State) (p queue : Nat) (o : ClOut) (h : Hold) : State :=
  if s.portUp p then s.clSend p ⟨queue, o, some h⟩ else s.clDiscard.release (some h)

/-- A frame sent down every child port that is up; its buffer is free once it has left them all. -/
def State.clFlood (s : State) (queue : Nat) (o : ClOut) (h : Option Hold) : State :=
  let ports := s.childPorts
  let s := ports.foldl (fun s p => s.port p fun q => { q with queue := q.queue ++ [⟨queue, o, h⟩] }) s
  if ports.isEmpty then s.release h else ports.foldl State.pump s

/-- The order in which commands that became ready together enter the mailbox (17 R378): cue entries by player (19 R423). -/
def waitRank (w : ClWaiting) : Nat := match w.hold with
  | some h => h.port
  | none => match w.origin with
    | .cue k _ => 4 + k
    | _ => 3

/-- Put a waiting command in its place. -/
def insertWait (w : ClWaiting) : List ClWaiting → List ClWaiting
  | [] => [w]
  | x :: xs =>
    if w.seen < x.seen ∨ (w.seen = x.seen ∧ waitRank w < waitRank x) then w :: x :: xs else x :: insertWait w xs

/-- Waiting commands enter the Cumaslink mailbox while a place is free; the buffer of a frame is then free. -/
def State.clRefill : Nat → State → State
  | 0, s => s
  | n + 1, s => match s.mbx.clWait with
    | [] => s
    | w :: ws =>
      if 16 ≤ s.mbx.clBox.length then s else
      let s := { s with mbx := { s.mbx with clWait := ws, clBox := s.mbx.clBox ++ [{ w with hold := none, seen := s.now }] } }
      (s.release w.hold).clRefill n

/-- A command for this node's Cumaslink mailbox has become ready at instant t. -/
def State.clEnterAt (s : State) (origin : Origin) (entry : Rec) (h : Option Hold) (t : Nat) : State :=
  ({ s with mbx := { s.mbx with clWait := insertWait ⟨origin, entry, h, t⟩ s.mbx.clWait } }).clRefill 1

/-- A command for this node's Cumaslink mailbox becomes ready. -/
def State.clEnter (s : State) (origin : Origin) (entry : Rec) (h : Option Hold) : State := s.clEnterAt origin entry h s.now

/-- MBX_CMD (17 R377, 18 R392). -/
def State.rxMbxCmd (s : State) (p : Nat) (hd : ClHdr) (entry : Rec) : State :=
  if s.portUp p = false then s else
  let (h, s) := s.clRecv p false
  match s.route hd.dest (some p) with
  | .here => s.clEnter (.node hd.src) entry (some h)
  | .port q => s.clForward q 2 (.frame 0x01 hd 0 entry) h
  | .nowhere => s.clDiscard.clFree h

/-- A remote reply is answered to whoever forwarded the command, with REMOTE set, or raises REMOTE_LATE. -/
def State.remoteReply (s : State) (src : W16) (entry : Rec) : State :=
  let op := u16 entry 0
  let tag := BitVec.ofNat 16 (u16 entry 2)
  match s.mbx.remotes.find? fun r => r.opcode == op && r.hdr.tag == tag && r.hdr.target == src with
  | none =>
    let s := { s with mbx := { s.mbx with ctr := { s.mbx.ctr with remoteLate := s.mbx.ctr.remoteLate + 1 } } }
    s.raise 0x0102 src.toNat (tag.toNat + 65536 * op)
  | some r =>
    let s := { s with mbx := { s.mbx with remotes := s.mbx.remotes.erase r } }
    let entry := upd entry 0x0A fun b => b ||| 2
    if r.mute then s else
    match r.hdr.origin with
    | .pcie => s.ringReply entry
    | .node n => s.clSendTo n 1 0x02 entry
    | .bcast => { s with cl := { s.cl with bcastExecuted := s.cl.bcastExecuted + 1 } }
    | .cue player e => s.cueResult player e (byteAt entry 4)

/-- MBX_REPLY (17 R377). -/
def State.rxMbxReply (s : State) (p : Nat) (hd : ClHdr) (entry : Rec) : State :=
  if s.portUp p = false then s else
  let (h, s) := s.clRecv p true
  match s.route hd.dest (some p) with
  | .here => (s.remoteReply hd.src entry).clFree h
  | .port q => s.clForward q 0 (.frame 0x02 hd 0 entry) h
  | .nowhere => s.clDiscard.clFree h

/-- BCAST (18 R406): up to the root for the whole tree, then down, each node taking its copy as the flood passes. -/
def State.rxBcast (s : State) (p : Nat) (hd : ClHdr) (subtree : Bool) (entry : Rec) : State :=
  if s.portUp p = false then s else
  let (h, s) := s.clRecv p false
  let o := ClOut.frame 0x03 hd (b2n subtree) entry
  if p = 0 ∨ (s.isRoot ∧ subtree = false) then
    let s := { s with mbx := { s.mbx with clWait := insertWait ⟨.bcast, entry, some h, s.now⟩ s.mbx.clWait } }
    (s.clFlood 2 o (some h)).clRefill 1
  else if subtree then s.clDiscard.clFree h
  else s.clForward 0 2 o h

/-- CL_BROADCAST replies are due once no port holds the frame any longer. -/
def State.bcastDone (s : State) : State :=
  let out := fun (c : Parked) => s.cl.ports.all fun q => q.queue.all fun f => match f.out with
    | .frame 0x03 _ _ e => !(f.queue == 3 && e == c.payload.drop 16)
    | _ => true
  (s.mbx.parked.filter fun c => c.opcode == 0x0D03 && out c).foldl (fun s c => s.finish c cOk []) s

/-! ## Addresses (18 R402 to R405) -/

/-- The node's address changes (ADDR_ASSIGNED). -/
def State.setAddr (s : State) (a : Option W16) (persistent lost : Bool) : State :=
  let changed := s.cl.addr != a || (a.isSome && s.cl.addrPersistent != persistent)
  let s := { s with cl := { s.cl with addr := a, addrPersistent := persistent && a.isSome } }
  s.raiseIf changed 0x0D04 (a.getD 0).toNat (maskOf [a.isSome, persistent && a.isSome, lost])

/-- A local frame to the parent. -/
def State.clUpward (s : State) (queue type : Nat) (payload : Rec) : State :=
  s.clSend 0 ⟨queue, .frame type (s.ownHdr 0) 0 payload, none⟩

def announceBytes (a : W16) (held persistent : Bool) (serial : W64) : Rec :=
  le 2 a.toNat ++ le 1 (maskOf [held, persistent]) ++ zeros 1 ++ le 8 serial.toNat

def conflictBytes (index : W32) (serial : W64) : Rec := le 4 index.toNat ++ zeros 4 ++ le 8 serial.toNat

/-- The node named by a CONFLICT drops its address. -/
def State.conflictHere (s : State) (index : W32) (serial : W64) : State :=
  if (index ≠ 0xFFFFFFFF ∧ index = s.cl.index) ∨ (index = 0xFFFFFFFF ∧ serial = Config.serial) then
    ({ s with cl := { s.cl with denied := true } }).setAddr none false true
  else s

/-- The addresses held, as the root knows them; an enumeration counts them. -/
def State.holding (s : State) (l : List (W16 × W64)) : State :=
  { s with cl := { s.cl with holders := l, addressed := if s.cl.enumRunning then l.length else s.cl.addressed } }

/-- The root judges an ANNOUNCE (18 R403, R404), which replaces what the node of this SERIAL held before. -/
def State.rootAnnounce (s : State) (a : W16) (held : Bool) (serial : W64) : State :=
  let others := s.cl.holders.filter fun x => x.2 != serial
  if held then
    if others.any fun x => x.1 == a then
      let s := ((s.holding others).clFlood 3 (.frame 0x15 (s.ownHdr 0) 0 (conflictBytes 0xFFFFFFFF serial)) none).conflictHere
        0xFFFFFFFF serial
      s.raise 0x0D03 a.toNat 0xFFFFFFFF
    else s.holding (others ++ [(a, serial)])
  else
    (s.holding others).raise 0x0D05 0 (serial.toNat % 2 ^ 32)

/-- This node announces its address, or that it holds none. -/
def State.announce (s : State) (held persistent : Bool) (a : W16) : State :=
  if s.isRoot then s.rootAnnounce a held Config.serial
  else if s.portUp 0 then s.clUpward 1 0x14 (announceBytes a held persistent Config.serial) else s

/-- ANNOUNCE on a child port: the route entry, then upward or judged. -/
def State.rxAnnounce (s : State) (p : Nat) (src : Option W16) (a : W16) (held persistent : Bool) (serial : W64) : State :=
  if s.portUp p = false ∨ p = 0 then s else
  let (h, s) := s.clRecv p true
  let s := { s with cl := { s.cl with routes := if held then spSet 0 s.cl.routes a.toNat p else s.cl.routes } }
  if s.isRoot then (s.rootAnnounce a held serial).clFree h
  else s.clForward 0 0 (.frame 0x14 (srcHdr src 0) 0 (announceBytes a held persistent serial)) h

/-- CONFLICT from the parent. -/
def State.rxConflict (s : State) (p : Nat) (src : Option W16) (index : W32) (serial : W64) : State :=
  if s.portUp p = false ∨ p ≠ 0 then s else
  let (h, s) := s.clRecv p false
  (s.conflictHere index serial).clFlood 2 (.frame 0x15 (srcHdr src 0) 0 (conflictBytes index serial)) (some h)

/-! ## Enumeration (18 R402) -/

def tokenBytes (t : ClToken) : Rec :=
  le 1 (b2n t.assign) ++ zeros 3 ++ le 4 t.index.toNat ++ le 4 t.next.toNat ++ le 2 t.depthMax.toNat ++ zeros 2

/-- The addresses a block of PERSIST_SET marks. -/
def blockAddrs (block : Nat) (b : BitVec 2048) : List W16 :=
  ((List.range 2048).filter fun j => b.getLsbD j).map fun j => BitVec.ofNat 16 (2048 * block + j)

def blockBits (kept : List W16) (block : Nat) : Rec :=
  (List.range 256).map fun i => BitVec.ofNat 8 (maskOf ((List.range 8).map fun k =>
    kept.contains (BitVec.ofNat 16 (2048 * block + 8 * i + k))))

/-- The first unmarked address at or after NEXT; `n` bounds the search. -/
def nextFree (kept : List W16) : Nat → Nat → Nat
  | 0, v => v
  | n + 1, v => if v ≤ 0xFFFF ∧ kept.contains (BitVec.ofNat 16 v) then nextFree kept n (v + 1) else v

/-- The census at a node. -/
def State.census (s : State) (t : ClToken) : ClToken × State :=
  let c := s.cl.cfg
  let s := { s with cl := { s.cl with index := t.index, denied := false, enumHere := true, enumAt := s.now } }
  let s := if s.cl.addr.isSome ∧ s.cl.addrPersistent = false then s.setAddr none false false else s
  let s := if s.isRoot then { s with cl := { s.cl with
        reports := s.cl.reports ++ [⟨t.index, clPAddr c, clPersist c, Config.serial⟩] } }
    else s.clUpward 1 0x12 (le 4 t.index.toNat ++ le 2 (if clPersist c then (clPAddr c).toNat else 0) ++ le 1 (b2n (clPersist c)) ++
      zeros 1 ++ le 8 Config.serial.toNat)
  ({ t with index := t.index + 1 }, s)

/-- The assignment at a node (step 5). -/
def State.assign (s : State) (t : ClToken) : ClToken × State :=
  let c := s.cl.cfg
  let s := { s with cl := { s.cl with enumHere := false } }
  let t := if s.cl.depth = 0xFFFF then t else { t with depthMax := if t.depthMax.toNat < s.cl.depth.toNat then s.cl.depth else t.depthMax }
  if clPersist c ∧ s.cl.denied = false then
    (t, (s.setAddr (some (clPAddr c)) true false).announce true true (clPAddr c))
  else
    let v := nextFree s.cl.kept s.cl.kept.length t.next.toNat
    if v ≤ 0xFFFF then
      let a := BitVec.ofNat 16 v
      ({ t with next := BitVec.ofNat 32 (v + 1) }, (s.setAddr (some a) false false).announce true false a)
    else ({ t with next := 0x10000 }, (s.setAddr none false false).announce false false 0)

/-- Conflicts among persistent addresses: the reports that lose to one with a lower index. -/
def losers (l : List ClReport) : List ClReport :=
  l.filter fun r => r.pset && l.any fun x => x.pset && x.paddr == r.paddr && decide (x.index.toNat < r.index.toNat)

/-- Steps 2 and 3 at the root. -/
def State.resolve (s : State) : State :=
  let lose := losers s.cl.reports
  let s := lose.foldl (fun s r =>
    let s := s.clFlood 3 (.frame 0x15 (s.ownHdr 0) 0 (conflictBytes r.index r.serial)) none
    s.raise 0x0D03 r.paddr.toNat r.index.toNat) s
  let kept := (s.cl.reports.filter fun r => r.pset && !lose.contains r).map ClReport.paddr
  let s := { s with cl := { s.cl with kept := kept } }
  (List.range 32).foldl (fun s b =>
    s.clFlood 3 (.frame 0x13 (s.ownHdr (BitVec.ofNat 16 b)) 0 (blockBits kept b)) none) s

/-- ENUM_DONE. -/
def State.enumDone (s : State) (result depthMax : Nat) : State :=
  let s := { s with cl := { s.cl with enumRunning := false, enumHere := false, tokenPort := none, enumNodes := BitVec.ofNat 32 s.cl.addressed } }
  s.raise 0x0D02 0 (result + 16 * (depthMax % 4096) + 65536 * sat 16 s.cl.addressed)

/-- The child port after `p` that is up. -/
def State.nextChild (s : State) (p : Nat) : Option Nat := s.childPorts.find? fun q => decide (p < q)

/-- The token goes into a child, or returns it to the parent; none at the root, whose phase is then over. -/
def State.tokenOn (s : State) (p : Nat) (t : ClToken) : Bool × State :=
  match s.nextChild p with
  | some q =>
    let s := { s with cl := { s.cl with tokenPort := some q } }
    (false, s.clSend q ⟨3, .frame 0x10 (s.ownHdr 0) 0 (tokenBytes t), none⟩)
  | none =>
    let s := { s with cl := { s.cl with tokenPort := none } }
    if s.isRoot then (true, s) else (false, s.clUpward 1 0x11 (tokenBytes t))

/-- A node that the census found holds no address. -/
def State.leftOut (s : State) : Bool := s.cl.reports.any fun r => !s.cl.holders.any fun x => x.2 == r.serial

/-- The root's assignment is over: a node was left without an address only where NEXT has run out (18 R402, R403). -/
def State.assignOver (s : State) (t : ClToken) : State :=
  let s := { s with cl := { s.cl with depthDue := some t.depthMax.toNat } }
  s.enumDone (if t.next = 0x10000 ∧ s.leftOut then 2 else 0) t.depthMax.toNat

/-- Step 4 at the root. -/
def State.startAssign (s : State) : State :=
  let (t, s) := s.assign ⟨true, 0, BitVec.ofNat 32 s.cl.enumFirst.toNat, 0⟩
  match s.tokenOn 0 t with
  | (true, s) => s.assignOver t
  | (false, s) => s

/-- A phase is over at the root. -/
def State.phaseOver (s : State) (t : ClToken) : State := if t.assign then s.assignOver t else s.resolve.startAssign

/-- CL_ENUMERATE: the root takes part as a node. -/
def State.enumerate (s : State) (first : W16) : State :=
  let s := { s with cl := { s.cl with
    enumRunning := true, enumAt := s.now, enumFirst := first, reports := [], holders := [], addressed := 0, kept := [] } }
  let (t, s) := s.census ⟨false, 0, 0, 0⟩
  match s.tokenOn 0 t with
  | (true, s) => s.phaseOver t
  | (false, s) => s

/-- TOKEN from the parent. -/
def State.rxToken (s : State) (p : Nat) (t : ClToken) : State :=
  if s.portUp p = false ∨ p ≠ 0 then s else
  let (h, s) := s.clRecv p false
  let s := s.clFree h
  let (t, s) := if t.assign then s.assign t else s.census t
  (s.tokenOn 0 t).2

/-- TOKEN_BACK from the child that held the token; one from another port is not looked for. -/
def State.rxTokenBack (s : State) (p : Nat) (t : ClToken) : State :=
  if s.portUp p = false ∨ p = 0 then s else
  let (h, s) := s.clRecv p true
  let s := s.clFree h
  if s.cl.tokenPort ≠ some p ∨ (s.isRoot ∧ s.cl.enumRunning = false) then s else
  match s.tokenOn p t with
  | (true, s) => s.phaseOver t
  | (false, s) => s

/-- REPORT. -/
def State.rxReport (s : State) (p : Nat) (src : Option W16) (r : ClReport) : State :=
  if s.portUp p = false ∨ p = 0 then s else
  let (h, s) := s.clRecv p true
  if s.isRoot then
    ({ s with cl := { s.cl with reports := if s.cl.enumRunning then s.cl.reports ++ [r] else s.cl.reports } }).clFree h
  else s.clForward 0 0 (.frame 0x12 (srcHdr src 0) 0
    (le 4 r.index.toNat ++ le 2 r.paddr.toNat ++ le 1 (b2n r.pset) ++ zeros 1 ++ le 8 r.serial.toNat)) h

/-- PERSIST_SET. -/
def State.rxPersist (s : State) (p : Nat) (src : Option W16) (block : Nat) (b : BitVec 2048) : State :=
  if s.portUp p = false ∨ p ≠ 0 ∨ 32 ≤ block then s else
  let (h, s) := s.clRecv p false
  let kept := s.cl.kept.filter (fun a => a.toNat / 2048 != block) ++ blockAddrs block b
  let s := { s with cl := { s.cl with kept := kept } }
  s.clFlood 2 (.frame 0x13 (srcHdr src (BitVec.ofNat 16 block)) 0 (blockBits kept block)) (some h)

/-- An enumeration runs: at the root until ENUM_DONE, at a node from its census to its step 5, or while it has passed the token on, and
no longer than ENUM_TIMEOUT (18 R402 to R404, R408; DEDUCED, assumption 94). -/
def State.enumOpen (s : State) : Bool :=
  s.cl.enumRunning ||
    ((s.cl.enumHere || s.cl.tokenPort.isSome) && decide (s.now < s.cl.enumAt + u16 s.cl.cfg 6 * tuS))

/-- ENUM_TIMEOUT passes without the token (18 R403); DEPTH_MAX is not known and is a free value. -/
def State.enumTimeout (s : State) : State :=
  if s.cl.enumRunning = false then s else
  let s := s.forward (s.cl.enumAt + u16 s.cl.cfg 6 * tuS)
  let (k, s) := s.takeFree
  s.enumDone 1 (Config.free k % 4096)

/-! ## Tick and time (18 R396 to R401) -/

/-- A forwarding deviation of at most ±2 ns in 1/64 ns; a free value. -/
def State.clDev (s : State) : Int × State :=
  let (k, s) := s.takeFree
  (clampI (-128) 128 (Config.freeInt k), s)

/-- A symbol to every child port that is up. -/
def State.toChildren (s : State) (t : Int) (o : ClOut) : State := s.childPorts.foldl (fun s p => s.symbolAt p t o) s

def State.symError (s : State) : State := { s with cl := { s.cl with symErrors := s.cl.symErrors + 1 } }

/-- A symbol on a port that is not up: one whose CRC-8 fails is counted all the same while the port trains (18 R389). -/
def State.notUp (s : State) (p : Nat) (good : Bool) : State :=
  if good = false ∧ (at_ s.cl.ports p).state = 1 then s.symError else s

/-- What follows a TICK on its way down: 96 ns, in 1/64 ns. -/
def clHop : Int := 6144

/-- TICK on CL_UP; ACC is signed, since the deviation of a root may be negative. Received at `frac` 1/160 of a tu after `now`, it is
forwarded 96 ns later (18 R397). One with a bad CRC-8 counts as the number after the last. -/
def State.rxTick (s : State) (no : W32) (hops depth : W16) (acc : W32) (good : Bool) (frac : Nat) : State :=
  if s.isRoot then s else if s.portUp 0 = false then s.notUp 0 good else
  let (dev, s) := s.clDev
  let out : W32 := BitVec.ofInt 32 (acc.toInt + s.cl.cableUp + dev)
  let s := s.toChildren (clAt s.now + frac + clHop + dev) (.tick no (hops + 1) depth out (!good))
  let s := { s with cl := { s.cl with tickNo := if good then no else s.cl.tickNo + 1 } }
  if good = false then s.symError else
  let d := hops.toNat + 1
  let corr : Int := acc.toInt + s.cl.cableUp
  let ref : Int := (clAt s.now + frac - corr + ((depth.toNat : Int) - d) * clHop).fdiv 160
  let s := { s with cl := { s.cl with depth := hops + 1, treeDepth := depth.toNat } }
  if s.cl.exchanges.length < 16 then s
  else ({ s with cl := { s.cl with tickRx := some (no, ref) } }).refAt 1 ref

/-- TIME_NS of a node: that of the tick its last boundary opened, once it has come (18 R401). -/
def State.keepTime (s : State) : State := match s.cl.timeRx with
  | some (no, ns) => if no = s.tk.tick then { s with cl := { s.cl with timeNs := ns } } else s
  | none => s

/-- TIME on CL_UP, of the tick of the TICK before it. -/
def State.rxTime (s : State) (ns : W64) (good : Bool) : State :=
  if s.isRoot then s else if s.portUp 0 = false then s.notUp 0 good else
  let s := s.toChildren (clAt s.now + clHop) (.time ns (!good))
  if good then ({ s with cl := { s.cl with timeRx := some (s.cl.tickNo, ns) } }).keepTime else s.symError

/-- The device's own time moves on by 2.5 ns per tu. -/
def State.advanceTime (s : State) (len : Nat) : State :=
  let v := 5 * len + b2n s.cl.timeHalf
  { s with cl := { s.cl with timeOwn := s.cl.timeOwn + BitVec.ofNat 64 (v / 2), timeHalf := v % 2 == 1 } }

/-- The device's own time at the boundary that opens the running tick, `len` the length of the tick before it; it counts from the
power-on reset, whether or not the device is the root (18 R401). -/
def State.ownTime (s : State) (len : Nat) : State :=
  match s.cl.timeSet with
  | some (t, ns, half) =>
    if t = s.tk.tick.toNat then { s with cl := { s.cl with timeOwn := ns, timeHalf := half, timeSet := none } }
    else s.advanceTime len
  | none => s.advanceTime len

/-- D in force at the root (18 R396). -/
def State.depthNow (s : State) : Nat :=
  if clDepthSet s.cl.cfg ≠ 0xFFFF then clDepthSet s.cl.cfg else s.cl.depthDue.getD 0

/-- The Cumaslink part of a boundary: TICK and TIME at the root, the time kept at a node. The TICK of a boundary leaves the root's child
pins D − 1 hops of 96 ns before it, as its own deviation has it (18 R396). -/
def State.clBoundary (s : State) (len : Nat) : State :=
  let s := s.ownTime len
  if s.isRoot then
    let s := { s with cl := { s.cl with treeDepth := s.depthNow, depth := 0, timeNs := s.cl.timeOwn } }
    let (dev, s) := s.clDev
    let t := clAt s.tk.start - ((s.cl.treeDepth : Int) - 1) * clHop + dev
    let s := s.toChildren t (.tick s.tk.tick 0 (BitVec.ofNat 16 s.cl.treeDepth) (BitVec.ofInt 32 dev) false)
    s.toChildren t (.time s.cl.timeNs false)
  else s.keepTime

/-- DELAY_REQ on a child port: answered with the same SEQ. -/
def State.rxDelayReq (s : State) (p : Nat) (seq : Byte) (good : Bool) : State :=
  if p = 0 then s else if s.portUp p = false then s.notUp p good else if good then s.symbol p (.delayRsp seq) else s.symError

/-- DELAY_RSP on CL_UP; the mean of the last 16 exchanges. -/
def State.rxDelayRsp (s : State) (seq : Byte) (turn : W16) (good : Bool) (trip : Nat) : State :=
  if s.portUp 0 = false then s.notUp 0 good else if good = false then s.symError
  else if seq ≠ s.cl.reqSeq then s
  else
    let l := ((trip - turn.toNat) :: s.cl.exchanges).take 16
    { s with cl := { s.cl with exchanges := l, cableUp := l.sum / (2 * l.length) } }

/-- The DELAY_REQ of a node, every 62.5 µs. -/
def State.delayReq (s : State) : State :=
  if s.portUp 0 = false ∨ s.isRoot then s else
  ({ s with cl := { s.cl with reqSeq := s.cl.reqSeq + 1 } }).symbol 0 (.delayReq (s.cl.reqSeq + 1))

/-- A CREDIT symbol (18 R394). -/
def State.rxCredit (s : State) (p : Nat) (rsp : Bool) (freed : Byte) (good : Bool) : State :=
  if s.portUp p = false then s.notUp p good else if good = false then s.symError
  else ((s.port p fun q => if rsp then { q with freedRsp := freed } else { q with freedReq := freed }).pump p).bcastDone

/-- The periodic CREDIT symbols of a port. -/
def State.creditTimer (s : State) (p : Nat) : State :=
  let q := at_ s.cl.ports p
  (s.symbol p (.credit false q.ownReq)).symbol p (.credit true q.ownRsp)

/-- A frame with a bad CRC-32, LENGTH or TYPE (18 R390). -/
def State.badFrame (s : State) (p : Nat) (rsp : Bool) : State :=
  if s.portUp p = false then s else
  let (h, s) := s.clRecv p rsp
  s.clDiscard.clFree h

/-! ## Link states (18 R407) -/

/-- The PORT_IDs that a port in training has sent by now, one every 10 µs from its start on (18 R387, R407; DEDUCED, assumption 94). -/
def State.sendIds (s : State) (p : Nat) : State :=
  let q := at_ s.cl.ports p
  if q.state ≠ 1 then s else
  let n := (s.now - q.since) / (10 * tuUs) + 1
  let id := ClOut.portId p (maskOf [s.isRoot, s.cl.addr.isSome]) (s.cl.addr.getD 0)
  let due := (List.range n).drop q.ids
  s.port p fun q => { q with ids := max q.ids n, wire := q.wire ++ due.map fun i => (clAt (q.since + i * (10 * tuUs)), id) }

/-- A receive buffer of a port whose link is lost is held no longer: it counts in no session to come (18 R394). -/
def Hold.unless (p : Nat) (h : Option Hold) : Option Hold := h.bind fun (x : Hold) => if x.port = p then none else some x

def State.dropHolds (s : State) (p : Nat) : State :=
  { s with
    cl := { s.cl with ports := s.cl.ports.map fun (q : ClPort) =>
      { q with queue := q.queue.map fun (f : ClFrame) => { f with hold := Hold.unless p f.hold } } }
    mbx := { s.mbx with clWait := s.mbx.clWait.map fun (w : ClWaiting) => { w with hold := Hold.unless p w.hold } } }

/-- A link is lost: the port's frames are discarded, and with CL_UP a session of the Cumaslink mailbox ends (18 R394, 21 R445). -/
def State.portLost (s : State) (p : Nat) : State :=
  let l := (at_ s.cl.ports p).queue
  let s := (s.port p fun q => { q with queue := [] }).dropHolds p
  let s := (l.foldl (fun s f => (s.clDiscard).release f.hold) s).bcastDone
  if p = 0 then s.endSessionOf true 4 else s

/-- A port changes its state (CL_LINK). -/
def State.linkState (s : State) (p st reason : Nat) : State :=
  let q := at_ s.cl.ports p
  if q.state = st then s else
  let s := s.sendIds p
  let s := if q.state = 2 then s.portLost p else s
  let s := s.port p fun q => { q with state := st, reason := reason, since := s.now, idRun := 0, ids := 0 }
  s.raise 0x0D01 p (st + 4 * q.state + 16 * reason)

/-- A port comes up: counts and credits start afresh; CL_UP measures its cable anew and outside an enumeration announces (18 R398,
R404). -/
def State.linkUpPort (s : State) (p : Nat) : State :=
  let s := (s.linkState p 2 0).port p fun q => { q with
    sentReq := 0, sentRsp := 0, freedReq := 0, freedRsp := 0, ownReq := 0, ownRsp := 0, queue := [], token := 0 }
  if p ≠ 0 then s else
  let s := { s with cl := { s.cl with exchanges := [] } }
  let keep := clPersist s.cl.cfg
  if s.enumOpen then s else s.announce keep keep (if keep then clPAddr s.cl.cfg else 0)

/-- PORT_ID in training: 8 correct ones in a row whose roles pair bring the port up (18 R384, R407). One whose CRC-8 fails counts on a
port that is up as well (18 R389). -/
def State.rxPortId (s : State) (p role : Nat) (good : Bool) : State :=
  let q := at_ s.cl.ports p
  if (q.state ≠ 1 ∧ q.state ≠ 2) ∨ 3 ≤ p then s
  else if good = false then ((s.sendIds p).port p fun q => { q with idRun := 0 }).symError
  else if q.state = 2 then s
  else if (p = 0 ∧ role ≠ 1 ∧ role ≠ 2) ∨ (p ≠ 0 ∧ role ≠ 0) then s.linkState p 3 3
  else if q.idRun = 7 then s.linkUpPort p
  else (s.sendIds p).port p fun q => { q with idRun := q.idRun + 1 }

/-- Signal detect on a DOWN port that is enabled. The reason of this change is the one the port last had. -/
def State.signalDetect (s : State) (p : Nat) : State :=
  let q := at_ s.cl.ports p
  if q.state = 0 ∧ clEnabled s.cl.cfg p ∧ p < 3 then s.linkState p 1 q.reason else s

/-- Alignment lost, or too many code errors. -/
def State.linkLoss (s : State) (p : Nat) (code : Bool) : State :=
  let q := at_ s.cl.ports p
  if p < 3 ∧ (q.state = 2 ∨ (q.state = 1 ∧ code = false)) then s.linkState p 0 (if code then 2 else 1) else s

/-- 2 ms of training without UP. -/
def State.trainTimeout (s : State) (p : Nat) : State :=
  let q := at_ s.cl.ports p
  if q.state = 1 ∧ p < 3 then (s.forward (q.since + 2 * tuMs)).linkState p 0 5 else s

/-- A retry: 10 ms after DOWN, 1 s after FAULT. -/
def State.linkRetry (s : State) (p : Nat) : State :=
  let q := at_ s.cl.ports p
  if (q.state = 0 ∨ q.state = 3) ∧ clEnabled s.cl.cfg p ∧ p < 3 then
    (s.forward (q.since + (if q.state = 0 then 10 * tuMs else tuS))).linkState p 1 q.reason
  else s

/-! ## Commands (18 R408) -/

/-- CL_CONFIG in force at the ports and in the tree: a root's own Cumaslink source is never valid (18 R399, R408). -/
def State.clTree (s : State) (p : Rec) : State :=
  let old := s.cl.cfg
  let s := { s with cl := { s.cl with cfg := p } }
  let s := [0, 1, 2].foldl (fun s q => if clEnabled p q then s else s.linkState q 0 4) s
  if clRootBit p = clRootBit old then s
  else
    let s := { s with cl := { s.cl with depth := if clRootBit p then 0 else 0xFFFF } }
    if clRootBit p then s.loseSource 1 0 else s

/-- CL_CONFIG in force: ports and tree, the persistent address (18 R404, R405). -/
def State.clConfigure (s : State) (p : Rec) : State :=
  let old := s.cl.cfg
  let s := s.clTree p
  if clPersist p = clPersist old ∧ clPAddr p = clPAddr old then s
  else
    let s := { s with cl := { s.cl with denied := false } }
    let s := if clPersist p then s.setAddr (some (clPAddr p)) true false else s.setAddr none false false
    s.announce (clPersist p) (clPersist p) (if clPersist p then clPAddr p else 0)

/-- CL_CONFIG. DEPTH_SET needs ROOT in the record that sets it. -/
def cmdClConfig : Cmd where
  op := 0x0D00
  len := lenIs 16
  run := fun _ p s =>
    if (4095 < clDepthSet p ∧ clDepthSet p ≠ 0xFFFF) ∨ inRange 1 600 (u16 p 6) = false then refuse cBadParam s
    else if s.enumOpen ∨ (clDepthSet p ≠ 0xFFFF ∧ clRootBit p = false) then refuse cState s
    else ok (s.clConfigure p)

/-- CL_STATUS. -/
def cmdClStatus : Cmd where
  op := 0x0D01
  len := lenIs 0
  run := fun _ _ s =>
    let c := s.cl
    okWith (le 2 (c.addr.getD 0).toNat ++ le 1 (maskOf [c.addr.isSome, c.addrPersistent, s.isRoot, s.enumOpen]) ++
      zeros 1 ++ le 2 c.depth.toNat ++ le 2 c.treeDepth ++ le 4 c.cableUp ++ le 8 c.timeNs.toNat ++
      (c.ports.map fun q => le 1 q.state ++ le 1 q.reason ++ le 1 (q.credits false + 16 * q.credits true) ++ zeros 1 ++
        le 4 q.tx.toNat ++ le 4 q.rx.toNat).flatten ++ le 4 c.discards.toNat ++ le 4 c.symErrors.toNat ++
      le 4 c.bcastExecuted.toNat ++ le 4 c.enumNodes.toNat) s

/-- CL_ENUMERATE. -/
def cmdClEnumerate : Cmd where
  op := 0x0D02
  len := lenIs 4
  run := fun _ p s =>
    if s.isRoot = false ∨ s.cl.enumRunning then refuse cState s
    else ok (s.enumerate (BitVec.ofNat 16 (u16 p 0)))

/-- CL_BROADCAST (18 R406). The reply waits until the frame has left every port. -/
def cmdClBroadcast : Cmd where
  op := 0x0D03
  len := fun p => decide (32 ≤ p.length) && p.length == 32 + u16 p 0x12
  parks := fun _ => true
  run := fun _ p s =>
    let entry := p.drop 16
    let o := ClOut.frame 0x03 (s.ownHdr 0) (byteAt p 0) entry
    if 1 < byteAt p 0 ∨ u16 entry 0 = 0x0D03 then refuse cBadParam s
    else
      let s := if byteAt p 0 = 1 ∨ s.isRoot then (s.clFlood 3 o none).clEnter .bcast entry none
        else s.clSend 0 ⟨3, o, none⟩
      let waits := s.cl.ports.any fun q => q.queue.any fun f => f.queue == 3 && f.out == o
      if waits then (.park 0, s) else ok s

/-- CL_TIME_SET (18 R401, R408). A time that is LATE is advanced by the length that every tick since had. -/
def cmdClTimeSet : Cmd where
  op := 0x0D04
  len := lenIs 12
  run := fun _ p s =>
    let t := u32 p 0
    let ns := BitVec.ofNat 64 (u64 p 4)
    if s.isRoot = false then refuse cState s
    else if s.tickKind t = 1 then ok { s with cl := { s.cl with timeSet := some (t, ns, false) } }
    else
      let half := 5 * (s.tk.start + s.tk.len - s.startOf t)
      (.reply cLate [], { s with cl := { s.cl with
        timeSet := some ((s.tk.tick + 1).toNat, ns + BitVec.ofNat 64 (half / 2), half % 2 == 1) } })

/-- CL_ROUTE_READ. -/
def cmdClRouteRead : Cmd where
  op := 0x0D05
  len := lenIs 4
  run := fun _ p s =>
    let first := u16 p 0
    let n := u16 p 2
    if inRange 1 960 n ∧ first + n ≤ 65536 then
      let e := fun i => if i < n then spGet 0 s.cl.routes (first + i) else 0
      okWith ((List.range (ceilDiv n 4)).map fun k =>
        BitVec.ofNat 8 (e (4 * k) + 4 * e (4 * k + 1) + 16 * e (4 * k + 2) + 64 * e (4 * k + 3))) s
    else refuse cBadParam s

/-- CL_CONFIG (18 R408). -/
def execClConfig (h : Hdr) (p : Rec) (s : State) : Out := done (s.command cmdClConfig h p)
/-- CL_STATUS (18 R408). -/
def execClStatus (h : Hdr) (p : Rec) (s : State) : Out := done (s.command cmdClStatus h p)
/-- CL_ENUMERATE (18 R402). -/
def execClEnumerate (h : Hdr) (p : Rec) (s : State) : Out := done (s.command cmdClEnumerate h p)
/-- CL_BROADCAST (18 R406). -/
def execClBroadcast (h : Hdr) (p : Rec) (s : State) : Out := done (s.command cmdClBroadcast h p)
/-- CL_TIME_SET (18 R401). -/
def execClTimeSet (h : Hdr) (p : Rec) (s : State) : Out := done (s.command cmdClTimeSet h p)
/-- CL_ROUTE_READ (18 R408). -/
def execClRouteRead (h : Hdr) (p : Rec) (s : State) : Out := done (s.command cmdClRouteRead h p)
/-- PORT_ID (18 R407). -/
def execPortId (port : Nat) (role _flags : Byte) (_addr : W16) (good : Bool) (s : State) : Out :=
  done (s.rxPortId port role.toNat good)
/-- CL_TICK (18 R397, R399). -/
def execClTick (no : W32) (hops depth : W16) (acc : W32) (good : Bool) (frac : Nat) (s : State) : Out :=
  done (s.rxTick no hops depth acc good frac)
/-- CL_TIME (18 R401). -/
def execClTime (ns : W64) (good : Bool) (s : State) : Out := done (s.rxTime ns good)
/-- DELAY_REQ (18 R398). -/
def execDelayReq (port : Nat) (seq : Byte) (good : Bool) (s : State) : Out := done (s.rxDelayReq port seq good)
/-- DELAY_RSP (18 R398). -/
def execDelayRsp (seq : Byte) (turn : W16) (good : Bool) (trip : Nat) (s : State) : Out :=
  done (s.rxDelayRsp seq turn good trip)
/-- DELAY_REQ_TIMER (18 R398). -/
def execDelayReqTimer (s : State) : Out := done s.delayReq
/-- CREDIT (18 R394). -/
def execCredit (port : Nat) (rsp : Bool) (freed : Byte) (good : Bool) (s : State) : Out :=
  done (s.rxCredit port rsp freed good)
/-- CREDIT_TIMER (18 R394). -/
def execCreditTimer (port : Nat) (s : State) : Out := done (s.creditTimer port)
/-- MBX_CMD (17 R377). -/
def execMbxCmd (port : Nat) (hd : ClHdr) (entry : Rec) (s : State) : Out := done (s.rxMbxCmd port hd entry)
/-- MBX_REPLY (17 R377). -/
def execMbxReply (port : Nat) (hd : ClHdr) (entry : Rec) (s : State) : Out := done (s.rxMbxReply port hd entry)
/-- BCAST (18 R406). -/
def execBcast (port : Nat) (hd : ClHdr) (subtree : Bool) (entry : Rec) (s : State) : Out :=
  done (s.rxBcast port hd subtree entry)
/-- TOKEN (18 R402). -/
def execToken (port : Nat) (t : ClToken) (s : State) : Out := done (s.rxToken port t)
/-- TOKEN_BACK (18 R402). -/
def execTokenBack (port : Nat) (t : ClToken) (s : State) : Out := done (s.rxTokenBack port t)
/-- REPORT (18 R402). -/
def execReport (port : ClFrom) (index : W32) (paddr : W16) (pset : Bool) (serial : W64) (s : State) : Out :=
  done (s.rxReport port.port port.src ⟨index, paddr, pset, serial⟩)
/-- PERSIST_SET (18 R402). -/
def execPersistSet (port : ClFrom) (block : Nat) (b : BitVec 2048) (s : State) : Out := done (s.rxPersist port.port port.src block b)
/-- ANNOUNCE (18 R404). -/
def execAnnounce (port : ClFrom) (a : W16) (held persistent : Bool) (serial : W64) (s : State) : Out :=
  done (s.rxAnnounce port.port port.src a held persistent serial)
/-- CONFLICT (18 R402). -/
def execConflict (port : ClFrom) (index : W32) (serial : W64) (s : State) : Out := done (s.rxConflict port.port port.src index serial)
/-- ENUM_TIMEOUT_EXPIRY (18 R403). -/
def execEnumTimeoutExpiry (s : State) : Out := done s.enumTimeout
/-- CL_SIGNAL_DETECT (18 R407). -/
def execClSignalDetect (port : Nat) (s : State) : Out := done (s.signalDetect port)
/-- CL_LINK_LOSS (18 R407). -/
def execClLinkLoss (port : Nat) (code : Bool) (s : State) : Out := done (s.linkLoss port code)
/-- CL_TRAINING_TIMEOUT (18 R407). -/
def execClTrainingTimeout (port : Nat) (s : State) : Out := done (s.trainTimeout port)
/-- CL_RETRY_TIMER (18 R407). -/
def execClRetryTimer (port : Nat) (s : State) : Out := done (s.linkRetry port)
/-- CL_BAD_FRAME (18 R390). -/
def execClBadFrame (port : Nat) (rsp : Bool) (s : State) : Out := done (s.badFrame port rsp)

end Sys2Proof.Machine
end

