-- ==== Sys2Proof/Machine/Fixed.lean ====
section
/-! DEFINITION. Cosine, logarithm and exponential of fractions, computed with 160 fractional bits (assumption 134):
20 R430 and 21 R449 state them as functions of the real numbers. -/
namespace Sys2Proof.Machine

/-- The scale of the fixed-point numbers. -/
def fixOne : Int := 2 ^ 160

/-- The product of two of them. -/
def fixMul (a b : Int) : Int := (a * b).fdiv fixOne

/-- A fraction as one of them. -/
def fixOf (q : Rat) : Int := (q.num * fixOne).fdiv q.den

/-- One of them as a fraction. -/
def fixRat (v : Int) : Rat := (v : Rat) / fixOne

/-- π. -/
def fixPi : Int := 4591442807048218921384805199743311128454155024418

/-- The sum of `n` terms of a series: each follows from the one before it and its index. -/
def fixSeries (next : Nat → Int → Int) : Nat → Nat → Int → Int
  | 0, _, _ => 0
  | n + 1, k, term => term + fixSeries next n (k + 1) (next k term)

/-- cos(2π y) for y from 0 to 1/4. -/
def cosQuarter (y : Rat) : Rat :=
  if y = 0 then 1 else if y = 1 / 6 then 1 / 2 else if y = 1 / 4 then 0
  else
    let z := fixMul (2 * fixPi) (fixOf y)
    let zz := fixMul z z
    fixRat (fixSeries (fun k t => -(fixMul t zz).fdiv ((2 * k + 1) * (2 * k + 2) : Nat)) 40 0 fixOne)

/-- cos(2π x): exact where it is rational. -/
def cosTurn (x : Rat) : Rat :=
  let y := x - x.floor
  let y := if 1 / 2 < y then 1 - y else y
  if 1 / 4 < y then -cosQuarter (1 / 2 - y) else cosQuarter y

/-- ln of a fixed-point number from 1 to 2: twice the area tangent of (m − 1) ÷ (m + 1). -/
def lnUnit (m : Int) : Int :=
  let u := ((m - fixOne) * fixOne).fdiv (m + fixOne)
  let uu := fixMul u u
  2 * fixSeriesOdd uu 60 0 u
where
  /-- u + u³ ÷ 3 + u⁵ ÷ 5 + … -/
  fixSeriesOdd (uu : Int) : Nat → Nat → Int → Int
    | 0, _, _ => 0
    | n + 1, k, p => p.fdiv (2 * k + 1 : Nat) + fixSeriesOdd uu n (k + 1) (fixMul p uu)

/-- ln 2. -/
def fixLn2 : Int := lnUnit (2 * fixOne)

/-- ln(n ÷ 16) of a count of sixteenths that is not 0. -/
def lnSixteenths (n : Nat) : Rat :=
  fixRat (lnUnit ((n : Int) * 2 ^ (160 - n.log2)) + ((n.log2 : Int) - 4) * fixLn2)

/-- exp(x), x taken into −60 … 60: outside it H70 is 0 or beyond its 32 bits either way. -/
def expRat (x : Rat) : Rat :=
  let v := fixOf (max (-60) (min 60 x))
  let k := v.fdiv fixLn2
  let r := v - k * fixLn2
  let e := fixSeries (fun i t => (fixMul t r).fdiv (i + 1 : Nat)) 60 0 fixOne
  if 0 ≤ k then fixRat (e * 2 ^ k.toNat) else fixRat e / 2 ^ (-k).toNat

end Sys2Proof.Machine
end

