-- ==== Sys2Proof/Machine/Patina.lean ====
section
/-! DEFINITION. Patina (21 R446 to R455): operating hours, emitter, array, axis and kennel wear. -/
namespace Sys2Proof.Machine

def paEWarn (r : Rec) : Rat := u16 r 0 / 65536
def paFriction (r : Rec) : Rat := u16 r 2 / 256
def paL70 (r : Rec) : Nat := u32 r 4
def paReset (r : Rec) : Nat := byteAt r 8

/-- tu of 1/16 h. -/
def tuHour16 : Nat := 225 * tuS

/-- tu counted, in units of 1/16 h, saturating. -/
def hours16 (tu : Nat) : Nat := sat 32 (tu / tuHour16)

def State.pchan (s : State) (c : Nat) (f : PatinaChan → PatinaChan) : State :=
  { s with pat := { s.pat with chans := upd s.pat.chans c f } }
def State.paxis (s : State) (a : Nat) (f : PatinaAxis → PatinaAxis) : State :=
  { s with pat := { s.pat with axes := upd s.pat.axes a f } }

/-! ## Emitters (21 R447 to R449) -/

/-- E_INIT: the mean of the first 8 values after the baseline. -/
def PatinaChan.eInit (p : PatinaChan) : Option Rat := if p.firstVals.length < 8 then none else some (meanOf p.firstVals)

/-- The chain of a channel's input and primary (21 R448): σ at each capture since its baseline, times the σ in force. -/
def State.chainOf (s : State) (c : Nat) : Rat :=
  let r := s.chan c
  let old := match s.serving (chArray r) (chPrimary r) with
    | some i => ((s.pat.captures.drop (at_ s.pat.chans c).captures).map fun l => l.getD (8 * i + chPrimary r) 1).prod
    | none => 1
  old * (s.traceOf (chArray r) (chPrimary r)).sigma

/-- E_REL of a channel. -/
def State.eRel (s : State) (c : Nat) : Option Rat :=
  let p := at_ s.pat.chans c
  let e := at_ s.con.emitters c
  let d := s.chainOf c
  match p.eInit with
  | some i => if e.vals.length = 8 ∧ i ≠ 0 ∧ d ≠ 0 then some (meanOf e.vals / i / d) else none
  | none => none

/-- The fit E_REL = a + b ln H; valid with 6 points over a factor of 4 in H, and b below 0. -/
def fitOf (l : List (Nat × Nat × Rat)) : Option (Rat × Rat) :=
  let xs := l.map fun p => (lnSixteenths p.2.1, p.2.2)
  let hs := l.map fun p => p.2.1
  let lo := hs.foldl min (hs.headD 0)
  let hi := hs.foldl max 0
  let n : Rat := xs.length
  let sx := (xs.map Prod.fst).sum
  let sy := (xs.map Prod.snd).sum
  let sxx := (xs.map fun p => p.1 * p.1).sum
  let sxy := (xs.map fun p => p.1 * p.2).sum
  let d := n * sxx - sx * sx
  if l.length < 6 ∨ hi < 4 * lo ∨ d = 0 then none
  else
    let b := (n * sxy - sx * sy) / d
    if b < 0 then some ((sy - b * sx) / n, b) else none

/-- H70 and REMAINING in 1/16 h. -/
def State.remaining (s : State) (c : Nat) : Option (Nat × Nat) :=
  let p := at_ s.pat.chans c
  (fitOf p.points).map fun (a, b) =>
    let h := (expRat ((7 / 10 - a) / b) * 16).floor.toNat
    (sat 32 h, sat 32 h - hours16 p.hoursTu)

/-- PATINA_ALERT, once per condition and unit. -/
def State.patinaAlert (s : State) (unit kind value : Nat) : State := s.raise 0x1101 unit (kind + 65536 * sat 16 value)

/-- The alerts of a channel. REMAINING is judged on the points alone; where no E_REL exists the alert carries a free value (assumption
136). -/
def State.judgeEmitter (s : State) (c : Nat) : State :=
  let p := at_ s.pat.chans c
  let e := s.eRel c
  let warn : Bool := match e with
    | some e => decide (e < paEWarn s.pat.cfg)
    | none => false
  let low : Bool := match s.remaining c with
    | some (_, r) => decide (r < 16 * paL70 s.pat.cfg)
    | none => false
  if (bit p.alerted 0 || !warn) && (bit p.alerted 1 || !low) then s else
  let (v, s) := match e with
    | some e => ((roundRat (e * 16384)).toNat, s)
    | none => (Config.free s.takeFree.1, s.takeFree.2)
  let s := if bit p.alerted 0 = false ∧ warn then
      (s.pchan c fun p => { p with alerted := p.alerted + 1 }).patinaAlert c 0 v else s
  if bit p.alerted 1 = false ∧ low then
    (s.pchan c fun p => { p with alerted := p.alerted + 2 }).patinaAlert c 1 v else s

/-- Mark k is passed: H ≥ 10 × 2^(k ÷ 2) hours. -/
def markPassed (k tu : Nat) : Bool := decide (100 * 2 ^ k * (16 * tuHour16) ^ 2 ≤ tu ^ 2)

/-- The marks passed and not recorded give their points once the channel has a ratio. -/
def State.takePoints (s : State) (c : Nat) : State :=
  let p := at_ s.pat.chans c
  match s.eRel c, s.ratioOf c with
  | some e, some _ =>
    let ks := ((List.range 32).filter fun k => markPassed k p.hoursTu && !(p.points.any fun x => x.1 == k))
    s.pchan c fun p => { p with points := p.points ++ ks.map fun k => (k, hours16 p.hoursTu, e) }
  | _, _ => s

/-- An accepted value of e joins the baseline until it has 8. -/
def State.patinaEmitter (s : State) (c : Nat) : State :=
  let e := (at_ s.con.emitters c).vals.headD 0
  let s := s.pchan c fun p =>
    if p.baseline ∧ p.firstVals.length < 8 then { p with firstVals := p.firstVals ++ [e] } else p
  (s.takePoints c).judgeEmitter c

/-! ## Hours (21 R446) -/

/-- The bin of an effective temperature. -/
def hourBin (t : Int) : Nat := if t < 480 then 0 else if t < 640 then 1 else if t < 760 then 2 else if t < 840 then 3 else 4

/-- The tick of `len` tu that ended, after its charge is latched. -/
def State.patinaBoundary (s : State) (len : Nat) : State :=
  let lit := fun c => decide ((at_ s.src.sinks c).lastEmit ≠ 0)
  let s := { s with pat := { s.pat with
    chans := s.pat.chans.mapIdx fun c (p : PatinaChan) =>
      let p := if lit c then { p with hoursTu := p.hoursTu + len } else p
      if p.baseline = false ∧ chRole (s.chan c) = 1 then { p with baseline := true, captures := s.pat.captures.length } else p,
    bankTu := s.pat.bankTu.mapIdx fun b l =>
      if (List.range 8).any (fun i => lit (8 * b + i)) then
        upd l (hourBin (at_ s.th.zones (8 + b / 3)).effective) fun v => v + len
      else l } }
  let s := { s with pl := { s.pl with
    arrays := s.pl.arrays.map fun x => if x.state = 5 then { x with opTu := x.opTu + len } else x } }
  channels.foldl (fun s c => if lit c then (s.takePoints c).judgeEmitter c else s) s

/-! ## Arrays -/

def hundredHours : Nat := 1600 * tuHour16

/-- FRACTION in units of 2^−16. -/
def resetFraction (x : ArrayUnit) : Nat :=
  let rating := arRating (x.record.getD [])
  if rating = 0 then 0 else sat 16 (x.resets * 65536 / rating)

/-- RESET_COUNT of an array (07 R163). -/
def State.resetCount (s : State) (a count : Nat) : State :=
  let s := s.arr a fun x => { x with
    resets := count,
    resetHist := (x.opTu, count) :: (x.resetHist.take 1 ++ (x.resetHist.drop 1).filter fun h => decide (x.opTu ≤ h.1 + hundredHours)) }
  let x := s.array a
  let rating := arRating (x.record.getD [])
  if (s.pat.arrayAlert.getD a false) = false ∧ rating ≠ 0 ∧ paReset s.pat.cfg * rating ≤ 100 * x.resets then
    ({ s with pat := { s.pat with arrayAlert := upd s.pat.arrayAlert a fun _ => true } }).patinaAlert a 2 (resetFraction x)
  else s

/-- Hours to the rating at the rate of the last 100 operating hours, in 1/16 h. -/
def toRating (x : ArrayUnit) : Nat :=
  let rating := arRating (x.record.getD [])
  match x.resetHist.getLast? with
  | none => 0xFFFFFFFF
  | some (t, n) =>
    if rating = 0 ∨ x.resets ≤ n ∨ x.opTu ≤ t then 0xFFFFFFFF
    else sat 32 ((rating - x.resets) * (x.opTu - t) / ((x.resets - n) * tuHour16))

/-! ## Axes (21 R450) -/

/-- The mean of the sums, and F when both directions have their 2^16 samples. -/
def PatinaAxis.form (p : PatinaAxis) : PatinaAxis :=
  let p := if p.posCount = 65536 then { p with pos := some (p.posSum.fdiv 65536), posSum := 0, posCount := 0 } else p
  let p := if p.negCount = 65536 then { p with neg := some (p.negSum.fdiv 65536), negSum := 0, negCount := 0 } else p
  match p.pos, p.neg with
  | some a, some b =>
    let f := (a - b).fdiv 2
    { p with pos := none, neg := none, f := some f, fInit := some (p.fInit.getD f) }
  | _, _ => p

/-- F ÷ F_INIT. -/
def PatinaAxis.ratio (p : PatinaAxis) : Option Rat := match p.f, p.fInit with
  | some f, some i => if i = 0 then none else some ((f : Rat) / i)
  | _, _ => none

/-- The friction sums of a sample that ran in CLOSED. -/
def State.friction (s : State) (a : Nat) : State :=
  let x := at_ s.axes a
  let d := x.r1 - x.r2
  let fast := decide ((u64 (at_ s.ios a).det 8 : Int) * 2 ^ 39 * (u32 x.record 4 : Nat) ≤ d.natAbs * 400000000 * 2 ^ 32)
  if fast = false ∨ d = 0 then s else
  let s := s.paxis a fun p => (if 0 < d then { p with posSum := p.posSum + x.iVal, posCount := p.posCount + 1 }
    else { p with negSum := p.negSum + x.iVal, negCount := p.negCount + 1 }).form
  let p := at_ s.pat.axes a
  match p.ratio with
  | some q =>
    if p.alerted = false ∧ paFriction s.pat.cfg ≤ q then
      (s.paxis a fun p => { p with alerted := true }).patinaAlert a 3 (roundRat (q * 16384)).toNat
    else s
  | none => s

/-! ## Commands (21 R454) -/

def patinaOk (p : Rec) : Bool := inRange 256 2560 (u16 p 2) && inRange 50 100 (paReset p)

/-- PATINA_CONFIG. -/
def cmdPatinaConfig : Cmd where
  op := 0x1100
  len := lenIs 12
  run := fun _ p s =>
    if patinaOk p then
      ok { s with pat := { s.pat with cfg := p }, ken := { s.ken with dirty := upd s.ken.dirty 2 fun _ => true } }
    else refuse cBadParam s

/-- PATINA_EMITTER_READ; where no E_REL exists it reads 0. -/
def cmdPatinaEmitterRead : Cmd where
  op := 0x1101
  len := lenIs 4
  run := fun _ p s =>
    if spanOk 192 14 (byteAt p 0) (byteAt p 1) then
      okWith ((List.range (byteAt p 1)).map fun i =>
        let c := byteAt p 0 + i
        let x := at_ s.pat.chans c
        let r := s.remaining c
        q16 14 ((s.eRel c).getD 0) ++ le 1 x.points.length ++ le 1 (maskOf [x.baseline, r.isSome]) ++ le 4 (hours16 x.hoursTu) ++
          le 4 ((r.map Prod.fst).getD 0xFFFFFFFF) ++ le 4 ((r.map Prod.snd).getD 0xFFFFFFFF)).flatten s
    else refuse cBadParam s

/-- PATINA_UNIT_READ. -/
def cmdPatinaUnitRead : Cmd where
  op := 0x1102
  len := lenIs 4
  run := fun _ p s =>
    match byteAt p 0 with
    | 0 => okWith (s.pl.arrays.map fun x =>
        le 8 x.resets ++ le 8 (arRating (x.record.getD [])) ++ le 2 (resetFraction x) ++ zeros 2 ++ le 4 (toRating x)).flatten s
    | 1 => okWith (s.pat.axes.map fun x =>
        let q := fun (v : Option Int) => match v with
          | some f => leI 4 (f.fdiv 256)
          | none => le 4 0xFFFFFFFF
        q x.fInit ++ q x.f ++ q16 8 (x.ratio.getD 0) ++ zeros 2).flatten s
    | 2 => okWith ((List.range 6).map fun k =>
        let c := s.ken.carry.getD (k / 2) (0, 0)
        let w := if k % 2 = 0 then c.1 else c.2
        let n := ((s.ken.writeTimes.getD k []).filter fun t => decide ((s.now : Int) - t ≤ 3600000 * tuS)).length
        le 4 w ++ le 4 (if n = 0 then 0xFFFFFFFF else sat 32 ((10000 - w) * 16000 / n))).flatten s
    | _ => refuse cBadParam s

/-- PATINA_HOURS_READ. -/
def cmdPatinaHoursRead : Cmd where
  op := 0x1103
  len := lenIs 4
  run := fun _ p s =>
    if spanOk 24 4 (byteAt p 0) (byteAt p 1) then
      okWith ((List.range (byteAt p 1)).map fun i =>
        let b := byteAt p 0 + i
        ((s.pat.bankTu.getD b []).map fun v => le 4 (hours16 v)).flatten ++ zeros 4 ++
          ((List.range 8).map fun k => le 4 (hours16 (at_ s.pat.chans (8 * b + k)).hoursTu)).flatten).flatten s
    else refuse cBadParam s

/-- PATINA_RESET: baselines set afresh, alerts rearmed. -/
def cmdPatinaReset : Cmd where
  op := 0x1104
  len := lenIs 28
  run := fun h p s =>
    if 1 < byteAt p 0 then refuse cBadParam s
    else if s.unlocked h = false then refuse cLocked s
    else
      let s := { s with ken := { s.ken with dirty := upd s.ken.dirty 2 fun _ => true } }
      if byteAt p 0 = 0 then
        ok { s with pat := { s.pat with
          chans := s.pat.chans.mapIdx fun c (x : PatinaChan) =>
            if chanMask p 4 c then ⟨x.hoursTu, chRole (s.chan c) == 1, [], s.pat.captures.length, [], 0⟩ else x } }
      else
        ok { s with pat := { s.pat with
          axes := s.pat.axes.mapIdx fun a (x : PatinaAxis) =>
            if chanMask p 4 a then ⟨0, 0, 0, 0, none, none, none, none, false⟩ else x } }

/-- PATINA_CONFIG (21 R454). -/
def execPatinaConfig (h : Hdr) (p : Rec) (s : State) : Out := done (s.command cmdPatinaConfig h p)
/-- PATINA_EMITTER_READ (21 R454). -/
def execPatinaEmitterRead (h : Hdr) (p : Rec) (s : State) : Out := done (s.command cmdPatinaEmitterRead h p)
/-- PATINA_UNIT_READ (21 R454). -/
def execPatinaUnitRead (h : Hdr) (p : Rec) (s : State) : Out := done (s.command cmdPatinaUnitRead h p)
/-- PATINA_HOURS_READ (21 R454). -/
def execPatinaHoursRead (h : Hdr) (p : Rec) (s : State) : Out := done (s.command cmdPatinaHoursRead h p)
/-- PATINA_RESET (21 R454). -/
def execPatinaReset (h : Hdr) (p : Rec) (s : State) : Out := done (s.command cmdPatinaReset h p)
/-- RESET_COUNT (07 R163). -/
def execResetCount (a count : Nat) (s : State) : Out :=
  done (s.fromArray a fun s => s.resetCount a count)
/-- AXIS_SAMPLE (12 R272, 21 R450). -/
def execAxisSample (a : Nat) (m : SampleIn) (s : State) : Out :=
  let s := s.axisSample a m
  done (if (at_ s.axes a).state = 1 ∧ a < 16 then s.friction a else s)

end Sys2Proof.Machine
end

