-- ==== Sys2Proof/Machine/Content.lean ====
section
/-! DEFINITION. The content store (chapter 19): mount, clips, staging, cue lists and the commands. A drive operation is one
entry of `cs.ops` until NVME_COMPLETION; its data come with the completion. -/
namespace Sys2Proof.Machine

/-! ## Volume layout (19 R412 to R414) -/

/-- The superblock that a format writes as both copies. -/
def superblock (seq : W32) (blocks : Nat) (volume : W64) : Rec :=
  let r : Rec := [0x43, 0x4A, 0x53, 0x46] ++ le 2 1 ++ zeros 2 ++ le 4 seq.toNat ++ le 4 blocks ++ le 8 volume.toNat ++ zeros 36
  r ++ le 4 (crc32 r).toNat

/-- Both superblock copies of the mounted volume. -/
def State.superImage (s : State) : Rec := superblock s.cs.superSeq s.cs.blocks s.cs.volumeId

/-- The 4,096 bytes of LBA 1,024 + n of the clip table: 32 records, free ones 0 (19 R412). -/
def State.tableLba (s : State) (n : Nat) : Rec :=
  ((List.range 32).map fun i => match s.cs.table.find? fun x => x.1 == 32 * n + i with
    | some x => x.2
    | none => zeros 128).flatten

/-! ## Clips -/

/-- Free blocks as ascending (start, length) runs. -/
def freeRuns (blocks : Nat) (used : List (Nat × Nat)) : List (Nat × Nat) :=
  let l := sortBy (fun a b => decide (a.1 ≤ b.1)) used
  let (runs, pos) := l.foldl (fun (st : List (Nat × Nat) × Nat) e =>
    (if st.2 < e.1 then st.1 ++ [(st.2, e.1 - st.2)] else st.1, max st.2 (e.1 + e.2))) ([], 0)
  if pos < blocks then runs ++ [(pos, blocks - pos)] else runs

/-- The extents in use. -/
def State.usedExtents (s : State) : List (Nat × Nat) :=
  ((s.cs.table.map fun x => clExtents x.2).flatten).filter fun e => decide (0 < e.2)

def State.freeBlocks (s : State) : Nat := s.cs.blocks - (s.usedExtents.map Prod.snd).sum

/-- First fit: the first run that holds all, else runs in order, at most 4. -/
def allocate (runs : List (Nat × Nat)) (n : Nat) : Option (List (Nat × Nat)) :=
  if n = 0 then some [] else
  match runs.find? fun r => decide (n ≤ r.2) with
  | some r => some [(r.1, n)]
  | none =>
    let (l, left) := runs.foldl (fun (st : List (Nat × Nat) × Nat) r =>
      if st.2 = 0 then st else (st.1 ++ [(r.1, min r.2 st.2)], st.2 - min r.2 st.2)) ([], n)
    if left = 0 ∧ l.length ≤ 4 then some l else none

/-- A record with its CHECK. -/
def withCheck (r : Rec) : Rec := overlay r 0x7C (le 4 (crc32 (r.take 0x7C)).toNat)

/-- A record of 19 R414. -/
def clipRecord (id type bytes : Nat) (ext : List (Nat × Nat)) (info : Rec) : Rec :=
  withCheck (le 4 id ++ [BitVec.ofNat 8 type, 0] ++ zeros 2 ++ le 8 bytes ++
    ((List.range 4).map fun i => le 4 (ext.getD i (0, 0)).1 ++ le 4 (ext.getD i (0, 0)).2).flatten ++ zeros 8 ++ info ++ zeros 8)

/-- A record in use. -/
def clipUsed (r : Rec) : Bool := clType r != 0 && u32 r 0x7C == (crc32 (r.take 0x7C)).toNat

/-- INFO in range (19 R415). -/
def infoOk (type : Nat) (i : Rec) : Bool := match type with
  | 1 =>
    let f := inFormat i
    fmLayout f != 3 && fmSub f != 3 && (!fmLumaOnly f || fmSub f == 0) && (fmLumaOnly f || !fmMask f) &&
      inRange 16 8192 (inBufW i) && inRange 16 8192 (inBufH i) && inRange 1 255 (inHold i) && inFrameBytes i % 4096 == 0 &&
      (fmPlanes f).all fun k => inOff i k % 256 == 0 && inStride i k % 256 == 0 &&
        decide (planeRow f k (inBufW i) ≤ inStride i k)
  | 2 => decide (inPtFormat i ≤ 1) && inRange 4000 4000000 (inPtPeriod i)
  | 3 => true
  | 4 => true
  | _ => false

/-- Cue entries as (AT, command entry); `n` bounds the number. -/
def parseCues : Nat → Rec → Option (List (Nat × Rec))
  | 0, _ => some []
  | n + 1, r =>
    if r.length < 8 then none else
    let len := u16 r 4
    let pad := (len + 7) / 8 * 8
    if len < 16 ∨ r.length < 8 + pad then none
    else (parseCues n (r.drop (8 + pad))).map fun l => (u32 r 0, slice r 8 len) :: l

/-- AT does not fall. -/
def cuesRise : List (Nat × Rec) → Bool
  | a :: b :: l => decide (a.1 ≤ b.1) && cuesRise (b :: l)
  | _ => true

/-- The cue list of a clip's content. -/
def cueList (entries : Nat) (r : Rec) : Option (List (Nat × Rec)) :=
  if 65536 < r.length ∨ 8192 < entries then none else
  match parseCues entries r with
  | some l => if cuesRise l then some l else none
  | none => none

/-- Content and INFO agree at a seal (19 R417). -/
def sealOk (r data : Rec) : Bool :=
  let i := clInfo r
  data.length == clBytes r && match clType r with
    | 1 => decide (inFrames i * inFrameBytes i ≤ clBytes r)
    | 2 => decide (inPoints i * (if inPtFormat i = 0 then 12 else 20) ≤ clBytes r)
    | 3 => castCrcOk (spPut 0 [] 0 data)
    | _ => (cueList (u32 i 0) data).isSome

/-- Change the record at an index of the clip table. -/
def State.setClip (s : State) (idx : Nat) (r : Option Rec) : State :=
  let rest := s.cs.table.filter fun x => x.1 != idx
  let new := match r with
    | some v => sortBy (fun a b => decide (a.1 ≤ b.1)) (rest ++ [(idx, v)])
    | none => rest
  { s with cs := { s.cs with table := new } }

/-- The record at an index. -/
def State.clipAt (s : State) (idx : Nat) : Option Rec := (s.cs.table.find? fun x => x.1 == idx).map Prod.snd

/-- A layer descriptor that is live or pending names a clip. -/
def State.clipNamed (s : State) (id : Nat) : Bool :=
  let cfgs := [s.com.live] ++ (s.com.next.toList ++ s.com.later.toList).map Pending.cfg
  cfgs.any fun c => c.layers.any fun d => lyEnable d && lySource d == 2 && lyClip d == id

/-- A clip is in use (19 R418). -/
def State.clipBusy (s : State) (id : Nat) : Bool :=
  s.clipNamed id || (s.cs.plays ++ s.cs.playWait).any (fun p => match p with
      | some x => x.clip == id
      | none => false) ||
    s.heads.any (fun h => h.segs.any fun g => decide (0 < g.left) && match g.clip with
      | some c => c.1 == id
      | none => false) ||
    s.mbx.parked.any (fun c => c.opcode == 0x0485 && u32 c.payload 4 == id) ||
    s.cs.players.any fun p => match p with
      | some x => x.clip == id
      | none => false

/-! ## Staging (19 R419 to R422) -/

/-- Reads are issued for the frames a layer needs and does not have; what is not issued yet of a frame it needs no more is given up. -/
def State.stageLayer (s : State) (l : Nat) : State :=
  match s.cs.plays.getD l none with
  | none => s
  | some p =>
    let need := s.framesNeeded p
    let cut := fun (o : NvmeOp) => match o.use with
      | .clipFrame k id f => if k = l ∧ (id ≠ p.clip ∨ need.contains f = false) then { o with todo := [] } else o
      | _ => o
    let s := { s with cs := { s.cs with
      plays := upd s.cs.plays l fun _ => some { p with landed := p.landed.filter need.contains, bad := p.bad.filter need.contains },
      ops := (s.cs.ops.map cut).filter fun o => decide (o.todo ≠ []) || decide (0 < o.tags) } }
    need.foldl (fun s f =>
      if p.landed.contains f ∨ p.bad.contains f ∨ s.cs.ops.any (fun o => o.use == .clipFrame l p.clip f) then s
      else s.addOp (.clipFrame l p.clip f) (s.frameSteps p.clip f)) s

/-- The content store's part of a boundary: replacements, starts, staging. -/
def State.csBoundary (s : State) : State :=
  let step := fun (p : Play) =>
    if p.started then { p with sinceStart := p.sinceStart + 1 }
    else if p.startAt ≤ 1 then { p with started := true, sinceStart := 0, startAt := 0 }
    else { p with startAt := p.startAt - 1 }
  let stepPl := fun (p : Player) =>
    if p.started then { p with ticks := p.ticks + 1 }
    else if p.startAt = 0 then p
    else if p.startAt = 1 then { p with started := true, ticks := 0, startAt := 0 }
    else { p with startAt := p.startAt - 1 }
  let s := { s with cs := { s.cs with
    plays := (List.zip s.cs.plays s.cs.playWait).map fun (x : Option Play × Option Play) => match x.2 with
      | some n => some (step { n with
          landed := match x.1 with
            | some o => if o.clip = n.clip then o.landed else []
            | none => [] })
      | none => x.1.map step,
    playWait := List.replicate 8 none, players := s.cs.players.map fun p => p.map stepPl } }
  if s.mounted then
    let s := (List.range 8).foldl State.stageLayer s
    [0, 1, 2, 3].foldl State.stageHead s
  else s

/-! ## State changes of the store (19 R410, R416) -/

/-- CS_STATE. -/
def State.csState (s : State) (st reason : Nat) : State :=
  let old := s.cs.state
  let s := { s with cs := { s.cs with state := st, reason := reason } }
  s.raiseIf (old != st) 0x0E01 0 (st + 8 * old + 256 * reason)

/-- A superblock copy, 64 bytes, with its SEQ, if its CHECK is correct. -/
def superSeq (r : Rec) : Option W32 :=
  if r.length = 64 ∧ u32 r 0x3C = (crc32 (r.take 0x3C)).toNat then some (BitVec.ofNat 32 (u32 r 8)) else none

/-- The copy that mount uses. -/
def pickSuper (a b : Rec) : Option Rec := match superSeq a, superSeq b with
  | some x, some y => some (if seqLater y x then b else a)
  | some _, none => some a
  | none, some _ => some b
  | none, none => none

/-- The records kept at mount and how many were freed for overlapping an earlier one. -/
def mountTable (l : List (Nat × Rec)) : List (Nat × Rec) × Nat :=
  let l := sortBy (fun a b => decide (a.1 ≤ b.1)) (l.filter fun x => clipUsed x.2 && clSealed x.2 && decide (x.1 < 4096))
  let hit := fun (a b : Nat × Nat) => decide (0 < a.2 ∧ 0 < b.2 ∧ a.1 < b.1 + b.2 ∧ b.1 < a.1 + a.2)
  l.foldl (fun (st : List (Nat × Rec) × Nat) x =>
    if st.1.any fun y => (clExtents y.2).any fun e => (clExtents x.2).any fun f => hit e f then (st.1, st.2 + 1)
    else (st.1 ++ [x], st.2)) ([], 0)

/-- The commands that free records at mount: their LBAs, Flush, the deallocation of the blocks of those with STATE 0 that no record kept
holds, Flush (19 R416). Mount's own reads begin and end within CS_MOUNT (assumption 95). -/
def tidySteps (l kept : List (Nat × Rec)) : List DriveStep :=
  let gone := l.filter fun x => clipUsed x.2 && decide (x.1 < 4096) && !(kept.any fun y => y.1 == x.1)
  let held := (kept.map fun x => clExtents x.2).flatten
  let hit := fun (e : Nat × Nat) => held.any fun k => decide (0 < e.2 ∧ 0 < k.2 ∧ e.1 < k.1 + k.2 ∧ k.1 < e.1 + e.2)
  let ext := ((gone.filter fun x => !clSealed x.2).map fun x => clExtents x.2).flatten.filter fun e => decide (0 < e.2) && !hit e
  if gone = [] then []
  else ((gone.map fun x => (recordPlace x.1).1).eraseDups.map fun a => .data true a 1 none) ++ [.flush] ++
    (if ext = [] then [] else (ext.map fun e => .dealloc (blockLba e.1) (256 * e.2)) ++ [.flush])

/-- The most LBAs of one command and the commands that the queues hold (19 R410): a queue of depth d holds d − 1 commands (PRESUMED, NVM
Express base specification). -/
def driveUnit (mdts : Nat) : Nat := if mdts = 0 then 64 else max 1 (min 64 (mdts / lbaBytes))
def driveSlots (queues mqes : Nat) : Nat := min 16 queues * (min 1024 (mqes + 1) - 1)

/-- CS_MOUNT: link-up of the drive; the root port has enabled NV_REFCLK (14 R298). -/
def State.mount (s : State) (d : DriveImage) : State :=
  let s := ({ s with ck := { s.ck with nvRef := true } }).csState 1 0
  if d.linkOk = false then s.csState 4 1
  else if d.controllerOk = false then s.csState 4 2
  else if d.namespaceOk = false ∨ 2 ^ 32 < d.lbas then s.csState 4 3
  else
    let s := { s with cs := { s.cs with
      blocks := volumeBlocks d.lbas, table := [], unit := driveUnit d.mdts, slots := driveSlots d.queues d.mqes } }
    match pickSuper (d.superA.take 64) (d.superB.take 64) with
    | none => s.csState 2 0
    | some r =>
      let (t, n) := mountTable d.table
      let s := { s with cs := { s.cs with
        table := t, mountFreed := s.cs.mountFreed + BitVec.ofNat 32 n, superSeq := BitVec.ofNat 32 (u32 r 8),
        volumeId := BitVec.ofNat 64 (u64 r 0x10) } }
      let s := s.csState 3 0
      let steps := tidySteps d.table t
      if steps = [] then s else s.addOp .tidy steps

/-! ## Completions (19 R411, R417, R421) -/

/-- CS_READ_ERROR. -/
def State.readError (s : State) (src status index : Nat) : State :=
  let s := { s with cs := { s.cs with readErrors := s.cs.readErrors + 1 } }
  s.raise 0x0E02 src (status + 65536 * (index % 65536))

/-- What a completed operation of a parked command does, and its completion code. A seal that has come so far has read its content back
(State.sealSteps), whose CRC is that of the command. -/
def State.clipEffect (s : State) (op key : Nat) (p data : Rec) (good : Bool) : Nat × State :=
  match op with
  | 0x0E02 =>
    if good = false then (cFault, s) else
    let id := Config.serial ^^^ BitVec.ofNat 64 s.tk.tick.toNat
    let s := { s with cs := { s.cs with table := [], superSeq := s.cs.superSeq + 1, volumeId := id } }
    (cOk, s.csState 3 0)
  | 0x0E03 => if good then (cOk, s) else (cFault, s.setClip (key % 4096) none)
  | 0x0E05 =>
    match if good then s.clipAt (key % 4096) else none with
    | none => (cFault, s)
    | some r => (cOk, s.setClip (key % 4096) (some (withCheck (overlay (overlay r 0x30 (le 4 (u32 p 4))) 5 [1]))))
  | 0x0E06 => if good then (cOk, s.setClip (key % 4096) none) else (cFault, s)
  | 0x0E09 =>
    let k := key % 4
    let set := fun (s : State) v => { s with cs := { s.cs with players := upd s.cs.players k fun _ => v } }
    match s.cs.players.getD k none, s.clip (u32 p 4) with
    | some pl, some (_, r) =>
      match if good then cueList (u32 (clInfo r) 0) data else none with
      | none => (cFault, set s none)
      | some [] => (if pl.late then cLate else cOk, set s none)
      | some l => (if pl.late then cLate else cOk, set s (some { pl with entries := l, startAt := if pl.late then 1 else pl.startAt }))
    | _, _ => (cOk, s)
  | _ => (if good then cOk else cFault, s)

/-- The cast of a clip lies in the LPDDR5X: its reads of up to 256 bytes are asked for. -/
def State.castStaged (s : State) (c : Parked) : State := match s.clip (u32 c.payload 4) with
  | some (_, r) =>
    let rest := s.chi.copies.filter fun (x : Nat × Sparse Byte) => x.1 != c.key
    let s := { s with chi := { s.chi with copies := rest ++ [(c.key, [])] } }
    s.addReads .castCopy 1 (ceilDiv (clBytes r) 256) false default c.key
  | none => s.finish c cFault []

/-- The parked command that an operation serves. -/
def State.opCommand (s : State) (op key : Nat) : Option Parked := s.mbx.parked.find? fun c => c.opcode == op && c.key == key

/-- The commands that follow the last one of an operation: a seal whose content has been read back, with the CRC of the command and an
INFO that is consistent, writes its record (19 R417). -/
def State.sealSteps (s : State) (o : NvmeOp) (data : Rec) : List DriveStep := match o.use with
  | .command 0x0E05 key =>
    match s.opCommand 0x0E05 key, s.clipAt (key % 4096) with
    | some c, some r =>
      if o.phase = 0 ∧ sealOk r data ∧ (crc32 data).toNat = u32 c.payload 4 then recordSteps (key % 4096) else []
    | _, _ => []
  | _ => []

/-- The operation at a place ends: the tags it still holds return, and what it serves goes on. A frame of a play state that has been
replaced is not counted as staged. -/
def State.opEnds (s : State) (place : Nat) (status : Nat) (data : Rec) : State :=
  let o := at_ s.cs.ops place
  let s := { s with cs := { s.cs with ops := s.cs.ops.eraseIdx place } }
  let s := s.returnTags 2 o.tags
  let good := status == 0
  let s := match o.use with
    | .clipFrame l id f =>
      let mark := fun (p : Play) =>
        if p.clip ≠ id then p else if good then { p with landed := p.landed ++ [f] } else { p with bad := p.bad ++ [f] }
      let s := { s with cs := { s.cs with plays := upd s.cs.plays l fun (q : Option Play) => q.map mark } }
      if good then s else s.readError l status f
    | .points n no k =>
      let s := s.pointsStaged n no k good
      if good then s else s.readError (8 + n) status k
    | .command op key =>
      let read := op == 0x0485 || op == 0x0E09 || (op == 0x0E05 && o.phase == 0)
      let s := if good then s else { s with cs := { s.cs with readErrors := s.cs.readErrors + b2n read } }
      match s.opCommand op key with
      | none => s
      | some c =>
        if op = 0x0485 ∧ good then s.castStaged c else
        let (code, s) := s.clipEffect op key c.payload data (good && (op != 0x0E05 || o.phase == 1))
        s.finish c code []
    | .tidy => s
  s.offerTags

/-- NVME_COMPLETION of a command in flight of the operation at a place. The last one ends the operation, with the first error, which
also ends the issue of its commands; `data` is then what the operation has read. -/
def State.nvmeDone (s : State) (place : Nat) (status : W16) (data : Rec) : State :=
  match s.cs.ops[place]? with
  | none => s
  | some o =>
    if o.tags = 0 then s else
    let first := if o.status = 0 then status.toNat else o.status
    let more := if o.tags = 1 ∧ o.todo = [] then s.sealSteps o data else []
    let todo := if first = 0 then o.todo ++ more else []
    let next : NvmeOp := { o with tags := o.tags - 1, todo := todo, barrier := false, phase := if more = [] then o.phase else 1, status := first }
    let s := if o.tags = 1 ∧ todo = [] then s.opEnds place first data
      else
        let s := { s with cs := { s.cs with ops := upd s.cs.ops place fun _ => next } }
        (s.returnTags 2 1).offerTags
    match o.use with
    | .points n _ _ => s.stageHead n
    | _ => s

/-- Every operation ends with an error: the drive's link is down. The transfers end with it, and their tags return (DESIGN CHOICE,
assumption 95). -/
def State.nvmeLost (s : State) : State :=
  let (k, s) := s.takeFree
  let s := { s with cs := { s.cs with ops := s.cs.ops.map fun (o : NvmeOp) => { o with todo := [] } } }
  let s := s.returnTags 3 (s.tags 3)
  let s := (List.range s.cs.ops.length).foldl (fun s _ => s.opEnds 0 (1 + Config.free k % 65535) []) s
  s.csState 0 0

/-- 1 s after a trip the controller reset ends what is still in flight (23 R474), with its transfers; each command counts as
a read error. -/
def State.nvmeTripReset (s : State) : State :=
  if s.inTrip = false then s else
  let s := s.forward (s.th.tripAt + tuS)
  let ops := s.cs.ops.filter fun o => o.tags != 0
  let s := s.returnTags 3 (s.tags 3)
  ops.foldl (fun s o =>
    let s := { s with cs := { s.cs with ops := s.cs.ops.erase o, readErrors := s.cs.readErrors + BitVec.ofNat 32 o.tags } }
    s.returnTags 2 o.tags) s

/-! ## Commands (19 R424) -/

/-- A command that needs the store MOUNTED. -/
def State.needMount (s : State) (k : Ans × State) : Ans × State := if s.mounted then k else refuse cState s

/-- CS_CONFIG. -/
def cmdCsConfig : Cmd where
  op := 0x0E00
  len := lenIs 20
  run := fun _ p s =>
    if u64 p 0 % 4096 ≠ 0 ∨ inRange 100 8000 (u32 p 0x10) = false then refuse cBadParam s
    else if s.mounted = false ∨ s.playBytes + s.cs.rings.sum ≠ 0 then refuse cState s
    else ok { s with cs := { s.cs with poolAddr := u64 p 0, poolBytes := u64 p 8, readBudget := u32 p 0x10 } }

/-- CS_STATUS. -/
def cmdCsStatus : Cmd where
  op := 0x0E01
  len := lenIs 0
  run := fun _ _ s =>
    let c := s.cs
    okWith (le 1 c.state ++ le 1 c.reason ++ le 2 c.table.length ++ le 4 s.freeBlocks ++ le 4 c.blocks ++
      le 4 c.mountFreed.toNat ++ le 4 c.readErrors.toNat ++ le 4 (sat 32 s.poolFree)) s

/-- The key of a new operation of a command: `base` below `m`, and above it a number that no other of its opcode has. -/
def State.driveKey (s : State) (op base m : Nat) : Nat :=
  let used := (s.mbx.parked.filter fun c => c.opcode == op).map Parked.key ++
    (s.cs.ops.map fun o => match o.use with
      | .command k x => if k = op then [x] else []
      | _ => []).flatten ++ (s.fetch.inflight.filter fun e => e.user == .castCopy).map InFlight.key
  base + m * ((List.range (used.length + 1)).find? fun i => !used.contains (base + m * i)).getD 0

/-- Park a command on one drive operation. -/
def State.driveWait (s : State) (op base m : Nat) (steps : List DriveStep) : Ans × State :=
  (.park (s.driveKey op base m), s.addOp (.command op (s.driveKey op base m)) steps)

/-- CS_FORMAT. -/
def cmdCsFormat : Cmd where
  op := 0x0E02
  len := lenIs 4
  parks := fun _ => true
  run := fun _ p s =>
    if u16 p 0 ≠ 0x7196 then refuse cBadParam s
    else if (s.cs.state ≠ 2 ∧ s.cs.state ≠ 3) ∨ s.cs.table.any (fun x => s.clipBusy (clId x.2)) then refuse cState s
    else s.driveWait 0x0E02 0 1 (formatSteps s.cs.unit s.cs.blocks)

/-- CLIP_CREATE. -/
def cmdClipCreate : Cmd where
  op := 0x0E03
  len := lenIs 80
  parks := fun _ => true
  run := fun _ p s =>
    let id := u32 p 0
    let info := slice p 0x10 64
    if id = 0 ∨ id = 0xFFFFFFFF ∨ infoOk (byteAt p 4) info = false then refuse cBadParam s
    else if s.mounted = false then refuse cState s
    else if (s.clip id).isSome then refuse cBadParam s
    else
      match (List.range 4096).find? fun i => (s.clipAt i).isNone,
          allocate (freeRuns s.cs.blocks s.usedExtents) (ceilDiv (u64 p 8) blockBytes) with
      | some i, some ext => (s.setClip i (some (clipRecord id (byteAt p 4) (u64 p 8) ext info))).driveWait 0x0E03 i 4096 (recordSteps i)
      | _, _ => refuse cNoSpace s

/-- CLIP_WRITE. -/
def cmdClipWrite : Cmd where
  op := 0x0E04
  len := lenIs 24
  parks := fun _ => true
  run := fun _ p s => s.needMount (
    let len := u32 p 4
    let off := u64 p 8
    match s.clip (u32 p 0) with
    | none => refuse cBadParam s
    | some (i, r) =>
      if off % 4096 ≠ 0 ∨ 4194304 < len ∨ (len % 4096 ≠ 0 ∧ off + len ≠ clBytes r) ∨ clBytes r < off + len then refuse cBadParam s
      else if clSealed r then refuse cState s
      else s.driveWait 0x0E04 i 4096 (s.contentSteps true r off len (some (u64 p 0x10)) ++ [.flush]))

/-- CLIP_SEAL. -/
def cmdClipSeal : Cmd where
  op := 0x0E05
  len := lenIs 8
  parks := fun _ => true
  run := fun _ p s => s.needMount (match s.clip (u32 p 0) with
    | none => refuse cBadParam s
    | some (i, r) => s.driveWait 0x0E05 i 4096 (s.contentSteps false r 0 (clBytes r) none))

/-- CLIP_DELETE. -/
def cmdClipDelete : Cmd where
  op := 0x0E06
  len := lenIs 4
  parks := fun _ => true
  run := fun _ p s => s.needMount (match s.clip (u32 p 0) with
    | none => refuse cBadParam s
    | some (i, r) => if s.clipBusy (u32 p 0) then refuse cState s
      else s.driveWait 0x0E06 i 4096 (recordSteps i ++ (if freeSteps r = [] then [] else freeSteps r ++ [.flush])))

/-- CLIP_INFO. -/
def cmdClipInfo : Cmd where
  op := 0x0E07
  len := lenIs 2
  run := fun _ p s =>
    if 4095 < u16 p 0 then refuse cBadParam s
    else s.needMount (okWith ((s.clipAt (u16 p 0)).getD (zeros 128)) s)

/-- START_TICK as the boundaries to the start, or as already started with the boundaries since. -/
def State.playStart (s : State) (t : Nat) (p : Play) : Play :=
  if s.tickKind t = 1 then { p with startAt := s.tickDist t }
  else { p with started := true, sinceStart := (s.tk.tick - BitVec.ofNat 32 t).toNat }

/-- CLIP_PLAY. -/
def cmdClipPlay : Cmd where
  op := 0x0E08
  len := lenIs 16
  run := fun _ p s =>
    let l := byteAt p 0
    let mode := byteAt p 1
    if 7 < l ∨ 2 < mode ∨ (mode ≠ 2 ∧ inRange 2 16 (byteAt p 2) = false) then refuse cBadParam s
    else s.needMount (
      if mode = 2 then
        if (s.clip (u32 p 4)).isNone then refuse cBadParam s
        else
        let named := [s.cs.plays.getD l none, s.cs.playWait.getD l none].any fun q => match q with
          | some x => s.clipNamed x.clip
          | none => false
        if named then refuse cState s
        else ok { s with cs := { s.cs with
          plays := upd s.cs.plays l fun _ => none, playWait := upd s.cs.playWait l fun _ => none } }
      else match s.clip (u32 p 4) with
        | none => refuse cBadParam s
        | some (_, r) =>
          let bytes := byteAt p 2 * inFrameBytes (clInfo r)
          if clType r ≠ 1 ∨ inFrames (clInfo r) ≤ u32 p 0x0C then refuse cBadParam s
          else if clSealed r = false then refuse cState s
          else if s.poolFree < bytes then refuse cNoSpace s
          else
            let new := s.playStart (u32 p 8) ⟨u32 p 4, 0, 0, false, u32 p 0x0C, mode == 1, byteAt p 2, [], [], bytes⟩
            if (s.cs.plays.getD l none).isSome then
              ok { s with cs := { s.cs with playWait := upd s.cs.playWait l fun _ => some new } }
            else
              let s := { s with cs := { s.cs with plays := upd s.cs.plays l fun _ => some new } }
              ok (s.stageLayer l))

/-- CUE_CONTROL. -/
def cmdCueControl : Cmd where
  op := 0x0E09
  len := lenIs 12
  parks := fun p => byteAt p 1 == 1
  run := fun _ p s =>
    let k := byteAt p 0
    if 3 < k ∨ 1 < byteAt p 1 then refuse cBadParam s
    else s.needMount (
      if byteAt p 1 = 0 ∧ (s.clip (u32 p 4)).isNone then refuse cBadParam s
      else if byteAt p 1 = 0 then ok { s with cs := { s.cs with players := upd s.cs.players k fun _ => none } }
      else match s.clip (u32 p 4) with
        | none => refuse cBadParam s
        | some (_, r) =>
          if clType r ≠ 4 then refuse cBadParam s
          else if clSealed r = false ∨ (s.cs.players.getD k none).isSome then refuse cState s
          else
            let late := s.tickKind (u32 p 8) != 1
            let start := if late then 0 else s.tickDist (u32 p 8)
            let s := { s with cs := { s.cs with
              players := upd s.cs.players k fun _ => some ⟨u32 p 4, [], 0, start, late, 0, false⟩ } }
            s.driveWait 0x0E09 k 4 (s.contentSteps false r 0 (clBytes r) none))

/-- The ticks since the next entry of a player fell due, if it is due. -/
def Player.dueFor (p : Player) : Option Nat := match p.entries[p.next]? with
  | some (t, _) => if p.started ∧ t ≤ p.ticks then some (p.ticks - t) else none
  | none => none

/-- The player whose entry goes first: the one longest due, and of those due together the lowest (19 R423). -/
def State.cueFirst (s : State) : Option Nat :=
  let due := fun k => ((s.cs.players.getD k none).bind Player.dueFor)
  ([0, 1, 2, 3].filter fun k => (due k).isSome).foldl (fun (b : Option Nat) k => match b with
    | none => some k
    | some j => if (due j).getD 0 < (due k).getD 0 then some k else b) none

/-- The next entry of a player enters the Cumaslink mailbox, ready since the boundary. -/
def State.cueEnter (s : State) (k : Nat) (p : Player) (e : Rec) : State :=
  let new := if p.next + 1 < p.entries.length then some { p with next := p.next + 1 } else none
  ({ s with
    cs := { s.cs with players := upd s.cs.players k fun _ => new },
    epb := { s.epb with silentSince := s.now } }).clEnterAt (.cue k p.next) e none s.tk.start

/-- CUE_ENTRY_DUE: an entry of the named player is due, and the entry whose turn it is enters the Cumaslink mailbox (19 R423). -/
def State.cueDue (s : State) (k : Nat) : State :=
  match (s.cs.players.getD k none).bind Player.dueFor, s.cueFirst with
  | some _, some j => match s.cs.players.getD j none with
    | none => s
    | some p => s.cueEnter j p ((p.entries[p.next]?).getD (0, [])).2
  | _, _ => s

/-- CS_CONFIG (19 R424). -/
def execCsConfig (h : Hdr) (p : Rec) (s : State) : Out := done (s.command cmdCsConfig h p)
/-- CS_STATUS (19 R424). -/
def execCsStatus (h : Hdr) (p : Rec) (s : State) : Out := done (s.command cmdCsStatus h p)
/-- CS_FORMAT (19 R424). -/
def execCsFormat (h : Hdr) (p : Rec) (s : State) : Out := done (s.command cmdCsFormat h p)
/-- CLIP_CREATE (19 R417). -/
def execClipCreate (h : Hdr) (p : Rec) (s : State) : Out := done (s.command cmdClipCreate h p)
/-- CLIP_WRITE (19 R417). -/
def execClipWrite (h : Hdr) (p : Rec) (s : State) : Out := done (s.command cmdClipWrite h p)
/-- CLIP_SEAL (19 R417). -/
def execClipSeal (h : Hdr) (p : Rec) (s : State) : Out := done (s.command cmdClipSeal h p)
/-- CLIP_DELETE (19 R418). -/
def execClipDelete (h : Hdr) (p : Rec) (s : State) : Out := done (s.command cmdClipDelete h p)
/-- CLIP_INFO (19 R424). -/
def execClipInfo (h : Hdr) (p : Rec) (s : State) : Out := done (s.command cmdClipInfo h p)
/-- CLIP_PLAY (19 R419). -/
def execClipPlay (h : Hdr) (p : Rec) (s : State) : Out := done (s.command cmdClipPlay h p)
/-- CUE_CONTROL (19 R423). -/
def execCueControl (h : Hdr) (p : Rec) (s : State) : Out := done (s.command cmdCueControl h p)
/-- CS_MOUNT (19 R416). -/
def execCsMount (d : DriveImage) (s : State) : Out := done (s.mount d)
/-- NVME_COMPLETION (19 R411). -/
def execNvmeCompletion (place : Nat) (status : W16) (data : Rec) (s : State) : Out := done (s.nvmeDone place status data)
/-- NVME_LINK_LOSS (19 R424). -/
def execNvmeLinkLoss (s : State) : Out := done s.nvmeLost
/-- NVME_TRIP_RESET (23 R474). -/
def execNvmeTripReset (s : State) : Out := done s.nvmeTripReset
/-- DMA_TRANSFER_DONE (03 R71). -/
def execDmaTransferDone (n : Nat) (s : State) : Out :=
  done (s.returnTags 3 n).offerTags
/-- CUE_ENTRY_DUE (19 R423). -/
def execCueEntryDue (player : Nat) (s : State) : Out := done (s.cueDue player)

end Sys2Proof.Machine
end

