-- ==== Sys2Proof/Machine/Effect.lean ====
section
/-! DEFINITION. The effect pixel bus and its pattern engines (chapter 20). -/
namespace Sys2Proof.Machine

def epEnable (r : Rec) : Bool := bit (byteAt r 1) 0
def epIlkBlank (r : Rec) : Bool := bit (byteAt r 1) 1
def epFallback (r : Rec) : Bool := bit (byteAt r 1) 2
def epLength (r : Rec) : Nat := u16 r 4

def State.epbOut (s : State) (n : Nat) : EffectOut := at_ s.epb.outs n
def State.epbSet (s : State) (n : Nat) (f : EffectOut → EffectOut) : State :=
  { s with epb := { s.epb with outs := upd s.epb.outs n f } }

/-- tu of a frame and of its reset (20 R427, R428). -/
def epFrameTu (r : Rec) : Nat := epLength r * byteAt r 2 * 4000
def epResetTu (r : Rec) : Nat := u16 r 6 * tuUs

/-! ## Patterns (20 R430) -/

/-- Component x of pixel i, `tu` after the engine started. -/
def patternByte (r : Rec) (tu i x : Nat) : Byte :=
  let a := byteAt r (4 + x)
  match byteAt r 1 with
  | 1 =>
    let lo : Rat := byteAt r 0x0E
    let hi : Rat := byteAt r 0x0F
    let l := lo + (hi - lo) * (1 - cosTurn ((tu : Rat) / (u16 r 0x0C * tuMs))) / 2
    BitVec.ofInt 8 (roundRat (a * l / 255))
  | 2 =>
    let pos := (5 * (tu : Int) * i16 r 0x12).fdiv 2000000000
    let seg : Int := u16 r 0x10
    if ((i : Int) - pos) % (2 * seg) < seg then BitVec.ofNat 8 a else BitVec.ofNat 8 (byteAt r (8 + x))
  | _ => 0

/-- The pixels of a pattern frame. -/
def patternFrame (r : Rec) (tu n : Nat) : Sparse Byte :=
  spPut 0 [] 0 ((List.range n).map fun i => (List.range 4).map fun x => patternByte r tu i x).flatten

/-! ## Frames (20 R428 to R432) -/

/-- An output is silenced by the interlock. -/
def State.epbIlk (s : State) (n : Nat) : Bool := epIlkBlank (s.epbOut n).record && s.show_.ilkOff

/-- A frame starts now. -/
def State.epbSend (s : State) (n : Nat) : State :=
  s.epbSet n fun o => { o with
    sentAt := s.now, sending := some (s.now + epFrameTu o.record + epResetTu o.record), frames := o.frames + 1, cutOff := false }

/-- The one frame of zero pixels under the interlock. -/
def State.epbZero (s : State) (n : Nat) : State :=
  let o := s.epbOut n
  if epEnable o.record ∧ s.epbIlk n ∧ o.zeroSent = false ∧ o.sending = none ∧ s.mbx.fwState = 1 then
    (s.epbSet n fun o => { o with output := [], zeroSent := true }).epbSend n
  else s

/-- A frame in progress is cut off at its next bit boundary and followed by a reset; a zero frame that is cut off is still to be sent. -/
def State.epbCut (s : State) (n : Nat) : State :=
  s.epbSet n fun o => match o.sending with
    | none => o
    | some t =>
      let ends := t - epResetTu o.record
      if o.cutOff || decide (ends ≤ s.now) then o
      else { o with
        sending := some (o.sentAt + 500 * ceilDiv (s.now - o.sentAt) 500 + epResetTu o.record), cutOff := true, zeroSent := false }

/-- The interlock is deasserted (20 R432). -/
def State.epbInterlock (s : State) : State :=
  [0, 1, 2, 3].foldl (fun s n => if s.epbIlk n then (s.epbCut n).epbZero n else s) s

/-- The firmware stops: frames are cut off, the engines end (20 R431). -/
def State.epbHalt (s : State) : State :=
  let s := [0, 1, 2, 3].foldl State.epbCut s
  { s with epb := { s.epb with outs := s.epb.outs.map fun o => { o with running := false, startWait := none, stopWait := none } } }

/-- The reset after a frame is over. -/
def State.epbIdle (s : State) (n : Nat) : State :=
  match (s.epbOut n).sending with
  | none => s
  | some t => ((s.forward t).epbSet n fun o => { o with sending := none }).epbZero n

/-- EPB_FALLBACK. -/
def State.epbEvent (s : State) (n st reason : Nat) : State :=
  s.raiseB 0x0F01 n (st + 2 * reason + 256 * byteAt (s.epbOut n).pattern 1)

/-- The engine of an output stops at a boundary. -/
def State.epbStop (s : State) (n : Nat) : State := match (s.epbOut n).stopWait with
  | some r =>
    let t := s.epbSet n fun o => { o with stopWait := none, running := false }
    if (s.epbOut n).running then t.epbEvent n 0 r else t
  | none => s

/-- The engine of an output starts at a boundary, unless its pattern has become KIND 0; one that runs starts afresh (20 R431). -/
def State.epbStart (s : State) (n : Nat) : State := match (s.epbOut n).startWait with
  | some r =>
    if byteAt (s.epbOut n).pattern 1 = 0 then s.epbSet n fun o => { o with startWait := none }
    else (s.epbSet n fun o => { o with startWait := none, running := true, engineAt := s.now }).epbEvent n 1 r
  | none => s

/-- One output at a boundary: engine stops and starts, the waiting record, then a frame while it is idle. -/
def State.epbTick (s : State) (n : Nat) : State :=
  let s := (s.epbStop n).epbStart n
  let o := s.epbOut n
  if o.sending.isSome ∨ s.mbx.fwState ≠ 1 then s else
  let s := s.epbSet n fun o => { o with record := o.recWait.getD o.record, recWait := none }
  let o := s.epbOut n
  if epEnable o.record = false then s
  else if s.epbIlk n then s.epbZero n
  else if o.full then (s.epbSet n fun o => { o with output := o.pending, full := false }).epbSend n
  else if o.running ∧ byteAt o.pattern 1 ≠ 0 then
    (s.epbSet n fun o => { o with output := patternFrame o.pattern (s.now - o.engineAt) (epLength o.record) }).epbSend n
  else s

def State.epbBoundary (s : State) : State := [0, 1, 2, 3].foldl State.epbTick s

/-- FALLBACK_S of silence: the engine starts at the next boundary. -/
def State.epbSilence (s : State) (n : Nat) : State :=
  let o := s.epbOut n
  if 3 < n ∨ epFallback o.record = false ∨ byteAt o.pattern 1 = 0 ∨ o.running ∨ s.mbx.fwState ≠ 1 then s
  else (s.forward (s.epb.silentSince + u16 o.record 8 * tuS)).epbSet n fun o => { o with startWait := some 0, stopWait := none }

/-! ## Commands (20 R435) -/

/-- ORDER is a permutation; with 3 channels its last code is W. -/
def orderOk (ch ord : Nat) : Bool :=
  let l := (List.range 4).map fun i => bits ord (2 * i + 1) (2 * i)
  l.eraseDups.length == 4 && (ch != 3 || bits ord 7 6 == 3)

def epRecordOk (p : Rec) : Bool :=
  decide (byteAt p 0 ≤ 3) && inRange 3 4 (byteAt p 2) && orderOk (byteAt p 2) (byteAt p 3) && inRange 1 2048 (u16 p 4) &&
    inRange 280 1000 (u16 p 6) && inRange 1 3600 (u16 p 8)

/-- EPB_CONFIG. -/
def cmdEpbConfig : Cmd where
  op := 0x0F00
  len := lenIs 16
  run := fun _ p s => if epRecordOk p then ok (s.epbSet (byteAt p 0) fun o => { o with recWait := some p }) else refuse cBadParam s

/-- EPB_WRITE. -/
def cmdEpbWrite : Cmd where
  op := 0x0F01
  len := lenByCount16 8 4 4
  run := fun _ p s =>
    let first := u16 p 2
    let n := u16 p 4
    if byteAt p 0 ≤ 3 ∧ inRange 1 58 n ∧ first + n ≤ 2048 then
      ok (s.epbSet (byteAt p 0) fun o => { o with staging := spPut 0 o.staging (4 * first) (p.drop 8) })
    else refuse cBadParam s

/-- EPB_UPDATE. -/
def cmdEpbUpdate : Cmd where
  op := 0x0F02
  len := lenIs 4
  run := fun _ p s =>
    ok (([0, 1, 2, 3].filter fun n => bit (byteAt p 0) n).foldl (fun s n => s.epbSet n fun o =>
      { o with
        pending := o.staging, full := true, skipped := if o.full then o.skipped + 1 else o.skipped,
        stopWait := if o.running then some 2 else none, startWait := none }) s)

def patternOk (r : Rec) : Bool :=
  decide (byteAt r 0 ≤ 3) && decide (byteAt r 0x0E ≤ byteAt r 0x0F) && match byteAt r 1 with
    | 0 => true
    | 1 => inRange 100 60000 (u16 r 0x0C)
    | 2 => inRange 1 1024 (u16 r 0x10) && decide ((i16 r 0x12).natAbs ≤ 10000) && i16 r 0x12 != 0
    | _ => false

/-- EPB_PATTERN. -/
def cmdEpbPattern : Cmd where
  op := 0x0F03
  len := lenIs 32
  run := fun _ p s =>
    let r := p.drop 8
    let n := byteAt r 0
    if 2 < byteAt p 0 ∨ patternOk r = false then refuse cBadParam s
    else if byteAt p 0 = 1 ∧ byteAt r 1 = 0 then refuse cState s
    else ok (s.epbSet n fun o => match byteAt p 0 with
      | 0 => { o with pattern := r, stopWait := if o.running then some 1 else none, startWait := none }
      | 1 => { o with pattern := r, startWait := some 1, stopWait := none }
      | _ => { o with pattern := r })

/-- STATE of an output. -/
def State.epbState (s : State) (n : Nat) : Nat :=
  let o := s.epbOut n
  if epEnable o.record = false then 0 else if s.epbIlk n then 4 else if o.running then 3
  else if o.sending.isSome then 2 else 1

/-- EPB_STATUS. -/
def cmdEpbStatus : Cmd where
  op := 0x0F04
  len := lenIs 0
  run := fun _ _ s =>
    okWith (([0, 1, 2, 3].map fun n =>
      let o := s.epbOut n
      le 1 (s.epbState n) ++ le 1 (b2n o.full) ++ zeros 2 ++ le 4 o.frames.toNat ++ le 4 o.skipped.toNat).flatten) s

/-- INTERLOCK_DEASSERT (13 R295, 20 R432). -/
def execInterlockDeassert (s : State) : Out := done (if s.show_.ilkOff then s.interlockOff else s.interlockOff.epbInterlock)
/-- INTERLOCK_RESTORE (13 R295). -/
def execInterlockRestore (s : State) : Out := done s.interlockRun
/-- EPB_CONFIG (20 R433). -/
def execEpbConfig (h : Hdr) (p : Rec) (s : State) : Out := done (s.command cmdEpbConfig h p)
/-- EPB_WRITE (20 R429). -/
def execEpbWrite (h : Hdr) (p : Rec) (s : State) : Out := done (s.command cmdEpbWrite h p)
/-- EPB_UPDATE (20 R429). -/
def execEpbUpdate (h : Hdr) (p : Rec) (s : State) : Out := done (s.command cmdEpbUpdate h p)
/-- EPB_PATTERN (20 R431). -/
def execEpbPattern (h : Hdr) (p : Rec) (s : State) : Out := done (s.command cmdEpbPattern h p)
/-- EPB_STATUS (20 R435). -/
def execEpbStatus (h : Hdr) (p : Rec) (s : State) : Out := done (s.command cmdEpbStatus h p)
/-- EPB_OUTPUT_IDLE (20 R428). -/
def execEpbOutputIdle (n : Nat) (s : State) : Out := done (s.epbIdle n)
/-- EPB_SILENCE_EXPIRY (20 R431). -/
def execEpbSilenceExpiry (n : Nat) (s : State) : Out := done (s.epbSilence n)

end Sys2Proof.Machine
end

