-- ==== Sys2Proof/Machine/Security.lean ====
section
/-! DEFINITION. Identity, attestation, service sessions and OTP (21 R437 to R445, R453). -/
namespace Sys2Proof.Machine

/-! ## What the device reads of itself -/

/-- `n` bytes of a byte string, filled with zeros. -/
def fitBytes (n : Nat) (r : Rec) : Rec := (r ++ zeros n).take n

/-- The bytes of the flash from an address. -/
def State.flashRead (s : State) (addr n : Nat) : Rec := spRead 0xFF s.boot.flash addr n

/-- The flash address of an image slot (22 R463). -/
def slotBase (slot : Nat) : Nat := 0x1000000 * (slot + 1)

/-- A range of the running image's header. -/
def State.imageField (s : State) (off n : Nat) : Rec := match s.boot.slot with
  | some k => s.flashRead (slotBase k + off) n
  | none => zeros n

/-- The JTAG port is open. -/
def State.jtagOpen (s : State) : Bool := match s.sec.session with
  | some x => bit x.scope 1
  | none => false

/-! ## Attestation (21 R439) -/

/-- The 96-byte statement. -/
def State.statement (s : State) (nonce : Rec) : Rec :=
  le 4 0x54414A46 ++ le 2 1 ++ zeros 2 ++ le 8 Config.serial.toNat ++ fitBytes 32 nonce ++ s.imageField 0x0C 4 ++
    le 1 0xB1 ++ le 1 (maskOf [s.sec.session.isSome, s.jtagOpen, s.sec.owners.any fun o => o.enrolled]) ++ zeros 2 ++
    le 4 s.tk.tick.toNat ++ le 4 s.offset ++ s.imageField 0x20 32

/-- ATTEST: built and signed while it is parked. A second one meets BUSY, its RETRY_US a free value. -/
def cmdAttest : Cmd where
  op := 0x1002
  len := lenIs 32
  parks := fun _ => true
  run := fun _ _ s =>
    if s.mbx.parked.any fun c => c.opcode == 0x1002 then
      let (k, s) := s.takeFree
      (.reply cBusy (le 4 (Config.free k)), s)
    else (.park 0, s)

/-- What ATTEST answers. -/
def State.attestReply (s : State) (nonce : Rec) : Rec :=
  let st := s.statement nonce
  st ++ ecdsaSign devicePrivate st

/-! ## Identity (21 R453) -/

/-- IDENTITY_READ. -/
def cmdIdentityRead : Cmd where
  op := 0x1000
  len := lenIs 0
  run := fun _ _ s =>
    okWith (le 8 Config.serial.toNat ++ le 2 0xB1 ++ le 2 certificate.length ++ s.imageField 0x0C 4 ++
      s.imageField 0x10 1 ++ le 1 s.sec.secMin ++ le 1 (s.sec.fwRevoked % 16 + 16 * (leAt (s.imageField 0x11 1) 0 1 % 4)) ++
      le 1 (maskOf (s.sec.owners.map OwnerKey.enrolled ++ s.sec.owners.map OwnerKey.revoked)) ++
      le 4 (match s.sec.session with
        | some x => x.no.toNat
        | none => 0) ++ deviceKey) s

/-- CERT_READ. -/
def cmdCertRead : Cmd where
  op := 0x1001
  len := lenIs 4
  run := fun _ p s =>
    let n := u16 p 2
    if inRange 1 232 n ∧ u16 p 0 + n ≤ certificate.length then okWith (slice certificate (u16 p 0) n) s
    else refuse cBadParam s

/-! ## Sessions (21 R444, R445) -/

/-- SERVICE_CHALLENGE. The nonce is a free value. -/
def cmdServiceChallenge : Cmd where
  op := 0x1003
  len := lenIs 0
  run := fun _ _ s => match s.sec.lockUntil with
    | some t => (.reply cBusy (le 4 (ceilDiv (t - s.now) tuUs)), s)
    | none =>
      let (k, s) := s.takeFree
      let n := le 32 (Config.free k)
      okWith (n ++ le 8 Config.serial.toNat) { s with sec := { s.sec with nonce := some (n, s.now) } }

/-- The message that an owner signs (21 R444): it carries the byte SCOPE as it came. -/
def openMessage (nonce : Rec) (scope dur : Nat) : Rec :=
  nonce ++ le 8 Config.serial.toNat ++ le 1 scope ++ zeros 3 ++ le 4 dur

/-- SERVICE_OPEN. Only bits 0 and 1 of SCOPE have a meaning (21 R445); the others are reserved and
are ignored (00 R6). -/
def cmdServiceOpen : Cmd where
  op := 0x1004
  len := lenIs 72
  run := fun h p s =>
    let slot := byteAt p 0
    let scope := byteAt p 1 % 4
    let dur := u32 p 4
    let nonce := s.sec.nonce
    let s := { s with sec := { s.sec with nonce := none } }
    if 3 < slot ∨ inRange 60 86400 dur = false then refuse cBadParam s else
    match nonce with
    | none => refuse cState s
    | some (n, t) =>
      if s.sec.session.isSome ∨ t + 60 * tuS < s.now then refuse cState s
      else
        let o := at_ s.sec.owners slot
        if o.enrolled ∧ o.revoked = false ∧ ecdsaOk o.key (openMessage n (byteAt p 1) dur) (slice p 8 32) (slice p 0x28 32) then
          let no := s.sec.sessionNext
          let s := { s with sec := { s.sec with
            session := some ⟨no, viaCl h, slot, scope, s.now + dur * tuS⟩, sessionNext := no + 1, failures := 0 } }
          okWith (le 4 no.toNat) (s.raise 0x1001 (b2n (viaCl h)) (1 + 2 * scope + 256 * (no.toNat % 2 ^ 24)))
        else
          let f := s.sec.failures + 1
          let s := { s with sec := { s.sec with
            failures := f, lockUntil := if 5 ≤ f then some (s.now + 60 * tuS) else s.sec.lockUntil } }
          refuse cBadAuth (s.raise 0x1002 slot (f % 256))

/-- A session of the command's mailbox is open. -/
def State.sessionHere (s : State) (h : Hdr) : Bool := match s.sec.session with
  | some x => x.cl == viaCl h
  | none => false

/-- SERVICE_CLOSE. -/
def cmdServiceClose : Cmd where
  op := 0x1005
  len := lenIs 0
  run := fun h _ s => if s.sessionHere h then ok (s.endSession 1) else refuse cState s

/-- The session's DURATION is over. -/
def State.sessionExpiry (s : State) : State := match s.sec.session with
  | some x => (s.forward x.endsAt).endSession 0
  | none => s

/-- The nonce lapses after 60 s. -/
def State.nonceExpiry (s : State) : State := match s.sec.nonce with
  | some (_, t) =>
    let s := s.forward (t + 60 * tuS)
    { s with sec := { s.sec with nonce := none } }
  | none => s

/-- The 60 s of BUSY end. -/
def State.lockExpiry (s : State) : State := match s.sec.lockUntil with
  | some t =>
    let s := s.forward t
    { s with sec := { s.sec with lockUntil := none } }
  | none => s

/-! ## OTP (21 R442, R443) -/

/-- The owner slots that a waiting command of the opcode names: its programming has not ended, and the slot counts as
enrolled or revoked (assumption 135). -/
def State.ownersAhead (s : State) (opcode : Nat) : List Nat :=
  (s.mbx.parked.filter fun c => c.opcode == opcode).map fun c => byteAt c.payload 0

/-- SERVICE_KEY_ENROLL. -/
def cmdServiceKeyEnroll : Cmd where
  op := 0x1006
  len := lenIs 68
  parks := fun _ => true
  run := fun h p s =>
    if 3 < byteAt p 0 ∨ onCurve (p.drop 4) = false then refuse cBadParam s
    else if (s.sec.owners.any (fun o => o.enrolled) ∨ s.ownersAhead 0x1006 ≠ []) ∧ s.unlocked h = false then refuse cLocked s
    else if (at_ s.sec.owners (byteAt p 0)).enrolled ∨ byteAt p 0 ∈ s.ownersAhead 0x1006 then refuse cState s
    else (.park 0, s)

/-- SERVICE_KEY_REVOKE. -/
def cmdServiceKeyRevoke : Cmd where
  op := 0x1007
  len := lenIs 4
  parks := fun _ => true
  run := fun h p s =>
    let k := byteAt p 0
    if 3 < k then refuse cBadParam s
    else if s.unlocked h = false then refuse cLocked s
    else
      let o := at_ s.sec.owners k
      let left := (indices s.sec.owners fun x => x.enrolled && !x.revoked).filter fun i =>
        i != k && !(s.ownersAhead 0x1007).contains i
      if o.enrolled = false ∨ o.revoked ∨ k ∈ s.ownersAhead 0x1007 ∨ left = [] then refuse cState s
      else (.park 0, s)

/-- SECURITY_COMMIT. -/
def cmdSecurityCommit : Cmd where
  op := 0x1008
  len := lenIs 4
  parks := fun _ => true
  run := fun h p s =>
    if s.unlocked h = false then refuse cLocked s
    else if bit (byteAt p 1) (leAt (s.imageField 0x11 1) 0 1 % 4) then refuse cState s
    else (.park 0, s)

/-- OTP as it is after the programming of a parked command. -/
def State.otpWrite (s : State) (c : Parked) : State :=
  let p := c.payload
  let k := byteAt p 0
  let owner := fun (f : OwnerKey → OwnerKey) => { s with sec := { s.sec with owners := upd s.sec.owners k f } }
  match c.opcode with
  | 0x1006 => owner fun _ => ⟨true, false, p.drop 4⟩
  | 0x1007 => owner fun o => { o with revoked := true }
  | _ => { s with sec := { s.sec with
      secMin := if bit k 0 then max s.sec.secMin (leAt (s.imageField 0x10 1) 0 1) else s.sec.secMin,
      fwRevoked := (s.sec.fwRevoked ||| byteAt p 1 % 16) } }

/-- The programming of an OTP command is over: the reply, then the end of a session whose key is revoked. -/
def State.otpDone (s : State) (c : Parked) (good : Bool) : State :=
  if good = false then s.finish c cFault [] else
  let s := (s.otpWrite c).finish c cOk []
  match s.sec.session with
  | some x => if c.opcode = 0x1007 ∧ x.slot = byteAt c.payload 0 then s.endSession 5 else s
  | none => s

/-- IDENTITY_READ (21 R453). -/
def execIdentityRead (h : Hdr) (p : Rec) (s : State) : Out := done (s.command cmdIdentityRead h p)
/-- CERT_READ (21 R453). -/
def execCertRead (h : Hdr) (p : Rec) (s : State) : Out := done (s.command cmdCertRead h p)
/-- ATTEST (21 R439). -/
def execAttest (h : Hdr) (p : Rec) (s : State) : Out := done (s.command cmdAttest h p)
/-- SERVICE_CHALLENGE (21 R444). -/
def execServiceChallenge (h : Hdr) (p : Rec) (s : State) : Out := done (s.command cmdServiceChallenge h p)
/-- SERVICE_OPEN (21 R444). -/
def execServiceOpen (h : Hdr) (p : Rec) (s : State) : Out := done (s.command cmdServiceOpen h p)
/-- SERVICE_CLOSE (21 R445). -/
def execServiceClose (h : Hdr) (p : Rec) (s : State) : Out := done (s.command cmdServiceClose h p)
/-- SERVICE_KEY_ENROLL (21 R443). -/
def execServiceKeyEnroll (h : Hdr) (p : Rec) (s : State) : Out := done (s.command cmdServiceKeyEnroll h p)
/-- SERVICE_KEY_REVOKE (21 R443). -/
def execServiceKeyRevoke (h : Hdr) (p : Rec) (s : State) : Out := done (s.command cmdServiceKeyRevoke h p)
/-- SECURITY_COMMIT (21 R442). -/
def execSecurityCommit (h : Hdr) (p : Rec) (s : State) : Out := done (s.command cmdSecurityCommit h p)
/-- SERVICE_SESSION_EXPIRY (21 R445). -/
def execServiceSessionExpiry (s : State) : Out := done s.sessionExpiry
/-- SERVICE_NONCE_EXPIRY (21 R444). -/
def execServiceNonceExpiry (s : State) : Out := done s.nonceExpiry
/-- AUTH_LOCKOUT_EXPIRY (21 R444). -/
def execAuthLockoutExpiry (s : State) : Out := done s.lockExpiry
/-- DEBUGGER_HALT: on the opened JTAG port only (21 R445). -/
def execDebuggerHalt (halted : Bool) (s : State) : Out :=
  done (if s.jtagOpen then { s with sec := { s.sec with halted := halted } } else s)

end Sys2Proof.Machine
end

