-- ==== Sys2Proof/Machine/Cells.lean ====
section
/-! DEFINITION. The cells of DUMP slots (09 R203 to R206, 10 R225, 16 R338, R339): who gets a cell, and what it does. -/
namespace Sys2Proof.Machine

/-- The instant at which the next cell opens: in the DUMP slot that runs, while it has one left; one cell per 10 µs while the
sequencer is stopped (09 R203, R208). -/
def State.cellOpens (s : State) : Option Nat :=
  if s.chi.sequencing = false then some (max s.now s.diag.cellNext)
  else match s.tk.slot with
    | none => none
    | some i =>
      let k := at_ s.com.live.slots i
      if k.type = 2 ∧ s.diag.cell < cellsOf k.dur then some (s.tk.start + s.slotOffset i + 200 + 1600 * s.diag.cell) else none

/-- Charge of the pulses of a cell, counted in TICK_DUMP as well; a channel that is disabled or held off counts none (08 R172, R191,
R192). -/
def State.cellCharge (s : State) (m : CellMeas) : State :=
  m.charge.foldl (fun s x =>
    if x.1 < 192 ∧ s.enabled x.1 ∧ s.chanDead x.1 = false then s.addCharge x.1 ⟨x.2, x.2, 0, 0, 0⟩ else s) s

/-- The work comes from precedence 1 or 2 of 09 R205, which a slice never displaces. -/
def State.urgent (s : State) (w : CellWork) : Bool := match w with
  | .test _ => true
  | .neighbour c _ => !(at_ s.diag.chans c).judged.isEmpty
  | .none => false

/-- A slice of an owed unit (16 R339). -/
def State.sliceCell (s : State) (t j : Nat) (m : CellMeas) : State :=
  let s := { s with diag := { s.diag with sliceUsed := true }, cal := { s.cal with slices := s.cal.slices + 1 } }
  s.calCell t j m

/-- An emitter cell with its patina (10 R225, 21 R448). -/
def State.emitterWork (s : State) (t c : Nat) (m : CellMeas) : State :=
  let good := s.emitAccepted c m
  let s := s.cellPulse t (ccEmit s.con.cfg) c m
  let s := ({ s with diag := { s.diag with emitterUsed := true } }).emitterCell c m
  if good then s.patinaEmitter c else s

/-- Who takes the cell: diagnostics of precedence 1 and 2, an owed slice, precedence 3 and 4, an emitter cell, which needs a DUMP slot
(10 R225), a due unit. -/
def State.cellRun (s : State) (t : Nat) (m : CellMeas) : State :=
  let w := s.cellWork
  match (if s.urgent w ∨ s.diag.sliceUsed then none else s.calOwed t) with
  | some j => s.sliceCell t j m
  | none => match s.diagCell t m with
    | (true, s) => s
    | (false, s) => match (if s.diag.emitterUsed ∨ s.chi.sequencing = false then none else s.nextEmitter) with
      | some c => s.emitterWork t c m
      | none => match s.calNext t with
        | some j => s.calCell t j m
        | none => s

/-- DIAG_CELL, where a cell opens. A cell cut short, or while every sink is held off, does nothing (09 R213). -/
def State.cell (s : State) (m : CellMeas) : State := match s.cellOpens with
  | none => s
  | some t =>
    let s' := s.forward (t + 600)
    let s' := if m.cut || s'.sinksHeld then s' else (s'.cellCharge m).cellRun t m
    { s' with diag := { s'.diag with cell := s.diag.cell + 1, cellNext := t + 4000 } }

/-- DIAG_CELL (09 R203). -/
def execDiagCell (m : CellMeas) (s : State) : Out := done (s.cell m)

end Sys2Proof.Machine
end

