-- ==== Sys2Proof/Machine/Chisel.lean ====
section
/-! DEFINITION. Casts and plinth (chapter 06): the choice of the cast in force, what protects a slot, and the commands. -/
namespace Sys2Proof.Machine

/-! ## Which slots are in use (06 R127) -/

/-- A slot that a live or pending configuration, the tick or a pending CAST_SWITCH names. -/
def State.slotInUse (s : State) (k : Nat) : Bool :=
  let names := fun (c : Cfg) => c.activeCast == k || c.fallbackCast == k
  (s.chi.castLive && names s.com.live) || s.chi.inForce == k || s.chi.switch_ == some k ||
    (s.com.next.toList ++ s.com.later.toList).any fun p => names p.cfg

/-! ## The cast in force (06 R125, R137) -/

/-- A choice of cast: its slot, 0xFF for none, and the arrays held dark. -/
structure CastChoice where
  cast : Nat
  dark : List Nat
  deriving DecidableEq, Repr, Inhabited

/-- The arrays a cast shows on which it does not fit. -/
def misfits (e : CastEnv) (k : Nat) : List Nat :=
  fourArrays.filter fun a => (e.cast k).shows a && !castFits e (e.cast k) a

/-- The choice of 06 R137, before R125. -/
def chooseCast (e : CastEnv) (admitted : Bool) : CastChoice :=
  if e.cfg.hasPic = false ∨ admitted = false then ⟨0xFF, []⟩ else
  let act := e.cfg.activeCast
  let fb := e.cfg.fallbackCast
  if misfits e act = [] then ⟨act, []⟩
  else if fb ≠ 0xFF ∧ misfits e fb = [] then ⟨fb, []⟩
  else
    let k := if fb ≠ 0xFF then fb else act
    ⟨k, misfits e k⟩

/-- The front frame holds every primary of a cast at its depth at least (06 R125). -/
def State.depthOk (s : State) (k : Nat) : Bool :=
  (List.range 8).all fun p => decide ((s.cast k).depth.getD p 0 ≤ s.chi.frontDepth.getD p 0)

/-- The choice after R125, and whether R125 decided it. `dark` tells the dark tick that follows a mode change. -/
def State.castHeld (s : State) (e : CastEnv) (c : CastChoice) (dark : Bool) : CastChoice × Bool :=
  if c.cast = 0xFF ∨ dark ∨ s.depthOk c.cast then (c, false)
  else if s.chi.inForce ≠ 0xFF then (⟨s.chi.inForce, misfits e s.chi.inForce⟩, true)
  else (⟨0xFF, fourArrays.filter (s.cast c.cast).shows⟩, true)

/-- The environment of the live configuration and source set. -/
def State.liveEnv (s : State) : CastEnv := s.castEnv s.com.live s.src.live

/-! ## Commands (06 R141) -/

/-- The bytes of a slot. -/
def slotBytes : Nat := 32864

/-- CAST_WRITE. -/
def cmdCastWrite : Cmd where
  op := 0x0480
  len := lenByField 8 4
  run := fun _ p s =>
    let k := byteAt p 0
    let o := u16 p 2
    let n := u16 p 4
    if 15 < k ∨ inRange 1 232 n = false ∨ slotBytes < o + n then refuse cBadParam s
    else if s.slotInUse k then refuse cState s
    else ok { s with chi := { s.chi with slots := upd s.chi.slots k fun m => spPut 0 m o (slice p 8 n) } }

/-- CAST_READ. -/
def cmdCastRead : Cmd where
  op := 0x0481
  len := lenIs 6
  run := fun _ p s =>
    let k := byteAt p 0
    let o := u16 p 2
    let n := u16 p 4
    if 15 < k ∨ inRange 1 240 n = false ∨ slotBytes < o + n then refuse cBadParam s
    else okWith (spRead 0 (at_ s.chi.slots k) o n) s

/-- CAST_SELECT changes the maquette. -/
def cmdCastSelect : Cmd where
  op := 0x0482
  len := lenIs 4
  run := fun _ p s =>
    let a := byteAt p 0
    let f := byteAt p 1
    if 15 < a ∨ (15 < f ∧ f ≠ 0xFF) ∨ a = f then refuse cBadParam s
    else ok { s with com := { s.com with maq := { s.com.maq with activeCast := a, fallbackCast := f } } }

/-- The failures of a cast that CAST_SWITCH would make active: its own checks, and SHAPE of the live fallback. -/
def State.switchFails (s : State) (k : Nat) : List CastFail :=
  let e := s.liveEnv
  let fb := s.com.live.fallbackCast
  castFails e (s.cast k) none ++ (if fb = 0xFF then [] else failShape e (s.cast fb) k)

/-- CAST_SWITCH (06 R138). -/
def cmdCastSwitch : Cmd where
  op := 0x0483
  len := lenIs 4
  run := fun _ p s =>
    let k := byteAt p 0
    if 15 < k then refuse cBadParam s
    else if s.commitPending ∨ s.chi.switch_.isSome ∨ k = s.com.live.fallbackCast then refuse cState s
    else
      let fs := s.switchFails k
      let rep := castReport s.liveEnv (s.cast k) fs
      if fs ≠ [] then (.reply cOverBudget rep, s)
      else if s.chi.plinth ∧ s.depthOk k = false then refuse cState s
      else okWith (rep ++ s.nextTick) { s with chi := { s.chi with switch_ := some k } }

/-- The source set that a commit would take (08 R183). -/
def State.commitSet (s : State) : SourceSet := s.src.bound.getD s.src.live

/-- CAST_CHECK against the maquette. -/
def cmdCastCheck : Cmd where
  op := 0x0484
  len := lenIs 4
  run := fun _ p s =>
    let k := byteAt p 0
    let role := byteAt p 1
    if 15 < k ∨ 1 < role then refuse cBadParam s
    else
      let e := s.castEnv s.com.maq s.commitSet
      let fs := castFails e (s.cast k) (if role = 1 then some s.com.maq.activeCast else none)
      (.reply (if fs = [] then cOk else cOverBudget) (castReport e (s.cast k) fs), s)

/-- CAST_LOAD_CLIP: the clip is staged by a drive read, then copied with POINT tags (06 R141, 19 R422). -/
def cmdCastLoadClip : Cmd where
  op := 0x0485
  len := lenIs 8
  parks := fun _ => true
  run := fun _ p s =>
    let k := byteAt p 0
    if 15 < k then refuse cBadParam s
    else s.needMount (match s.clip (u32 p 4) with
      | none => refuse cBadParam s
      | some (_, r) =>
        if clType r ≠ 3 ∨ slotBytes < clBytes r then refuse cBadParam s
        else if clSealed r = false ∨ s.slotInUse k then refuse cState s
        else s.driveWait 0x0485 k 16 (s.contentSteps false r 0 (clBytes r) none))

/-- PLINTH_ENTER (06 R139). -/
def cmdPlinthEnter : Cmd where
  op := 0x0486
  len := lenIs 0
  run := fun _ _ s =>
    if s.commitPending ∨ s.chi.plinth ∨ s.chi.darkTick then refuse cState s
    else okWith s.nextTick { s with chi := { s.chi with plinthWait := some (s.chi.plinthWait.getD 0) } }

/-- CHISEL_STATUS. -/
def cmdChiselStatus : Cmd where
  op := 0x0487
  len := lenIs 0
  run := fun _ _ s =>
    okWith (le 1 s.com.live.activeCast ++ le 1 s.com.live.fallbackCast ++ le 1 s.chi.inForce ++ le 1 s.chi.dark ++
      le 1 (b2n s.chi.plinth) ++ le 1 s.com.maq.activeCast ++ le 1 s.com.maq.fallbackCast ++ zeros 1 ++
      le 2 (maskOf ((List.range 16).map s.slotValid)) ++ zeros 2 ++ le 4 s.chi.frontTick.toNat ++
      (s.chi.frontDepth.map fun d => le 1 d).flatten ++ le 4 s.chi.changes.toNat) s

/-! ## The copy of a cast clip -/

/-- The bytes of a cast copy that have landed. -/
def State.copyOf (s : State) (key : Nat) : Sparse Byte := match s.chi.copies.find? fun x => x.1 == key with
  | some x => x.2
  | none => []

/-- The first n bytes of a slot replaced by those of a copy. -/
def putCopy (m c : Sparse Byte) (n : Nat) : Sparse Byte := spPut 0 m 0 (spRead 0 c 0 n)

/-- A read of a cast copy has landed or failed; the last one puts the cast into the slot, and the reply follows. A copy that fails
leaves the slot as it was. A slot that has come into use while the copy runs ends
it with FAULT: the spec states only the check at the take (DESIGN CHOICE, assumption 124). -/
def State.castLanded (s : State) (good : Bool) (ofs : Nat) (data : Rec) : State :=
  match s.readDone .castCopy with
  | (none, s) => s
  | (some e, s) =>
    let k := e.key % 16
    let good := good && !s.slotInUse k
    let land := fun (x : Nat × Sparse Byte) => if x.1 = e.key ∧ good then (x.1, spPut 0 x.2 ofs (data.take (slotBytes - ofs))) else x
    let s := { s with chi := { s.chi with copies := s.chi.copies.map land } }
    let drop_ := fun (s : State) => { s with chi := { s.chi with copies := s.chi.copies.filter fun x => x.1 != e.key } }
    match s.opCommand 0x0485 e.key with
    | none => drop_ s
    | some c =>
      if good = false then
        let stop := fun (x : InFlight) => if x.user == .castCopy && x.key == e.key then { x with left := 0 } else x
        let s := { s with fetch := { s.fetch with inflight := s.fetch.inflight.map stop } }
        (drop_ s).finish c cFault []
      else if e.tags + e.left = 0 then
        let n := match s.clip (u32 c.payload 4) with
          | some (_, r) => min slotBytes (clBytes r)
          | none => 0
        let s := { s with chi := { s.chi with slots := upd s.chi.slots k fun m => putCopy m (s.copyOf e.key) n } }
        (drop_ s).finish c cOk []
      else s

/-- CAST_WRITE (06 R127). -/
def execCastWrite (h : Hdr) (p : Rec) (s : State) : Out := done (s.command cmdCastWrite h p)
/-- CAST_READ (06 R141). -/
def execCastRead (h : Hdr) (p : Rec) (s : State) : Out := done (s.command cmdCastRead h p)
/-- CAST_SELECT (06 R136). -/
def execCastSelect (h : Hdr) (p : Rec) (s : State) : Out := done (s.command cmdCastSelect h p)
/-- CAST_SWITCH (06 R138). -/
def execCastSwitch (h : Hdr) (p : Rec) (s : State) : Out := done (s.command cmdCastSwitch h p)
/-- CAST_CHECK (06 R141). -/
def execCastCheck (h : Hdr) (p : Rec) (s : State) : Out := done (s.command cmdCastCheck h p)
/-- CAST_LOAD_CLIP (06 R141). -/
def execCastLoadClip (h : Hdr) (p : Rec) (s : State) : Out := done (s.command cmdCastLoadClip h p)
/-- PLINTH_ENTER (06 R139). -/
def execPlinthEnter (h : Hdr) (p : Rec) (s : State) : Out := done (s.command cmdPlinthEnter h p)
/-- CHISEL_STATUS (06 R142). -/
def execChiselStatus (h : Hdr) (p : Rec) (s : State) : Out := done (s.command cmdChiselStatus h p)

end Sys2Proof.Machine
end

