-- ==== Sys2Proof/Machine/Commit.lean ====
section
/-! DEFINITION. Admission (02 R47, R48) and commits (chapter 04): the commands, the buffers a configuration names and the
discard of what is pending. -/
namespace Sys2Proof.Machine

/-! ## Admission (02 R47) -/

/-- RESERVE_TU. -/
def Cfg.reserve (c : Cfg) : Nat := max 8000 (ceilDiv (2 * baseTick c.mode.toNat) 1000)
def Cfg.dumpSum (c : Cfg) : Nat := ((c.slots.filter fun k => k.type == 2).map Slot.dur).sum

/-- SUM. -/
def sumOk (c : Cfg) : Bool :=
  byteAt c.armature 0 == c.mode.toNat && c.slotSum == u32 c.armature 4 && u32 c.armature 4 == baseTick c.mode.toNat

/-- Slots that break 02 R46: where the PTH state changes, the second slot is a GUARD of PTH_SETTLE or more that carries
the state of the slot after it. -/
def guardBad (c : Cfg) : List Nat :=
  let l := c.slots
  let n := l.length
  (List.range n).filter fun i =>
    let a := at_ l ((i + n - 1) % n)
    let b := at_ l i
    a.pth != b.pth && !(b.type == 3 && decide (u32 c.armature 8 ≤ b.dur) && b.pth == (at_ l ((i + 1) % n)).pth)

/-- A slot that SLOT admits by itself. A head counts as configured while it is not OFF, which the spec does not define (DESIGN
CHOICE, assumption 123). -/
def State.slotOk (s : State) (k : Slot) : Bool :=
  decide (400 ≤ k.dur) && match k.type with
    | 0 => fourArrays.all fun a => !bit k.units a || decide (0 < s.laneCount a)
    | 1 => [0, 1, 2, 3].all fun n => !bit k.units n || (at_ s.heads n).state != 0
    | 2 => k.units == 0
    | 3 => k.units == 0
    | _ => false

/-- Slots that fail SLOT. -/
def State.slotBad (s : State) (c : Cfg) : List Nat := indices c.slots fun k => !s.slotOk k

/-- The layers with SOURCE 2 meet 03 R58 and 19 R419; the reserved bits of a FORMAT are not compared (00 R6). -/
def State.clipsOk (s : State) (c : Cfg) : Bool :=
  let ls := (indices c.layers fun d => lyEnable d && lySource d == 2)
  let info := fun l => match s.clip (lyClip (at_ c.layers l)) with
    | some (_, r) => clInfo r
    | none => []
  let one := fun l =>
    let d := at_ c.layers l
    match s.clip (lyClip d) with
    | none => false
    | some (_, r) =>
      let i := clInfo r
      clSealed r && clType r == 1 && inFormat i % 2048 == lyFormat d % 2048 && inBufW i == lyBufW d && inBufH i == lyBufH d &&
        [s.cs.plays.getD l none, s.cs.playWait.getD l none].any fun p => match p with
          | some x => x.clip == lyClip d
          | none => false
  let (k, n) := cadence c.mode.toNat
  let rate : Rat := (ls.map fun l => (400 * inFrameBytes (info l) * k : Rat) / (max 1 (inHold (info l)) * n : Nat)).sum
  ls.all one && decide (rate ≤ s.cs.readBudget)

/-- The casts that admission checks, with the active cast that a fallback is checked against (06 R136). -/
def Cfg.castsChecked (c : Cfg) : List (Nat × Option Nat) :=
  if c.hasPic then
    (c.activeCast, none) :: if c.fallbackCast = 0xFF then [] else [(c.fallbackCast, some c.activeCast)]
  else []

/-- The checks of R47 in the order of their bits: whether each fails. -/
def State.admission (s : State) (c : Cfg) (set : SourceSet) : List Bool :=
  let s := { s with src := { s.src with live := set } }
  let e := s.castEnv c set
  let fails := (c.castsChecked.map fun x => castFails e (s.cast x.1) x.2).flatten
  let n := byteAt c.armature 1
  [!sumOk c, decide (c.dumpSum < c.reserve), !c.slots.any fun k => k.type == 2 && decide (3200 ≤ k.dur),
    !(guardBad c).isEmpty, !inRange 1 64 n || !(s.slotBad c).isEmpty, fails.any fun f => f.check != 9,
    decide (1000 < c.fetchLoad) || !s.clipsOk c, !c.tagsOk,
    c.castsChecked.any fun x => !storeOk c.mode.toNat (s.cast x.1).planeBits, !s.beamOk c]

/-- FIRST_BAD_SLOT. -/
def State.firstBadSlot (s : State) (c : Cfg) : Nat :=
  let bad := guardBad c ++ s.slotBad c
  let n := byteAt c.armature 1
  if n = 0 then 0
  else match (List.range 64).find? fun i => bad.contains i with
    | some i => i
    | none => if 64 < n then 64 else 0xFFFF

/-- The budget report (02 R48). -/
def State.budgetReport (s : State) (c : Cfg) (set : SourceSet) : Rec :=
  let e := s.castEnv c set
  le 4 (maskOf (s.admission c set)) ++ le 4 (baseTick c.mode.toNat) ++ le 4 c.slotSum ++ le 4 c.dumpSum ++ le 4 c.reserve ++
    (fourArrays.map fun a => le 2 (if c.hasPic then plLoad e (s.cast c.activeCast) a else 0)).flatten ++
    le 2 (sat 16 c.fetchLoad) ++ le 2 (sat 16 c.tagLoad) ++ le 2 (s.firstBadSlot c) ++ zeros 2

def State.admitted (s : State) (c : Cfg) (set : SourceSet) : Bool := (s.admission c set).all fun f => !f

/-- ADMISSION_QUERY. -/
def cmdAdmissionQuery : Cmd where
  op := 0x0206
  len := lenIs 0
  run := fun _ _ s =>
    (.reply (if s.admitted s.com.maq s.commitSet then cOk else cOverBudget) (s.budgetReport s.com.maq s.commitSet), s)

/-! ## Commits (04 R83 to R86) -/

/-- The compose line at an offset of the tick. -/
def State.lineAt (s : State) (ofs : Nat) : Nat := ((ofs + 1) * vTotal s.liveMode - 1) / s.tk.len

/-- The take instant lies at or after the start of the latch line (04 R84). -/
def State.isLate (s : State) : Bool := decide (lineOffset s.liveMode s.tk.len (latchLine s.liveMode) ≤ s.offset)

/-- The commit number after one: the value 0 is never taken. -/
def nextCommitNo (n : W32) : W32 := if n = 0xFFFFFFFF then 1 else n + 1

/-- Commands are taken one at a time, so that no two commits share a take instant (04 R82): one that would be taken at the instant
of the last is taken 1 tu later. -/
def State.commitTake (s : State) : State :=
  let s := match s.com.takenAt with
    | some t => s.forward (t + 1)
    | none => s
  { s with com := { s.com with takenAt := some s.now } }

/-- An admitted commit waits for its target boundary; one already waiting for it is replaced (04 R83 to R85), and its copy of the
tables overwritten (05 R118); the copy corrects and counts what errors of one bit it reads (05 R112). -/
def State.acceptCommit (s : State) : State :=
  let no := s.com.commitNext
  let late := s.isLate
  let p : Pending := ⟨no, s.com.maq, s.src.bound, s.src.bindNo⟩
  let old := if late then s.com.later.isSome else s.com.next.isSome
  let s := { s with
    com := { s.com with
      commitNext := nextCommitNo no, accepted := s.com.accepted + 1,
      lateCount := if late then s.com.lateCount + 1 else s.com.lateCount,
      replaced := if old then s.com.replaced + 1 else s.com.replaced,
      next := if late then s.com.next else some p, later := if late then some p else s.com.later },
    col := { s.col with
      marks := (s.col.marks.filter fun (m : Mark) => m.copy != b2n late) ++
        (s.col.marksIn 2 true).map fun (w : Nat × Nat) => Mark.mk (b2n late) true w.1 w.2
      corrected := s.col.corrected + BitVec.ofNat 32 (s.col.marksIn 2 false).length } }
  s.raiseIf late 0x0305 0 (no.toNat % 65536 + 65536 * (s.lineAt s.offset % 65536))

/-- COMMIT. -/
def cmdCommit : Cmd where
  op := 0x0380
  len := lenIs 0
  run := fun _ _ s =>
    let s := s.commitTake
    let rep := s.budgetReport s.com.maq s.commitSet
    if s.admitted s.com.maq s.commitSet then
      let late := s.isLate
      (.reply (if late then cLate else cOk) (rep ++ le 4 s.com.commitNext.toNat ++ le 4 s.tk.tick.toNat ++ le 4 s.offset ++
        le 4 (s.tk.tick + if late then 2 else 1).toNat), s.acceptCommit)
    else (.reply cOverBudget rep, { s with com := { s.com with refused := s.com.refused + 1 } })

/-- Everything pending is discarded at a processor fault or a trip (06 R140, 04 R87, 08 R184). -/
def State.discardPending (s : State) : State :=
  let n := b2n s.com.next.isSome + b2n s.com.later.isSome
  { s with
    com := { s.com with next := none, later := none, replaced := s.com.replaced + BitVec.ofNat 32 n },
    col := { s.col with marks := s.col.marks.filter fun m => decide (2 ≤ m.copy) },
    chi := { s.chi with switch_ := none }, src := { s.src with apply := none, bound := none } }

/-! ## Buffers (04 R88) -/

/-- The buffer a descriptor names, if it names a host buffer. A plane that the FORMAT does not use counts as address 0, so that a
descriptor that uses it at address 0 and one that does not use it name one buffer where the rest matches: the spec does not say whether
they do (DESIGN CHOICE, assumption 122). -/
def bufferOf (d : Rec) : Option Buffer :=
  if lyEnable d = false ∨ 1 < lySource d then none else
  let use := fun k a => if (fmPlanes (lyFormat d)).contains k then a else 0
  some ⟨lySource d, lyAddrY d, use 1 (lyAddrC d), use 2 (lyAddrCr d), use 3 (lyAddrA d)⟩

def Cfg.names (c : Cfg) (b : Buffer) : Bool := c.layers.any fun d => bufferOf d == some b

/-- A record of the retirement log (04 R91). -/
def retiredBytes (r : Retired) : Rec :=
  le 4 r.seq.toNat ++ le 1 r.use.layer ++ le 1 r.use.buf.source ++ zeros 2 ++ le 4 r.use.lastTick.toNat ++
    le 4 r.use.commitNo.toNat ++ le 8 r.use.buf.addrY ++ le 8 r.use.buf.addrC ++ le 8 r.use.buf.addrCr ++ le 8 r.use.buf.addrA

/-! ## Commands (04 R100) -/

/-- The copy of the live tables into the maquette: a single-bit error is corrected and counted as its word is read, a word with a
double-bit error is copied as it is (05 R112; DESIGN CHOICE, assumption 126). -/
def ColourUnit.resync (u : ColourUnit) : ColourUnit :=
  { u with
    marks := (u.marks.filter fun (m : Mark) => m.copy != 2) ++ u.badTable.map fun (w : Nat × Nat) => Mark.mk 2 true w.1 w.2
    corrected := u.corrected + BitVec.ofNat 32 u.softTable.length }

/-- MAQUETTE_RESYNC. -/
def cmdMaquetteResync : Cmd where
  op := 0x0381
  len := lenIs 0
  run := fun _ _ s => ok { s with com := { s.com with maq := s.com.live }, col := s.col.resync }

/-- COMMIT_STATUS. -/
def cmdCommitStatus : Cmd where
  op := 0x0382
  len := lenIs 0
  run := fun _ _ s =>
    let c := s.com
    let no := fun (p : Option Pending) => match p with
      | some x => x.no.toNat
      | none => 0
    okWith (([c.liveNo.toNat, no c.next, no c.later, c.accepted.toNat, c.lateCount.toNat, c.replaced.toNat, c.refused.toNat,
      c.retSeq.toNat].map (le 4)).flatten) s

/-- RETIRE_READ. -/
def cmdRetireRead : Cmd where
  op := 0x0383
  len := lenIs 8
  run := fun _ p s =>
    let n := byteAt p 4
    let oldest := s.com.retSeq - BitVec.ofNat 32 s.com.log.length
    let d := (BitVec.ofNat 32 (u32 p 0) - oldest).toNat
    let head := le 4 oldest.toNat ++ le 4 s.com.retSeq.toNat
    if inRange 1 4 n = false then refuse cBadParam s
    else if 2 ^ 31 < d then (.reply cState head, s)
    else okWith (head ++ ((slice s.com.log d n).map retiredBytes).flatten) s

/-- COMPOSE_EVENT_SET. -/
def cmdComposeEventSet : Cmd where
  op := 0x0384
  len := lenIs 4
  run := fun _ p s => ok { s with com := { s.com with composeWait := some (u16 p 0, bits (byteAt p 2) 1 0) } }

/-- FREEZE_CONFIG. -/
def cmdFreezeConfig : Cmd where
  op := 0x0385
  len := lenIs 4
  run := fun _ p s =>
    if 3 < byteAt p 0 then refuse cBadParam s
    else ok { s with com := { s.com with freezeWait := some (byteAt p 0, byteAt p 1) } }

/-- SIGNATURE_READ. -/
def cmdSignatureRead : Cmd where
  op := 0x0386
  len := lenIs 0
  run := fun _ _ s =>
    okWith (le 4 s.com.frameTick.toNat ++ (s.com.watch.map fun w => le 4 w.last.toNat).flatten ++
      (s.com.watch.map fun w => le 1 (min 255 w.count)).flatten ++ zeros 3) s

/-- FENCE_READ. -/
def cmdFenceRead : Cmd where
  op := 0x0387
  len := lenIs 0
  run := fun _ _ s =>
    okWith (le 4 s.com.fenceTick.toNat ++ (s.com.fenceLast.map fun v => le 8 v.1.toNat ++ le 8 v.2.toNat).flatten) s

/-- ADMISSION_QUERY (02 R48). -/
def execAdmissionQuery (h : Hdr) (p : Rec) (s : State) : Out := done (s.command cmdAdmissionQuery h p)
/-- COMMIT (04 R83). -/
def execCommit (h : Hdr) (p : Rec) (s : State) : Out := done (s.command cmdCommit h p)
/-- MAQUETTE_RESYNC (04 R81). -/
def execMaquetteResync (h : Hdr) (p : Rec) (s : State) : Out := done (s.command cmdMaquetteResync h p)
/-- COMMIT_STATUS (04 R100). -/
def execCommitStatus (h : Hdr) (p : Rec) (s : State) : Out := done (s.command cmdCommitStatus h p)
/-- RETIRE_READ (04 R91). -/
def execRetireRead (h : Hdr) (p : Rec) (s : State) : Out := done (s.command cmdRetireRead h p)
/-- COMPOSE_EVENT_SET (04 R99). -/
def execComposeEventSet (h : Hdr) (p : Rec) (s : State) : Out := done (s.command cmdComposeEventSet h p)
/-- FREEZE_CONFIG (04 R100). -/
def execFreezeConfig (h : Hdr) (p : Rec) (s : State) : Out := done (s.command cmdFreezeConfig h p)
/-- SIGNATURE_READ (04 R96). -/
def execSignatureRead (h : Hdr) (p : Rec) (s : State) : Out := done (s.command cmdSignatureRead h p)
/-- FENCE_READ (04 R94). -/
def execFenceRead (h : Hdr) (p : Rec) (s : State) : Out := done (s.command cmdFenceRead h p)

end Sys2Proof.Machine
end

