-- ==== Sys2Proof/Machine/Compose.lean ====
section
/-! DEFINITION. Fetch, scaling, blending and the compose raster (chapter 03), fences, signatures, freeze detection and
retirement (chapter 04). -/
namespace Sys2Proof.Machine

/-! ## Which source rows a composite row needs (03 R61, R62, R66)

Rows and columns are counted within the crop. -/

/-- Rows and columns of a plane inside the crop. -/
def plRows (d : Rec) (plane : Nat) : Nat :=
  if (plane = 1 ∨ plane = 2) ∧ fmHalfV (lyFormat d) then lyCropH d / 2 else lyCropH d
def plCols (d : Rec) (plane : Nat) : Nat :=
  if (plane = 1 ∨ plane = 2) ∧ fmHalfH (lyFormat d) then lyCropW d / 2 else lyCropW d

/-- Source positions of an output row and of an output column for a plane. -/
def vPos (d : Rec) (plane y : Nat) : Int :=
  let v := scalerPos (lyCropH d) (lyDstH d) (lyPhaseV d) y
  if (plane = 1 ∨ plane = 2) ∧ fmHalfV (lyFormat d) then chromaPos (fmSiteV (lyFormat d)) v else v
def hPos (d : Rec) (plane x : Nat) : Int :=
  let v := scalerPos (lyCropW d) (lyDstW d) (lyPhaseH d) x
  if (plane = 1 ∨ plane = 2) ∧ fmHalfH (lyFormat d) then chromaPos (fmSiteH (lyFormat d)) v else v

/-- The rows of a plane that output row y taps. -/
def rowTaps (d : Rec) (plane y : Nat) : List Nat := tapIndices (vPos d plane y) (plRows d plane)

/-- The layer's output row at composite row r, if the layer shows a pixel there. -/
def outRow (mode : Nat) (d : Rec) (r : Nat) : Option Nat :=
  let y := (r : Int) - lyDstY d
  if lyEnable d ∧ r < activeH mode ∧ 0 ≤ y ∧ y < lyDstH d ∧ lyDstX d < activeW mode ∧ 0 < lyDstX d + lyDstW d then some y.toNat
  else none

/-- The first output row at composite row r or after it. -/
def nextOut (mode : Nat) (d : Rec) (r : Nat) : Option Nat :=
  outRow mode d (max r (lyDstY d).toNat)

/-- Rows of a plane that may be in the line buffer while composite row r is next: 8 + r_v from its first tap on; every row
once no composite row needs the layer any longer. -/
def rowLimit (mode : Nat) (d : Rec) (plane r : Nat) : Nat :=
  match nextOut mode d r with
  | none => plRows d plane
  | some y => min (plRows d plane) ((rowTaps d plane y).headD 0 + 8 + lyRv d)

/-! ## Fetch (03 R58, R66, R71, R75, R76) -/

/-- The clip frame of a layer that the composed frame shows has landed (19 R420). -/
def State.clipStaged (s : State) (l : Nat) : Bool := match s.cs.plays.getD l none with
  | none => false
  | some p => p.landed.contains (s.playFrame p 1)

/-- Change what fetch keeps of a layer. -/
def State.layerRun (s : State) (l : Nat) (f : LayerRun → LayerRun) : State :=
  { s with fetch := { s.fetch with runs := upd s.fetch.runs l f } }

/-- Where a plane of a layer lies and its stride: of a clip, in the staging slot of the frame composed, with the clip's own offsets
(19 R420). The place of a slot in the pool is not given: a free value (assumption 121). -/
def State.planeAt (s : State) (l plane : Nat) : Nat × Nat :=
  let d := at_ s.com.live.layers l
  if lySource d = 2 then
    match s.clip (lyClip d), s.cs.plays.getD l none with
    | some (_, r), some p => (s.cs.poolAddr + Config.stageSlot l (s.playFrame p 1) + inOff (clInfo r) plane, inStride (clInfo r) plane)
    | _, _ => (0, 0)
  else (lyPlaneAddr d plane, lyPlaneStride d plane)

/-- The address of the first byte read of a row (03 R56, R58). -/
def State.rowAddr (s : State) (l plane row : Nat) : Nat :=
  let (addr, stride) := s.planeAt l plane
  addr + rowOffset (at_ s.com.live.layers l) plane row stride

/-- Ask for one row of a plane. -/
def State.askRow (s : State) (l plane row : Nat) : State :=
  let d := at_ s.com.live.layers l
  let need := planeRow (lyFormat d) plane (lyCropW d)
  let host := lySource d == 1
  let bad := host && s.hostBlocked
  let s := { s with fetch := { s.fetch with lines := s.fetch.lines ++ [LineRow.mk l plane row need [] 0 bad (s.rowAddr l plane row)] } }
  if bad then s
  else s.addReads (.layerRow l plane row) 0 (ceilDiv need 256) host ((bufferOf d).getD ⟨lySource d, 0, 0, 0, 0⟩) 0

/-- Ask for the rows of a layer that the line buffer takes while composite row r is next. -/
def State.askLayer (s : State) (l r : Nat) : State :=
  let d := at_ s.com.live.layers l
  let k := at_ s.fetch.runs l
  if lyEnable d = false ∨ k.stopped ∨ k.transparent ∨ (lySource d = 2 ∧ s.clipStaged l = false) then s else
  let f := lyFormat d
  let m := s.liveMode
  let hiY := rowLimit m d 0 r
  let hiC := if fmLumaOnly f then 0 else rowLimit m d 1 r
  let rows : List (Nat × Nat) :=
    ((slice (List.range hiY) k.nextRow hiY).map fun (i : Nat) => ((fmPlanes f).filter fun p => p == 0 || p == 3).map fun p => (p, i)).flatten ++
    ((slice (List.range hiC) k.nextC hiC).map fun (i : Nat) => ((fmPlanes f).filter fun p => p == 1 || p == 2).map fun p => (p, i)).flatten
  let s := rows.foldl (fun s x => s.askRow l x.1 x.2) s
  s.layerRun l fun k => { k with nextRow := max k.nextRow hiY, nextC := max k.nextC hiC }

/-- Every layer in turn. -/
def State.fetchAhead (s : State) (r : Nat) : State := (List.range 8).foldl (fun s l => s.askLayer l r) s

/-- The memory reads of a row: address and length of each, at most 256 bytes (03 R58). -/
def LineRow.reads (x : LineRow) : List (Nat × Nat) :=
  (List.range (ceilDiv x.need 256)).map fun k => (x.addr + 256 * k, min 256 (x.need - 256 * k))

/-- A row has landed whole. -/
def LineRow.whole (x : LineRow) : Bool := !x.failed && decide (ceilDiv x.need 256 ≤ x.landed)

/-- The row of a plane in the line buffer. -/
def State.lineRow (s : State) (l plane row : Nat) : Option LineRow :=
  s.fetch.lines.find? fun x => x.layer == l && x.plane == plane && x.row == row

/-! ## Fences (04 R94, R95) -/

/-- TORN, once for a layer and frame, dated now. -/
def State.judgeFence (s : State) (i : Nat) : State :=
  let f := at_ s.com.fences i
  let x := (f.startVal ^^^ f.endVal).toNat % 65536
  let torn := fun (reason xor : Nat) =>
    { s.raise 0x0307 f.layer (reason + 256 * (f.tick.toNat % 256) + 65536 * xor) with
      com := { s.com with fences := upd s.com.fences i fun f => { f with torn := true } } }
  if f.torn then s
  else if f.startSt = 3 then torn 1 0
  else if f.endSt = 3 then torn 2 0
  else if f.startSt = 2 ∧ f.endSt = 2 ∧ f.startVal ≠ f.endVal then torn 0 x
  else s

/-- A fence whose two reads have ended. -/
def Fence.over (f : Fence) : Bool := decide (2 ≤ f.startSt) && decide (2 ≤ f.endSt)

/-- Once every fence of a frame is over, its values are the ones FENCE_READ returns. -/
def State.latchFences (s : State) : State :=
  let ticks := (s.com.fences.map Fence.tick).eraseDups
  ticks.foldl (fun s t =>
    let mine := s.com.fences.filter fun f => f.tick == t
    if mine.all Fence.over then
      let val := fun (l : Nat) => match mine.find? fun f => f.layer == l with
        | some f => (f.startVal, f.endVal)
        | none => (0, 0)
      let last := (List.range 8).map val
      { s with com := { s.com with fences := s.com.fences.filter fun f => f.tick != t, fenceTick := t, fenceLast := last } }
    else s) s

/-- Judge and latch. -/
def State.judgeFences (s : State) : State :=
  ((List.range s.com.fences.length).foldl (fun s i => s.judgeFence i) s).latchFences

/-- Issue, in the order asked among the class's requests, judge and latch. -/
def State.pumpFences (s : State) : State := (s.pumpReads 0).judgeFences

/-- Fetch of a layer has stopped: its end fence is read. -/
def State.fetchStopped (s : State) (l : Nat) : State :=
  let s := s.layerRun l fun k => { k with stopped := true }
  let s := s.nextAsk
  let due := fun (f : Fence) => if f.layer = l ∧ f.tick = s.tk.tick then { f with endDue := true, endNo := s.fetch.asked } else f
  ({ s with com := { s.com with fences := s.com.fences.map due } }).pumpFences

/-- A fence read has ended (04 R95). A failed read leaves a free value in its place. -/
def State.fenceLanded (s : State) (l : Nat) (isEnd good : Bool) (v : W64) : State :=
  match s.com.fences.findIdx? fun f => f.layer == l && (if isEnd then f.endSt == 1 else f.startSt == 1) with
  | none => s
  | some i =>
    let (k, s) := s.takeFree
    let v := if good then v else BitVec.ofNat 64 (Config.free k)
    let st := if good then 2 else 3
    let put := fun (f : Fence) => if isEnd then { f with endVal := v, endSt := st } else { f with startVal := v, startSt := st }
    let s := { s with com := { s.com with fences := upd s.com.fences i put } }
    ((s.returnTags 0 1).offerTags).judgeFences

/-! ## The end of a layer's fetch, and underrun (03 R75 to R77) -/

/-- Reads of a layer in flight are discarded when they land, and those not issued are given up. -/
def State.discardReads (s : State) (l : Nat) : State :=
  let cut := fun (e : InFlight) => match e.user with
    | .layerRow k _ _ => if k = l then { e with left := 0, key := 1 } else e
    | _ => e
  { s with fetch := { s.fetch with inflight := (s.fetch.inflight.map cut).filter fun e => decide (0 < e.tags + e.left) } }

/-- UNDERRUN: from row r to the end of the frame the layer is transparent. -/
def State.underrun (s : State) (l r reason : Nat) : State :=
  let d := at_ s.com.live.layers l
  let s := s.raise 0x0304 l (r + 2 ^ 16 * reason + 2 ^ 20 * lySource d)
  let s := { s with fetch := { s.fetch with underruns := upd s.fetch.underruns l fun c => c + 1 },
                    com := { s.com with watch := upd s.com.watch l fun w => { w with skip := true } } }
  ((s.layerRun l fun k => { k with transparent := true }).discardReads l).fetchStopped l

/-- All rows of the crop have been asked for and have landed. -/
def State.allLanded (s : State) (l : Nat) : Bool :=
  let d := at_ s.com.live.layers l
  let k := at_ s.fetch.runs l
  decide (plRows d 0 ≤ k.nextRow) && (fmLumaOnly (lyFormat d) || decide (plRows d 1 ≤ k.nextC)) &&
    (s.fetch.lines.filter fun x => x.layer == l).all LineRow.whole

/-- Fetch of a layer stops when its last row has landed (03 R66). -/
def State.checkStopped (s : State) (l : Nat) : State :=
  let k := at_ s.fetch.runs l
  if lyEnable (at_ s.com.live.layers l) ∧ k.stopped = false ∧ s.allLanded l then s.fetchStopped l else s

/-- A read of a row has landed or failed. -/
def State.rowLanded (s : State) (l plane row : Nat) (good : Bool) (ofs : Nat) (data : Rec) : State :=
  match s.readDone (.layerRow l plane row) with
  | (none, s) => s
  | (some e, s) =>
    if e.key = 1 then s.judgeFences else
    let put := fun (x : LineRow) => if x.layer = l ∧ x.plane = plane ∧ x.row = row then
        (if good then { x with data := spPut 0 x.data ofs (data.take (x.need - ofs)), landed := x.landed + 1 }
         else { x with failed := true }) else x
    let s := { s with fetch := { s.fetch with lines := s.fetch.lines.map put } }
    (s.judgeFences).checkStopped l

/-- READ_COMPLETION: the tag returns to its class, and the data go to the user. -/
def State.readLanded (s : State) (u : ReadUser) (good : Bool) (ofs : Nat) (data : Rec) : State := match u with
  | .layerRow l plane row => s.rowLanded l plane row good ofs data
  | .points n =>
    let (e, s) := s.readDone (.points n)
    if e.isSome && good && ofs == 0 then (s.judgeFences).pointAhead n data else s.judgeFences
  | .castCopy => s.castLanded good ofs data

/-- No completion of a host read: an error of its user (03 R76). -/
def State.readTimeout (s : State) (u : ReadUser) : State :=
  match s.fetch.inflight.find? fun e => e.user == u && decide (0 < e.tags) with
  | some e => if e.host then s.readLanded u false 0 [] else s
  | none => s

/-! ## One layer pixel (03 R56, R59 to R65) -/

/-- The container at an index of a row, scaled to 16 bits. -/
def container (m : Sparse Byte) (size depth i : Nat) : Int :=
  if size = 1 then (spGet 0 m i).toNat * 256
  else
    let v := (spGet 0 m (2 * i)).toNat + 256 * (spGet 0 m (2 * i + 1)).toNat
    (v / 2 ^ (16 - depth) * 2 ^ (16 - depth) : Nat)

/-- A sample of component 0 Y, 1 Cb, 2 Cr or 3 alpha; alpha is normalised to 16 bits. -/
def State.sample (s : State) (l comp row col : Nat) : Int :=
  let f := lyFormat (at_ s.com.live.layers l)
  let semi := fmLayout f = 0
  let plane := if comp = 2 ∧ semi then 1 else comp
  match s.lineRow l plane row with
  | none => 0
  | some x =>
    if comp = 3 then
      (if fmAlpha16 f then container x.data 2 16 col else (spGet 0 x.data col).toNat * 257)
    else
      let i := if semi ∧ comp ≠ 0 then 2 * col + (comp - 1) else col
      container x.data (fmBytes f) (fmDepth f) i

/-- The largest value of a component's container at 16-bit precision: a sample of one byte ends at 255 × 256 (03 R56, R59); alpha is
normalised to 16 bits. -/
def containerTop (f comp : Nat) : Int := if comp ≠ 3 ∧ fmDepth f = 8 then 65280 else 65535

/-- A component at output pixel (x, y): scaled across, then down, and clamped to its container. -/
def State.scaled (s : State) (l comp x y : Nat) : Int :=
  let c := s.com.live
  let d := at_ c.layers l
  let h := hPos d comp x
  let v := vPos d comp y
  let hc := c.taps (lyFilterH d) (lyDstW d) (lyCropW d) (posPhase h)
  let vc := c.taps (lyFilterV d) (lyDstH d) (lyCropH d) (posPhase v)
  let cols := tapIndices h (plCols d comp)
  clampI 0 (containerTop (lyFormat d) comp) (tapSum vc ((tapIndices v (plRows d comp)).map fun row => tapSum hc (cols.map fun col => s.sample l comp row col)))

/-- The layer's composition codes and effective alpha at an output pixel. -/
def State.layerPixel (s : State) (l x y : Nat) : List Nat × Rat :=
  let c := s.com.live
  let d := at_ c.layers l
  let f := lyFormat d
  let ya := s.scaled l 0 x y
  let a : Rat := if fmAlpha f then (s.scaled l 3 x y : Rat) / 65535 else 1
  let alpha := (lyAlpha d : Rat) * a
  if fmLumaOnly f ∧ fmMask f then (toComposition c d (maskRgb d), alpha * clamp01 (normY d ya))
  else
    let rgb := if fmLumaOnly f then toRgb d ya 0 0 else toRgb d ya (s.scaled l 1 x y) (s.scaled l 2 x y)
    (toComposition c d rgb, alpha)

/-- One blend of 03 R64. -/
def blend (alpha : Rat) (top below : Nat) : Nat := ((alpha * top + (65535 - alpha) * below + 32767) / 65535).floor.toNat

/-- Layers from lowest to highest. -/
def Cfg.stack (c : Cfg) : List Nat :=
  (List.range 8).flatMap fun z => (List.range 8).filter fun l => lyZ (at_ c.layers l) == z && lyEnable (at_ c.layers l)

/-- The composite at pixel (x, r). -/
def State.composite (s : State) (x r : Nat) : List Nat :=
  let c := s.com.live
  c.stack.foldl (fun below l =>
    let d := at_ c.layers l
    let u := (x : Int) - lyDstX d
    match outRow s.liveMode d r with
    | none => below
    | some y =>
      if (at_ s.fetch.runs l).transparent ∨ u < 0 ∨ (lyDstW d : Int) ≤ u then below
      else
        let (top, alpha) := s.layerPixel l u.toNat y
        List.zipWith (blend alpha) top below) c.background

/-! ## One composite row -/

/-- Why a layer cannot show composite row r: 0 late, 1 error, 2 clip frame not staged (03 R75, R76). -/
def State.rowMissing (s : State) (l r : Nat) : Option Nat :=
  let d := at_ s.com.live.layers l
  match outRow s.liveMode d r with
  | none => none
  | some y =>
    if (at_ s.fetch.runs l).transparent then none
    else if lySource d = 2 ∧ s.clipStaged l = false ∧ (at_ s.fetch.runs l).nextRow = 0 then some 2
    else
      let rows := ((fmPlanes (lyFormat d)).map fun p => (rowTaps d p y).map fun k => s.lineRow l p k).flatten
      if rows.any (fun x => match x with
        | some k => k.failed
        | none => false) then some 1
      else if rows.all (fun x => match x with
        | some k => k.whole
        | none => false) then none
      else some 0

/-- Underruns at composite row r. -/
def State.rowUnderruns (s : State) (r : Nat) : State :=
  (List.range 8).foldl (fun s l => match s.rowMissing l r with
    | some reason => s.underrun l r reason
    | none => s) s

/-- The grid of 04 R96 in one direction: p ÷ 2 + p × i inside n. -/
def gridHas (p k : Nat) : Bool := k % p == p / 2
def State.pitch (s : State) : Nat := 4 * 2 ^ s.com.sigPitch

/-- The words that the lookups of one pixel read, table and entry (05 R111). -/
def tableReads (p : List Int) : List (Nat × Nat) :=
  (p.mapIdx fun i v =>
    let k := (clampI 0 (4095 * 2 ^ 17) (v + 2 ^ 27) / 2 ^ 17).toNat
    if k < 4095 then [(i, k), (i, k + 1)] else [(i, k)]).flatten

/-- The mask words that pixel (x, r) reads in the tick, phase and place (05 R115, R116). -/
def State.maskReads (s : State) (x r : Nat) : List (Nat × Nat) :=
  if s.com.live.ditherMode = 0 then [] else
  (List.range s.com.live.primaries).map fun i =>
    (if s.com.live.ditherMode = 1 then 0 else (s.tk.tick.toNat + i) % 8, 64 * ((r + 29 * i) % 64) + (x + 17 * i) % 64)

/-- What the error codes of a row's reads find (05 R112): the tables with a double-bit error met, whether the mask met one, and the
single-bit errors corrected on read, one for each read that meets one (DEDUCED, assumption 126). -/
def State.rowErrors (s : State) (r : Nat) (out : List PixelOut) : Nat × Bool × Nat :=
  let u := s.col
  let bad := fun (i : Nat) => !u.badTable.isEmpty && out.any fun o => (tableReads o.p).any fun w => w.1 == i && u.badTable.contains w
  let xs := List.range (activeW s.liveMode)
  let badM := !u.badMask.isEmpty && xs.any fun x => (s.maskReads x r).any u.badMask.contains
  let soft := if u.softTable.isEmpty then 0
    else (out.map fun o => ((tableReads o.p).filter u.softTable.contains).length).sum
  let softM := if u.softMask.isEmpty then 0 else (xs.map fun x => ((s.maskReads x r).filter u.softMask.contains).length).sum
  (maskOf ((List.range 8).map bad), badM, soft + softM)

/-- Composite row r passes the pipeline to the back frame (05, 06 R124). A PIXEL_PROBE position that a change of mode has put outside
the active area captures nothing, and the last capture stands (DESIGN CHOICE, assumption 122). -/
def State.composeRow (s : State) (r : Nat) : State :=
  let m := s.liveMode
  let s := s.rowUnderruns r
  let comp := (List.range (activeW m)).map fun x => s.composite x r
  let out := comp.mapIdx fun x v => pixelOut s.com.live s.col s.chi.backDepth s.tk.tick.toNat x r v
  let sig := if gridHas s.pitch r then
      (comp.zipIdx.filter fun (_, x) => gridHas s.pitch x).foldl (fun a (v, _) => crc32Feed a (v.map (le 4)).flatten) (at_ s.com.watch 8).acc
    else (at_ s.com.watch 8).acc
  let (px, py) := s.col.probePos
  let probe := if py = r then match comp[px]?, out[px]? with
      | some c, some o => probeBytes s.tk.tick px r c o
      | _, _ => s.col.probeRun
    else s.col.probeRun
  let (hits, hitMask, fixed) := s.rowErrors r out
  let run := out.foldl ClipStats.add s.col.run
  { s with
    com := { s.com with watch := upd s.com.watch 8 fun w => { w with acc := sig } },
    col := { s.col with
      run := run, probeRun := probe, hitTable := s.col.hitTable ||| hits, hitMask := s.col.hitMask || hitMask,
      corrected := s.col.corrected + BitVec.ofNat 32 fixed },
    chi := { s.chi with backRows := s.chi.backRows ++ [out.map PixelOut.codes] } }

/-! ## Tolerances and LTR (03 R72, R74) -/

/-- The time to the next boundary plus four compose lines, from compose line L on, in ns. -/
def State.restNs (s : State) (line : Nat) : Nat :=
  nsOf (s.tk.len - lineOffset s.liveMode s.tk.len line + 4 * s.tk.len / vTotal s.liveMode)

/-- Bytes of a row landed: of one still arriving, those of the reads that have ended. -/
def LineRow.bytesIn (x : LineRow) : Nat := if x.failed then 0 else min x.need (256 * x.landed)

/-- Bytes of a layer landed beyond the rows that composite row r needs; one that shows no pixel of the layer needs none. -/
def State.ahead (s : State) (l r : Nat) : Nat :=
  let d := at_ s.com.live.layers l
  let top := fun (p : Nat) => match outRow s.liveMode d r with
    | some (y : Nat) => (rowTaps d p y).getLastD 0 + 1
    | none => 0
  ((s.fetch.lines.filter fun (x : LineRow) => x.layer == l && decide (top x.plane ≤ x.row)).map LineRow.bytesIn).sum

/-- T of a layer in ns at compose line L. A layer that underran has not stopped under R66, and its T follows what has landed. While
the first four lines fill the buffers, row 0 is the current row; the ns are truncated (DESIGN CHOICE, assumption 121). -/
def State.tolerance (s : State) (l line : Nat) : Nat :=
  let d := at_ s.com.live.layers l
  let m := s.liveMode
  let k := at_ s.fetch.runs l
  if k.stopped && !k.transparent then s.restNs line
  else s.ahead l (line - 4) * baseTick m * 5 / (2 * lyDemand d * vTotal m)

/-- The least T over the layers of a kind, less an allowance, floored at 0. -/
def State.leastT (s : State) (host : Bool) (line less : Nat) : Nat :=
  let ls := indices s.com.live.layers fun d => lyEnable d && (lySource d == 1) == host
  if ls = [] then s.restNs line else (ls.map fun l => s.tolerance l line).foldl min (2 ^ 62) - less

/-! ## Compose lines (03 R66, R72; 04 R98, R99; 16 R336) -/

/-- TABLE_SCRUB, while it is enabled (16 R334), reads 64 words of the live tables, the active mask set and then the pending copies
of the tables, and writes single-bit errors back corrected; a pass ends with the last word (16 R336, R353). A copy under 05 R118 or
R119 takes no time of the model's, so that no line falls into one; what it writes carries no error. -/
def State.scrubLine (s : State) : State :=
  if bit (byteAt s.cal.cfg 0) 2 = false then s else
  let u := s.col
  let copies := (if s.com.next.isSome then [0] else []) ++ (if s.com.later.isSome then [1] else [])
  let words := 65536 + 32768 * copies.length
  let pass := decide (words ≤ u.scrub + 64)
  let here := fun (k : Nat) => decide (u.scrub ≤ k) && decide (k < u.scrub + 64)
  let inTable := fun (x : Nat × Nat) => here (4096 * x.1 + x.2)
  let inMask := fun (x : Nat × Nat) => here (32768 + 4096 * x.1 + x.2)
  let inCopy := fun (x : Mark) => !x.double && copies.contains x.copy &&
    here (65536 + 32768 * (if copies = [1] then 0 else x.copy) + 4096 * x.table + x.entry)
  let n := (u.softTable.filter inTable).length + (u.softMask.filter inMask).length + (u.marks.filter inCopy).length
  { s with
    col := { u with
      softTable := u.softTable.filter (fun x => !inTable x), softMask := u.softMask.filter (fun x => !inMask x),
      marks := u.marks.filter (fun x => !inCopy x),
      corrected := u.corrected + BitVec.ofNat 32 n, scrub := if pass then 0 else u.scrub + 64 }
    cal := { s.cal with passes := s.cal.passes + BitVec.ofNat 32 (b2n pass) } }

/-- The events of a compose line. -/
def State.lineEvents (s : State) (line : Nat) : State :=
  let s := s.raiseIf (bit s.com.eventEn 0 && line == activeH s.liveMode) 0x0301 0 line
  s.raiseIf (bit s.com.eventEn 1 && line == s.com.matchLine) 0x0302 0 line

/-- The part of a compose line that fetches and composes a frame. -/
def State.frameLine (s : State) (line : Nat) : State :=
  let m := s.liveMode
  let s := s.fetchAhead (line - 4)
  if 4 ≤ line ∧ line < activeH m + 4 then s.composeRow (line - 4) else s

/-- A compose line starts. -/
def State.composeLine (s : State) : State :=
  let line := s.fetch.line
  let m := s.liveMode
  if s.tk.open_ = false ∨ s.inTrip ∨ vTotal m ≤ line then s else
  let t := s.tk.start + lineOffset m s.tk.len line
  let s := (s.ltrTo t).forward t
  let s := { s with fetch := { s.fetch with line := line + 1 } }
  let s := s.lineEvents line
  if s.chi.plinth then (s.ltrLine).scrubLine
  else
    let s := { s with fetch := { s.fetch with ltDdr := s.leastT false line 500, ltHost := s.leastT true line 1000 } }
    let s := (s.ltrLine).frameLine line
    if activeH m + 4 ≤ line then s.scrubLine else s

/-! ## The start of a frame (03 R66; 04 R94) -/

/-- Buffers that the frame of this tick reads. -/
def State.useBuffers (s : State) : List BufUse :=
  (List.range 8).foldl (fun us l => match bufferOf (at_ s.com.live.layers l) with
    | none => us
    | some b => (us.filter fun u => u.buf != b) ++ [BufUse.mk b l s.tk.tick s.com.liveNo]) s.com.uses

/-- Fences of the frame that begins; address bits [2:0] are treated as 0 (04 R94). -/
def State.newFences (s : State) : List Fence :=
  ((List.range 8).filter fun l => lyEnable (at_ s.com.live.layers l) && lyFence (at_ s.com.live.layers l) != 0).map fun l =>
    let d := at_ s.com.live.layers l
    Fence.mk l s.tk.tick ((bufferOf d).getD ⟨lySource d, 0, 0, 0, 0⟩) 0 0 0 0 false false s.fetch.asked 0 (lyFence d / 8 * 8)

/-- What is left of the last frame is given up: reads in flight land in no row, and end fences fall due. -/
def State.endFrame (s : State) : State :=
  let s := ((List.range 8).foldl (fun s l => s.discardReads l) s).nextAsk
  let due := fun (f : Fence) => if f.endDue then f else { f with endDue := true, endNo := s.fetch.asked }
  { s with com := { s.com with fences := s.com.fences.map due } }

/-- Compose and fetch of the frame of this tick begin. -/
def State.beginFrame (s : State) : State :=
  let s := s.endFrame
  let runs := List.replicate 8 (LayerRun.mk 0 0 false false)
  let s := { s with fetch := { s.fetch with runs := runs, lines := [], line := 0, done := false } }
  if s.chi.plinth ∨ s.inTrip ∨ s.tk.open_ = false then s.pumpFences else
  let fresh := fun (w : Watch) => { w with acc := crc32Init, skip := false }
  let s := s.nextAsk
  let s := { s with
    com := { s.com with uses := s.useBuffers, fences := s.com.fences ++ s.newFences, watch := s.com.watch.map fresh },
    col := { s.col with run := { ClipStats.reset with tick := s.tk.tick }, hitTable := 0, hitMask := false },
    chi := { s.chi with backRows := [], backTick := s.tk.tick } }
  (s.pumpFences).fetchAhead 0

/-! ## FRAME_DONE (04 R89 to R91, R96 to R98; 05 R112, R114) -/

/-- Grid points of a crop in one direction. -/
def gridOf (p n : Nat) : List Nat := if n ≤ p / 2 then [0] else (List.range n).filter (gridHas p)

/-- The bytes of a container as stored. -/
def rawAt (x : Option LineRow) (size i : Nat) : Rec := match x with
  | none => zeros size
  | some k => spRead 0 k.data (size * i) size

/-- Signature of a layer over the frame it was fetched for. -/
def State.layerSig (s : State) (l : Nat) : W32 :=
  let d := at_ s.com.live.layers l
  let f := lyFormat d
  let b := fmBytes f
  let p := s.pitch
  let point := fun (y x : Nat) =>
    let cy := if fmHalfV f then y / 2 else y
    let cx := if fmHalfH f then x / 2 else x
    rawAt (s.lineRow l 0 y) b x ++
      (if fmLumaOnly f then []
       else if fmLayout f = 0 then rawAt (s.lineRow l 1 cy) b (2 * cx) ++ rawAt (s.lineRow l 1 cy) b (2 * cx + 1)
       else rawAt (s.lineRow l 1 cy) b cx ++ rawAt (s.lineRow l 2 cy) b cx) ++
      (if fmAlpha f then rawAt (s.lineRow l 3 y) (fmABytes f) x else [])
  crc32Done ((gridOf p (lyCropH d)).foldl (fun a y => (gridOf p (lyCropW d)).foldl (fun a x => crc32Feed a (point y x)) a) crc32Init)

/-- FREEZE for one subject with a new signature, dated at `t`, the end of compose (04 R98); `n` is its threshold, 0 while it is not
watched (04 R97). A COMPOSITE_N set to a value that the kept count has reached or passed raises nothing until the picture changes (DESIGN
CHOICE, assumption 43). -/
def State.freeze (s : State) (t k n : Nat) (sig : W32) : State :=
  let w := at_ s.com.watch k
  let put := fun (s : State) (w : Watch) => { s with com := { s.com with watch := upd s.com.watch k fun _ => w } }
  let ev := fun (s : State) (state : Nat) => s.raiseAt t 0x0306 k (state + 256 * n + 65536 * (sig.toNat % 65536))
  if w.skip then s
  else if w.seen ∧ sig = w.last then
    let c := w.count + 1
    let hit := decide (n ≠ 0) && c == n
    let s := put s { w with count := c, frozen := w.frozen || hit }
    if hit then ev s 1 else s
  else
    let s := put s { w with count := 0, last := sig, seen := true, frozen := false }
    if w.frozen ∧ n ≠ 0 then ev s 0 else s

/-- A layer whose rows have not all landed at the end of compose, or hit a read error, has no signature of the frame. -/
def State.freezeLayer (s : State) (t l : Nat) : State :=
  let d := at_ s.com.live.layers l
  if lyEnable d = false ∨ s.allLanded l = false then s
  else s.freeze t l (if lyLive d then lyFreezeN d else 0) (s.layerSig l)

/-- The configuration that composes during the next tick. -/
def State.nextCfg (s : State) : Cfg := match s.com.next with
  | some p => p.cfg
  | none => s.com.live

/-- A buffer may be retired now (04 R89). -/
def State.mayRetire (s : State) (u : BufUse) : Bool :=
  !s.nextCfg.names u.buf && !(s.com.later.any fun p => p.cfg.names u.buf) &&
    !s.fetch.inflight.any (fun e => e.buf == u.buf && decide (0 < e.tags)) && !s.com.fences.any fun f => f.buf == u.buf && (f.startSt == 1 || f.endSt == 1)

/-- The order of the records of one FRAME_DONE (04 R91). -/
def useKey (u : BufUse) : List Nat := [u.layer, u.buf.source, u.buf.addrY, u.buf.addrC, u.buf.addrCr, u.buf.addrA]

def lexLe : List Nat → List Nat → Bool
  | [], _ => true
  | _, [] => false
  | a :: l, b :: r => decide (a < b) || (a == b && lexLe l r)

/-- Retire what may be retired: the records written. -/
def State.retire (s : State) : List BufUse × State :=
  let out := sortBy (fun a b => lexLe (useKey a) (useKey b)) (s.com.uses.filter s.mayRetire)
  let recs := out.mapIdx fun i u => Retired.mk (s.com.retSeq + BitVec.ofNat 32 i) u
  let log := s.com.log ++ recs
  (out, { s with com := { s.com with
    uses := s.com.uses.filter (fun u => !out.contains u), log := log.drop (log.length - 1024),
    retSeq := s.com.retSeq + BitVec.ofNat 32 out.length } })

/-- GAMUT_CLIP (05 R114) and COLOUR_MEM_ERROR (05 R112), dated at `t`, the end of compose (05 R123). CLIP_ALERT set to 0 while STATE 1
stands ends the state with no event: the spec does not say whether a STATE 0 follows (DESIGN CHOICE, assumption 122). -/
def State.colourEvents (s : State) (t : Nat) : State :=
  let n := s.col.run.clip
  let alert := s.com.live.clipAlert
  let high := decide (alert ≠ 0) && decide (alert * 256 < n)
  let s := if decide (alert ≠ 0) && high != s.col.gamut then
      s.raiseAt t 0x0401 0 (b2n high + 256 * sat 24 (n / 256)) else s
  let s := if s.col.hitTable != 0 || s.col.hitMask then s.raiseAt t 0x0402 0 (s.col.hitTable % 256 + 256 * b2n s.col.hitMask) else s
  { s with col := { s.col with gamut := high, stats := s.col.run, probe := s.col.probeRun } }

/-- FRAME_DONE: no frame is composed in plinth, in a restart interval or before tick 0. -/
def State.frameDone (s : State) : State :=
  let m := s.liveMode
  if s.tk.open_ = false ∨ s.inTrip ∨ s.chi.plinth ∨ s.fetch.done then s else
  let t := s.tk.start + lineOffset m s.tk.len (activeH m + 4)
  let s := s.forward t
  let s := (List.range 8).foldl (fun s l => s.freezeLayer t l) s
  let s := s.freeze t 8 s.com.compositeN (crc32Done (at_ s.com.watch 8).acc)
  let s := s.colourEvents t
  let (out, s) := s.retire
  let mask := maskOf ((List.range 8).map fun l => out.any fun u => u.layer == l)
  let s := s.raise 0x0303 0 (s.com.retSeq.toNat % 65536 + 65536 * min 255 out.length + 2 ^ 24 * mask)
  { s with com := { s.com with frameTick := s.tk.tick }, fetch := { s.fetch with done := true } }

/-! ## Self-refresh (03 R73) -/

/-- A request for the LPDDR5X is queued or in flight; in plinth only those that 01 R20 names count. -/
def State.ddrBusy (s : State) : Bool :=
  let p := s.chi.plinth
  s.fetch.inflight.any (fun e => !e.host && (!p || e.cls != 0)) ||
    (!p && s.com.fences.any fun f => f.buf.source != 1 && (f.startSt == 1 || f.endSt == 1)) ||
    s.cs.ops.any fun o => decide (0 < o.tags) && (!p || servesPlinth o.use)

/-- The least of the stated tolerances as it stands now, in ns: LT_DDR alone, as no chapter gives one that another requester of 01 R23
would state; what those ask for counts as a request (DESIGN CHOICE, assumption 121). -/
def State.ltDdrNow (s : State) : Nat := s.ltDdrAt s.now

/-- Self-refresh begins. -/
def State.refresh (s : State) : State :=
  { s with fetch := { s.fetch with selfRefresh := true, srCount := s.fetch.srCount + 1 } }

/-- SELF_REFRESH_ENTRY. -/
def State.refreshEntry (s : State) : State :=
  if s.fetch.selfRefresh ∨ s.ddrBusy then s
  else if s.chi.plinth then s.refresh
  else if bit (byteAt s.com.live.fetchCfg 4) 1 ∧ 100 * u16 s.com.live.fetchCfg 2 ≤ s.ltDdrNow then s.refresh else s

/-- SELF_REFRESH_EXIT: exit begins when the least tolerance has fallen to 2,000 ns, or with a request. -/
def State.refreshExit (s : State) : State :=
  if s.fetch.selfRefresh = false then s
  else if s.ddrBusy then s.wake
  else if s.chi.plinth then s
  else (s.forward (s.now + (s.ltDdrNow - 2000) * 2 / 5)).wake

/-- COMPOSE_LINE_START (03 R72). -/
def execComposeLineStart (s : State) : Out := done s.composeLine
/-- FRAME_DONE (04 R89). -/
def execFrameDone (s : State) : Out := done s.frameDone
/-- READ_COMPLETION (03 R71). -/
def execReadCompletion (u : ReadUser) (good : Bool) (ofs : Nat) (data : Rec) (s : State) : Out := done (s.readLanded u good ofs data)
/-- FENCE_READ_COMPLETION (04 R94). -/
def execFenceReadCompletion (l : Nat) (isEnd good : Bool) (v : W64) (s : State) : Out := done (s.fenceLanded l isEnd good v)
/-- SELF_REFRESH_ENTRY (03 R73). -/
def execSelfRefreshEntry (s : State) : Out := done s.refreshEntry
/-- SELF_REFRESH_EXIT (03 R73). -/
def execSelfRefreshExit (s : State) : Out := done s.refreshExit
/-- COMPLETION_TIMEOUT (03 R76). -/
def execCompletionTimeout (u : ReadUser) (s : State) : Out := done (s.readTimeout u)

end Sys2Proof.Machine
end

