-- ==== Sys2Proof/Machine/Boundary.lean ====
section
/-! DEFINITION. The tick boundary (01 R21, 02 R28 to R42) and the armature sequencer: slots (02 R43 to R46), entries
(06 R132, R133) and map points (07 R166 to R169). -/
namespace Sys2Proof.Machine

/-! ## The tick counter (02 R28, R29, R40) -/

/-- The number of the tick that opens at instant t: one more, or at a renumbering the number that the tree gives the
reference matched to t (18 R399). The Bool tells a renumbering. -/
def State.nextNumber (s : State) (t : Nat) : W32 × Bool :=
  match s.tk.renumberDue, s.cl.tickRx with
  | true, some (no, ref) =>
    let (c, n) := cadence s.liveMode
    (no + BitVec.ofInt 32 (roundRat (((t : Rat) - ref) * c / n)), true)
  | _, _ => (s.tk.tick + 1, false)

/-- The tick ends at instant t, and the next one opens; SYNC_OUT emits its pulse (02 R42). A renumbering moves no boundary that a
stamp or CL_TIME_SET has named (02 R41). -/
def State.openTick (s : State) (t : Nat) (no : W32) (renumbered : Bool) : State :=
  { s with
    tk := { s.tk with
      syncUntil := if bit s.tk.syncOutCtl.toNat 0 then t + 40 * s.tk.syncOutWidth else 0,
      tick := no, start := t, eras := s.nextEras no t renumbered, prevLen := s.tk.len, dumpWas := s.dumpSlots, slot := none, stampAge := s.tk.stampAge + 1,
      renumberDue := s.tk.renumberDue && !renumbered,
      stampLast := s.tk.stampLast.map fun (n, x) => (n + (no - (s.tk.tick + 1)), x) },
    cl := { s.cl with timeSet := s.cl.timeSet.map fun (n, x) => ((BitVec.ofNat 32 n + (no - (s.tk.tick + 1))).toNat, x) } }

/-! ## Step 1: the swap (06 R139) -/

/-- The composed frame comes to the front; skipped in plinth. -/
def State.swapFrames (s : State) : State :=
  if s.chi.plinth ∨ s.inTrip then s
  else { s with chi := { s.chi with
    frontRows := s.chi.backRows, frontDepth := s.chi.backDepth, frontTick := s.chi.backTick } }

/-! ## Step 2: what goes live (04 R83, 06 R138, R139, 08 R183, R184) -/

/-- A source set goes live. A channel whose role changes stops conducting. -/
def State.putSources (s : State) (set : SourceSet) : State :=
  let old := s.src.live
  let moved := channels.filter fun c => chRole (at_ old.chans c) != chRole (at_ set.chans c)
  ((({ s with src := { s.src with live := set } }).unplan moved).roleChange old).moveEmitters old

/-- SOURCE_APPLIED. -/
def State.sourceApplied (s : State) (no : Option W32) : State := match no with
  | none => s.raiseB 0x0601 0 0
  | some n => s.raiseB 0x0601 0 (1 + 65536 * (n.toNat % 65536))

/-- Plinth ends, with the reason of PLINTH. -/
def State.leavePlinth (s : State) (reason : Nat) : State :=
  if s.chi.plinth then ({ s with chi := { s.chi with plinth := false } }).raiseB 0x0482 0 (2 * reason) else s

/-- Counts of unchanged frames that fall to 0 as a configuration replaces another (04 R97). The signature of the last frame that had
one of the layer stays, so that the first frame after a layer is enabled again is compared with it: the spec does not say which frame
is then the previous one (DESIGN CHOICE, assumption 122). -/
def Watch.change (w : Watch) (old new : Rec) (mode : Bool) : Watch :=
  if mode ∨ lyEnable new = false ∨ lyLive new ≠ lyLive old ∨ lyFreezeN new ≠ lyFreezeN old then { w with count := 0, frozen := false }
  else w

/-- An accepted commit goes live. Its casts are live from here on if it admitted one (06 R127, R136); its tables bring the errors of
their copy (05 R112). HOST_LAT is sent where a host layer becomes live and none was, as the table of 03 R74 lists it; the worked
example after 03 R77 has it sent also where HOST_LAT is raised (DESIGN CHOICE, assumption 121). -/
def State.goLive (s : State) (p : Pending) : State :=
  let old := s.com.live
  let mode := p.cfg.mode != old.mode
  let watch := s.com.watch.mapIdx fun k (w : Watch) =>
    if k = 8 then (if mode then { w with count := 0, frozen := false } else w)
    else w.change (at_ old.layers k) (at_ p.cfg.layers k) mode
  let s := { s with
    com := { s.com with live := p.cfg, liveNo := p.no, watch := watch },
    col := { s.col with badTable := s.col.marksIn 0 true, softTable := s.col.marksIn 0 false },
    chi := { s.chi with castLive := s.chi.castLive || p.cfg.hasPic, sequencing := true, darkTick := mode } }
  let s := s.leavePlinth 1
  let s : State := match p.bound with
    | none => s
    | some set =>
      let s : State := if s.src.bindNo = p.bindNo then { s with src := { s.src with bound := none } } else s
      (s.putSources set).sourceApplied (some p.no)
  if s.ltrOn ∧ s.com.live.hostLayer ∧ old.hostLayer = false then
    s.ltrSend (some (hostLatNs s.com.live)) s.now else s

/-- CAST_SWITCH at its boundary. -/
def State.switchCast (s : State) : State := match s.chi.switch_ with
  | none => s
  | some k => { s with
      com := { s.com with live := { s.com.live with activeCast := k }, maq := { s.com.maq with activeCast := k } },
      chi := { s.chi with switch_ := none, castLive := true } }

/-- Plinth begins at its boundary unless a commit has just gone live. -/
def State.enterPlinth (s : State) (committed : Bool) : State := match s.chi.plinthWait with
  | none => s
  | some reason =>
    let s := { s with chi := { s.chi with plinthWait := none } }
    if committed ∨ s.chi.plinth ∨ s.inTrip then s
    else ({ s with chi := { s.chi with plinth := true } }).raiseB 0x0482 0 (1 + 2 * reason)

/-- The settings outside the maquette that wait for a boundary: compose events, freeze detection, mask set, probe. -/
def State.smallSettings (s : State) : State :=
  let s := match s.com.composeWait with
    | none => s
    | some (line, en) => { s with com := { s.com with matchLine := line, eventEn := en, composeWait := none } }
  let s := match s.com.freezeWait with
    | none => s
    | some (pitch, n) => { s with com := { s.com with sigPitch := pitch, compositeN := n, freezeWait := none } }
  { s with col := { s.col.applyMask with probePos := s.col.probeNext.getD s.col.probePos, probeNext := none } }

/-- The copy for the boundary after becomes that for the next. -/
def ColourUnit.shiftMarks (u : ColourUnit) : ColourUnit :=
  { u with marks := (u.marks.filter fun m => m.copy != 0).map fun m => if m.copy = 1 then { m with copy := 0 } else m }

/-- Step 2 of R21. -/
def State.configBoundary (s : State) : State :=
  let s := { s with chi := { s.chi with darkTick := false } }
  let s := s.switchCast
  let due := s.com.next
  let s := { s with com := { s.com with next := s.com.later, later := none } }
  let s := match due with
    | none => s
    | some p => s.goLive p
  let s := { s with col := s.col.shiftMarks }
  let s := s.enterPlinth due.isSome
  let s := match s.src.apply with
    | none => s
    | some set => (({ s with src := { s.src with apply := none } }).putSources set).sourceApplied none
  s.smallSettings

/-! ## Step 3: lanes and the cast in force (06 R125, R137, R143; 07 R167 to R169) -/

/-- Loads run on an array: the sequencer plays a cast in force that shows it. -/
def State.hasLoads (s : State) (a : Nat) : Bool :=
  s.chi.sequencing && s.showsInForce a && !(s.com.live.picSlots a).isEmpty

/-- A ready lane whose array has taken it into its lane map, or plays no loads, enters service. -/
def State.restoreLane (s : State) (n : Nat) : State :=
  match s.laneArray n with
  | none => s
  | some a =>
    let l := at_ s.pl.lanes n
    if l.ready ∧ l.held = false ∧ (s.array a).state = 5 ∧
        ((at_ s.chi.runs a).mapLanes.getLsbD n ∨ s.hasLoads a = false) then
      let s := s.lane n fun l => { l with ok := true, ready := false }
      s.raiseB 0x0502 n (s.laneCount a + 256 * a)
    else s

/-- The reason of CAST_IN_FORCE. Where a CAST_SWITCH and a commit both change the live active cast at a boundary it is 1: the spec lists
reasons 0 and 1 together (DESIGN CHOICE, assumption 124). -/
def castReason (held lanes : Bool) (activeBefore activeNow : Option Nat) (switched : Bool) : Nat :=
  if held then 4 else if lanes then 2
  else if activeBefore ≠ activeNow then (if switched then 1 else 0) else 3

/-- The cast in force and the dark arrays of the tick, with CAST_IN_FORCE if either changes. -/
def State.setCast (s : State) (c : CastChoice) (reason : Nat) : State :=
  let dark := (c.dark.map fun a => 2 ^ a).sum
  let old := s.chi.inForce
  let change := decide (c.cast ≠ old) || decide (dark ≠ s.chi.dark)
  let s := { s with chi := { s.chi with inForce := c.cast, dark := dark } }
  if change then
    ({ s with chi := { s.chi with changes := s.chi.changes + 1 } }).raiseB 0x0481 0
      (c.cast + 256 * old + 65536 * dark + 2 ^ 20 * reason)
  else s

/-- LANE_DEGRADED of one array (07 R168). -/
def State.judgeDegraded (s : State) (a : Nat) : State :=
  let e := s.liveEnv
  let act := s.cast s.com.live.activeCast
  let dark := bit s.chi.dark a
  let now := s.chi.castLive && s.com.live.hasPic && act.shows a && !castFits e act a &&
    (dark || s.chi.inForce != s.com.live.activeCast)
  let was := (s.array a).degraded
  let s := s.arr a fun x => { x with degraded := now }
  if now && !was then s.raiseB 0x0503 a (s.laneCount a + 256 * b2n (!dark) + 65536 * s.chi.inForce) else s

/-- The next EPOCH and the LANE_MAP that carries it (07 R147, R167). -/
def State.newMap (s : State) (a : Nat) (mask : BitVec 96) : State :=
  s.arr a fun x => { x with epoch := (x.epoch + 1) % 16, wire := x.wire ++ [.laneMap ((x.epoch + 1) % 16) mask] }

/-- What an array plays in the tick that opens. A lane lost since the map point, or another choice than the provisional one,
puts CLEAR on the first RESET, and a fresh lane map goes before the first load (07 R167). -/
def State.runBoundary (s : State) (a : Nat) : State :=
  let r := at_ s.chi.runs a
  let mapped := r.provisional.isSome
  let lanes := s.shareMask a (BitVec.ofNat 96 (((s.servesOf a).map fun n => 2 ^ n).sum))
  let once := r.clear || r.provisional != some s.chi.inForce || (mapped && lanes != r.mapLanes)
  let s := if mapped ∧ once ∧ s.hasLoads a then s.newMap a lanes else s
  let next : ArrayRun := { r with
    group := none, pos := 0, nextAt := s.tk.start, entry := none, provisional := none, shown := none, once := once,
    clear := r.clear && !mapped, mapLanes := if mapped then lanes else r.mapLanes }
  { s with chi := { s.chi with runs := upd s.chi.runs a fun _ => next } }

/-- The TICK block goes to this array at a boundary: in RUN and PARKED while the sequencer runs, and in RECORD, whose resets
TICK_REPORT acknowledges (07 R160, 22 R460). -/
def State.ticksArray (s : State) (x : ArrayUnit) : Bool :=
  !s.inTrip && (x.state == 4 || (s.chi.sequencing && (x.state == 5 || x.state == 6)))

/-- The TICK that ends an interval: TICK_REPORT compares with what was sent in it (07 R163). -/
def State.countLoads (s : State) : State :=
  { s with pl := { s.pl with arrays := s.pl.arrays.map fun x => { x with
      sentTick := x.loadsSent, loadsSent := 0,
      wire := if s.ticksArray x then x.wire ++ [.tick (s.tk.tick.setWidth 16)] else x.wire } } }

/-- The depths the chisel composes at: those of the choice before R125. -/
def State.depthOf (s : State) (k : Nat) : List Nat := if k = 0xFF then List.replicate 8 0 else (s.cast k).depth

/-- Step 3 of R21. `before` is the live active cast before step 2, none before a commit has admitted one. -/
def State.castBoundary (s : State) (before : Option Nat) (switched : Bool) : State :=
  let s := (List.range 96).foldl State.restoreLane s
  let s := if s.inTrip then (s.setCast ⟨0xFF, []⟩ 5).leavePlinth 3
    else
      let e := s.liveEnv
      let c := chooseCast e s.chi.castLive
      let (f, held) := s.castHeld e c s.chi.darkTick
      let lanes := s.chi.laneLost && c.cast != 0xFF && (c.cast != s.com.live.activeCast || !c.dark.isEmpty)
      let now := if s.chi.castLive then some s.com.live.activeCast else none
      let s := if s.chi.plinth then s else { s with chi := { s.chi with backDepth := s.depthOf c.cast } }
      let s := s.setCast f (castReason held lanes before now switched)
      fourArrays.foldl State.judgeDegraded s
  let s := fourArrays.foldl State.runBoundary s.countLoads
  { s with chi := { s.chi with laneLost := false } }

/-! ## Tick sources at a boundary (02 R36 to R40, 14 R303, R305, R306) -/

/-- FREQ_EST: the offset at which the local period would equal the period averaged over the last 8 ticks, whose tu were as long as
the mean offset over those ticks made them. -/
def State.freqEstNow (s : State) : Int :=
  let r := at_ s.tk.refs (s.tk.active - 1)
  match r.refs[0]?, r.refs[8]?, r.sums[0]?, r.sums[8]? with
  | some (a : Int), some (b : Int), some (x : Int), some (y : Int) =>
    let (c, n) := cadence s.liveMode
    if a ≤ b then s.ck.freqEst
    else roundDiv ((100000000 * (a - b) + (x - y)) * 8 * (n : Int)) ((c : Int) * (a - b) * (a - b)).toNat - 100000000
  | _, _, _, _ => s.ck.freqEst

/-- The first reference of a source predicted after an instant. -/
def State.nextRef (s : State) (id t : Nat) : Option Nat :=
  match (at_ s.tk.refs (id - 1)).refs with
  | [] => none
  | last :: _ =>
    let (c, n) := cadence s.liveMode
    let k : Int := (((t : Int) - last) * c).fdiv n + 1
    some (last + (k * n).fdiv c).toNat

/-- PHASE_ERR of the active source at the boundary that has opened: a stamp names its boundary, so that the error follows from it
(02 R39); any other source keeps the error of its last reference, and one that has just become active that of the reference nearest
to the boundary (02 R50). -/
def State.phaseAtBoundary (s : State) (switched : Bool) : State :=
  if s.tk.active = 3 then
    match s.stampHere with
    | some x => { s with tk := { s.tk with phaseErr := x - s.tk.start } }
    | none => s
  else if switched ∧ s.tk.active ≠ 4 then
    match s.nextRef s.tk.active s.tk.start with
    | some t => { s with tk := { s.tk with phaseErr := s.phaseOf t } }
    | none => s
  else s

/-- The genlock loop's update while REFCLK is valid and SEQPLL locked (14 R305, R310), and the lock state that TICK_STATUS reads,
which follows PHASE_ERR at every boundary (14 R306). -/
def State.genlockBoundary (s : State) : State :=
  if s.tk.active = 4 ∨ s.sourceValid s.tk.active = false then { s with tk := { s.tk with lockRun := 0 } } else
  let err := s.tk.phaseErr
  let run := if err.natAbs ≤ 8 then min 8 (s.tk.lockRun + 1) else 0
  let track := if run = 8 then 0 else if 40 < err.natAbs then 1 else s.tk.track
  let s := { s with tk := { s.tk with lockRun := run, track := track } }
  if s.ck.refValid = false ∨ (at_ s.ck.plls 1).coast then s else
  let est := s.freqEstNow
  { s with ck := { s.ck with
      freqEst := est, goal := some (genlockTarget est err s.tk.prevLen (u16 s.ck.cfg 4)) } }

/-- What a switch of source does to SEQPLL: a listed source ends the host's ramp and steers from here (14 R303); the internal one
holds the control value that stands (02 R37), or the one that the loss of the old source set (14 R308). -/
def State.dropGoal (s : State) (new : Nat) (oldValid : Bool) : State :=
  if new = 4 then (if oldValid then { s with ck := { s.ck with goal := none } } else s)
  else { s.endRamp 1 2 with ck := { (s.endRamp 1 2).ck with goal := none } }

/-- A switch of source at the boundary. While the sequencer is stopped the next boundary lies on the new reference. -/
def State.switchSource (s : State) : State :=
  let new := s.bestSource
  let old := s.tk.active
  let reason := s.tk.reason
  let s := { s with tk := { s.tk with reason := 0 } }
  if new = old then s else
  let s := { s with tk := { s.tk with active := new, renumberDue := s.tk.renumberDue || new == 1 } }
  let s := s.dropGoal new (s.sourceValid old)
  let s := s.raiseB 0x0201 0 (new + 256 * old + 65536 * reason)
  if s.chi.sequencing ∨ new = 4 then s else
  match s.nextRef new s.tk.start with
  | some t => if s.tk.start < t then { s with tk := { s.tk with len := t - s.tk.start } } else s
  | none => s

/-- A stamp is missing for 64 ticks (02 R35); the tick that opens is not one of the last 64 (DESIGN CHOICE, assumption 117). -/
def State.stampCheck (s : State) : State := if 64 ≤ s.tk.stampAge then s.loseSource 3 3 else s

/-- The tick's source at the boundary; `mode` tells that the mode changed. A source that was lost before carries the reason of
its loss (02 R51); a source that the new mode makes valid is a higher one that has become valid (DEDUCED, assumption 125). -/
def State.sourceOfTick (s : State) (mode : Bool) : State :=
  let s := s.stampCheck
  let s := if mode then
      let t := s.rejudgeSources
      if s.sourceValid s.tk.active ∧ t.sourceValid s.tk.active = false then { t with tk := { t.tk with reason := 3 } } else t
    else s
  (s.switchSource.phaseAtBoundary (s.bestSource != s.tk.active)).genlockBoundary

/-! ## The boundary -/

/-- Requests that wait for a tag, after allotments have changed. -/
def State.pumpAll (s : State) : State := s.offerTags.judgeFences

/-- Plinth that has just begun puts the memory into self-refresh unless a request keeps it out. -/
def State.plinthRefresh (s : State) : State :=
  if s.chi.plinth ∧ s.fetch.selfRefresh = false ∧ s.ddrBusy = false then s.refresh else s

/-- The units that act at a boundary on their own: diagnostics, patina, calibration, content store, effect outputs,
Cumaslink. -/
def State.unitBoundaries (s : State) (len : Nat) : State :=
  let s := (s.effectBoundary.diagBoundary).patinaBoundary len
  let s := s.calBoundary.csBoundary.epbBoundary
  s.clBoundary len

/-- The boundary that ends the running tick: steps 1 to 5 of R21 and what else acts there. Their events are dated to it. -/
def State.boundary (s : State) : State :=
  if s.tk.open_ = false then s else
  let ended := s.tk.tick
  let len := s.tk.len
  let t := s.tk.start + len
  let s := (s.ltrTo t).forward t
  let (no, renumbered) := s.nextNumber t
  let mode := s.com.live.mode
  let before := if s.chi.castLive then some s.com.live.activeCast else none
  let switched := s.chi.switch_.isSome
  let s := s.openTick t no renumbered
  let s := (s.constancyEnd len).sourceBoundary ended len
  let s := s.swapFrames.configBoundary
  let s := { s with tk := { s.tk with len := tickLen s.liveMode no } }
  let s := (s.castBoundary before switched).throttleBoundary.constancyBoundary
  let s := if renumbered then s.raiseB 0x0203 0 ended.toNat else s
  let s := s.sourceOfTick (s.com.live.mode != mode)
  let s := s.unitBoundaries len
  s.pumpAll.beginFrame.plinthRefresh

/-! ## Slots (02 R43, R45; 06 R133) -/

/-- The slots of a tick that name an array, by index in the armature. -/
def Cfg.picIndex (c : Cfg) (a : Nat) : List Nat := indices c.slots fun k => k.type == 0 && bit k.units a

/-- The PIC slots of array a before slot i: the number of the group that plays in slot i. -/
def Cfg.groupNo (c : Cfg) (a i : Nat) : Nat := ((c.picIndex a).filter fun j => decide (j < i)).length

/-- An array plays lit windows in this tick. -/
def State.plays (s : State) (a : Nat) : Bool :=
  s.showsInForce a && !bit s.chi.dark a && !s.chi.darkTick && (s.array a).state == 5

/-- What array a does in slot i. -/
def State.startGroup (s : State) (i a : Nat) : State :=
  let k := at_ s.com.live.slots i
  let g := s.com.live.groupNo a i
  let on := k.type == 0 && bit k.units a && s.plays a && decide (g < ((s.cast s.chi.inForce).groups a).length)
  { s with chi := { s.chi with runs := upd s.chi.runs a fun r =>
    { r with group := if on then some g else none, pos := 0, nextAt := s.tk.start + s.slotOffset i, entry := none, shown := none } } }

/-- The stored plane of a cast bit in a frame composed at depths D (06 R125). -/
def storedPlane (depths : List Nat) (c : Cast) (e : CEntry) : Nat × Nat :=
  (e.prim, e.bitNo + depths.getD e.prim 0 - c.depth.getD e.prim 0)

/-- One load, which begins at instant `t`, goes to an array: a plane of a frame at the place of a cast's section, or none for all mirrors off (07 R151). -/
def State.load (s : State) (a t : Nat) (c : Cast) (frame : List (List (List Nat))) (plane : Option (Nat × Nat)) : State :=
  let k := at_ c.sections a
  let s := s.arr a fun x =>
    let r := x.record.getD []
    { x with
      loadSeq := (x.loadSeq + 1) % 256, loadsSent := x.loadsSent + 1,
      wire := x.wire ++ [.load ((x.loadSeq + 1) % 256) (arRows r) (arCols r) k.ox k.oy plane (if plane.isSome then frame else [])] }
  { s with chi := { s.chi with runs := upd s.chi.runs a fun r => { r with loaded := plane, loadAt := t } } }

/-- The plane of the first entry of the group that plays in the next slot, which is a later PIC slot of the array: it is loaded in the
LOAD_TU before that slot starts (06 R133). -/
def State.preload (s : State) (i a : Nat) : State :=
  let k := at_ s.com.live.slots (i + 1)
  let c := s.cast s.chi.inForce
  let g := s.com.live.groupNo a (i + 1)
  if s.com.live.slots.length ≤ i + 1 ∨ k.type ≠ 0 ∨ bit k.units a = false ∨ g = 0 ∨ s.plays a = false then s else
  match ((c.groups a)[g]?).map fun l => l.head? with
  | some (some (_, e)) =>
    let t := s.tk.start + s.slotOffset (i + 1) - loadTu ((s.array a).record.getD []) (s.laneCount a)
    s.load a t c s.chi.frontRows (some (storedPlane s.chi.frontDepth c e))
  | _ => s

/-- SLOT_START: the next slot of the armature. The path switches change at the start of a GUARD slot only, and as the sequencer starts
(02 R46, 08 R187; DEDUCED, assumption 119). -/
def State.slotStart (s : State) : State :=
  let i := match s.tk.slot with
    | none => 0
    | some n => n + 1
  if s.tk.open_ = false ∨ s.chi.sequencing = false ∨ s.com.live.slots.length ≤ i then s else
  let k := at_ s.com.live.slots i
  let s := s.forward (s.tk.start + s.slotOffset i)
  let s := { s with tk := { s.tk with
    slot := some i, wasSlot := s.tk.inSlot, inSlot := some k, slotAt := s.tk.start + s.slotOffset i,
    pth := if k.type = 3 ∨ s.tk.inSlot = none then k.pth else s.tk.pth } }
  let s := fourArrays.foldl (fun s a => (s.startGroup i a).preload i a) s
  if k.type = 2 then { s with diag := { s.diag with cell := 0, emitterUsed := false } } else s

/-! ## Entries (06 R132, R133; 07 R153, R166) -/

/-- RESET, to execute at instant `t`: the loaded plane is displayed, or all mirrors off with CLEAR (07 R166, R164; 09 R211); a bias
command takes effect (07 R153, R154, R157). -/
def State.resetArray (s : State) (a t : Nat) : State :=
  let r := at_ s.chi.runs a
  let off := r.clear || r.once || (s.array a).clear || (s.array a).sgnd
  let s := { s with chi := { s.chi with runs := upd s.chi.runs a fun r =>
    { r with shown := if off then none else r.loaded, once := false } } }
  s.arr a fun x => { x with
    bias := x.biasNext.getD x.bias, biasNext := none, wire := x.wire ++ [.reset none off (some t) x.loadSeq] }

/-- What was measured of the entry whose lit window ends: charge, light and the natural observations (10 R221, 08 R192). `next` is the
instant at which the next entry opens. -/
def State.endWindow (s : State) (a next : Nat) (ws : List WindowObs) (light : List LightObs) : State :=
  let s : State := match (at_ s.chi.runs a).entry with
    | none => s
    | some i =>
      let e := at_ (s.cast s.chi.inForce).entries i
      let gap := gapOf s.src.live a ((s.array a).record.getD [])
      let n := samplesIn (s.attribution a (next - gap - e.lit) e.lit)
      let s := light.foldl (fun (s : State) o => s.attributeLight a e.prim n o) s
      ws.foldl (fun (s : State) w => s.attributeCharge a e.prim w) s
  s.windows ws s.pulseWindow

/-- The channels of a primary on an array take the current of a level. In the entry that opens at `e0` a channel of herd offset o
conducts from e0 + G + o for LIT_TU, BOOST_DELAY ahead of that at the pin of a booster bank (08 R185). -/
def State.openWindow (s : State) (a e0 gap : Nat) (e : CEntry) : State :=
  (channels.filter fun c => chLights a (s.chan c) && chPrimary (s.chan c) == e.prim).foldl
    (fun s c =>
      let t := e0 + gap + chHerd (s.chan c) - bkDelay (s.bankOf c)
      s.place c t (t + e.lit) (s.pictureCode c e.level) false) s

/-- ENTRY_OPEN: the next entry of the group that plays, or its closing period. The reset follows the last channel's switch-off, and the
next load begins with it (06 R132). -/
def State.entryOpen (s : State) (a : Nat) (ws : List WindowObs) (light : List LightObs) : State :=
  let r := at_ s.chi.runs a
  match r.group with
  | none => s
  | some g =>
    if 3 < a ∨ s.tk.open_ = false ∨ s.chi.sequencing = false ∨ s.plays a = false then s else
    let c := s.cast s.chi.inForce
    let grp := at_ (c.groups a) g
    let gap := gapOf s.src.live a ((s.array a).record.getD [])
    let off := r.nextAt + s.src.live.herdSpan a
    let s := (((s.forward r.nextAt).endWindow a r.nextAt ws light).resetArray a off)
    let plane := fun (x : Nat × CEntry) => storedPlane s.chi.frontDepth c x.2
    match grp[r.pos]? with
    | some (i, e) =>
      let s := s.load a off c s.chi.frontRows ((grp[r.pos + 1]?).map plane)
      let s := { s with chi := { s.chi with runs := upd s.chi.runs a fun r =>
        { r with entry := some i, pos := r.pos + 1, nextAt := r.nextAt + gap + e.lit } } }
      s.openWindow a r.nextAt gap e
    | none => { s with chi := { s.chi with runs := upd s.chi.runs a fun r => { r with entry := none, group := none } } }

/-! ## Map points (07 R167) -/

/-- Lanes of an array's next map: those in service and those that are ready. -/
def State.mapSet (s : State) (a : Nat) : List Nat :=
  (s.lanesOf a).filter fun n => s.laneServes n || ((at_ s.pl.lanes n).ready && !(at_ s.pl.lanes n).held && (s.array a).state == 5)

/-- The configuration and source set due at the next boundary. -/
def State.dueSet (s : State) : SourceSet :=
  let b := match s.com.next with
    | some p => p.bound
    | none => s.src.apply
  b.getD s.src.live

def State.dueCfg (s : State) : Cfg :=
  let c := s.nextCfg
  match s.chi.switch_, s.com.next with
  | some k, none => { c with activeCast := k }
  | _, _ => c

/-- Whether the map point lies within the running tick: the array's first PIC slot has not started and LOAD_TU fits before
it. -/
def State.mapInTick (s : State) (a loadLen : Nat) : Bool :=
  match (s.com.live.picIndex a).head? with
  | none => false
  | some i => decide (loadLen ≤ s.slotOffset i) && match s.tk.slot with
    | none => true
    | some k => decide (k < i)

/-- MAP_POINT: lane map, provisional choice under 06 R137 with R125, and preload of the first plane. -/
def State.mapPoint (s : State) (a : Nat) : State :=
  let rec_ := (s.array a).record.getD []
  let lanes := s.mapSet a
  if 3 < a ∨ s.tk.open_ = false ∨ s.chi.sequencing = false ∨ (s.array a).state ≠ 5 ∨ lanes = [] then s else
  let len := loadTu rec_ lanes.length
  let inTick := s.mapInTick a len
  let cfg := if inTick then s.com.live else s.dueCfg
  let set := if inTick then s.src.live else s.dueSet
  let (depths, frame) := if inTick ∨ s.chi.plinth then (s.chi.frontDepth, s.chi.frontRows) else (s.chi.backDepth, s.chi.backRows)
  let base := if inTick then s.tk.start else s.tk.start + s.tk.len
  match (cfg.picIndex a).head? with
  | none => s
  | some i =>
    let at0 := base + cfg.slotOffset (if inTick then s.tk.len else tickLen cfg.mode.toNat (s.tk.tick + 1)) i
    let s := s.forward (at0 - len)
    let mask := BitVec.ofNat 96 ((lanes.map fun n => 2 ^ n).sum)
    let s := if mask ≠ (at_ s.chi.runs a).mapLanes then s.newMap a mask else s
    let env := { s.castEnv cfg set with lanes := fourArrays.map fun b => (s.mapSet b).length }
    let shown : State := { s with chi := { s.chi with frontDepth := depths } }
    let choice := chooseCast env (s.chi.castLive || s.com.next.isSome)
    let k := if inTick then s.chi.inForce else (shown.castHeld env choice (cfg.mode != s.com.live.mode)).1.cast
    let s := { s with chi := { s.chi with runs := upd s.chi.runs a fun r =>
      { r with mapLanes := mask, clear := false, once := r.once && !inTick, provisional := if inTick then r.provisional else some k } } }
    if k = 0xFF then s else
    match ((s.cast k).groups a).head? with
    | some ((_, e) :: _) => s.load a s.now (s.cast k) frame (some (storedPlane depths (s.cast k) e))
    | _ => s

/-- TICK_BOUNDARY (01 R21). -/
def execTickBoundary (s : State) : Out := done s.boundary
/-- SLOT_START (02 R45). -/
def execSlotStart (s : State) : Out := done s.slotStart
/-- ENTRY_OPEN (06 R132). -/
def execEntryOpen (a : Nat) (ws : List WindowObs) (light : List LightObs) (s : State) : Out := done (s.entryOpen a ws light)
/-- MAP_POINT (07 R167). -/
def execMapPoint (a : Nat) (s : State) : Out := done (s.mapPoint a)

end Sys2Proof.Machine
end

