-- ==== Sys2Proof/Machine/Faults.lean ====
section
/-! DEFINITION. Faults of the whole device: the inter-die bridge (chapter 01), the processor fault (01 R26, R499), the
thermal trip (15 R326, R329) and the loss of VDRV (24 R485). -/
namespace Sys2Proof.Machine

/-! ## The inter-die bridge (01 R16, R17) -/

/-- A bridge word fails its CRC-8: the field keeps its value; the second failure in a row raises BRIDGE_ERROR. -/
def State.bridgeWord (s : State) (word : W16) (toCore repeated : Bool) : State :=
  s.raiseIf repeated 0x0110 0 (word.toNat + 65536 * b2n toCore)

/-- The axes that a bridge loss sends to heel with cause 7 (13 R290). -/
def State.bridgeAxes (s : State) : List Nat :=
  allAxes.filter fun a => (at_ s.axes a).state != 0 && (decide (a < 8) || ioKind (at_ s.ios a).record == 3)

/-- Feedback that crosses the bridge has just been invalid (13 R289). -/
def State.bridgeFb (s : State) : State :=
  allAxes.foldl (fun s a =>
    if ioKind (at_ s.ios a).record = 0 ∨ ioKind (at_ s.ios a).record = 3 then s.fbBad a else s) s

/-- No valid word for 10 µs. -/
def State.bridgeLoss (s : State) : State :=
  if s.show_.bridgeLost then s else
  let s := { s with show_ := { s.show_ with bridgeLost := true, bridgeHeel := true } }
  s.bridgeAxes.foldl (fun s a => s.heel a 7) s.bridgeFb

/-- Valid words again. The axes stay in heel, and the sinks off, until the host takes the fast axes out of it (01 R17). -/
def State.bridgeResume (s : State) : State :=
  if s.show_.bridgeLost then ({ s with show_ := { s.show_ with bridgeLost := false } }).bridgeFb else s

/-! ## The firmware image (21 R441, 22 R463, R464) -/

/-- An image passes every check of 21 R441. -/
def State.imageOk (s : State) (slot : Nat) : Bool :=
  let h := s.flashRead (slotBase slot) 256
  let n := u32 h 8
  h.take 4 == [0x46, 0x4A, 0x46, 0x57] && u16 h 4 == 1 && n % 256 == 0 && inRange 256 16776960 n &&
    decide (byteAt h 0x11 ≤ 3) && decide (byteAt h 0x10 ≤ 63) &&
    sha256 (slice h 0x40 64) == Config.fwKeyHash (byteAt h 0x11) && !bit s.sec.fwRevoked (byteAt h 0x11) &&
    ecdsaOk (slice h 0x40 64) (h.take 0xC0) (slice h 0xC0 32) (slice h 0xE0 32) &&
    sha256 (s.flashRead (slotBase slot + 256) n) == slice h 0x20 32 && decide (s.sec.secMin ≤ byteAt h 0x10)

/-- A copy of the boot record is valid. -/
def bootRecOk (r : Rec) : Bool := r.take 4 == [0x46, 0x4A, 0x42, 0x52] && u32 r 0x1C == (crc32 (r.take 0x1C)).toNat

def bootCopy (copy : Nat) : Nat := 0x8000 * copy

/-- The copy of the boot record in force, chosen as a kennel slot is (16 R346). -/
def State.bootCopyInForce (s : State) : Option Nat :=
  let a := s.flashRead (bootCopy 0) 32
  let b := s.flashRead (bootCopy 1) 32
  if bootRecOk a ∧ bootRecOk b then
    some (if seqLater (BitVec.ofNat 32 (u32 b 4)) (BitVec.ofNat 32 (u32 a 4)) then 1 else 0)
  else if bootRecOk a then some 0 else if bootRecOk b then some 1 else none

/-- SEQ, PREFERRED, TRIAL and TRIES in force; zeros without a valid record. -/
def State.bootRec (s : State) : Rec := match s.bootCopyInForce with
  | some k => s.flashRead (bootCopy k) 32
  | none => zeros 32

def State.preferred (s : State) : Nat := byteAt s.bootRec 8 % 2
def State.trialSet (s : State) : Bool := byteAt s.bootRec 9 == 1

/-- The record is written into the copy not in force, SEQ raised by 1. -/
def State.writeBootRec (s : State) (preferred trial tries : Nat) : State :=
  let copy := match s.bootCopyInForce with
    | some 0 => 1
    | _ => 0
  let r := [0x46, 0x4A, 0x42, 0x52] ++ le 4 (u32 s.bootRec 4 + 1) ++ le 1 preferred ++ le 1 trial ++ le 1 tries ++ zeros 17
  { s with boot := { s.boot with flash := spPut 0xFF s.boot.flash (bootCopy copy) (r ++ le 4 (crc32 r).toNat) } }

/-- The slots in the order of 22 R464; a restart tries the image that was running first. -/
def State.bootOrder (s : State) (power : Bool) : List Nat :=
  let l := [s.preferred, 1 - s.preferred, 2]
  match power, s.boot.slot with
  | false, some k => k :: l.filter fun x => x != k
  | _, _ => l

/-- At power-on the boot ROM settles the trial state first. -/
def State.settleTrial (s : State) : State :=
  let s := { s with boot := { s.boot with reverted := false } }
  if s.trialSet = false then s
  else if byteAt s.bootRec 0x0A = 0 then s.writeBootRec s.preferred 1 1
  else
    let s := s.writeBootRec (1 - s.preferred) 0 (byteAt s.bootRec 0x0A)
    { s with boot := { s.boot with reverted := true } }

/-- Recovery (22 R457, R465): FW_STATE 5, and the hardware at its reset values, every output included; ticks and their forwarding on
Cumaslink, the mailbox hardware and the thermal protection run on. -/
def State.recover (s : State) : State :=
  { State.reset with
    now := s.now, free := s.free, pending := s.pending, evq := s.evq, mbx := { s.mbx with fwState := 5 },
    tk := { s.tk with inSlot := none, wasSlot := none, pth := 0, syncOutCtl := 0, syncUntil := 0 }, ck := s.ck, th := s.th, ken := s.ken, cl := s.cl, sec := s.sec,
    show_ := { ShowIo.reset with ilkOff := s.show_.ilkOff, ilkLowAt := s.show_.ilkLowAt, bridgeLost := s.show_.bridgeLost },
    boot := { s.boot with slot := none, fallback := false, trial := false } }

/-- The first image that passes runs; none is recovery. -/
def State.chooseImage (s : State) (power : Bool) : State :=
  let l := s.bootOrder power
  match l.find? s.imageOk with
  | some k => { s with boot := { s.boot with
      slot := some k, fallback := l.head? != some k, trial := s.trialSet && k == s.preferred } }
  | none => s.recover

/-! ## The processor fault (01 R26, R499) -/

/-- What waiting commands had asked of the drive and has not been issued is given up, and a cue list still to be read is not started
(23 R473). -/
def State.dropOps (s : State) : State :=
  let cut := fun (o : NvmeOp) => match o.use with
    | .command _ _ => { o with todo := [] }
    | _ => o
  let reading := fun (k : Nat) => s.mbx.parked.any fun c => c.opcode == 0x0E09 && c.key % 4 == k
  { s with cs := { s.cs with
    ops := (s.cs.ops.map cut).filter fun o => decide (o.todo ≠ []) || decide (0 < o.tags),
    players := s.cs.players.mapIdx fun k p => if reading k then none else p } }

/-- Commands taken and not answered get FAULT, and what is pending is discarded (23 R473, 06 R140). -/
def State.dropPending (s : State) : State := s.kennelDropQueue.dropOps.faultReplies.discardPending

/-- A fault with its cause, 1 lockstep and 2 watchdog: CPU_FAULT is set, CPU_RESTART waits for the firmware, and the image
is loaded again. Through FW_STATE 1 and 2 the picture goes to plinth at the next boundary, every axis to heel with cause 8
and every head is blanked with cause 5. -/
def State.cpuFault (s : State) (cause : Nat) : State :=
  let fw := s.mbx.fwState
  if fw = 4 ∨ fw = 5 ∨ (fw = 3 ∧ s.th.state ≠ 2) ∨ s.boot.porstLow then s else
  let s := { s with
    mbx := { s.mbx with flagCpuFault := true }, boot := { s.boot with cause := cause } }
  let s := if fw = 1 ∨ fw = 2 then
      let s := { s with
        mbx := { s.mbx with fwState := 2 }, boot := { s.boot with restart := 1, startAt := s.now, reverted := false },
        chi := { s.chi with plinthWait := some 2 } }
      let s := s.dropPending
      let s := (s.blankHeads 5).epbHalt.endSession 2
      let s := allAxes.foldl (fun s a => s.heel a 8) s
      s.constancyRestart
    else s.faultReplies
  s.chooseImage false

/-! ## The thermal trip (15 R326, R327, R329) -/

/-- The drives as a trip leaves them: fast DACs at code 0 with no ramp, every output of the motion axes low (13 R285). -/
def State.stopDrives (s : State) : State :=
  { s with ios := s.ios.mapIdx fun a (x : AxisIo) =>
      if a < 8 then { x with dac := 0, rampStep := none, startAt := none }
      else { x with brake := true, duties := [0, 0, 0], startAt := none } }

/-- Every output stops: banks and transmitters forced off until they start again, drives, effect strings, reads, the
sequencer; a kennel write under way is cut off. -/
def State.stopOutputs (s : State) : State :=
  let s := s.stopDrives.kennelCut.dropReads.epbHalt
  { s with
    src := { s.src with banksAt := none },
    pl := { s.pl with groupsAt := List.replicate 12 none },
    tk := { s.tk with inSlot := none, wasSlot := none },
    chi := { s.chi with sequencing := false, plinthWait := none } }

/-- A trip of a zone: source 0 the comparator, 1 the reading path. The third within 600 s is LOCKOUT. Recovery ends at a power-on reset
alone (22 R465). -/
def State.trip (s : State) (z source : Nat) : State :=
  let t := s.th
  let times := (s.now :: t.tripTimes).filter fun x => decide (s.now - x ≤ 600 * tuS)
  let lock := t.state == 3 || decide (3 ≤ times.length)
  let fresh := t.state == 0
  let s := { s with
    th := { t with
      state := if lock then 3 else 1, trips := t.trips + 1, tripTimes := times, tripMask := 2 ^ z, tripAt := s.now,
      firstTripAt := if fresh then s.now else t.firstTripAt, cTrip := if fresh then t.c else t.cTrip,
      released := false },
    mbx := { s.mbx with fwState := if s.mbx.fwState = 5 then 5 else if lock then 4 else 3 } }
  let s := s.raise 0x0B03 z (source + 256 * (times.length % 256) + 65536 * pattern 16 (at_ t.zones z).reading)
  let s := s.stopOutputs.dropPending
  let s := (s.blankHeads 5).endSession 3
  allAxes.foldl (fun s a => s.heel a 8) s

/-- A zone's comparator fires. It acts in every state of a powered device. -/
def State.comparator (s : State) (z : Nat) : State := if 15 < z ∨ s.boot.porstLow then s else s.trip z 0

/-- A reading of a zone, and the trip of the reading path. -/
def State.readZone (s : State) (z : Nat) (v : Int) (power : Nat) : State :=
  if 15 < z ∨ s.boot.porstLow then s else
  match s.zoneReading z v power with
  | (true, s) => s.trip z 1
  | (false, s) => s

/-- BRIDGE_WORD_CRC_FAIL (01 R16). -/
def execBridgeWordCrcFail (word : W16) (toCore repeated : Bool) (s : State) : Out := done (s.bridgeWord word toCore repeated)
/-- BRIDGE_LOSS (01 R17). -/
def execBridgeLoss (s : State) : Out := done s.bridgeLoss
/-- BRIDGE_RESUME (01 R17). -/
def execBridgeResume (s : State) : Out := done s.bridgeResume
/-- LOCKSTEP_MISMATCH (01 R26). -/
def execLockstepMismatch (s : State) : Out := done (s.cpuFault 1)
/-- WATCHDOG_EXPIRY (01 R26): suspended while a debugger holds the processor halted (21 R445). -/
def execWatchdogExpiry (s : State) : Out := done (if s.sec.halted then s else s.cpuFault 2)
/-- TRIP_COMPARATOR_FIRE (15 R326). -/
def execTripComparatorFire (zone : Nat) (s : State) : Out := done (s.comparator zone)
/-- ZONE_READING (15 R319). -/
def execZoneReading (zone : Nat) (value : Int) (power : Nat) (s : State) : Out := done (s.readZone zone value power)
/-- VDRV_LOW (24 R485). -/
def execVdrvLow (low : Bool) (s : State) : Out := done { s with src := { s.src with vdrvLow := low } }

end Sys2Proof.Machine
end

