-- ==== Sys2Proof/Machine/Boot.lean ====
section
/-! DEFINITION. Start-up, restarts and the firmware flash (chapter 22), with the warm restart of chapter 15. -/
namespace Sys2Proof.Machine

/-! ## Loading (16 R346, 22 R461) -/

/-- Each stored record passes its command's check; the record of reset, which no command wrote, does too. -/
def recordsOk (check : Rec → Bool) (reset l : List Rec) : Bool :=
  (l.zipIdx).all fun (r, i) => (reset[i]? == some r) || check r

/-- EXT_CONFIG, DETECT_CONFIG and PROFILE_LIMITS (13 R296). -/
def extOk (r : Rec) : Bool := decide (byteAt r 0 ≤ 15) && inRange 4 400 (u16 r 2) && inRange 80 4000000 (exStepMin r)
def detOk (r : Rec) : Bool := decide (byteAt r 0 ≤ 15) && inRange 1 10000 (u16 r 0x10) && inRange 1 100 (u16 r 0x12)
def limOk (r : Rec) : Bool := decide (byteAt r 0 ≤ 15) && u64 r 8 != 0 && u64 r 0x10 != 0 && u64 r 0x18 != 0

/-- The sections of store 0 that fail their range checks, by ID (22 R461). -/
def State.failedCfg (s : State) (c : StoreCfg) : List Nat :=
  let d := State.reset.storeCfg
  let plain := fun (f : StoreCfg → Rec) (check : Rec → Bool) => f c == f d || check (f c)
  let (_, kind, _, width, delay) := c.tickSrc
  [(1, c.src.banks.all bankOk && c.src.chans.all chanOk && c.src.levels.all levelOk),
   (2, recordsOk axisRecOk (d.axisRecs.map Prod.fst) (c.axisRecs.map Prod.fst) &&
     c.axisRecs.all fun (_, a, b, va, vb, _) => (!va || coefOk a) && (!vb || coefOk b)),
   (3, recordsOk ioOk (d.ioRecs.map fun x => x.1) (c.ioRecs.map fun x => x.1) &&
     recordsOk extOk (d.ioRecs.map fun x => x.2.1) (c.ioRecs.map fun x => x.2.1) &&
     recordsOk detOk (d.ioRecs.map fun x => x.2.2.1) (c.ioRecs.map fun x => x.2.2.1) &&
     recordsOk limOk (d.ioRecs.map fun x => x.2.2.2) (c.ioRecs.map fun x => x.2.2.2)),
   (4, recordsOk headOk d.heads c.heads),
   (5, plain StoreCfg.clockCfg (fun r => inRange 0 10 (byteAt r 0) && inRange 0 10 (byteAt r 1) && inRange 3000 3300 (u16 r 2) &&
       inRange 8 1024 (u16 r 4)) &&
     inRange 1 4 c.plCfg.1 && (c.tickSrc == d.tickSrc || (prioOk (c.tickSrc.1.map BitVec.toNat) && decide (kind.toNat ≤ 1) &&
       inRange 1 65535 width && decide (delay < baseTick s.liveMode))) &&
     plain StoreCfg.diagCfg (fun r => inRange 1 32768 (dgLevel r) && inRange 60 3600 (dgPeriod r)) &&
     plain StoreCfg.trigCfg (fun r => (List.range 8).all fun i => inRange 40 40000 (u16 r (4 * i + 2))) &&
     plain StoreCfg.senseCfg senseOk && plain StoreCfg.constCfg constCfgOk && plain StoreCfg.calCfg calCfgOk &&
     inRange 600 86400 c.periods.1 && inRange 600 86400 c.periods.2),
   (6, plain StoreCfg.clCfg fun r => (decide (clDepthSet r ≤ 4095) || clDepthSet r == 0xFFFF) && inRange 1 600 (u16 r 6) &&
     (clDepthSet r == 0xFFFF || clRootBit r)),
   (7, recordsOk epRecordOk (d.epb.map Prod.fst) (c.epb.map Prod.fst) &&
     recordsOk patternOk (d.epb.map Prod.snd) (c.epb.map Prod.snd))].filterMap
    fun (id, good) => if good then none else some id

/-- Store 0 without the sections that fail: what is live stays in their place. -/
def State.soundCfg (s : State) (c : StoreCfg) : StoreCfg :=
  let bad := s.failedCfg c
  let l := s.storeCfg
  let c := if 1 ∈ bad then { c with src := l.src } else c
  let c := if 2 ∈ bad then { c with axisRecs := l.axisRecs } else c
  let c := if 3 ∈ bad then { c with ioRecs := l.ioRecs } else c
  let c := if 4 ∈ bad then { c with heads := l.heads } else c
  let c := if 5 ∈ bad then
      { c with
        clockCfg := l.clockCfg, plCfg := l.plCfg, tickSrc := l.tickSrc, diagCfg := l.diagCfg, trigCfg := l.trigCfg,
        senseCfg := l.senseCfg, constCfg := l.constCfg, calCfg := l.calCfg, periods := l.periods }
    else c
  let c := if 6 ∈ bad then { c with clCfg := l.clCfg } else c
  if 7 ∈ bad then { c with epb := l.epb } else c

/-- Store 1 without a record whose CHECK fails. -/
def StoreCal.sound (c : StoreCal) : StoreCal := { c with comp := c.comp.filter compOk, model := c.model.filter modelOk }

/-- Store 2 without a PATINA_CONFIG record that fails. -/
def State.soundIdent (s : State) (c : StoreIdent) : StoreIdent :=
  if patinaOk c.patina.cfg then c else { c with patina := { c.patina with cfg := s.pat.cfg } }

/-- The sections of a store's slot in force that the firmware skips: those it does not know (16 R345) and those that fail their
checks (22 R461). -/
def State.sectionsSkipped (s : State) (store : Nat) : Nat := match s.inForceSlot store with
  | some k =>
    (s.kslot store k).extra.length + match (s.kslot store k).content with
      | .config c => (s.failedCfg c).length
      | .calib c => b2n (c.comp.any fun r => !compOk r) + b2n (c.model.any fun r => !modelOk r)
      | .ident c => b2n (!patinaOk c.patina.cfg)
      | .none => 0
  | none => 0

/-- KENNEL_LOAD of every store, counts taken from the headers in force, and whether store 0 or 1 is empty. -/
def State.kennelJudge (s : State) : State :=
  let s := [0, 1, 2].foldl (fun s k =>
    let f := s.inForceSlot k
    s.raise 0x0C05 k ((s.kslot k 0).state + 4 * (s.kslot k 1).state + 16 * f.getD 3 + 65536 * (s.sectionsSkipped k % 65536))) s
  { s with
    cal := { s.cal with storeEmpty := (s.inForceSlot 0).isNone || (s.inForceSlot 1).isNone },
    ken := { s.ken with carry := [0, 1, 2].map fun k => match s.inForceSlot k with
      | some j => ((s.kslot k j).writesA, (s.kslot k j).writesB)
      | none => s.ken.carry.getD k (0, 0) } }

/-- Store 1: compensation from the next round, model, constancy state, accepted values. -/
def State.applyCal (s : State) (c : StoreCal) : State :=
  { s with
    ck := { s.ck with compWait := c.comp },
    th := { s.th with model := match c.model with
      | some r => some r
      | none => s.th.model },
    con := { s.con with
      s := c.s, s0 := c.s0,
      traces := s.con.traces.mapIdx fun j (t : Trace) => match c.traces[j]? with
        | some (e, g, w) => { t with eta0 := e, sigma := g, weight := w }
        | none => t,
      emitters := s.con.emitters.mapIdx fun j (e : Emitter) => match c.emitters[j]? with
        | some (r, w, h) => { e with ref := r, weight := w, home := h }
        | none => e },
    cal := { s.cal with units := s.cal.units.mapIdx fun j (u : CalUnit) => match c.values[j]? with
      | some (v, _) => { u with values := v }
      | none => u } }

/-- No compensation record in the store: RC and bandgap run uncompensated (14 R314). -/
def State.noComp (s : State) : State :=
  ({ s with ck := { s.ck with comp := none, compWait := none, hkComp := false } }).raise 0x0A04 0 0

/-- Store 2: patina; LIFE_CHARGE, the hour counters and what the rates of 21 R447 rest on only at power-on. -/
def State.applyIdent (s : State) (c : StoreIdent) (power : Bool) : State :=
  if power then
    { s with
      pat := c.patina,
      pl := { s.pl with arrays := s.pl.arrays.mapIdx fun j (x : ArrayUnit) => match c.arrays[j]? with
        | some (t, l) => { x with opTu := t, resetHist := l }
        | none => x },
      ken := { s.ken with writeTimes := c.ages.map fun l => l.map fun d => (s.now : Int) - d },
      src := { s.src with sinks := s.src.sinks.mapIdx fun j (k : Sink) => match c.life[j]? with
        | some (l, r) => { k with life := l, lifeRem := r }
        | none => k } }
  else
    { s with pat := { c.patina with
      bankTu := s.pat.bankTu,
      chans := c.patina.chans.mapIdx fun j (p : PatinaChan) => { p with hoursTu := (at_ s.pat.chans j).hoursTu } } }

/-- Store 0, section by section. -/
def State.applyCfg (s : State) (c : StoreCfg) : State :=
  let old := s.src.live
  let s := { s with src := { s.src with live := c.src, staged := c.src } }
  let s := (s.roleChange old).setTriggers c.trigCfg
  { s with
    axes := s.axes.mapIdx fun j (a : Axis) => match c.axisRecs[j]? with
      | some (r, x, y, vx, vy, act) => { a with record := r, bankA := x, bankB := y, validA := vx, validB := vy, active := act }
      | none => a,
    ios := s.ios.mapIdx fun j (a : AxisIo) => match c.ioRecs[j]? with
      | some (r, e, d, l) => { a with record := r, ext := e, det := d, lim := l }
      | none => a,
    heads := s.heads.mapIdx fun j (hd : Head) => { hd with record := c.heads.getD j hd.record },
    ck := { s.ck with
      cfg := c.clockCfg
      lnkSsc := if (at_ s.ck.plls 2).locked || (at_ s.ck.plls 2).coast then byteAt c.clockCfg 1 else s.ck.lnkSsc },
    pl := { s.pl with count := c.plCfg.1, ctl := c.plCfg.2.1, flight := c.plCfg.2.2 },
    tk := { s.tk with
      prio := c.tickSrc.1, syncInKind := c.tickSrc.2.1, syncOutCtl := c.tickSrc.2.2.1, syncOutWidth := c.tickSrc.2.2.2.1,
      syncInDelay := c.tickSrc.2.2.2.2 },
    diag := { s.diag with cfg := c.diagCfg },
    con := { s.con with sense := c.senseCfg, cfg := c.constCfg },
    cal := { s.cal with cfg := c.calCfg },
    ken := { s.ken with period := [0, c.periods.1, c.periods.2] },
    cl := { s.cl with cfg := c.clCfg },
    epb := { s.epb with outs := s.epb.outs.mapIdx fun j (o : EffectOut) => match c.epb[j]? with
      | some (r, p) => { o with record := r, pattern := p }
      | none => o } }

/-- The values of an empty calibration store: those of reset (16 R346). -/
def State.emptyCal (s : State) : State :=
  let s := s.applyCal State.reset.storeCal
  { s with th := { s.th with model := none } }.noComp

/-- The firmware judges all three stores and applies 1, 2 and 0; the settings of an empty store keep their reset values, which a warm
restart brings back (16 R346, 22 R461). -/
def State.applyStores (s : State) (power : Bool) : State :=
  let s := s.kennelJudge
  let s := match s.inForceContent 1 with
    | .calib c => if c.sound.comp.isNone then (s.applyCal c.sound).noComp else s.applyCal c.sound
    | _ => if power then s.noComp else s.emptyCal
  let s := match s.inForceContent 2 with
    | .ident c => s.applyIdent (s.soundIdent c) power
    | _ => if power then s else s.applyIdent State.reset.storeIdent power
  match s.inForceContent 0 with
  | .config c => s.applyCfg (s.soundCfg c)
  | _ => if power then s else s.applyCfg State.reset.storeCfg

/-! ## Power-on reset and the boot (22 R456, R458, R461) -/

/-- PORST_N low: everything at its reset value but the flash, the OTP and the kennel. -/
def State.powerReset (s : State) : State :=
  { State.reset with
    free := s.free, pending := s.pending,
    src := { State.reset.src with vdrvLow := s.src.vdrvLow },
    show_ := { ShowIo.reset with ilkLowAt := if s.show_.ilkOff then s.show_.ilkLowAt.map fun _ => 0 else some 0 },
    boot := { Boot.reset with flash := s.boot.flash },
    sec := { Security.reset with owners := s.sec.owners, fwRevoked := s.sec.fwRevoked, secMin := s.sec.secMin },
    ken := { Kennel.reset with slots := s.ken.slots } }

/-- Tick 0 opens on the internal source once the PLLs are locked. -/
def State.openTick0 (s : State) : State :=
  let s := s.forward (s.boot.released + 200 * tuUs)
  { s with
    tk := { s.tk with open_ := true, start := s.now },
    ck := { s.ck with
      refValid := true, sysSsc := byteAt s.ck.cfg 0, lnkSsc := byteAt s.ck.cfg 1,
      plls := s.ck.plls.map fun (q : Pll) => { q with locked := true } } }

/-- The enabled channels go through the start-up tests of 09 R208. -/
def State.startTests (s : State) : State :=
  (channels.filter s.enabled).foldl (fun s c => s.dchan c fun d =>
    if d.kind = 0 then { d with pending := true, probeOk := false, nbrOk := false, quiet := 0 } else d) s

/-- The start sequences of banks and axis outputs begin together: banks 50 µs apart, axes 100 µs (15 R331, 22 R459). -/
def State.startUnits (s : State) : State :=
  { s with
    src := { s.src with banksAt := some s.now }
    ios := s.ios.mapIdx fun a (x : AxisIo) => { x with startAt := some (s.now + 100 * tuUs * a) } }

/-- The instant at which the last bank and the last axis have started; until then the firmware is not ready (22 R458). -/
def State.unitsDone (s : State) : Nat :=
  (s.ios.filterMap AxisIo.startAt).foldl max ((s.src.banksAt.map fun t => t + 23 * 50 * tuUs).getD 0)

/-- The stores are judged and applied, CL_CONFIG takes effect, the units start. A restart keeps the address held (18 R405). -/
def State.loadStores (s : State) (power : Bool) : State :=
  let old := s.cl.cfg
  let s := s.applyStores power
  let cfg := s.cl.cfg
  let s := { s with cl := { s.cl with cfg := old } }
  let s := if power then s.clConfigure cfg else s.clTree cfg
  let s := match s.inForceContent 0 with
    | .config _ => s.startTests
    | _ => s
  let empty := maskOf ([0, 1, 2].map fun k => (s.inForceSlot k).isNone)
  ({ s with boot := { s.boot with empty := empty } }).startUnits

/-- The flash as it is given, in canonical form. -/
def flashOf (l : List (Nat × Byte)) : Sparse Byte :=
  l.foldl (fun (m : Sparse Byte) (c : Nat × Byte) => spSet 0xFF m c.1 c.2) []

/-- PORST_N rises. -/
def State.porstRelease (s : State) (flash : Option (List (Nat × Byte))) : State :=
  if s.boot.porstLow = false then s else
  let s := { s with boot := { s.boot with
    porstLow := false, released := s.now, startAt := s.now,
    flash := match flash with
      | some l => flashOf l
      | none => s.boot.flash } }
  let s := (s.settleTrial.chooseImage true).openTick0
  if s.mbx.fwState = 5 then s else s.loadStores true

/-! ## The warm restart (15 R328) -/

/-- Every class of the tag pool holds 0 tags. -/
def State.noTags (s : State) : Bool := s.fetch.held.all fun n => n == 0

/-- The live configuration and the retirement log are cleared, the maquette takes its power-on values (04 R93). -/
def State.clearConfig (s : State) : State :=
  { s with
    com := { s.com with
      maq := Cfg.reset, live := Cfg.reset, liveNo := 0, next := none, later := none, uses := [], log := [], fences := [],
      watch := s.com.watch.map fun (w : Watch) => { w with count := 0, frozen := false } },
    col := { s.col with badTable := [], softTable := [], marks := s.col.marks.filter fun m => m.copy == 3 },
    chi := { s.chi with
      castLive := false, inForce := 0xFF, dark := 0, plinth := false, darkTick := false, laneLost := false,
      frontDepth := List.replicate 8 0, backDepth := List.replicate 8 0, frontRows := [], backRows := [],
      runs := ChiselUnit.reset.runs } }

/-- Steps 1 and 2 of the warm restart. -/
def State.warmBegin (s : State) : State :=
  let s := { s with
    th := { s.th with state := 2 }, mbx := { s.mbx with fwState := 3 },
    boot := { s.boot with restart := 2, startAt := s.now, reverted := false } }
  let s := s.chooseImage false
  if s.mbx.fwState = 5 then s else (s.clearConfig.constancyRestart).loadStores false

/-- The instant from which the conditions of R328 hold, if they can: 2 s below 100 °C, 2 s since the trip, no tags. One
begun by THERMAL_RELEASE waits only for the tags. -/
def State.warmAt (s : State) : Option Nat :=
  if s.th.state ≠ 1 ∨ s.mbx.fwState = 5 ∨ s.noTags = false then none
  else if s.th.released then some s.now
  else s.th.coolSince.map fun t => max (t + 2 * tuS) (s.th.tripAt + 2 * tuS)

def State.warmRestart (s : State) : State := match s.warmAt with
  | some t => (s.forward t).warmBegin
  | none => s

/-- THERMAL_RELEASE: in LOCKOUT with every zone below 100 °C the warm restart begins, once no tag is held (23 R474). -/
def cmdThermalRelease : Cmd where
  op := 0x0B01
  len := lenIs 0
  run := fun _ _ s =>
    if s.th.state ≠ 3 ∨ s.allCool = false then refuse cState s
    else
      let s := { s with th := { s.th with released := true } }
      if s.noTags then ok s.warmBegin
      else ok { s with th := { s.th with state := 1 }, mbx := { s.mbx with fwState := 3 } }

/-! ## The firmware becomes ready (22 R470) -/

/-- An axis left OPEN by a warm restart (12 R273): no drive, no cause, the generator at y. -/
def State.openAxis (s : State) (a : Nat) : State :=
  let y := (at_ s.axes a).y
  (s.axis a fun x => { x with state := 0, closeAt := none, openAt := none, swapAt := none, held := false,
                              clampRun := 0, freeRun := 0 }).io a fun x =>
    { x.setGen y with causes := 0, brake := false, dac := 0, rampStep := none }

/-- The arrays are trained again (22 R459). -/
def State.retrainArrays (s : State) : State :=
  fourArrays.foldl (fun s a =>
    let st := (s.array a).state
    if st = 0 ∨ st = 7 then s else if a < s.pl.count then s.startArray a else s.stopArray a 0 0) s

/-- Steps 3 and 4 of R328: the ceiling, RESTARTED, the axes OPEN, the arrays trained again. -/
def State.endTrip (s : State) : State :=
  let new := min 12 s.th.cTrip
  let s := { s with
    th := { s.th with state := 0, c := new, restartStep := some (s.th.cTrip, new) },
    mbx := { s.mbx with flagRestarted := true } }
  allAxes.foldl State.openAxis s

/-- THERMAL_RESTART, and KENNEL_WRITE_LOST for a write that the trip cut off (15 R330, R333). -/
def State.restartEvents (s : State) : State :=
  let ms := sat 16 ((s.now - s.th.firstTripAt) / tuMs)
  let s := s.raise 0x0B04 0 (b2n s.th.lostWrite.isSome + 2 * b2n s.th.released + 65536 * ms)
  match s.th.lostWrite with
  | none => s
  | some (store, slot) => ({ s with th := { s.th with lostWrite := none } }).raise 0x0B06 store slot

/-- BOOT_DONE. -/
def State.bootDone (s : State) : State :=
  let b := s.boot
  s.raise 0x0181 0 (b.restart + 4 * b.slot.getD 0 + 16 * b2n b.trial + 32 * b2n b.fallback + 64 * b2n b.reverted +
    256 * b.empty + 65536 * sat 16 ((s.now - b.startAt) / tuMs))

/-- CPU_RESTART, if a fault waits for it (01 R26, R499). -/
def State.cpuEvent (s : State) : State :=
  if s.boot.cause = 0 then s else
  let c := s.boot.cause
  ({ s with mbx := { s.mbx with flagRestarted := true }, boot := { s.boot with cause := 0 } }).raise 0x0111 0 c

/-- After a processor restart the maquette and the staged source set follow what is live (22 R462). -/
def State.rebuild (s : State) : State :=
  { s with com := { s.com with maq := s.com.live }, src := { s.src with staged := s.src.live } }

/-- Source faults confirmed while no firmware ran raise their events, dated at the confirmation (chapter 09). -/
def State.flushDeferred (s : State) : State :=
  s.diag.deferredEvents.foldl State.deliver { s with diag := { s.diag with deferredEvents := [] } }

/-- The firmware can become ready: a boot, a processor restart or a warm restart is under way. -/
def State.readyDue (s : State) : Bool :=
  !s.boot.porstLow && (s.mbx.fwState == 0 || s.mbx.fwState == 2 || (s.mbx.fwState == 3 && s.th.state == 2))

/-- The instant at which FW_STATE becomes 1. -/
def State.becomeReady (s : State) : State :=
  if s.readyDue = false then s else
  let warm := s.mbx.fwState == 3
  let s := if s.mbx.fwState = 2 then s else s.forward s.unitsDone
  let s := if s.mbx.fwState = 2 then s.rebuild else s
  let s := if warm then s.endTrip else s
  let s := { s with
    mbx := { s.mbx with fwState := 1 },
    epb := { s.epb with silentSince := s.now } }
  let s := s.flushDeferred.cpuEvent
  let s := if warm then s.restartEvents else s
  let s := s.bootDone
  if warm then ((s.kennelQueue 2 false false (s.liveContent 2)).kennelStart).retrainArrays else s

/-! ## The firmware flash (22 R469) -/

/-- FW_INFO. -/
def cmdFwInfo : Cmd where
  op := 0x0180
  len := lenIs 0
  run := fun _ _ s =>
    okWith (le 1 (s.boot.slot.getD 0) ++ le 1 s.preferred ++ le 1 (b2n s.trialSet) ++ le 1 (byteAt s.bootRec 0x0A) ++
      ([0, 1, 2].map fun k =>
        let h := s.flashRead (slotBase k) 0x12
        le 1 (b2n (s.imageOk k)) ++ slice h 0x10 1 ++ slice h 0x11 1 ++ zeros 1 ++ slice h 0x0C 4 ++ slice h 8 4).flatten) s

/-- What stands in the way of changing a slot: slot F needs a session, the running slot never changes. -/
def State.slotBar (s : State) (h : Hdr) (slot : Nat) : Option Nat :=
  if slot = 2 ∧ s.unlocked h = false then some cLocked else if s.boot.slot = some slot then some cState else none

/-- FW_ERASE. -/
def cmdFwErase : Cmd where
  op := 0x0181
  len := lenIs 4
  parks := fun _ => true
  run := fun h p s =>
    if 2 < byteAt p 0 then refuse cBadParam s else
    match s.slotBar h (byteAt p 0) with
    | some code => refuse code s
    | none => (.park 0, s)

/-- FW_WRITE. A range that would leave the slot gives BAD_PARAM. -/
def cmdFwWrite : Cmd where
  op := 0x0182
  len := fun p => decide (16 ≤ p.length) && p.length == 16 + u16 p 8
  parks := fun _ => true
  run := fun h p s =>
    if 2 < byteAt p 0 ∨ inRange 1 224 (u16 p 8) = false ∨ 0x1000000 < u32 p 4 + u16 p 8 then refuse cBadParam s else
    match s.slotBar h (byteAt p 0) with
    | some code => refuse code s
    | none => (.park 0, s)

/-- FW_ACTIVATE: the image is checked and the record written while it is parked. -/
def cmdFwActivate : Cmd where
  op := 0x0183
  len := lenIs 4
  parks := fun _ => true
  run := fun _ p s => if 1 < byteAt p 0 then refuse cBadParam s else (.park 0, s)

/-- FW_CONFIRM: clears TRIAL while the trial image runs. -/
def cmdFwConfirm : Cmd where
  op := 0x0184
  len := lenIs 0
  run := fun _ _ s =>
    if s.trialSet ∧ s.boot.slot = some s.preferred then
      let s := s.writeBootRec s.preferred 0 (byteAt s.bootRec 0x0A)
      ok { s with boot := { s.boot with trial := false } }
    else refuse cState s

/-- A byte range of the flash as it stands after an operation. -/
def State.flashPut (s : State) (addr : Nat) (r : Rec) : State :=
  { s with boot := { s.boot with flash := spPut 0xFF s.boot.flash addr r } }

/-- The flash operation of a parked command is over. Where it failed, `data` is what stands in the flash from the place
addressed. -/
def State.flashDone (s : State) (c : Parked) (good : Bool) (data : Rec) : State :=
  let p := c.payload
  let base := slotBase (byteAt p 0)
  match c.opcode with
  | 0x0181 =>
    let s := { s with boot := { s.boot with
      flash := s.boot.flash.filter fun (e : Nat × Byte) => decide (e.1 < base) || decide (base + 0x1000000 ≤ e.1) } }
    if good then s.finish c cOk [] else (s.flashPut base (data.take 0x1000000)).finish c cFault []
  | 0x0182 =>
    let want := slice p 16 (u16 p 8)
    if good then (s.flashPut (base + u32 p 4) want).finish c cOk []
    else (s.flashPut (base + u32 p 4) (data.take want.length)).finish c cFault []
  | _ =>
    if good = false then s.finish c cFault []
    else if s.imageOk (byteAt p 0) then (s.writeBootRec (byteAt p 0) 1 0).finish c cOk []
    else s.finish c cBadAuth []

/-- POWER_ON_RESET (22 R456). -/
def execPowerOnReset (s : State) : Out := done s.powerReset
/-- PORST_N_RELEASE (22 R458). -/
def execPorstNRelease (flash : Option (List (Nat × Byte))) (s : State) : Out := done (s.porstRelease flash)
/-- WARM_RESTART_BEGIN (15 R328). -/
def execWarmRestartBegin (s : State) : Out := done s.warmRestart
/-- FIRMWARE_READY (22 R470). -/
def execFirmwareReady (s : State) : Out := done s.becomeReady
/-- THERMAL_RELEASE (15 R329). -/
def execThermalRelease (h : Hdr) (p : Rec) (s : State) : Out := done (s.command cmdThermalRelease h p)
/-- FW_INFO (22 R469). -/
def execFwInfo (h : Hdr) (p : Rec) (s : State) : Out := done (s.command cmdFwInfo h p)
/-- FW_ERASE (22 R469). -/
def execFwErase (h : Hdr) (p : Rec) (s : State) : Out := done (s.command cmdFwErase h p)
/-- FW_WRITE (22 R469). -/
def execFwWrite (h : Hdr) (p : Rec) (s : State) : Out := done (s.command cmdFwWrite h p)
/-- FW_ACTIVATE (22 R469). -/
def execFwActivate (h : Hdr) (p : Rec) (s : State) : Out := done (s.command cmdFwActivate h p)
/-- FW_CONFIRM (22 R469). -/
def execFwConfirm (h : Hdr) (p : Rec) (s : State) : Out := done (s.command cmdFwConfirm h p)

end Sys2Proof.Machine
end

