-- ==== Sys2Proof/Machine/Rings.lean ====
section
/-! DEFINITION. The rings, the registers of BAR0 that the host writes, the Cumaslink mailbox and the host link (chapter 17). -/
namespace Sys2Proof.Machine

/-! ## Every command by its opcode -/

def cmds01 : List Cmd :=
  [cmdStatus, cmdMailboxConfig, cmdWhistleAck, cmdMailboxCounters, cmdFwInfo, cmdFwErase, cmdFwWrite,
   cmdFwActivate, cmdFwConfirm]
def cmds02 : List Cmd :=
  [cmdModeSet, cmdArmatureWrite, cmdArmatureRead, cmdTickSourceSet, cmdTickStatus, cmdTickStamp,
   cmdAdmissionQuery]
def cmds03 : List Cmd :=
  [cmdLayerWrite, cmdLayerRead, cmdFilterWrite, cmdBackgroundSet, cmdTagAllot, cmdFetchConfig, cmdFetchStatus,
   cmdCommit, cmdMaquetteResync, cmdCommitStatus, cmdRetireRead, cmdComposeEventSet, cmdFreezeConfig,
   cmdSignatureRead, cmdFenceRead]
def cmds04 : List Cmd :=
  [cmdColourConfig, cmdMatrixWrite, cmdMatrixRead, cmdTableWrite, cmdTableRead, cmdTableFill, cmdTableCrc,
   cmdDitherMaskWrite, cmdDitherMaskSelect, cmdDitherMaskRead, cmdColourStats, cmdPixelProbe, cmdCastWrite,
   cmdCastRead, cmdCastSelect, cmdCastSwitch, cmdCastCheck, cmdCastLoadClip, cmdPlinthEnter, cmdChiselStatus]
def cmds05 : List Cmd :=
  [cmdPlConfig, cmdPlTrain, cmdPlStatus, cmdArrayRecordRead, cmdArrayCmd, cmdLaneControl, cmdLaneCounters]
def cmds06 : List Cmd :=
  [cmdBankWrite, cmdChannelWrite, cmdLevelWrite, cmdLevelFill, cmdSourceApply, cmdSourceRead, cmdChargeRead,
   cmdChargeSave, cmdChargeClear, cmdSinkStatus, cmdDiagConfig, cmdDiagStatus, cmdDiagClear, cmdDiagRoundNow,
   cmdNeighbourRead]
def cmds07 : List Cmd :=
  [cmdConstancyConfig, cmdSenseConfig, cmdTargetSet, cmdTargetCapture, cmdScaleSet, cmdConstancyStatus,
   cmdEmitterRead, cmdSenseRead]
def cmds08 : List Cmd :=
  [cmdHeadConfig, cmdHeadRead, cmdHeadControl, cmdPointAppend, cmdHeadStatus]
def cmds09 : List Cmd :=
  [cmdAxisConfig, cmdAxisConfigRead, cmdCoefWrite, cmdCoefRead, cmdBankSelect, cmdAxisLoop, cmdAxisStatus,
   cmdAxisIoConfig, cmdAxisIoRead, cmdExtConfig, cmdDetectConfig, cmdProfileLimits, cmdProfileMove,
   cmdSetpointSource, cmdHeelControl, cmdAxisIoStatus, cmdTriggerConfig, cmdTriggerStatus]
def cmds0A : List Cmd :=
  [cmdClockConfig, cmdClockStep, cmdClockRamp, cmdClockRampStop, cmdClockStatus, cmdHkCompRead, cmdHkCompWrite]
def cmds0B : List Cmd :=
  [cmdThermalStatus, cmdThermalRelease, cmdThermalModelRead, cmdThermalModelWrite, cmdZoneSuspectClear]
def cmds0C : List Cmd :=
  [cmdCalConfig, cmdCalStatus, cmdCalControl, cmdCalValuesRead, cmdKennelSave, cmdKennelConfig,
   cmdKennelStatus, cmdKennelRead, cmdKennelErase]
def cmds0D : List Cmd :=
  [cmdClConfig, cmdClStatus, cmdClEnumerate, cmdClBroadcast, cmdClTimeSet, cmdClRouteRead]
def cmds0E : List Cmd :=
  [cmdCsConfig, cmdCsStatus, cmdCsFormat, cmdClipCreate, cmdClipWrite, cmdClipSeal, cmdClipDelete, cmdClipInfo,
   cmdClipPlay, cmdCueControl]
def cmds0F : List Cmd :=
  [cmdEpbConfig, cmdEpbWrite, cmdEpbUpdate, cmdEpbPattern, cmdEpbStatus]
def cmds10 : List Cmd :=
  [cmdIdentityRead, cmdCertRead, cmdAttest, cmdServiceChallenge, cmdServiceOpen, cmdServiceClose,
   cmdServiceKeyEnroll, cmdServiceKeyRevoke, cmdSecurityCommit]
def cmds11 : List Cmd :=
  [cmdPatinaConfig, cmdPatinaEmitterRead, cmdPatinaUnitRead, cmdPatinaHoursRead, cmdPatinaReset]
def cmds12 : List Cmd :=
  [cmdEventRead, cmdEventOverflowRead]

/-- Every command of the device (17 R379). -/
def allCmds : List Cmd :=
  cmds01 ++ cmds02 ++ cmds03 ++ cmds04 ++ cmds05 ++ cmds06 ++ cmds07 ++ cmds08 ++ cmds09 ++ cmds0A ++ cmds0B ++ cmds0C ++ cmds0D ++ cmds0E ++ cmds0F ++ cmds10 ++ cmds11 ++ cmds12

/-- The command an opcode names. -/
def commandOf (op : Nat) : Option Cmd := allCmds.find? fun c => c.op == op

/-! ## Index and flag registers (17 R358, R362) -/

/-- An ignored index write: its flag, RING_ERROR and the counter. -/
def State.ringError (s : State) (reg : Nat) (value : W16) : State :=
  let s := { s with mbx := { s.mbx with
    flagDbInvalid := s.mbx.flagDbInvalid || reg == 0, flagRconsInvalid := s.mbx.flagRconsInvalid || reg == 1,
    ctr := { s.mbx.ctr with ringErrors := s.mbx.ctr.ringErrors + 1 } } }
  s.raise 0x0101 0 (reg + 65536 * value.toNat)

/-- The bytes of the command ring that the host has written before its doorbell (17 R363). -/
def State.hostBytes (s : State) (l : List (Nat × Byte)) : State :=
  { s with mbx := { s.mbx with
    bar2 := l.foldl (fun (m : Sparse Byte) (c : Nat × Byte) => if c.1 < 0x4000 then spSet 0 m c.1 c.2 else m) s.mbx.bar2 } }

/-- A DOORBELL write. -/
def State.doorbell (s : State) (value : W32) (bytes : List (Nat × Byte)) : State :=
  if s.mbx.linkUp = false then s else
  let s := s.hostBytes bytes
  let n : W16 := value.setWidth 16
  let cp := s.mbx.cmdProd
  let cc := s.mbx.cmdCons
  if (n - cc).toNat ≤ 64 ∧ (n - cp).toNat ≤ (cc + 64 - cp).toNat then
    { s with mbx := { s.mbx with
      cmdProd := n, visible := s.mbx.visible ++ List.replicate (n - cp).toNat s.now } }
  else s.ringError 0 n

/-- A write of RPL_CONS. -/
def State.rplConsWrite (s : State) (value : W32) : State :=
  if s.mbx.linkUp = false then s else
  let n : W16 := value.setWidth 16
  if (n - s.mbx.rplCons).toNat ≤ (s.mbx.rplProd - s.mbx.rplCons).toNat then
    { s with mbx := { s.mbx with rplCons := n } }
  else s.ringError 1 n

/-- A write of 1 to bits of MBX_FLAGS, while the link carries it. -/
def State.clearFlags (s : State) (f : Mailbox → Mailbox) : State := if s.mbx.linkUp then { s with mbx := f s.mbx } else s

/-! ## Taking the heads (17 R365, R369, R372, R378) -/

/-- The head of the command ring, as it stands in the ring. -/
def State.ringHead (s : State) : Entry := parseEntry (spRead 0 s.mbx.bar2 (256 * (s.mbx.cmdCons.toNat % 64)) 256)

/-- The ring's head may be taken: one is visible, and a reply slot is free. -/
def State.ringReady (s : State) : Bool := s.mbx.linkUp && !s.mbx.visible.isEmpty && s.slotFree

def State.clReady (s : State) : Bool := !s.mbx.clBox.isEmpty

/-- Take the ring's head off the ring; `seen` is the instant of its doorbell. -/
def State.popRing (s : State) (seen : Nat) : State :=
  { s with mbx := { s.mbx with
    cmdCons := s.mbx.cmdCons + 1, visible := s.mbx.visible.tail, doorbell := some seen,
    ctr := { s.mbx.ctr with pcieTaken := s.mbx.ctr.pcieTaken + 1 } } }

/-- Take and handle the ring's head. -/
def State.takeRing (s : State) : State :=
  if s.ringReady = false then s else
  let e := s.ringHead
  let s := s.popRing (s.mbx.visible.headD 0)
  let s := s.dispatch e.op (commandOf e.op) ⟨.pcie, e.tag, e.isLocal, e.target⟩ e.body e.length
  { s with mbx := { s.mbx with doorbell := none } }

/-- Take the head of the Cumaslink mailbox off it; the next waiting command enters. -/
def State.popCl (s : State) : State :=
  let s := { s with mbx := { s.mbx with
    clBox := s.mbx.clBox.tail, ctr := { s.mbx.ctr with clTaken := s.mbx.ctr.clTaken + 1 } } }
  s.clRefill 1

/-- Take and handle the head of the Cumaslink mailbox. -/
def State.takeCl (s : State) : State := match s.mbx.clBox with
  | [] => s
  | w :: _ =>
    let e := parseEntry w.entry
    s.popCl.dispatch e.op (commandOf e.op) ⟨w.origin, e.tag, e.isLocal, e.target⟩ e.body e.length

/-- A take by one mailbox. Where both heads may be taken in the same cycle, the token's holder takes its head and the token
passes. -/
def State.takeHead (s : State) (cl contested : Bool) : State :=
  if contested && s.ringReady && s.clReady then
    let s' := { s with mbx := { s.mbx with tokenCl := !s.mbx.tokenCl } }
    if s.mbx.tokenCl then s'.takeCl else s'.takeRing
  else if cl then s.takeCl else s.takeRing

/-- The head waits for the intake: any command but a STATUS for this device. -/
def State.waits (s : State) (e : Entry) (o : Origin) : Bool :=
  !(e.op == 0x0100 && s.isHere ⟨o, e.tag, e.isLocal, e.target⟩)

/-- A head has been visible for MAX_WAIT: it is taken and answered BUSY with cause 2. -/
def State.maxWaitExpiry (s : State) (cl : Bool) : State :=
  let wait := s.mbx.maxWait * 100 * tuUs
  if cl then match s.mbx.clBox with
    | [] => s
    | w :: _ =>
      let e := parseEntry w.entry
      if s.waits e w.origin = false then s else
      (((s.forward (w.seen + wait)).popCl).stirs e.op).busy ⟨w.origin, e.tag, e.isLocal, e.target⟩ e.op 2
  else
    let e := s.ringHead
    if s.ringReady = false ∨ s.waits e .pcie = false then s else
    let seen := s.mbx.visible.headD 0
    let s := (((s.forward (seen + wait)).popRing seen).stirs e.op).busy ⟨.pcie, e.tag, e.isLocal, e.target⟩ e.op 2
    { s with mbx := { s.mbx with doorbell := none } }

/-! ## Outside completions (17 R368, R377) -/

/-- The outside work of a parked command is over: attestation, OTP programming, the firmware flash. The other kinds end with
an event of their own. -/
def State.completeParked (s : State) (place : Nat) (good : Bool) (data : Rec) : State := match s.mbx.parked[place]? with
  | none => s
  | some c =>
    if c.opcode = 0x1002 then
      (if good then s.finish c cOk (s.attestReply c.payload) else s.finish c cFault [])
    else if inRange 0x1006 0x1008 c.opcode then s.otpDone c good
    else if inRange 0x0181 0x0183 c.opcode then s.flashDone c good data
    else s

/-- REMOTE_TIMEOUT has passed since a forward. -/
def State.remoteTimeout (s : State) (place : Nat) : State := match s.mbx.remotes[place]? with
  | none => s
  | some r =>
    let s := s.forward r.dueAt
    let s := { s with mbx := { s.mbx with
      remotes := s.mbx.remotes.erase r, ctr := { s.mbx.ctr with remoteTimeout := s.mbx.ctr.remoteTimeout + 1 } } }
    if r.mute then s else s.answer r.hdr { op := r.opcode, tag := r.hdr.tag, code := cTimeout, payload := [] }

/-! ## The host link (17 R356, R357) -/

/-- The link goes down: untaken commands and both rings are discarded, unconsumed replies and those still due are counted as
lost, and the endpoint is reset. -/
def State.linkDown (s : State) : State :=
  if s.mbx.linkUp = false then s else
  let lost := (s.mbx.rplProd - s.mbx.rplCons).toNat + s.reserved
  let m := s.mbx
  let s := { s with mbx := { m with
    linkUp := false, bar2 := [], visible := [], cmdProd := 0, cmdCons := 0, rplProd := 0, rplCons := 0,
    lostAtLink := lost, repliesLost := m.repliesLost + BitVec.ofNat 32 lost,
    parked := m.parked.map fun (c : Parked) => { c with mute := c.mute || c.hdr.origin == Origin.pcie },
    remotes := m.remotes.map fun (r : Remote) => { r with mute := r.mute || r.hdr.origin == Origin.pcie },
    busMaster := false, memSpace := false, d3hot := false, ltrEnable := false } }
  s.endSessionOf false 4

/-- The link returns. -/
def State.linkUp (s : State) : State :=
  if s.mbx.linkUp then s else
  let lost := s.mbx.lostAtLink
  ({ s with mbx := { s.mbx with linkUp := true, flagReplyLost := true, lostAtLink := 0 } }).raise 0x0103 0 (sat 32 lost)

/-! ## The function the host finds (17 R355) -/

/-- Device ID, Revision ID and class code. -/
def pciDeviceId : Nat := 0x7196
def pciRevision : Nat := 0xB1
def pciClass : Nat := 0x048000

/-- The memory BAR that a base address register begins: 64-bit, non-prefetchable, of this many bytes; BAR4, BAR5 and the expansion ROM
are not implemented. -/
def barBytes (bar : Nat) : Option Nat := if bar = 0 then some 65536 else if bar = 2 then some 32768 else none

/-- What a base address register keeps of a write, as the host sizes it: the address bits above the size, with the type bits of a
64-bit BAR. -/
def barRead (bar : Nat) (written : W32) : W32 := match barBytes bar with
  | some n => (written &&& BitVec.ofNat 32 (2 ^ 32 - n)) ||| 4
  | none => if bar = 1 ∨ bar = 3 then written else 0

/-- The capabilities of the function: no MSI, no MSI-X, no SR-IOV. -/
inductive PciCap where
  | powerManagement
  | pciExpress
  | latencyTolerance
  | advancedErrors
  deriving DecidableEq, Repr

def pciCaps : List PciCap := [.powerManagement, .pciExpress, .latencyTolerance, .advancedErrors]

/-- Bytes 0x00 to 0x0F of configuration space: identity, Command with the two enables the host has written, Status with a capability
list, a header of one function. -/
def State.pciHeader (s : State) : Rec :=
  le 2 Config.vendorId.toNat ++ le 2 pciDeviceId ++ le 2 (2 * b2n s.mbx.memSpace + 4 * b2n s.mbx.busMaster) ++ le 2 0x10 ++
    le 1 pciRevision ++ le 3 pciClass ++ zeros 4

/-- Interrupt Pin, Max Payload Size Supported, the largest read request; Function Level Reset is not supported. -/
def pciInterruptPin : Nat := 0
def pciMaxPayload : Nat := 512
def pciMaxRead : Nat := 256
def pciFlr : Bool := false

/-- Requester tags are 10 bits wide; completion timeout ranges A and B, bits 0 and 1, and its disable; ASPM L1, neither L0s nor L1 PM
Substates; the power states D0 and D3hot; 32.0 GT/s, the fifth rate, and the widths to which the link trains. -/
def pciTagBits : Nat := 10
def pciTimeoutRanges : Nat := 3
def pciTimeoutDisable : Bool := true
def pciAspmL1 : Bool := true
def pciAspmL0s : Bool := false
def pciL1Substates : Bool := false
def pciPowerStates : List Nat := [0, 3]
def pciMaxRate : Nat := 5
def pciWidths : List Nat := [8, 4, 2, 1]

/-- Device Capabilities, Link Capabilities and Device Capabilities 2, with the fields that 17 R355 settles at their places in the PCIe
Base Specification 5.0 and every other field 0 (PRESUMED, assumption 129). -/
def pciDevCap : Rec := le 4 (Nat.log2 (pciMaxPayload / 128) + 2 ^ 28 * b2n pciFlr)
def pciLinkCap : Rec := le 4 (pciMaxRate + 16 * pciWidths.headD 0 + 2 ^ 10 * b2n pciAspmL0s + 2 ^ 11 * b2n pciAspmL1)
def pciDevCap2 : Rec :=
  le 4 (pciTimeoutRanges + 2 ^ 4 * b2n pciTimeoutDisable + 2 ^ 11 * b2n (pciCaps.contains .latencyTolerance) +
    2 ^ 17 * b2n (pciTagBits == 10))

/-- Reads of BAR0 and BAR2 are answered only while the link is up, Memory Space Enable is set and the function is in D0
(17 R356). -/
def State.barAnswers (s : State) : Bool := s.mbx.linkUp && s.mbx.memSpace && !s.mbx.d3hot

/-- The answer to an aligned 32-bit read of BAR0. -/
def State.bar0Read (s : State) (offset : Nat) : Option W32 :=
  if s.barAnswers ∧ offset < 65536 ∧ offset % 4 = 0 then some (BitVec.ofNat 32 (s.bar0 offset)) else none

/-- The answer to a read of a byte of BAR2. -/
def State.bar2Read (s : State) (offset : Nat) : Option Byte :=
  if s.barAnswers ∧ offset < 32768 then some (spGet 0 s.mbx.bar2 offset) else none

/-- The LTR message due when the host enables LTR. -/
def State.ltrEnabled (s : State) : State :=
  if s.ltrOn = false then s
  else s.ltrSend (if s.ltrRuns then some (s.ltHostAt s.now) else none) s.now

/-- A configuration write of the host. Point rings that waited for host memory go on. -/
def State.configWrite (s : State) (busMaster memSpace d3hot ltr : Bool) : State :=
  if s.mbx.linkUp = false then s else
  let was := s.mbx.ltrEnable
  let s := { s with mbx := { s.mbx with busMaster := busMaster, memSpace := memSpace, d3hot := d3hot, ltrEnable := ltr } }
  let s := if ltr ∧ was = false then s.ltrEnabled else s
  s.offerTags.judgeFences

/-- DOORBELL_WRITE (17 R362). -/
def execDoorbellWrite (value : W32) (bytes : List (Nat × Byte)) (s : State) : Out := done (s.doorbell value bytes)
/-- RPL_CONS_WRITE (17 R362). -/
def execRplConsWrite (value : W32) (s : State) : Out := done (s.rplConsWrite value)
/-- MBX_FLAGS_CLEAR_CPU_FAULT (17 R358). -/
def execMbxFlagsClearCpuFault (s : State) : Out := done (s.clearFlags fun m => { m with flagCpuFault := false })
/-- MBX_FLAGS_CLEAR_RESTARTED (17 R374). -/
def execMbxFlagsClearRestarted (s : State) : Out := done (s.clearFlags fun m => { m with flagRestarted := false })
/-- MBX_FLAGS_CLEAR_REPLY_LOST (17 R358). -/
def execMbxFlagsClearReplyLost (s : State) : Out := done (s.clearFlags fun m => { m with flagReplyLost := false })
/-- MBX_FLAGS_CLEAR_RCONS_INVALID (17 R358). -/
def execMbxFlagsClearRconsInvalid (s : State) : Out := done (s.clearFlags fun m => { m with flagRconsInvalid := false })
/-- MBX_FLAGS_CLEAR_DB_INVALID (17 R358). -/
def execMbxFlagsClearDbInvalid (s : State) : Out := done (s.clearFlags fun m => { m with flagDbInvalid := false })
/-- REGISTER_WRITE_OTHER (00 R12): a write to a read-only, reserved or unassigned offset has no effect. -/
def execRegisterWriteOther (_offset : Nat) (_value : W32) (s : State) : Out := done s
/-- RING_HEAD_TAKE (17 R365). -/
def execRingHeadTake (contested : Bool) (s : State) : Out := done (s.takeHead false contested)
/-- CL_MAILBOX_TAKE (17 R378). -/
def execClMailboxTake (contested : Bool) (s : State) : Out := done (s.takeHead true contested)
/-- MAX_WAIT_EXPIRY (17 R369). -/
def execMaxWaitExpiry (cl : Bool) (s : State) : Out := done (s.maxWaitExpiry cl)
/-- PARKED_COMMAND_COMPLETE (17 R368). -/
def execParkedCommandComplete (place : Nat) (good : Bool) (data : Rec) (s : State) : Out := done (s.completeParked place good data)
/-- REMOTE_TIMEOUT_EXPIRY (17 R377). -/
def execRemoteTimeoutExpiry (place : Nat) (s : State) : Out := done (s.remoteTimeout place)
/-- HOST_LINK_DOWN (17 R357). -/
def execHostLinkDown (s : State) : Out := done s.linkDown
/-- HOST_LINK_UP (17 R357). -/
def execHostLinkUp (s : State) : Out := done s.linkUp
/-- PCIE_CONFIG_WRITE (17 R356). -/
def execPcieConfigWrite (busMaster memSpace d3hot ltr : Bool) (s : State) : Out :=
  done (s.configWrite busMaster memSpace d3hot ltr)

end Sys2Proof.Machine
end

