-- ==== Sys2Proof/Machine/Dispatch.lean ====
section
/-! DEFINITION. The dispatch: one arm per row of the opcode table. -/
namespace Sys2Proof.Machine

def exec (i : Instr) (s : State) : Host.Outcome State Fault Refusal :=
  match i with
  | .status h p => Sys2Proof.Machine.execStatus h p s
  | .mailboxConfig h p => Sys2Proof.Machine.execMailboxConfig h p s
  | .whistleAck h p => Sys2Proof.Machine.execWhistleAck h p s
  | .mailboxCounters h p => Sys2Proof.Machine.execMailboxCounters h p s
  | .eventRead h p => Sys2Proof.Machine.execEventRead h p s
  | .eventOverflowRead h p => Sys2Proof.Machine.execEventOverflowRead h p s
  | .fwInfo h p => Sys2Proof.Machine.execFwInfo h p s
  | .fwErase h p => Sys2Proof.Machine.execFwErase h p s
  | .fwWrite h p => Sys2Proof.Machine.execFwWrite h p s
  | .fwActivate h p => Sys2Proof.Machine.execFwActivate h p s
  | .fwConfirm h p => Sys2Proof.Machine.execFwConfirm h p s
  | .modeSet h p => Sys2Proof.Machine.execModeSet h p s
  | .armatureWrite h p => Sys2Proof.Machine.execArmatureWrite h p s
  | .armatureRead h p => Sys2Proof.Machine.execArmatureRead h p s
  | .tickSourceSet h p => Sys2Proof.Machine.execTickSourceSet h p s
  | .tickStatus h p => Sys2Proof.Machine.execTickStatus h p s
  | .tickStamp h p => Sys2Proof.Machine.execTickStamp h p s
  | .admissionQuery h p => Sys2Proof.Machine.execAdmissionQuery h p s
  | .layerWrite h p => Sys2Proof.Machine.execLayerWrite h p s
  | .layerRead h p => Sys2Proof.Machine.execLayerRead h p s
  | .filterWrite h p => Sys2Proof.Machine.execFilterWrite h p s
  | .backgroundSet h p => Sys2Proof.Machine.execBackgroundSet h p s
  | .tagAllot h p => Sys2Proof.Machine.execTagAllot h p s
  | .fetchConfig h p => Sys2Proof.Machine.execFetchConfig h p s
  | .fetchStatus h p => Sys2Proof.Machine.execFetchStatus h p s
  | .commit h p => Sys2Proof.Machine.execCommit h p s
  | .maquetteResync h p => Sys2Proof.Machine.execMaquetteResync h p s
  | .commitStatus h p => Sys2Proof.Machine.execCommitStatus h p s
  | .retireRead h p => Sys2Proof.Machine.execRetireRead h p s
  | .composeEventSet h p => Sys2Proof.Machine.execComposeEventSet h p s
  | .freezeConfig h p => Sys2Proof.Machine.execFreezeConfig h p s
  | .signatureRead h p => Sys2Proof.Machine.execSignatureRead h p s
  | .fenceRead h p => Sys2Proof.Machine.execFenceRead h p s
  | .colourConfig h p => Sys2Proof.Machine.execColourConfig h p s
  | .matrixWrite h p => Sys2Proof.Machine.execMatrixWrite h p s
  | .matrixRead h p => Sys2Proof.Machine.execMatrixRead h p s
  | .tableWrite h p => Sys2Proof.Machine.execTableWrite h p s
  | .tableRead h p => Sys2Proof.Machine.execTableRead h p s
  | .tableFill h p => Sys2Proof.Machine.execTableFill h p s
  | .tableCrc h p => Sys2Proof.Machine.execTableCrc h p s
  | .ditherMaskWrite h p => Sys2Proof.Machine.execDitherMaskWrite h p s
  | .ditherMaskSelect h p => Sys2Proof.Machine.execDitherMaskSelect h p s
  | .ditherMaskRead h p => Sys2Proof.Machine.execDitherMaskRead h p s
  | .colourStats h p => Sys2Proof.Machine.execColourStats h p s
  | .pixelProbe h p => Sys2Proof.Machine.execPixelProbe h p s
  | .castWrite h p => Sys2Proof.Machine.execCastWrite h p s
  | .castRead h p => Sys2Proof.Machine.execCastRead h p s
  | .castSelect h p => Sys2Proof.Machine.execCastSelect h p s
  | .castSwitch h p => Sys2Proof.Machine.execCastSwitch h p s
  | .castCheck h p => Sys2Proof.Machine.execCastCheck h p s
  | .castLoadClip h p => Sys2Proof.Machine.execCastLoadClip h p s
  | .plinthEnter h p => Sys2Proof.Machine.execPlinthEnter h p s
  | .chiselStatus h p => Sys2Proof.Machine.execChiselStatus h p s
  | .plConfig h p => Sys2Proof.Machine.execPlConfig h p s
  | .plTrain h p => Sys2Proof.Machine.execPlTrain h p s
  | .plStatus h p => Sys2Proof.Machine.execPlStatus h p s
  | .arrayRecordRead h p => Sys2Proof.Machine.execArrayRecordRead h p s
  | .arrayCmd h p => Sys2Proof.Machine.execArrayCmd h p s
  | .laneControl h p => Sys2Proof.Machine.execLaneControl h p s
  | .laneCounters h p => Sys2Proof.Machine.execLaneCounters h p s
  | .bankWrite h p => Sys2Proof.Machine.execBankWrite h p s
  | .channelWrite h p => Sys2Proof.Machine.execChannelWrite h p s
  | .levelWrite h p => Sys2Proof.Machine.execLevelWrite h p s
  | .levelFill h p => Sys2Proof.Machine.execLevelFill h p s
  | .sourceApply h p => Sys2Proof.Machine.execSourceApply h p s
  | .sourceRead h p => Sys2Proof.Machine.execSourceRead h p s
  | .chargeRead h p => Sys2Proof.Machine.execChargeRead h p s
  | .chargeSave h p => Sys2Proof.Machine.execChargeSave h p s
  | .chargeClear h p => Sys2Proof.Machine.execChargeClear h p s
  | .sinkStatus h p => Sys2Proof.Machine.execSinkStatus h p s
  | .diagConfig h p => Sys2Proof.Machine.execDiagConfig h p s
  | .diagStatus h p => Sys2Proof.Machine.execDiagStatus h p s
  | .diagClear h p => Sys2Proof.Machine.execDiagClear h p s
  | .diagRoundNow h p => Sys2Proof.Machine.execDiagRoundNow h p s
  | .neighbourRead h p => Sys2Proof.Machine.execNeighbourRead h p s
  | .constancyConfig h p => Sys2Proof.Machine.execConstancyConfig h p s
  | .senseConfig h p => Sys2Proof.Machine.execSenseConfig h p s
  | .targetSet h p => Sys2Proof.Machine.execTargetSet h p s
  | .targetCapture h p => Sys2Proof.Machine.execTargetCapture h p s
  | .scaleSet h p => Sys2Proof.Machine.execScaleSet h p s
  | .constancyStatus h p => Sys2Proof.Machine.execConstancyStatus h p s
  | .emitterRead h p => Sys2Proof.Machine.execEmitterRead h p s
  | .senseRead h p => Sys2Proof.Machine.execSenseRead h p s
  | .headConfig h p => Sys2Proof.Machine.execHeadConfig h p s
  | .headRead h p => Sys2Proof.Machine.execHeadRead h p s
  | .headControl h p => Sys2Proof.Machine.execHeadControl h p s
  | .pointAppend h p => Sys2Proof.Machine.execPointAppend h p s
  | .headStatus h p => Sys2Proof.Machine.execHeadStatus h p s
  | .axisConfig h p => Sys2Proof.Machine.execAxisConfig h p s
  | .axisConfigRead h p => Sys2Proof.Machine.execAxisConfigRead h p s
  | .coefWrite h p => Sys2Proof.Machine.execCoefWrite h p s
  | .coefRead h p => Sys2Proof.Machine.execCoefRead h p s
  | .bankSelect h p => Sys2Proof.Machine.execBankSelect h p s
  | .axisLoop h p => Sys2Proof.Machine.execAxisLoop h p s
  | .axisStatus h p => Sys2Proof.Machine.execAxisStatus h p s
  | .axisIoConfig h p => Sys2Proof.Machine.execAxisIoConfig h p s
  | .axisIoRead h p => Sys2Proof.Machine.execAxisIoRead h p s
  | .extConfig h p => Sys2Proof.Machine.execExtConfig h p s
  | .detectConfig h p => Sys2Proof.Machine.execDetectConfig h p s
  | .profileLimits h p => Sys2Proof.Machine.execProfileLimits h p s
  | .profileMove h p => Sys2Proof.Machine.execProfileMove h p s
  | .setpointSource h p => Sys2Proof.Machine.execSetpointSource h p s
  | .heelControl h p => Sys2Proof.Machine.execHeelControl h p s
  | .axisIoStatus h p => Sys2Proof.Machine.execAxisIoStatus h p s
  | .triggerConfig h p => Sys2Proof.Machine.execTriggerConfig h p s
  | .triggerStatus h p => Sys2Proof.Machine.execTriggerStatus h p s
  | .clockConfig h p => Sys2Proof.Machine.execClockConfig h p s
  | .clockStep h p => Sys2Proof.Machine.execClockStep h p s
  | .clockRamp h p => Sys2Proof.Machine.execClockRamp h p s
  | .clockRampStop h p => Sys2Proof.Machine.execClockRampStop h p s
  | .clockStatus h p => Sys2Proof.Machine.execClockStatus h p s
  | .hkCompRead h p => Sys2Proof.Machine.execHkCompRead h p s
  | .hkCompWrite h p => Sys2Proof.Machine.execHkCompWrite h p s
  | .thermalStatus h p => Sys2Proof.Machine.execThermalStatus h p s
  | .thermalRelease h p => Sys2Proof.Machine.execThermalRelease h p s
  | .thermalModelRead h p => Sys2Proof.Machine.execThermalModelRead h p s
  | .thermalModelWrite h p => Sys2Proof.Machine.execThermalModelWrite h p s
  | .zoneSuspectClear h p => Sys2Proof.Machine.execZoneSuspectClear h p s
  | .calConfig h p => Sys2Proof.Machine.execCalConfig h p s
  | .calStatus h p => Sys2Proof.Machine.execCalStatus h p s
  | .calControl h p => Sys2Proof.Machine.execCalControl h p s
  | .calValuesRead h p => Sys2Proof.Machine.execCalValuesRead h p s
  | .kennelSave h p => Sys2Proof.Machine.execKennelSave h p s
  | .kennelConfig h p => Sys2Proof.Machine.execKennelConfig h p s
  | .kennelStatus h p => Sys2Proof.Machine.execKennelStatus h p s
  | .kennelRead h p => Sys2Proof.Machine.execKennelRead h p s
  | .kennelErase h p => Sys2Proof.Machine.execKennelErase h p s
  | .clConfig h p => Sys2Proof.Machine.execClConfig h p s
  | .clStatus h p => Sys2Proof.Machine.execClStatus h p s
  | .clEnumerate h p => Sys2Proof.Machine.execClEnumerate h p s
  | .clBroadcast h p => Sys2Proof.Machine.execClBroadcast h p s
  | .clTimeSet h p => Sys2Proof.Machine.execClTimeSet h p s
  | .clRouteRead h p => Sys2Proof.Machine.execClRouteRead h p s
  | .csConfig h p => Sys2Proof.Machine.execCsConfig h p s
  | .csStatus h p => Sys2Proof.Machine.execCsStatus h p s
  | .csFormat h p => Sys2Proof.Machine.execCsFormat h p s
  | .clipCreate h p => Sys2Proof.Machine.execClipCreate h p s
  | .clipWrite h p => Sys2Proof.Machine.execClipWrite h p s
  | .clipSeal h p => Sys2Proof.Machine.execClipSeal h p s
  | .clipDelete h p => Sys2Proof.Machine.execClipDelete h p s
  | .clipInfo h p => Sys2Proof.Machine.execClipInfo h p s
  | .clipPlay h p => Sys2Proof.Machine.execClipPlay h p s
  | .cueControl h p => Sys2Proof.Machine.execCueControl h p s
  | .epbConfig h p => Sys2Proof.Machine.execEpbConfig h p s
  | .epbWrite h p => Sys2Proof.Machine.execEpbWrite h p s
  | .epbUpdate h p => Sys2Proof.Machine.execEpbUpdate h p s
  | .epbPattern h p => Sys2Proof.Machine.execEpbPattern h p s
  | .epbStatus h p => Sys2Proof.Machine.execEpbStatus h p s
  | .identityRead h p => Sys2Proof.Machine.execIdentityRead h p s
  | .certRead h p => Sys2Proof.Machine.execCertRead h p s
  | .attest h p => Sys2Proof.Machine.execAttest h p s
  | .serviceChallenge h p => Sys2Proof.Machine.execServiceChallenge h p s
  | .serviceOpen h p => Sys2Proof.Machine.execServiceOpen h p s
  | .serviceClose h p => Sys2Proof.Machine.execServiceClose h p s
  | .serviceKeyEnroll h p => Sys2Proof.Machine.execServiceKeyEnroll h p s
  | .serviceKeyRevoke h p => Sys2Proof.Machine.execServiceKeyRevoke h p s
  | .securityCommit h p => Sys2Proof.Machine.execSecurityCommit h p s
  | .patinaConfig h p => Sys2Proof.Machine.execPatinaConfig h p s
  | .patinaEmitterRead h p => Sys2Proof.Machine.execPatinaEmitterRead h p s
  | .patinaUnitRead h p => Sys2Proof.Machine.execPatinaUnitRead h p s
  | .patinaHoursRead h p => Sys2Proof.Machine.execPatinaHoursRead h p s
  | .patinaReset h p => Sys2Proof.Machine.execPatinaReset h p s
  | .doorbellWrite value bar2 => Sys2Proof.Machine.execDoorbellWrite value bar2 s
  | .rplConsWrite value => Sys2Proof.Machine.execRplConsWrite value s
  | .mbxFlagsClearCpuFault => Sys2Proof.Machine.execMbxFlagsClearCpuFault s
  | .mbxFlagsClearRestarted => Sys2Proof.Machine.execMbxFlagsClearRestarted s
  | .mbxFlagsClearReplyLost => Sys2Proof.Machine.execMbxFlagsClearReplyLost s
  | .mbxFlagsClearRconsInvalid => Sys2Proof.Machine.execMbxFlagsClearRconsInvalid s
  | .mbxFlagsClearDbInvalid => Sys2Proof.Machine.execMbxFlagsClearDbInvalid s
  | .registerWriteOther offset value => Sys2Proof.Machine.execRegisterWriteOther offset value s
  | .ringHeadTake contested => Sys2Proof.Machine.execRingHeadTake contested s
  | .clMailboxTake contested => Sys2Proof.Machine.execClMailboxTake contested s
  | .maxWaitExpiry cl => Sys2Proof.Machine.execMaxWaitExpiry cl s
  | .parkedCommandComplete place ok data => Sys2Proof.Machine.execParkedCommandComplete place ok data s
  | .remoteTimeoutExpiry place => Sys2Proof.Machine.execRemoteTimeoutExpiry place s
  | .hostLinkDown => Sys2Proof.Machine.execHostLinkDown s
  | .hostLinkUp => Sys2Proof.Machine.execHostLinkUp s
  | .powerOnReset => Sys2Proof.Machine.execPowerOnReset s
  | .porstNRelease flash => Sys2Proof.Machine.execPorstNRelease flash s
  | .firmwareReady => Sys2Proof.Machine.execFirmwareReady s
  | .lockstepMismatch => Sys2Proof.Machine.execLockstepMismatch s
  | .watchdogExpiry => Sys2Proof.Machine.execWatchdogExpiry s
  | .bridgeWordCrcFail word toCore repeated => Sys2Proof.Machine.execBridgeWordCrcFail word toCore repeated s
  | .bridgeLoss => Sys2Proof.Machine.execBridgeLoss s
  | .bridgeResume => Sys2Proof.Machine.execBridgeResume s
  | .tickBoundary => Sys2Proof.Machine.execTickBoundary s
  | .slotStart => Sys2Proof.Machine.execSlotStart s
  | .entryOpen array windows light => Sys2Proof.Machine.execEntryOpen array windows light s
  | .mapPoint array => Sys2Proof.Machine.execMapPoint array s
  | .composeLineStart => Sys2Proof.Machine.execComposeLineStart s
  | .frameDone => Sys2Proof.Machine.execFrameDone s
  | .readCompletion user ok offset data => Sys2Proof.Machine.execReadCompletion user ok offset data s
  | .fenceReadCompletion layer isEnd ok value => Sys2Proof.Machine.execFenceReadCompletion layer isEnd ok value s
  | .selfRefreshEntry => Sys2Proof.Machine.execSelfRefreshEntry s
  | .selfRefreshExit => Sys2Proof.Machine.execSelfRefreshExit s
  | .arrayStatusMessage array state flags lock deskew => Sys2Proof.Machine.execArrayStatusMessage array state flags lock deskew s
  | .laneAlarm array lane reason => Sys2Proof.Machine.execLaneAlarm array lane reason s
  | .tickReport array tick closed notComplete resets cleared => Sys2Proof.Machine.execTickReport array tick closed notComplete resets cleared s
  | .temp array value => Sys2Proof.Machine.execTemp array value s
  | .arrayRecord array record => Sys2Proof.Machine.execArrayRecord array record s
  | .laneReport array part counts => Sys2Proof.Machine.execLaneReport array part counts s
  | .resetCount array count => Sys2Proof.Machine.execResetCount array count s
  | .cmdAck array cmd seq result => Sys2Proof.Machine.execCmdAck array cmd seq result s
  | .ident array serial firmware => Sys2Proof.Machine.execIdent array serial firmware s
  | .backchannelTimeout array => Sys2Proof.Machine.execBackchannelTimeout array s
  | .trainDetectTimeout array => Sys2Proof.Machine.execTrainDetectTimeout array s
  | .trainLockTimeout array => Sys2Proof.Machine.execTrainLockTimeout array s
  | .trainDeskewTimeout array => Sys2Proof.Machine.execTrainDeskewTimeout array s
  | .trainRecordTimeout array => Sys2Proof.Machine.execTrainRecordTimeout array s
  | .arrayRetrainTimer array => Sys2Proof.Machine.execArrayRetrainTimer array s
  | .arrayCmdTimeout array => Sys2Proof.Machine.execArrayCmdTimeout array s
  | .transmitterFault lane => Sys2Proof.Machine.execTransmitterFault lane s
  | .laneRetrainAttempt lane locked => Sys2Proof.Machine.execLaneRetrainAttempt lane locked s
  | .laneReady lane => Sys2Proof.Machine.execLaneReady lane s
  | .effectPwmPeriod windows => Sys2Proof.Machine.execEffectPwmPeriod windows s
  | .diagCell m => Sys2Proof.Machine.execDiagCell m s
  | .neighbourPeriodStart => Sys2Proof.Machine.execNeighbourPeriodStart s
  | .sinkOvertempDetect channel => Sys2Proof.Machine.execSinkOvertempDetect channel s
  | .sinkOvertempResume channel => Sys2Proof.Machine.execSinkOvertempResume channel s
  | .darkBlock input samples => Sys2Proof.Machine.execDarkBlock input samples s
  | .solverRun => Sys2Proof.Machine.execSolverRun s
  | .pointDue head data windows => Sys2Proof.Machine.execPointDue head data windows s
  | .pointDataLanded head => Sys2Proof.Machine.execPointDataLanded head s
  | .parkIdleExpiry head => Sys2Proof.Machine.execParkIdleExpiry head s
  | .headOnDump head => Sys2Proof.Machine.execHeadOnDump head s
  | .scanSpeedSample head => Sys2Proof.Machine.execScanSpeedSample head s
  | .axisSample axis m => Sys2Proof.Machine.execAxisSample axis m s
  | .heelRampStep axis => Sys2Proof.Machine.execHeelRampStep axis s
  | .extStepInput axis dirHigh => Sys2Proof.Machine.execExtStepInput axis dirHigh s
  | .triggerInput input => Sys2Proof.Machine.execTriggerInput input s
  | .triggerHeld10s input => Sys2Proof.Machine.execTriggerHeld10s input s
  | .triggerRelease input => Sys2Proof.Machine.execTriggerRelease input s
  | .interlockDeassert => Sys2Proof.Machine.execInterlockDeassert s
  | .interlockRestore => Sys2Proof.Machine.execInterlockRestore s
  | .syncInEdge => Sys2Proof.Machine.execSyncInEdge s
  | .tickReferenceMissing source outside => Sys2Proof.Machine.execTickReferenceMissing source outside s
  | .genlockStep => Sys2Proof.Machine.execGenlockStep s
  | .clockRampStep pll => Sys2Proof.Machine.execClockRampStep pll s
  | .refclkLoss => Sys2Proof.Machine.execRefclkLoss s
  | .refclkFreqCheck ppm => Sys2Proof.Machine.execRefclkFreqCheck ppm s
  | .refclkRestore ppm => Sys2Proof.Machine.execRefclkRestore ppm s
  | .pllLockLoss pll => Sys2Proof.Machine.execPllLockLoss pll s
  | .pllRelock pll => Sys2Proof.Machine.execPllRelock pll s
  | .hkCrystalStart => Sys2Proof.Machine.execHkCrystalStart s
  | .hkCrystalStop => Sys2Proof.Machine.execHkCrystalStop s
  | .hkMeasure ppm => Sys2Proof.Machine.execHkMeasure ppm s
  | .zoneReading zone value power => Sys2Proof.Machine.execZoneReading zone value power s
  | .tripComparatorFire zone => Sys2Proof.Machine.execTripComparatorFire zone s
  | .warmRestartBegin => Sys2Proof.Machine.execWarmRestartBegin s
  | .nvmeTripReset => Sys2Proof.Machine.execNvmeTripReset s
  | .calUnitDue task unit => Sys2Proof.Machine.execCalUnitDue task unit s
  | .kennelPacedWrite store => Sys2Proof.Machine.execKennelPacedWrite store s
  | .kennelWriteDone good => Sys2Proof.Machine.execKennelWriteDone good s
  | .portId port role flags addr crcOk => Sys2Proof.Machine.execPortId port role flags addr crcOk s
  | .clTick tickNo hops depth acc crcOk frac => Sys2Proof.Machine.execClTick tickNo hops depth acc crcOk frac s
  | .clTime ns crcOk => Sys2Proof.Machine.execClTime ns crcOk s
  | .delayReq port seq crcOk => Sys2Proof.Machine.execDelayReq port seq crcOk s
  | .delayRsp seq turn crcOk roundTrip => Sys2Proof.Machine.execDelayRsp seq turn crcOk roundTrip s
  | .delayReqTimer => Sys2Proof.Machine.execDelayReqTimer s
  | .credit port rsp freed crcOk => Sys2Proof.Machine.execCredit port rsp freed crcOk s
  | .creditTimer port => Sys2Proof.Machine.execCreditTimer port s
  | .mbxCmd port hdr entry => Sys2Proof.Machine.execMbxCmd port hdr entry s
  | .mbxReply port hdr entry => Sys2Proof.Machine.execMbxReply port hdr entry s
  | .bcast port hdr subtree entry => Sys2Proof.Machine.execBcast port hdr subtree entry s
  | .token port tok => Sys2Proof.Machine.execToken port tok s
  | .tokenBack port tok => Sys2Proof.Machine.execTokenBack port tok s
  | .report port index paddr pset serial => Sys2Proof.Machine.execReport port index paddr pset serial s
  | .persistSet port block bits => Sys2Proof.Machine.execPersistSet port block bits s
  | .announce port addr held persistent serial => Sys2Proof.Machine.execAnnounce port addr held persistent serial s
  | .conflict port index serial => Sys2Proof.Machine.execConflict port index serial s
  | .enumTimeoutExpiry => Sys2Proof.Machine.execEnumTimeoutExpiry s
  | .clSignalDetect port => Sys2Proof.Machine.execClSignalDetect port s
  | .clLinkLoss port codeErrors => Sys2Proof.Machine.execClLinkLoss port codeErrors s
  | .clTrainingTimeout port => Sys2Proof.Machine.execClTrainingTimeout port s
  | .clRetryTimer port => Sys2Proof.Machine.execClRetryTimer port s
  | .csMount drive => Sys2Proof.Machine.execCsMount drive s
  | .nvmeCompletion place status data => Sys2Proof.Machine.execNvmeCompletion place status data s
  | .cueEntryDue player => Sys2Proof.Machine.execCueEntryDue player s
  | .epbOutputIdle output => Sys2Proof.Machine.execEpbOutputIdle output s
  | .epbSilenceExpiry output => Sys2Proof.Machine.execEpbSilenceExpiry output s
  | .serviceSessionExpiry => Sys2Proof.Machine.execServiceSessionExpiry s
  | .serviceNonceExpiry => Sys2Proof.Machine.execServiceNonceExpiry s
  | .authLockoutExpiry => Sys2Proof.Machine.execAuthLockoutExpiry s
  | .backchannelBadMessage array => Sys2Proof.Machine.execBackchannelBadMessage array s
  | .clBadFrame port rsp => Sys2Proof.Machine.execClBadFrame port rsp s
  | .pcieConfigWrite busMaster memSpace d3hot ltr => Sys2Proof.Machine.execPcieConfigWrite busMaster memSpace d3hot ltr s
  | .completionTimeout user => Sys2Proof.Machine.execCompletionTimeout user s
  | .nvmeLinkLoss => Sys2Proof.Machine.execNvmeLinkLoss s
  | .encoderEdge axis a b z gap => Sys2Proof.Machine.execEncoderEdge axis a b z gap s
  | .feedbackConversion axis conv => Sys2Proof.Machine.execFeedbackConversion axis conv s
  | .axisPwmPeriod axis => Sys2Proof.Machine.execAxisPwmPeriod axis s
  | .sscTurningPoint => Sys2Proof.Machine.execSscTurningPoint s
  | .vdrvLow low => Sys2Proof.Machine.execVdrvLow low s
  | .dmaTransferDone tags => Sys2Proof.Machine.execDmaTransferDone tags s
  | .debuggerHalt halted => Sys2Proof.Machine.execDebuggerHalt halted s

end Sys2Proof.Machine
end

