-- ==== Sys2Proof/Safety.lean ====
section
/-! DEFINITION. The vocabulary of the claims: when a command is begun at once, what its taking and its answer change,
and the invariant that every step keeps. -/
namespace Sys2Proof.Machine

/-- A mailbox command is begun now on this device (17 R365, R366): the firmware is ready, the command is for this
device, and a PCIe command has a free reply slot. -/
def State.accepts (s : State) (h : Hdr) : Prop :=
  s.mbx.fwState = 1 ∧ s.isHere h = true ∧ (h.origin = .pcie → s.slotFree = true)

/-- A state in which a command of this header has been taken and begun: it is counted (17 R358, R382), and the silence of
20 R431 ends. Nothing else has changed. -/
def State.taken (s : State) (h : Hdr) : State :=
  { s.countTake h with epb := { s.epb with silentSince := s.now } }

/-- The reply OK with a payload goes back the way its command came; then the hardwired gates act. -/
def State.okReply (s : State) (h : Hdr) (op : Nat) (payload : Rec) : State :=
  (s.answer h { op := op, tag := h.tag, code := cOk, payload := payload }).settle

/-- The same for any completion code. -/
def State.codeReply (s : State) (h : Hdr) (op code : Nat) : State :=
  (s.answer h { op := op, tag := h.tag, code := code, payload := [] }).settle

/-- `t`, the state after a command's own effect, with the command parked (17 R368); its completion bound counts the kennel
writes running or queued ahead of it at its take, in `s`. Then the hardwired gates act. -/
def State.parkedAs (t s : State) (op : Nat) (h : Hdr) (p : Rec) (key : Nat) : State :=
  (t.park (s.writesAhead (key % 8)) op h p key).settle

/-- While a hardwired gate holds the sinks (24 R485), no sink conducts, and under those of 08 R191 the running tick does not qualify
(10 R223); bridge loss is seen by FAULT only while it lasts or a fast axis is in heel (17 R374). -/
def State.gatesHold (s : State) : Prop :=
  (s.sinksHeld = true → ∀ k ∈ s.src.sinks, k.code = 0) ∧ (s.allOff = true → s.con.stateHeld = true) ∧
  (s.show_.bridgeHeel = true → s.show_.bridgeLost = true ∨ ∃ a ∈ s.axes.take 8, a.state = 2)

end Sys2Proof.Machine
end

