-- ==== Sys2Proof/Certificates/Slice0/Obligations.lean ====
section
/-! DEFINITION. The statements for the provers: what every command does, where it completes, and what every step keeps. -/
open Sys2Proof Sys2Proof.Machine

/-! ## The queue of commands, reset, and what every step keeps -/

/-- A step executes the command at the front of the queue with the queue's rest. -/
def Obligations.StepExecutesFrontCommand : Prop :=
  ∀ (s : State) (c : Instr) (rest : List Instr), s.pending = c :: rest →
    Sys2Proof.Machine.step s = Sys2Proof.Machine.exec c { s with pending := rest }

/-- On an empty queue one tu passes and nothing else changes: no rule of the spec, but the model's choice (assumption
2). -/
def Obligations.IdleStepPassesOneTu : Prop :=
  ∀ s : State, s.pending = [] → Sys2Proof.Machine.step s = .next { s with now := s.now + 1 }

/-- What power-on reset leaves in the units that R466 names, and the default mode and armature. (Parts of 22 R466,
R467.) -/
def Obligations.ResetLeavesTheStatedDefaults : Prop :=
  let s := State.reset
  (∀ d ∈ s.com.live.layers, lyEnable d = false) ∧ (∀ c ∈ s.chi.slots, c = []) ∧ (∀ a ∈ s.pl.arrays, a.state = 0) ∧
  (∀ b ∈ s.src.live.banks, byteAt b 0 = 1 ∧ byteAt b 1 = 0) ∧ (∀ c ∈ s.src.live.chans, chRole c = 0) ∧
  (∀ x ∈ s.axes, x.state = 0) ∧ (∀ x ∈ s.heads, x.state = 0) ∧ s.th.c = 16 ∧
  byteAt s.con.cfg 0 = 0 ∧ s.con.s = List.replicate 8 32768 ∧
  (∀ o ∈ s.epb.outs, bit (byteAt o.record 1) 0 = false) ∧ s.tk.prio = zeros 4 ∧ s.show_.ilkOff = true ∧
  s.com.maq = s.com.live ∧ s.com.live.mode = 0x49 ∧ byteAt s.com.live.armature 0 = 0x49 ∧
  byteAt s.com.live.armature 1 = 1 ∧ u32 s.com.live.armature 4 = 6666666 ∧ u32 s.com.live.armature 8 = 0 ∧
  s.mbx.fwState = 0 ∧ s.mbx.cmdProd = 0 ∧ s.mbx.cmdCons = 0 ∧ s.mbx.rplProd = 0 ∧ s.mbx.rplCons = 0 ∧
  s.mbxFlags = 0 ∧ s.hwStatus = 0 ∧ s.evq.seq = 0 ∧ s.evq.recs = []

/-! ## Completion of the mailbox commands, by chapter

Each clause names one command, the conditions under which its chapter lets it act, and the state after it: what its taking
changes (`taken`), its own effect, its reply (`okReply`), and nothing else. -/

/-- Each of the commands of the mailbox chapter but the event queue's completes with the reply and the state that its
rules give. STATUS is answered in every state. (Parts of 17 R374, R376, R382.) The model's own choices in it:
assumptions 6, 13. -/
def Obligations.MailboxCommandsComplete : Prop :=
  ∀ (h : Hdr) (p : Rec) (s : State),
    (p.length = 0 → s.isHere h = true → (h.origin = .pcie → s.slotFree = true) →
      ∀ t : State, t = s.countTake h → Sys2Proof.Machine.exec (.status h p) s =
        .next (t.answer h
          { op := 0x0100, tag := h.tag, code := cOk, hw := true, payload :=
            le 4 t.tk.tick.toNat ++ le 4 t.offset ++ le 1 t.mbx.fwState ++ [t.com.live.mode] ++ le 1 t.tk.active ++
            le 1 t.th.c ++ le 1 t.th.state ++ le 1 t.chi.inForce ++ le 2 (maskOf (t.axes.map fun a => a.state == 2)) ++
            le 2 t.evq.recs.length ++ le 2 (t.cl.addr.getD 0).toNat ++
            le 1 (maskOf [t.cl.addr.isSome, t.show_.ilkOff, !t.evq.lost.isEmpty]) ++ le 1 t.pendingCount ++ zeros 2 ++
            le 4 (t.fwField 0x0C 4) ++ le 4 t.mbx.busyCount.toNat }).settle) ∧
    (s.accepts h →
      (p.length = 8 → 5 ≤ u16 p 0 ∧ u16 p 0 ≤ 1000 → 1 ≤ u16 p 2 ∧ u16 p 2 ≤ 10000 →
        Sys2Proof.Machine.exec (.mailboxConfig h p) s = .next
          ({ s.taken h with mbx :=
            { (s.taken h).mbx with maxWait := u16 p 0, remoteTimeout := u16 p 2 } }.okReply h 0x0101 [])) ∧
      (p.length = 4 → Sys2Proof.Machine.exec (.whistleAck h p) s = .next
        ({ s.taken h with mbx := { (s.taken h).mbx with
          flagRestarted := s.mbx.flagRestarted && !bit (byteAt p 0) 0,
          flagCpuFault := s.mbx.flagCpuFault && !bit (byteAt p 0) 1 } }.okReply h 0x0102 [])) ∧
      (p.length = 0 → ∀ t : State, t = s.taken h →
      Sys2Proof.Machine.exec (.mailboxCounters h p) s = .next (t.okReply h 0x0103
        (([t.mbx.ctr.pcieTaken, t.mbx.ctr.clTaken, t.mbx.ctr.busyNotReady, t.mbx.ctr.busyWait, t.mbx.ctr.busyPending,
          t.mbx.ctr.busyThermal, t.mbx.ctr.remoteSent, t.mbx.ctr.remoteTimeout, t.mbx.ctr.remoteLate,
          t.mbx.ctr.ringErrors].map fun v => le 4 v.toNat).flatten))))

/-- EVENT_READ takes the oldest records, at most MAX, out of the queue, and leaves the rest in order;
EVENT_OVERFLOW_READ returns the counters from START_CODE up and with CLEAR takes exactly those returned out. (Parts of
17 R382.) The model's own choices in it: assumption 6. -/
def Obligations.EventQueueCommandsComplete : Prop :=
  ∀ (h : Hdr) (p : Rec) (s : State), s.accepts h → p.length = 4 →
    (1 ≤ byteAt p 0 ∧ byteAt p 0 ≤ 14 →
      ∀ out, out = s.evq.recs.take (byteAt p 0) →
        Sys2Proof.Machine.exec (.eventRead h p) s = .next
          ({ s.taken h with evq := { s.evq with recs := s.evq.recs.drop (byteAt p 0) } }.okReply h 0x1200
            (le 1 out.length ++ le 1 (b2n (!s.evq.lost.isEmpty)) ++ le 2 (s.evq.recs.length - byteAt p 0) ++
              le 4 (s.evq.seq - BitVec.ofNat 32 s.evq.recs.length).toNat ++ le 4 s.evq.lostSum ++ zeros 4 ++
              (out.map eventBytes).flatten))) ∧
    (∀ out pay, out = (s.evq.lost.filter fun c => decide (u16 p 0 ≤ c.1.toNat)).take 29 →
      pay = le 2 s.evq.lost.length ++ le 1 out.length ++ zeros 5 ++
        (out.map fun c => le 2 c.1.toNat ++ zeros 2 ++ le 4 c.2).flatten →
      (bit (byteAt p 2) 0 = true → Sys2Proof.Machine.exec (.eventOverflowRead h p) s = .next
        ({ s.taken h with evq :=
          { s.evq with lost := s.evq.lost.filter fun c => !out.contains c } }.okReply h 0x1201 pay)) ∧
      (bit (byteAt p 2) 0 = false → Sys2Proof.Machine.exec (.eventOverflowRead h p) s =
        .next ((s.taken h).okReply h 0x1201 pay)))

/-- Each of the commands of the clocks completes with the reply and the state that its rules give. (Parts of 14 R302,
R304, R315.) The model's own choices in it: assumptions 6, 24, 27. -/
def Obligations.ClockCommandsComplete : Prop :=
  ∀ (h : Hdr) (p : Rec) (s : State), s.accepts h →
    let n := byteAt p 0
    let q := at_ s.ck.plls n
    (p.length = 8 → n ≤ 10 → byteAt p 1 ≤ 10 → 3000 ≤ u16 p 2 ∧ u16 p 2 ≤ 3300 → 8 ≤ u16 p 4 ∧ u16 p 4 ≤ 1024 →
      (byteAt p 1 = byteAt s.ck.cfg 1 ∨ s.allDisabled = true) →
      Sys2Proof.Machine.exec (.clockConfig h p) s = .next
        ({ s.taken h with ck := { s.ck with
          cfg := p
          lnkSsc := if (at_ s.ck.plls 2).locked || (at_ s.ck.plls 2).coast then byteAt p 1 else s.ck.lnkSsc } }.okReply
            h 0x0A00 [])) ∧
    (p.length = 8 → n ≤ 1 → (i32 p 4).natAbs ≤ 5000 → ((q.offset + i32 p 4).natAbs : Int) ≤ pllLimit n →
      s.pllFree n = true → s.stepSpaced n = true →
      Sys2Proof.Machine.exec (.clockStep h p) s = .next
        ((((s.taken h).hostGoal n).setOffset n (q.offset + i32 p 4) s.now).okReply h 0x0A01
          (leI 4 (q.offset + i32 p 4)))) ∧
    (p.length = 4 + 8 * byteAt p 1 → n ≤ 1 → 1 ≤ byteAt p 1 ∧ byteAt p 1 ≤ 16 →
      rampOk (pllLimit n) q.offset (rampSegs p (byteAt p 1)) = true → bit (byteAt p 2) 0 = false → s.pllFree n = true →
      Sys2Proof.Machine.exec (.clockRamp h p) s = .next
        ((((s.taken h).hostGoal n).pll n fun x =>
          { x with ramp := some ⟨rampSegs p (byteAt p 1), false, 0, q.offset, s.now⟩ }).okReply h 0x0A02 [])) ∧
    (p.length = 4 → n ≤ 3 → q.ramp.isSome = true →
      Sys2Proof.Machine.exec (.clockRampStop h p) s = .next
        ((((s.taken h).pll n fun x => { x with ramp := none }).raise 0x0A03 n
          (1 + 65536 * pattern 16 q.offset)).okReply h 0x0A03 (leI 4 q.offset))) ∧
    (p.length = 0 → ∀ t : State, t = s.taken h →
      Sys2Proof.Machine.exec (.clockStatus h p) s = .next (t.okReply h 0x0A04
        (le 1 (maskOf [t.ck.refValid, t.ck.hkCrystal, t.ck.hkComp]) ++ le 1 (maskOf (t.ck.plls.map fun q => q.locked)) ++
          le 1 (maskOf (t.ck.plls.map fun q => q.coast)) ++ le 1 (maskOf (t.ck.plls.map fun q => q.ramp.isSome)) ++
          leI 4 (at_ t.ck.plls 0).offset ++ leI 4 (at_ t.ck.plls 1).offset ++ leI 4 t.ck.freqEst ++ leI 4 t.ck.refErr ++
          leI 4 t.ck.hkErr ++ le 4 t.ck.refLosses.toNat ++ le 4 t.ck.lockLosses.toNat))) ∧
    (∀ r, p.length = 0 → s.ck.comp = some r →
      Sys2Proof.Machine.exec (.hkCompRead h p) s = .next ((s.taken h).okReply h 0x0A05 r))

/-- Each of the commands of the tick and the armature completes with the reply and the state that its rules give. (Parts
of 02 R39, R48, R50.) The model's own choices in it: assumptions 6, 26, 117. -/
def Obligations.TickCommandsComplete : Prop :=
  ∀ (h : Hdr) (p : Rec) (s : State), s.accepts h →
    (p.length = 1 → modeOk (byteAt p 0) = true →
      Sys2Proof.Machine.exec (.modeSet h p) s = .next
        ({ s.taken h with com := { s.com with maq :=
          { s.com.maq with mode := p.getD 0 0 } } }.okReply h 0x0200 [])) ∧
    (p.length = 4 + u16 p 2 → 1 ≤ u16 p 2 ∧ u16 p 2 ≤ 236 → u16 p 0 + u16 p 2 ≤ 528 →
      Sys2Proof.Machine.exec (.armatureWrite h p) s = .next
        ({ s.taken h with com := { s.com with maq := { s.com.maq with
          armature := overlay s.com.maq.armature (u16 p 0) (slice p 4 (u16 p 2)) } } }.okReply h 0x0201 [])) ∧
    (p.length = 6 → byteAt p 0 ≤ 1 → 1 ≤ u16 p 4 ∧ u16 p 4 ≤ 240 → u16 p 2 + u16 p 4 ≤ 528 →
      Sys2Proof.Machine.exec (.armatureRead h p) s = .next ((s.taken h).okReply h 0x0202
        (slice (if byteAt p 0 = 0 then s.com.maq.armature else s.com.live.armature) (u16 p 2) (u16 p 4)))) ∧
    (p.length = 12 → prioOk ((p.take 4).map BitVec.toNat) = true → byteAt p 4 ≤ 1 → 1 ≤ u16 p 6 →
      u32 p 8 < baseTick s.liveMode →
      ∀ u v : State,
        u = { s.taken h with tk := { s.tk with
          prio := p.take 4, syncInKind := p.getD 4 0, syncOutCtl := p.getD 5 0, syncOutWidth := u16 p 6,
          syncInDelay := u32 p 8, syncUntil := if bit (byteAt p 5) 0 then s.tk.syncUntil else 0 } } →
        v = (if u.sourceMeets 2 then { u with tk := { u.tk with
          refs := upd u.tk.refs 1 fun (r : TickRef) => { r with valid := true } } } else u) →
        Sys2Proof.Machine.exec (.tickSourceSet h p) s = .next
          ({ v with tk := { v.tk with reason :=
            if v.bestSource = s.bestSource then s.tk.reason else if v.bestSource = s.tk.active then 0 else 2 } }.okReply
              h 0x0203 [])) ∧
    (p.length = 0 → ∀ t : State, t = s.taken h →
      Sys2Proof.Machine.exec (.tickStatus h p) s = .next (t.okReply h 0x0204
        (le 4 t.tk.tick.toNat ++ le 4 t.offset ++ le 1 t.tk.active ++ le 1 t.tickState ++ [t.com.live.mode] ++
          le 1 (maskOf (false :: [1, 2, 3, 4].map t.sourceValid)) ++ leI 4 t.tk.phaseErr ++
          leI 4 (at_ t.ck.plls 1).offset))) ∧
    (p.length = 20 → s.tickKind (u32 p 0) ≠ 1 →
      ∀ u, u = { s.taken h with tk := { s.tk with stampAge := 0 } } →
      Sys2Proof.Machine.exec (.tickStamp h p) s = .next
        ((if u.sourceMeets 3 then { u with tk := { u.tk with
          refs := upd u.tk.refs 2 fun (r : TickRef) => { r with valid := true } } } else u).okReply h 0x0205 [])) ∧
    (p.length = 20 → ∃ t tk ck evq, t = { s.taken h with tk := tk, ck := ck, evq := evq } ∧ tk.stampAge = 0 ∧
      (s.tickKind (u32 p 0) = 1 → tk.stampLast = some (BitVec.ofNat 32 (u32 p 0),
        stampInstant ((s.taken h).mbx.doorbell.getD s.now) (u64 p 4) (u64 p 12),
        (s.taken h).ofsAt (stampInstant ((s.taken h).mbx.doorbell.getD s.now) (u64 p 4) (u64 p 12)))) ∧
      Sys2Proof.Machine.exec (.tickStamp h p) s = .next (t.okReply h 0x0205 [])) ∧
    (p.length = 0 → s.admitted s.com.maq s.commitSet = true →
      Sys2Proof.Machine.exec (.admissionQuery h p) s = .next ((s.taken h).okReply h 0x0206
        (s.budgetReport s.com.maq s.commitSet)))

/-- Each of the commands of the layers completes with the reply and the state that its rules give. (Parts of 03 R52,
R69, R78.) The model's own choices in it: assumptions 6, 121. -/
def Obligations.LayerCommandsComplete : Prop :=
  ∀ (h : Hdr) (p : Rec) (s : State), s.accepts h →
    (p.length = 100 → byteAt p 0 ≤ 7 → layerOk (slice p 4 96) = true →
      Sys2Proof.Machine.exec (.layerWrite h p) s = .next
        ({ s.taken h with com := { s.com with maq := { s.com.maq with
          layers := upd s.com.maq.layers (byteAt p 0) fun _ => slice p 4 96 } } }.okReply h 0x0300 [])) ∧
    (p.length = 2 → byteAt p 0 ≤ 1 → byteAt p 1 ≤ 7 →
      Sys2Proof.Machine.exec (.layerRead h p) s = .next ((s.taken h).okReply h 0x0301
        (at_ (if byteAt p 0 = 0 then s.com.maq.layers else s.com.live.layers) (byteAt p 1)))) ∧
    (p.length = 4 + 16 * byteAt p 2 → 8 ≤ byteAt p 0 ∧ byteAt p 0 ≤ 15 → byteAt p 1 ≤ 63 →
      1 ≤ byteAt p 2 ∧ byteAt p 2 ≤ 14 → byteAt p 1 + byteAt p 2 ≤ 64 →
      ((filterRows p (byteAt p 2)).all fun r => r.sum == 16384) = true →
      ∀ m, m = (filterRows p (byteAt p 2)).zipIdx.foldl (fun m (r, k) =>
        spPut 0 m (512 * (byteAt p 0 - 8) + 8 * (byteAt p 1 + k))
          (List.zipWith (· - ·) r (builtinTaps 1 (byteAt p 1 + k)))) s.com.maq.filters →
      Sys2Proof.Machine.exec (.filterWrite h p) s = .next
        ({ s.taken h with com := { s.com with maq := { s.com.maq with filters := m } } }.okReply h 0x0302 [])) ∧
    (p.length = 12 → Sys2Proof.Machine.exec (.backgroundSet h p) s = .next
      ({ s.taken h with com := { s.com with maq := { s.com.maq with
        background := [bits (u32 p 0) 19 0, bits (u32 p 4) 19 0, bits (u32 p 8) 19 0] } } }.okReply h 0x0303 [])) ∧
    (p.length = 8 → allotOk [u16 p 0, u16 p 2, u16 p 4, u16 p 6] = true →
      Sys2Proof.Machine.exec (.tagAllot h p) s = .next
        ({ s.taken h with com := { s.com with maq := { s.com.maq with
          allot := [u16 p 0, u16 p 2, u16 p 4, u16 p 6] } } }.okReply h 0x0304 [])) ∧
    (p.length = 8 → 10 ≤ u16 p 0 ∧ u16 p 0 ≤ 640 → 40 ≤ u16 p 2 ∧ u16 p 2 ≤ 10000 →
      Sys2Proof.Machine.exec (.fetchConfig h p) s = .next
        ({ s.taken h with com := { s.com with maq := { s.com.maq with fetchCfg := p } } }.okReply h 0x0305 [])) ∧
    (p.length = 0 → ∀ u : State, u = (s.taken h).ltrTo (s.taken h).now →
      ∀ t : State, t = { u with fetch := { u.fetch with layerPeak := u.fetch.held.getD 0 0 } } →
      Sys2Proof.Machine.exec (.fetchStatus h p) s = .next
        (t.okReply h 0x0306
          ((u.fetch.underruns.map fun c => le 4 c.toNat).flatten ++ (u.fetch.held.map (le 2)).flatten ++
            le 4 u.fetch.ltDdr ++ le 4 u.fetch.ltHost ++ le 4 u.fetch.ltrLast.toNat ++ le 4 u.fetch.srCount.toNat ++
            le 2 u.fetch.layerPeak ++ zeros 2)))

/-- Each of the commands of the maquette and the commits completes with the reply and the state that its rules give.
COMMIT is accepted for one of the next two boundaries and answered OK, or LATE past the latch line. (Parts of 04 R81,
R83, R100.) The model's own choices in it: assumptions 6, 47, 49, 123. -/
def Obligations.CommitCommandsComplete : Prop :=
  ∀ (h : Hdr) (p : Rec) (s : State), s.accepts h →
    (p.length = 0 → ∀ u, u = (s.taken h).commitTake →
      (∀ t, s.com.takenAt = some t → u.now = max (s.taken h).now (t + 1)) ∧
      u.com = { s.com with takenAt := some u.now } ∧
      (u.admitted s.com.maq u.commitSet = true → u.isLate = false →
        Sys2Proof.Machine.exec (.commit h p) s = .next
          ({ u with
            com := { u.com with
              commitNext := nextCommitNo s.com.commitNext, accepted := s.com.accepted + 1,
              replaced := if s.com.next.isSome then s.com.replaced + 1 else s.com.replaced,
              next := some ⟨s.com.commitNext, s.com.maq, s.src.bound, s.src.bindNo⟩ }
            col := { s.col with
              marks := (s.col.marks.filter fun (m : Mark) => m.copy != 0) ++ (s.col.marksIn 2 true).map fun (w : Nat × Nat) => Mark.mk 0 true w.1 w.2
              corrected := s.col.corrected + BitVec.ofNat 32 (s.col.marksIn 2 false).length } }.okReply h 0x0380
              (u.budgetReport s.com.maq u.commitSet ++ le 4 s.com.commitNext.toNat ++ le 4 s.tk.tick.toNat ++
                le 4 u.offset ++ le 4 (s.tk.tick + 1).toNat))) ∧
      (u.admitted s.com.maq u.commitSet = true → u.isLate = true →
        Sys2Proof.Machine.exec (.commit h p) s = .next
          ((({ u with
            com := { u.com with
              commitNext := nextCommitNo s.com.commitNext, accepted := s.com.accepted + 1,
              lateCount := s.com.lateCount + 1,
              replaced := if s.com.later.isSome then s.com.replaced + 1 else s.com.replaced,
              later := some ⟨s.com.commitNext, s.com.maq, s.src.bound, s.src.bindNo⟩ }
            col := { s.col with
              marks := (s.col.marks.filter fun (m : Mark) => m.copy != 1) ++ (s.col.marksIn 2 true).map fun (w : Nat × Nat) => Mark.mk 1 true w.1 w.2
              corrected := s.col.corrected + BitVec.ofNat 32 (s.col.marksIn 2 false).length } }.raise 0x0305 0
              (s.com.commitNext.toNat % 65536 + 65536 * (u.lineAt u.offset % 65536))).answer h
            { op := 0x0380, tag := h.tag, code := cLate, payload :=
              u.budgetReport s.com.maq u.commitSet ++ le 4 s.com.commitNext.toNat ++ le 4 s.tk.tick.toNat ++
              le 4 u.offset ++ le 4 (s.tk.tick + 2).toNat }).settle))) ∧
    (p.length = 0 → Sys2Proof.Machine.exec (.maquetteResync h p) s = .next
      ({ s.taken h with com := { s.com with maq := s.com.live }, col := s.col.resync }.okReply h 0x0381 [])) ∧
    (p.length = 0 → ∀ t : State, t = s.taken h →
      Sys2Proof.Machine.exec (.commitStatus h p) s = .next (t.okReply h 0x0382
        (le 4 t.com.liveNo.toNat ++ le 4 ((t.com.next.map fun x => x.no.toNat).getD 0) ++
          le 4 ((t.com.later.map fun x => x.no.toNat).getD 0) ++ le 4 t.com.accepted.toNat ++ le 4 t.com.lateCount.toNat ++
          le 4 t.com.replaced.toNat ++ le 4 t.com.refused.toNat ++ le 4 t.com.retSeq.toNat))) ∧
    (p.length = 8 → 1 ≤ byteAt p 4 ∧ byteAt p 4 ≤ 4 →
      (BitVec.ofNat 32 (u32 p 0) - (s.com.retSeq - BitVec.ofNat 32 s.com.log.length)).toNat < 2 ^ 31 →
      ∀ t : State, t = s.taken h →
      Sys2Proof.Machine.exec (.retireRead h p) s = .next (t.okReply h 0x0383
        (le 4 (t.com.retSeq - BitVec.ofNat 32 t.com.log.length).toNat ++ le 4 t.com.retSeq.toNat ++
          ((slice t.com.log (BitVec.ofNat 32 (u32 p 0) - (t.com.retSeq - BitVec.ofNat 32 t.com.log.length)).toNat
            (byteAt p 4)).map retiredBytes).flatten))) ∧
    (p.length = 4 → Sys2Proof.Machine.exec (.composeEventSet h p) s = .next
      ({ s.taken h with com := { s.com with
        composeWait := some (u16 p 0, bits (byteAt p 2) 1 0) } }.okReply h 0x0384 [])) ∧
    (p.length = 4 → byteAt p 0 ≤ 3 → Sys2Proof.Machine.exec (.freezeConfig h p) s = .next
      ({ s.taken h with com := { s.com with freezeWait := some (byteAt p 0, byteAt p 1) } }.okReply h 0x0385 [])) ∧
    (p.length = 0 → ∀ t : State, t = s.taken h →
      Sys2Proof.Machine.exec (.signatureRead h p) s = .next (t.okReply h 0x0386
        (le 4 t.com.frameTick.toNat ++ (t.com.watch.map fun w => le 4 w.last.toNat).flatten ++
          (t.com.watch.map fun w => le 1 (min 255 w.count)).flatten ++ zeros 3))) ∧
    (p.length = 0 → ∀ t : State, t = s.taken h →
      Sys2Proof.Machine.exec (.fenceRead h p) s = .next (t.okReply h 0x0387
        (le 4 t.com.fenceTick.toNat ++ (t.com.fenceLast.map fun v => le 8 v.1.toNat ++ le 8 v.2.toNat).flatten)))

/-- Each of the commands of the colour pipeline completes with the reply and the state that its rules give. (Parts of 05
R110, R111, R114, R119, R122.) The model's own choices in it: assumptions 6, 53. -/
def Obligations.ColourCommandsComplete : Prop :=
  ∀ (h : Hdr) (p : Rec) (s : State), s.accepts h →
    (p.length = 16 → colourCfgOk p = true → Sys2Proof.Machine.exec (.colourConfig h p) s = .next
      ({ s.taken h with com := { s.com with maq := { s.com.maq with colour := p } } }.okReply h 0x0400 [])) ∧
    (p.length = 8 + 24 * byteAt p 1 → 1 ≤ byteAt p 1 → byteAt p 0 + byteAt p 1 ≤ 8 →
      Sys2Proof.Machine.exec (.matrixWrite h p) s = .next
        ({ s.taken h with com := { s.com with maq := { s.com.maq with
          matrix := overlay s.com.maq.matrix (3 * byteAt p 0)
            ((List.range (3 * byteAt p 1)).map fun k => i40 p (8 + 8 * k)) } } }.okReply h 0x0401 [])) ∧
    (p.length = 1 → byteAt p 0 ≤ 1 → ∀ t : State, t = s.taken h →
      Sys2Proof.Machine.exec (.matrixRead h p) s = .next (t.okReply h 0x0402
        (((t.which (byteAt p 0)).matrix.map fun v => leI 8 v).flatten))) ∧
    (p.length = 8 + 4 * u16 p 4 → byteAt p 0 ≤ 7 → 1 ≤ u16 p 4 ∧ u16 p 4 ≤ 58 → u16 p 2 + u16 p 4 ≤ 4096 →
      Sys2Proof.Machine.exec (.tableWrite h p) s = .next
        ({ s.taken h with
          com := { s.com with maq := { s.com.maq with
            tables := upd s.com.maq.tables (byteAt p 0) fun m => spPut 0 m (u16 p 2)
              ((List.range (u16 p 4)).map fun k =>
                BitVec.ofNat 32 (u32 p (8 + 4 * k)) - BitVec.ofInt 32 (identEntry (u16 p 2 + k))) } }
          col := s.col.rewrite 2 (byteAt p 0) (u16 p 2) (u16 p 4) }.okReply h 0x0403 [])) ∧
    (p.length = 6 → byteAt p 0 ≤ 1 → byteAt p 1 ≤ 7 → 1 ≤ u16 p 4 ∧ u16 p 4 ≤ 60 → u16 p 2 + u16 p 4 ≤ 4096 →
      ∀ t : State, t = (s.taken h).fixWords (s.softWhich (byteAt p 0)) (byteAt p 1) (u16 p 2) (u16 p 4) →
      Sys2Proof.Machine.exec (.tableRead h p) s = .next (t.okReply h 0x0404
        (((List.range (u16 p 4)).map fun k =>
          le 4 ((t.which (byteAt p 0)).entry (byteAt p 1) (u16 p 2 + k)).toNat).flatten))) ∧
    (p.length = 4 → Sys2Proof.Machine.exec (.tableFill h p) s = .next
      ({ s.taken h with
        com := { s.com with maq := { s.com.maq with
          tables := s.com.maq.tables.mapIdx fun i m => if bit (byteAt p 0) i then [] else m } }
        col := { s.col with
          marks := s.col.marks.filter fun (m : Mark) => !(m.copy == 2 && bit (byteAt p 0) m.table) } }.okReply h 0x0405 [])) ∧
    (p.length = 2 → byteAt p 0 ≤ 1 → byteAt p 1 ≤ 7 →
      Sys2Proof.Machine.exec (.tableCrc h p) s = .next
        (((s.taken h).fixWords (s.softWhich (byteAt p 0)) (byteAt p 1) 0 4096).okReply h 0x0406
        (le 4 ((s.which (byteAt p 0)).tableCrc (byteAt p 1)).toNat))) ∧
    (p.length = 8 + 2 * u16 p 4 → byteAt p 0 ≤ 7 → 1 ≤ u16 p 4 ∧ u16 p 4 ≤ 116 → u16 p 2 + u16 p 4 ≤ 4096 →
      s.col.maskWait = none →
      Sys2Proof.Machine.exec (.ditherMaskWrite h p) s = .next
        ({ s.taken h with col := { s.col.rewrite 3 (byteAt p 0) (u16 p 2) (u16 p 4) with
          staging := upd s.col.staging (byteAt p 0) fun m => spPut 0 m (u16 p 2)
            ((List.range (u16 p 4)).map fun k =>
              BitVec.ofNat 16 (u16 p (8 + 2 * k)) - builtinMask (byteAt p 0) (u16 p 2 + k)) } }.okReply h 0x0407 [])) ∧
    (p.length = 4 → byteAt p 0 ≤ 1 → Sys2Proof.Machine.exec (.ditherMaskSelect h p) s = .next
      ({ s.taken h with col := { s.col with maskWait := some (byteAt p 0) } }.okReply h 0x0408 [])) ∧
    (p.length = 6 → byteAt p 0 ≤ 2 → byteAt p 1 ≤ 7 → 1 ≤ u16 p 4 ∧ u16 p 4 ≤ 120 → u16 p 2 + u16 p 4 ≤ 4096 →
      ∀ t : State, t = (s.taken h).fixWords (if byteAt p 0 = 0 then s.col.softMask else if byteAt p 0 = 1 then
        s.col.marksIn 3 false else []) (byteAt p 1) (u16 p 2) (u16 p 4) →
      Sys2Proof.Machine.exec (.ditherMaskRead h p) s = .next (t.okReply h 0x0409
        (((List.range (u16 p 4)).map fun k => le 2 (builtinMask (byteAt p 1) (u16 p 2 + k) + spGet 0
          (if byteAt p 0 = 0 then at_ t.col.active (byteAt p 1) else if byteAt p 0 = 1 then at_ t.col.staging (byteAt p 1) else [])
          (u16 p 2 + k)).toNat).flatten))) ∧
    (p.length = 0 → ∀ t : State, t = s.taken h →
      Sys2Proof.Machine.exec (.colourStats h p) s = .next (t.okReply h 0x040A
        (le 4 t.col.stats.tick.toNat ++ (t.col.stats.overs.map (le 4)).flatten ++ (t.col.stats.unders.map (le 4)).flatten ++
          le 4 t.col.stats.clip ++ le 4 t.col.corrected.toNat))) ∧
    (p.length = 4 → u16 p 0 < activeW s.liveMode → u16 p 2 < activeH s.liveMode →
      Sys2Proof.Machine.exec (.pixelProbe h p) s = .next
        ({ s.taken h with col := { s.col with probeNext := some (u16 p 0, u16 p 2) } }.okReply h 0x040B s.col.probe))

/-- Each of the commands of the chisel completes with the reply and the state that its rules give. (Parts of 06 R127,
R136, R138, R139, R141, 19 R422.) The model's own choices in it: assumptions 6, 57, 58, 63, 124. -/
def Obligations.ChiselCommandsComplete : Prop :=
  ∀ (h : Hdr) (p : Rec) (s : State), s.accepts h →
    let k := byteAt p 0
    (p.length = 8 + u16 p 4 → k ≤ 15 → 1 ≤ u16 p 4 ∧ u16 p 4 ≤ 232 → u16 p 2 + u16 p 4 ≤ slotBytes →
      s.slotInUse k = false →
      Sys2Proof.Machine.exec (.castWrite h p) s = .next
        ({ s.taken h with chi := { s.chi with
          slots := upd s.chi.slots k fun m => spPut 0 m (u16 p 2) (slice p 8 (u16 p 4)) } }.okReply h 0x0480 [])) ∧
    (p.length = 6 → k ≤ 15 → 1 ≤ u16 p 4 ∧ u16 p 4 ≤ 240 → u16 p 2 + u16 p 4 ≤ slotBytes →
      Sys2Proof.Machine.exec (.castRead h p) s = .next ((s.taken h).okReply h 0x0481
        (spRead 0 (at_ s.chi.slots k) (u16 p 2) (u16 p 4)))) ∧
    (p.length = 4 → k ≤ 15 → (byteAt p 1 ≤ 15 ∨ byteAt p 1 = 0xFF) → k ≠ byteAt p 1 →
      Sys2Proof.Machine.exec (.castSelect h p) s = .next
        ({ s.taken h with com := { s.com with maq := { s.com.maq with
          activeCast := k, fallbackCast := byteAt p 1 } } }.okReply h 0x0482 [])) ∧
    (p.length = 4 → k ≤ 15 → s.commitPending = false → s.chi.switch_ = none → k ≠ s.com.live.fallbackCast →
      s.switchFails k = [] → (s.chi.plinth = true → s.depthOk k = true) →
      Sys2Proof.Machine.exec (.castSwitch h p) s = .next
        ({ s.taken h with chi := { s.chi with switch_ := some k } }.okReply h 0x0483
          (castReport s.liveEnv (s.cast k) [] ++ s.nextTick))) ∧
    (p.length = 4 → k ≤ 15 → byteAt p 1 ≤ 1 →
      castFails (s.castEnv s.com.maq s.commitSet) (s.cast k)
        (if byteAt p 1 = 1 then some s.com.maq.activeCast else none) = [] →
      ∀ t : State, t = s.taken h →
      Sys2Proof.Machine.exec (.castCheck h p) s = .next (t.okReply h 0x0484
        (castReport (t.castEnv t.com.maq t.commitSet) (t.cast k) []))) ∧
    (∀ i r, p.length = 8 → s.pendingCount < 16 → k ≤ 15 → s.mounted = true → s.clip (u32 p 4) = some (i, r) →
      clType r = 3 → clBytes r ≤ slotBytes → clSealed r = true → s.slotInUse k = false →
      Sys2Proof.Machine.exec (.castLoadClip h p) s = .next
        (((s.taken h).addOp (.command 0x0485 (s.driveKey 0x0485 k 16)) (s.contentSteps false r 0 (clBytes r) none)).parkedAs s
          0x0485 h p (s.driveKey 0x0485 k 16))) ∧
    (p.length = 0 → s.commitPending = false → s.chi.plinth = false → s.chi.darkTick = false →
      Sys2Proof.Machine.exec (.plinthEnter h p) s = .next
        ({ s.taken h with chi := { s.chi with
          plinthWait := some (s.chi.plinthWait.getD 0) } }.okReply h 0x0486 s.nextTick)) ∧
    (p.length = 0 → ∀ t : State, t = s.taken h →
      Sys2Proof.Machine.exec (.chiselStatus h p) s = .next (t.okReply h 0x0487
        (le 1 t.com.live.activeCast ++ le 1 t.com.live.fallbackCast ++ le 1 t.chi.inForce ++ le 1 t.chi.dark ++
          le 1 (b2n t.chi.plinth) ++ le 1 t.com.maq.activeCast ++ le 1 t.com.maq.fallbackCast ++ zeros 1 ++
          le 2 (maskOf ((List.range 16).map t.slotValid)) ++ zeros 2 ++ le 4 t.chi.frontTick.toNat ++
          (t.chi.frontDepth.map fun d => le 1 d).flatten ++ le 4 t.chi.changes.toNat)))

/-- Each of the commands of the plane link completes with the reply and the state that its rules give. (Parts of 07
R154, R160, R165, R170.) The model's own choices in it: assumptions 6, 64, 65, 113, 130, 137. -/
def Obligations.PlaneLinkCommandsComplete : Prop :=
  ∀ (h : Hdr) (p : Rec) (s : State), s.accepts h →
    let a := byteAt p 0
    (p.length = 8 → 1 ≤ a ∧ a ≤ 4 → s.allDisabled = true →
      Sys2Proof.Machine.exec (.plConfig h p) s = .next
        ({ s.taken h with pl := { s.pl with
          count := a, ctl := p.getD 1 0, flight := (slice p 4 4).map BitVec.toNat } }.okReply h 0x0500 [])) ∧
    (p.length = 4 → a < s.pl.count → a ≠ 0xFF → byteAt p 1 = 1 → (s.array a).state = 0 ∨ (s.array a).state = 7 →
      Sys2Proof.Machine.exec (.plTrain h p) s = .next (((s.taken h).startArray a).okReply h 0x0501 []) ∧
      (a < s.pl.arrays.length → (((s.taken h).startArray a).array a).state = 1)) ∧
    (p.length = 4 → a < s.pl.count → a ≠ 0xFF → byteAt p 1 = 0 → (s.array a).state ≠ 0 →
      Sys2Proof.Machine.exec (.plTrain h p) s = .next (((s.taken h).stopArray a 0 0).okReply h 0x0501 [])) ∧
    (p.length = 0 → ∀ t : State, t = s.taken h →
      Sys2Proof.Machine.exec (.plStatus h p) s = .next (t.okReply h 0x0502
        (le 12 (maskOf ((List.range 96).map t.laneServes)) ++ le 12 (maskOf (t.pl.lanes.map fun l => l.held)) ++
          (fourArrays.map t.arrayStatusBytes).flatten))) ∧
    (∀ r, p.length = 4 → a ≤ 3 → (s.array a).record = some r →
      Sys2Proof.Machine.exec (.arrayRecordRead h p) s = .next ((s.taken h).okReply h 0x0503 r)) ∧
    (p.length = 12 → s.pendingCount < 16 → a ≤ 3 → s.trained a = true →
      (byteAt p 1 = 1 → arBiasMin ((s.array a).record.getD []) ≤ u64 p 4 % 65536 ∧
        u64 p 4 % 65536 ≤ arBiasMax ((s.array a).record.getD [])) →
      (byteAt p 1 = 2 → s.showsInForce a = false) →
      Sys2Proof.Machine.exec (.arrayCmd h p) s = .next
        (((s.taken h).arr a fun x => { x with
          cmdSeq := ((s.array a).cmdSeq + 1) % 256,
          cmds := x.cmds ++ [⟨byteAt p 1, u64 p 4, ((s.array a).cmdSeq + 1) % 256, s.now⟩],
          wire := if s.chi.sequencing then
              x.wire ++ [.command (byteAt p 1) (((s.array a).cmdSeq + 1) % 256) (u64 p 4)]
            else x.wire }).parkedAs s 0x0504 h p
            (256 * a + ((s.array a).cmdSeq + 1) % 256))) ∧
    (p.length = 4 → a ≤ 95 → byteAt p 1 = 1 →
      Sys2Proof.Machine.exec (.laneControl h p) s = .next
        (((s.taken h).lane a fun l => { l with
          held := false, trying := if l.ok then none else some s.now }).okReply h 0x0505 [])) ∧
    (p.length = 4 → a ≤ 95 → a < s.pl.lanes.length → byteAt p 1 = 0 →
      ∀ u v : State, u = ((s.taken h).loseLane a 4).lane a (fun l => { l with
          held := true, ready := false, lockedAt := none, attempt := false }) →
        v = (match u.laneArray a with
          | some b => u.checkLanes b
          | none => u) →
        Sys2Proof.Machine.exec (.laneControl h p) s = .next (v.okReply h 0x0505 []) ∧
        (at_ v.pl.lanes a).held = true ∧ (at_ v.pl.lanes a).ready = false ∧
        (∀ n, n ≠ a → (at_ v.pl.lanes n).held = (at_ s.pl.lanes n).held)) ∧
    (p.length = 4 → 1 ≤ byteAt p 1 ∧ byteAt p 1 ≤ 24 → a + byteAt p 1 ≤ 96 →
      Sys2Proof.Machine.exec (.laneCounters h p) s = .next ((s.taken h).okReply h 0x0506
        ((slice s.pl.lanes a (byteAt p 1)).map fun l => le 4 l.losses.toNat ++ le 4 l.bip.toNat).flatten))

/-- Each of the commands of the sources completes with the reply and the state that its rules give. A write reaches the
staged set alone. (Parts of 08 R173, R174, R180, R183, R192, R193, R196.) The model's own choices in it: assumptions 6,
70, 119. -/
def Obligations.SourceCommandsComplete : Prop :=
  ∀ (h : Hdr) (p : Rec) (s : State), s.accepts h →
    let first := byteAt p 0
    let n := byteAt p 1
    (p.length = 4 + 8 * n → spanOk 24 24 first n = true → (recordsAt p 4 8 n).all bankOk = true →
      Sys2Proof.Machine.exec (.bankWrite h p) s = .next (((s.taken h).staged fun t =>
        { t with banks := overlay t.banks first (recordsAt p 4 8 n) }).okReply h 0x0600 [])) ∧
    (p.length = 4 + 8 * n → spanOk 192 29 first n = true → (recordsAt p 4 8 n).all chanOk = true →
      Sys2Proof.Machine.exec (.channelWrite h p) s = .next (((s.taken h).staged fun t =>
        { t with chans := overlay t.chans first (recordsAt p 4 8 n) }).okReply h 0x0601 [])) ∧
    (∀ ts, ts = (List.range n).map (fun i => levelTable p (4 + 32 * i)) → p.length = 4 + 32 * n →
      spanOk 192 7 first n = true → ts.all levelOk = true →
      Sys2Proof.Machine.exec (.levelWrite h p) s = .next (((s.taken h).staged fun t =>
        { t with levels := overlay t.levels first ts }).okReply h 0x0602 [])) ∧
    (p.length = 56 → levelOk (levelTable p 24) = true →
      Sys2Proof.Machine.exec (.levelFill h p) s = .next (((s.taken h).staged fun x =>
        { x with levels := x.levels.mapIdx fun c old =>
          (if chanMask p 0 c then levelTable p 24 else old) }).okReply h 0x0603 [])) ∧
    (p.length = 4 → first = 0 → s.commitPending = false → s.src.apply = none → s.src.bound = none →
      rangeRule s.src.live s.src.staged = true →
      (s.castsLive = true → (s.applyReports s.src.staged).1 = true) →
      Sys2Proof.Machine.exec (.sourceApply h p) s = .next
        ({ s.taken h with src := { s.src with apply := some s.src.staged } }.okReply h 0x0604 s.nextTick)) ∧
    (p.length = 4 → first = 1 → s.src.apply = none → s.src.bound = none → s.rangeOk s.src.staged = true →
      Sys2Proof.Machine.exec (.sourceApply h p) s = .next
        ({ s.taken h with src := { s.src with bound := some s.src.staged, bindNo := s.src.bindNo + 1 } }.okReply h 0x0604 [])) ∧
    (p.length = 4 → first = 2 → s.src.bound.isSome = true →
      Sys2Proof.Machine.exec (.sourceApply h p) s = .next
        ({ s.taken h with src := { s.src with bound := none } }.okReply h 0x0604 [])) ∧
    (∀ set, set = (if first = 0 then s.src.staged else s.src.live) → p.length = 4 → first ≤ 1 →
      (n = 0 → spanOk 24 24 (byteAt p 2) (byteAt p 3) = true →
        Sys2Proof.Machine.exec (.sourceRead h p) s = .next ((s.taken h).okReply h 0x0605
          (slice set.banks (byteAt p 2) (byteAt p 3)).flatten)) ∧
      (n = 1 → spanOk 192 30 (byteAt p 2) (byteAt p 3) = true →
        Sys2Proof.Machine.exec (.sourceRead h p) s = .next ((s.taken h).okReply h 0x0605
          (slice set.chans (byteAt p 2) (byteAt p 3)).flatten)) ∧
      (n = 2 → spanOk 192 7 (byteAt p 2) (byteAt p 3) = true →
        Sys2Proof.Machine.exec (.sourceRead h p) s = .next ((s.taken h).okReply h 0x0605
          ((slice set.levels (byteAt p 2) (byteAt p 3)).map tableBytes).flatten))) ∧
    (p.length = 4 → spanOk 192 14 first n = true →
      ∀ t : State, t = s.taken h →
      Sys2Proof.Machine.exec (.chargeRead h p) s = .next (t.okReply h 0x0606
        (le 4 (if t.offset < 20 * tuUs then t.src.prevTick else t.src.countTick).toNat ++ zeros 4 ++
          ((slice t.src.sinks first n).map fun k =>
            le 4 (if t.offset < 20 * tuUs then k.prevEmit else k.lastEmit) ++
            le 4 (if t.offset < 20 * tuUs then k.prevDump else k.lastDump) ++ le 8 k.life).flatten))) ∧
    (p.length = 0 → s.pendingCount < 16 → s.kennelWait 4 = none →
      Sys2Proof.Machine.exec (.chargeSave h p) s = .next
        (((s.taken h).kennelQueue 2 true false ((s.taken h).liveContent 2)).kennelStart.parkedAs s 0x0607 h p 4)) ∧
    (p.length = 24 → s.pendingCount < 16 → s.unlocked h = true → s.kennelWait 4 = none →
      Sys2Proof.Machine.exec (.chargeClear h p) s = .next
        (((s.taken h).kennelQueue 2 true false ((s.taken h).clearedLife p)).kennelStart.parkedAs s 0x0608 h p 4)) ∧
    (p.length = 4 → spanOk 192 48 first n = true →
      ∀ t : State, t = s.taken h →
      Sys2Proof.Machine.exec (.sinkStatus h p) s = .next (t.okReply h 0x0609
        (le 4 t.src.dissTick.toNat ++ le 2 (sat 16 t.src.diss) ++ le 1 t.th.c ++
          le 1 (maskOf [t.src.apply.isSome, t.src.bound.isSome]) ++ le 1 t.src.effectM ++ zeros 7 ++
          ((List.range n).map fun i => le 2 ((at_ t.src.sinks (first + i)).vpin.getD 0xFFFF) ++
            le 1 (t.sinkFlags (first + i)) ++ zeros 1).flatten)))

/-- Each of the commands of the diagnostics completes with the reply and the state that its rules give. (Parts of 09
R212, R214.) The model's own choices in it: assumptions 6, 72. -/
def Obligations.DiagnosticCommandsComplete : Prop :=
  ∀ (h : Hdr) (p : Rec) (s : State), s.accepts h →
    (p.length = 8 → 1 ≤ dgLevel p ∧ dgLevel p ≤ 32768 → 60 ≤ dgPeriod p ∧ dgPeriod p ≤ 3600 →
      Sys2Proof.Machine.exec (.diagConfig h p) s = .next
        ({ s.taken h with diag := { s.diag with cfgWait := some p } }.okReply h 0x0680 [])) ∧
    (p.length = 4 → spanOk 192 56 (byteAt p 0) (byteAt p 1) = true →
      ∀ t : State, t = s.taken h →
      Sys2Proof.Machine.exec (.diagStatus h p) s = .next (t.okReply h 0x0681
        (le 4 t.tk.tick.toNat ++
          le 2 (((t.com.live.slots.filter fun k => k.type == 2).map fun k => cellsOf k.dur).sum) ++
          le 2 ((t.roundFrom t.diag.pos).getD 0) ++ le 4 t.diag.deferred.toNat ++
          ((List.range (byteAt p 1)).map fun i => le 1 (t.diagState (byteAt p 0 + i)) ++
            le 1 (at_ t.diag.chans (byteAt p 0 + i)).quiet ++ le 1 (at_ t.diag.chans (byteAt p 0 + i)).partner ++
            le 1 (maskOf [(at_ t.diag.chans (byteAt p 0 + i)).failed,
              !(at_ t.diag.chans (byteAt p 0 + i)).judged.isEmpty])).flatten))) ∧
    (p.length = 24 → ∃ chans : List DiagChan,
      Sys2Proof.Machine.exec (.diagClear h p) s = .next
        ({ s.taken h with
          diag := { s.diag with chans := chans },
          pl := { s.pl with arrays := s.pl.arrays.mapIdx fun a (x : ArrayUnit) => { x with
            sgnd := x.sgnd && Sys2Proof.Machine.channels.any fun c =>
              chLights a (s.chan c) && (at_ chans c).kind == 2 } } }.okReply h 0x0682 []) ∧
      (∀ c < 192, chanMask p 0 c = true → (at_ s.diag.chans c).kind ≠ 0 → at_ chans c = { DiagChan.reset with
        pending := s.enabled c, otOff := (at_ s.diag.chans c).otOff, otSince := (at_ s.diag.chans c).otSince,
        otTimes := (at_ s.diag.chans c).otTimes }) ∧
      (∀ c < 192, chanMask p 0 c = false ∨ (at_ s.diag.chans c).kind = 0 → at_ chans c = at_ s.diag.chans c)) ∧
    (p.length = 0 → Sys2Proof.Machine.exec (.diagRoundNow h p) s = .next
      ({ s.taken h with diag := { s.diag with roundNow := true } }.okReply h 0x0683 [])) ∧
    (p.length = 4 → spanOk 192 60 (byteAt p 0) (byteAt p 1) = true →
      ∀ t : State, t = s.taken h →
      Sys2Proof.Machine.exec (.neighbourRead h p) s = .next (t.okReply h 0x0684
        (((List.range (byteAt p 1)).map fun i => ((neighboursOf (byteAt p 0 + i)).map fun n => le 1 n).flatten ++
          List.replicate (4 - (neighboursOf (byteAt p 0 + i)).length) 0xFF).flatten)))

/-- Each of the commands of colour constancy completes with the reply and the state that its rules give. (Parts of 10
R217, R226, R231, R233, R236.) The model's own choices in it: assumptions 6, 54, 75, 120. -/
def Obligations.ConstancyCommandsComplete : Prop :=
  ∀ (h : Hdr) (p : Rec) (s : State), s.accepts h →
    (p.length = 24 → constCfgOk p = true → Sys2Proof.Machine.exec (.constancyConfig h p) s = .next
      ({ s.taken h with con := { s.con with cfgWait := some p } }.okReply h 0x0700 [])) ∧
    (p.length = 32 → senseOk p = true → Sys2Proof.Machine.exec (.senseConfig h p) s = .next
      ({ s.taken h with con := { s.con with senseWait := some p } }.okReply h 0x0701 [])) ∧
    (p.length = 48 → Sys2Proof.Machine.exec (.targetSet h p) s = .next
      ({ s.taken h with con := { s.con with targets := some p } }.okReply h 0x0702 [])) ∧
    (p.length = 0 →
      (∀ i < 8, s.constArrays i = [] ∨ 1 / 2 ≤ s.confOf i) →
      (∀ i < 8, ∀ a ∈ s.servedArrays i, ∀ c ∈ s.liveChans a i, (at_ s.con.emitters c).vals.length = 8) →
      Sys2Proof.Machine.exec (.targetCapture h p) s = .next
        ({ s.taken h with con := { s.con with capture := true } }.okReply h 0x0703 s.nextTick)) ∧
    (p.length = 16 → (∀ i < 8, u16 p (2 * i) ≤ 32768) → ccMode s.con.cfg = 0 →
      Sys2Proof.Machine.exec (.scaleSet h p) s = .next
        ({ s.taken h with con := { s.con with
          scaleWait := some ((List.range 8).map fun i => u16 p (2 * i)) } }.okReply h 0x0704 [])) ∧
    (p.length = 0 → ∀ t : State, t = s.taken h →
      Sys2Proof.Machine.exec (.constancyStatus h p) s = .next (t.okReply h 0x0705
        (le 4 t.con.runTick.toNat ++ q16 15 t.con.g ++ le 1 t.con.limiting ++ le 1 (ccMode t.con.cfg) ++
          le 2 t.con.duv ++ zeros 6 ++ (prims8.map fun p =>
            le 2 (t.con.s.getD p 0) ++ le 2 (t.con.target.getD p 0) ++ le 2 (t.con.s0.getD p 0) ++
              q16 14 (t.con.rho.getD p 0) ++ q16 14 (t.overArrays p fun a => (t.traceOf a p).sigma) ++
              q16 15 (t.overArrays p fun a => t.capacity a p) ++ le 1 (roundRat (t.confOf p * 255)).toNat ++
              le 1 (maskOf [t.con.inP.getD p false, (t.servedArrays p).isEmpty,
                (t.figureArrays p).any fun a => (t.traceOf a p).drift, t.con.confLow.getD p true]) ++ zeros 2).flatten))) ∧
    (p.length = 4 → spanOk 192 28 (byteAt p 0) (byteAt p 1) = true →
      ∀ t : State, t = s.taken h →
      Sys2Proof.Machine.exec (.emitterRead h p) s = .next (t.okReply h 0x0706
        (((List.range (byteAt p 1)).map fun i =>
          let c := byteAt p 0 + i
          let r := (t.ratioOf c).getD 0
          q16 14 r ++ q16 14 (r / (t.traceOf (chArray (t.chan c)) (chPrimary (t.chan c))).sigma) ++
            le 2 (at_ t.con.emitters c).accepted ++ le 2 (at_ t.con.emitters c).discarded).flatten))) ∧
    (p.length = 4 → byteAt p 0 < 8 →
      ∀ t : State, t = s.taken h →
      Sys2Proof.Machine.exec (.senseRead h p) s = .next (t.okReply h 0x0707
        (le 1 (at_ t.con.inputs (byteAt p 0)).range ++ le 1 ((at_ t.con.inputs (byteAt p 0)).fault.getD 0xFF) ++ zeros 2 ++
          ((at_ t.con.inputs (byteAt p 0)).darkCode.map (leI 2)).flatten ++ le 4 (at_ t.con.inputs (byteAt p 0)).rejects.toNat ++
          le 4 (at_ t.con.inputs (byteAt p 0)).satTotal.toNat)))

/-- Each of the commands of the beam heads completes with the reply and the state that its rules give. (Parts of 11
R239, R240, R243, R257.) The model's own choices in it: assumptions 6, 76. -/
def Obligations.BeamCommandsComplete : Prop :=
  ∀ (h : Hdr) (p : Rec) (s : State), s.accepts h →
    let n := byteAt p 0
    let x := at_ s.heads n
    let y := x.trim s.now
    (p.length = 52 → headOk p = true → (hdMonitor x.record = true → hdMonitor p = true ∨ s.unlocked h = true) →
      x.state = 0 → s.headNamed n = false →
      Sys2Proof.Machine.exec (.headConfig h p) s = .next
        (((s.taken h).head n fun x => { x with record := p, producer := 0 }).okReply h 0x0800 [])) ∧
    (p.length = 4 → n ≤ 3 →
      Sys2Proof.Machine.exec (.headRead h p) s = .next ((s.taken h).okReply h 0x0801 x.record)) ∧
    (p.length = 4 → n ≤ 3 → byteAt p 1 = 0 → x.state = 0 →
      Sys2Proof.Machine.exec (.headControl h p) s = .next ((s.taken h).okReply h 0x0802 [])) ∧
    (p.length = 4 → n ≤ 3 → byteAt p 1 = 0 → x.state ≠ 0 →
      Sys2Proof.Machine.exec (.headControl h p) s = .next
        ((((((s.taken h).headDark n).discardHead n).enterHead n 0).setRing n 0).okReply h 0x0802 [])) ∧
    (p.length = 4 → n ≤ 3 → byteAt p 1 = 1 → x.state = 0 → s.axesReady n = true →
      Sys2Proof.Machine.exec (.headControl h p) s = .next
        (((((s.taken h).head n fun x => { x with
          state := 1, dwell := none }).raise 0x0801 n 1)).okReply h 0x0802 [])) ∧
    (p.length = 4 → n ≤ 3 → byteAt p 1 = 2 → x.state = 3 →
      (∀ c < 7, bit x.causes c = true → s.causeHolds n c = false) →
      Sys2Proof.Machine.exec (.headControl h p) s = .next
        ((((s.taken h).head n fun x => { x with causes := 0 }).enterHead n 1).okReply h 0x0802 [])) ∧
    (p.length = 4 → n ≤ 3 → byteAt p 1 = 3 →
      Sys2Proof.Machine.exec (.headControl h p) s = .next
        ((((s.taken h).discardHead n).headStill n).okReply h 0x0802 [])) ∧
    (p.length = 4 → n ≤ 3 → byteAt p 1 = 4 → x.state ≠ 0 →
      Sys2Proof.Machine.exec (.headControl h p) s = .next (((s.taken h).blankHead n 6).okReply h 0x0802 [])) ∧
    (p.length = 28 → n ≤ 3 → n < s.heads.length → byteAt p 1 ≤ 1 → u32 p 4 ≠ 0 →
      ((4000 ≤ u32 p 8 ∧ u32 p 8 ≤ 4000000) ∨ (byteAt p 1 = 1 ∧ u32 p 8 = 0)) →
      (bit (byteAt p 2) 0 = true ∨ s.offsetOk (u32 p 0x0C) (u32 p 0x10) = true) → (x.state = 1 ∨ x.state = 2) →
      (byteAt p 1 = 1 → s.clipFault n p = none) → (byteAt p 1 = 0 → u32 p 4 ≤ y.ringFree) → y.segs.length < 64 →
      ∃ (t : State) (pay : Rec) (code start period : Nat),
        Sys2Proof.Machine.exec (.pointAppend h p) s = .next
          ((t.answer h { op := 0x0803, tag := h.tag, code := code, payload := pay }).settle) ∧
        (code = cOk ∨ (code = cLate ∧ bit (byteAt p 2) 0 = false)) ∧ s.now + 8000 ≤ start ∧
        (u32 p 8 ≠ 0 → period = u32 p 8) ∧
        (at_ t.heads n).segs = y.segs ++ [⟨x.segNo, start, u32 p 4, period,
          if byteAt p 1 = 0 then none else some (u32 p 0x14, u32 p 0x18), 0, !bit (byteAt p 2) 0, 0, false⟩] ∧
        (at_ t.heads n).appended = x.appended + BitVec.ofNat 64 (u32 p 4) ∧
        (∀ m, m ≠ n → at_ t.heads m = at_ s.heads m)) ∧
    (p.length = 4 → n ≤ 3 → ∀ (t : State) y, t = (s.taken h).head n (fun x => x.trim s.now) → y = at_ t.heads n →
      Sys2Proof.Machine.exec (.headStatus h p) s = .next (t.okReply h 0x0804
        (le 1 y.state ++ le 1 y.causes ++ le 1 y.segs.length ++
          le 1 (maskOf [y.onDump, t.settleSources.monitorArmed n, y.stalled.isSome]) ++ le 4 y.queued ++ le 8 y.appended.toNat ++
          le 8 y.played.toNat ++ le 8 y.discarded.toNat ++ le 4 y.withheld.toNat ++ le 4 y.limited.toNat ++
          le 4 y.stalls.toNat ++ le 4 y.marksLost.toNat ++ le 4 y.ringFree ++ le 2 y.speed ++ le 2 (t.trackErr n))))

/-- Each of the commands of the control engine completes with the reply and the state that its rules give. (Parts of 12
R267 to R269, R271, R274.) The model's own choices in it: assumptions 6, 82. -/
def Obligations.EngineCommandsComplete : Prop :=
  ∀ (h : Hdr) (p : Rec) (s : State), s.accepts h →
    let a := byteAt p 0
    let x := at_ s.axes a
    let r := slice p 8 104
    (p.length = 16 → axisRecOk p = true → x.state = 0 →
      Sys2Proof.Machine.exec (.axisConfig h p) s = .next
        (((s.taken h).axis a fun x => { x with record := p }).okReply h 0x0900 [])) ∧
    (p.length = 4 → a ≤ 15 →
      Sys2Proof.Machine.exec (.axisConfigRead h p) s = .next ((s.taken h).okReply h 0x0901 x.record)) ∧
    (p.length = 112 → a ≤ 15 → byteAt p 1 = 0 → coefOk r = true → x.active = true → x.swapAt = none →
      Sys2Proof.Machine.exec (.coefWrite h p) s = .next
        (((s.taken h).axis a fun x => { x with bankA := r, validA := true }).okReply h 0x0902 [])) ∧
    (p.length = 112 → a ≤ 15 → byteAt p 1 = 1 → coefOk r = true → x.active = false → x.swapAt = none →
      Sys2Proof.Machine.exec (.coefWrite h p) s = .next
        (((s.taken h).axis a fun x => { x with bankB := r, validB := true }).okReply h 0x0902 [])) ∧
    (p.length = 4 → a ≤ 15 → byteAt p 1 ≤ 1 →
      Sys2Proof.Machine.exec (.coefRead h p) s = .next ((s.taken h).okReply h 0x0903
        (coefBytes (if byteAt p 1 = 1 then x.bankB else x.bankA)))) ∧
    (∀ at' code : Nat, p.length = 12 →
      (bit (byteAt p 2) 0 = true ∧ at' = s.now + 1 ∧ code = cOk ∨
        bit (byteAt p 2) 0 = false ∧ s.offsetOk (u32 p 4) (u32 p 8) = true ∧
          (s.instantOf (u32 p 4) (u32 p 8) = some at' ∧ s.now ≤ at' ∧ at' ≤ s.now + 2 ^ 31 ∧ code = cOk ∨
            (∀ t, s.instantOf (u32 p 4) (u32 p 8) = some t → t < s.now) ∧ at' = s.now + 1 ∧ code = cLate)) →
      (∀ b < 16, bit (u16 p 0) b = true → (at_ s.axes b).swapAt = none ∧
        (if (at_ s.axes b).active then (at_ s.axes b).validA else (at_ s.axes b).validB) = true) →
      ∃ axes, Sys2Proof.Machine.exec (.bankSelect h p) s = .next
          ({ s.taken h with axes := axes }.answer h
            { op := 0x0904, tag := h.tag, code := code, payload := le 2 (u16 p 0) }).settle ∧
        (∀ b < 16, b < s.axes.length → bit (u16 p 0) b = true →
          at_ axes b = { at_ s.axes b with swapAt := some at' }) ∧
        (∀ b, bit (u16 p 0) b = false → at_ axes b = at_ s.axes b)) ∧
    (p.length = 16 → a ≤ 15 → byteAt p 1 = 1 → x.state = 0 → x.bankValid = true → 1 ≤ s.fbValid a →
      Sys2Proof.Machine.exec (.axisLoop h p) s = .next
        (((s.taken h).axis a fun x => { x with closeAt := some (s.now, some (i40 p 8)) }).okReply h 0x0905 [])) ∧
    (p.length = 16 → a ≤ 15 → byteAt p 1 = 0 → x.state ≠ 2 →
      Sys2Proof.Machine.exec (.axisLoop h p) s = .next
        (((s.taken h).axis a fun x => { x with
          closeAt := none, openAt := if x.state = 1 then some s.now else none }).okReply h 0x0905 [])) ∧
    (p.length = 4 → a ≤ 15 → ∀ t : State, t = s.taken h →
      Sys2Proof.Machine.exec (.axisStatus h p) s = .next (t.okReply h 0x0906
        (le 1 x.state ++ le 1 (maskOf [x.active, x.swapAt.isSome, x.validA, x.validB]) ++
          le 1 (maskOf [x.iVal == cf x.bank 8, x.iVal == cf x.bank 9, decide (0 < x.clampRun), x.held && cfHold x.bank,
            x.vbState]) ++ zeros 1 ++ le 4 x.sampTick.toNat ++ le 4 x.sampOfs ++ le 4 x.satCount.toNat ++ leI 8 x.e ++
          leI 8 x.iVal ++ leI 8 x.w ++ leI 8 x.u ++ leI 8 x.iMean ++ le 2 (if a < 8 then 0 else x.vb) ++ zeros 2 ++
          le 4 x.swaps.toNat)))

/-- Each of the commands of the axis interfaces and the show inputs completes with the reply and the state that its
rules give. (Parts of 13 R276, R278, R279, R287, R288, R292, R296.) The model's own choices in it: assumptions 6, 82,
83, 84. -/
def Obligations.AxisIoCommandsComplete : Prop :=
  ∀ (h : Hdr) (p : Rec) (s : State), s.accepts h →
    let a := byteAt p 0
    let x := at_ s.axes a
    let y := at_ s.ios a
    (p.length = 48 → ioOk p = true → x.state = 0 →
      Sys2Proof.Machine.exec (.axisIoConfig h p) s = .next
        (((s.taken h).io a fun y => { y with record := p }).okReply h 0x0980 [])) ∧
    (p.length = 4 → a ≤ 15 →
      Sys2Proof.Machine.exec (.axisIoRead h p) s = .next ((s.taken h).okReply h 0x0981 y.record)) ∧
    (p.length = 32 → a ≤ 15 → 4 ≤ u16 p 2 ∧ u16 p 2 ≤ 400 → 80 ≤ exStepMin p ∧ exStepMin p ≤ 4000000 → x.state = 0 →
      Sys2Proof.Machine.exec (.extConfig h p) s = .next
        (((s.taken h).io a fun y => { y with ext := p }).okReply h 0x0982 [])) ∧
    (∀ cur, cur = dtMask ((y.detWait.map Prod.snd).getD y.det) % 128 → p.length = 32 → a ≤ 15 →
      1 ≤ u16 p 0x10 ∧ u16 p 0x10 ≤ 10000 → 1 ≤ u16 p 0x12 ∧ u16 p 0x12 ≤ 100 →
      (cur &&& dtMask p = cur ∨ s.unlocked h = true) →
      Sys2Proof.Machine.exec (.detectConfig h p) s = .next
        (((s.taken h).io a fun y => { y with detWait := some (s.now, p) }).okReply h 0x0983 [])) ∧
    (p.length = 32 → a ≤ 15 → u64 p 8 ≠ 0 → u64 p 0x10 ≠ 0 → u64 p 0x18 ≠ 0 →
      Sys2Proof.Machine.exec (.profileLimits h p) s = .next
        (((s.taken h).io a fun y => { y with limWait := some (s.now, p) }).okReply h 0x0984 [])) ∧
    (p.length = 16 → a ≤ 15 → byteAt p 1 ≤ 1 → byteAt p 2 ≤ 7 → ioSoftLo y.record ≤ i40 p 8 →
      i40 p 8 ≤ ioSoftHi y.record → x.state = 1 → ioSource y.record = 0 → s.headAxis a = false →
      (byteAt p 1 = 0 → Sys2Proof.Machine.exec (.profileMove h p) s = .next
        (((s.taken h).io a fun z => { z with
          newTarget := some (s.now, i40 p 8),
          movesReplaced :=
            if y.moving || y.newTarget.isSome then z.movesReplaced + 1 else z.movesReplaced }).okReply h 0x0985 [])) ∧
      (byteAt p 1 = 1 → Sys2Proof.Machine.exec (.profileMove h p) s = .next
        (((s.taken h).io a fun z => { z with
          armed := some (byteAt p 2, i40 p 8),
          movesReplaced := if z.armed.isSome then z.movesReplaced + 1 else z.movesReplaced }).okReply h 0x0985 []))) ∧
    (p.length = 4 → a ≤ 15 → byteAt p 1 ≤ 2 → x.state ≠ 1 → s.headAxis a = false →
      Sys2Proof.Machine.exec (.setpointSource h p) s = .next
        (((s.taken h).io a fun y => { y with record := overlay y.record 3 [p.getD 1 0] }).okReply h 0x0986 [])) ∧
    (p.length = 4 → a ≤ 15 → byteAt p 1 = 0 → x.state = 2 →
      Sys2Proof.Machine.exec (.heelControl h p) s = .next ((s.taken h).okReply h 0x0987 [])) ∧
    (p.length = 4 → a ≤ 15 → byteAt p 1 = 0 → x.state ≠ 2 →
      Sys2Proof.Machine.exec (.heelControl h p) s = .next (((s.taken h).heel a 9).okReply h 0x0987 [])) ∧
    (p.length = 4 → a ≤ 15 → byteAt p 1 = 1 → x.state = 2 → s.heelHolds a = false → 100 ≤ s.fbValid a →
      x.bankValid = true →
      Sys2Proof.Machine.exec (.heelControl h p) s = .next
        (((s.taken h).axis a fun x => { x with closeAt := some (s.now, none) }).okReply h 0x0987 [])) ∧
    (p.length = 4 → a ≤ 15 → byteAt p 1 = 2 → x.state = 2 → s.heelHolds a = false →
      Sys2Proof.Machine.exec (.heelControl h p) s = .next
        (((((s.taken h).axis a fun x => { x with state := 0, closeAt := none }).io a fun y =>
          { y.setGen x.y with brake := false, rampStep := none, dac := 0 }).raise 0x0981 a 2).okReply h 0x0987 [])) ∧
    (p.length = 4 → a ≤ 15 → ∀ t : State, t = s.taken h →
      Sys2Proof.Machine.exec (.axisIoStatus h p) s = .next (t.okReply h 0x0988
        (le 1 x.state ++ le 1 (ioSource y.record) ++ le 2 y.causes ++ le 2 (t.fbValid a) ++
          le 1 (maskOf [y.moving || y.newTarget.isSome, y.armed.isSome, y.rampStep.isSome, y.brake]) ++ zeros 1 ++
          leI 8 (toQ39 y.p) ++ leI 8 y.target ++
          leI 4 (if ioKind y.record = 1 ∨ ioKind y.record = 2 then y.count else y.raw) ++ leI 4 y.zCount ++
          le 4 y.ssiErrors.toNat ++ le 4 y.rateClamped.toNat ++ le 4 y.stepsClamped.toNat ++ le 4 y.extSat.toNat ++
          le 4 y.movesReplaced.toNat))) ∧
    (p.length = 36 → (∀ i < 8, 40 ≤ u16 p (4 * i + 2) ∧ u16 p (4 * i + 2) ≤ 40000) →
      ∀ act : Nat → Bool, act = (fun i =>
        bit (byteAt p (4 * i)) 0 && (at_ s.show_.trigs i).level == bit (byteAt p (4 * i)) 1) →
      Sys2Proof.Machine.exec (.triggerConfig h p) s = .next
        ((((List.range 8).filter fun i => (at_ s.show_.trigs i).stuck && !act i).foldl (fun (u : State) i => u.raise 0x0984 i 0)
          ({ s.taken h with show_ := { s.show_ with
            cfg := p,
            trigs := s.show_.trigs.mapIdx fun i t => { t with
              active := act i, since := if act i && !t.active then s.now else t.since,
              stuck := t.stuck && act i } } } : State)).okReply h 0x0989 [])) ∧
    (p.length = 0 → ∀ t : State, t = s.taken h →
      Sys2Proof.Machine.exec (.triggerStatus h p) s = .next
        (t.okReply h 0x098A
          ((s.show_.trigs.map fun r =>
              le 4 r.count.toNat ++ le 4 r.extra.toNat ++ le 1 (maskOf [r.active, r.stuck]) ++ zeros 3).flatten ++
            le 1 (maskOf [s.show_.ilkOff, s.show_.ilkOff && s.show_.ilkLowAt.isSome]) ++ zeros 3 ++
            le 4 s.show_.deassertions.toNat)))

/-- Each of the commands of thermal management completes with the reply and the state that its rules give. (Parts of 15
R322, R329, R332.) The model's own choices in it: assumptions 6, 87. -/
def Obligations.ThermalCommandsComplete : Prop :=
  ∀ (h : Hdr) (p : Rec) (s : State), s.accepts h →
    (p.length = 0 → ∀ t : State, t = s.taken h →
      Sys2Proof.Machine.exec (.thermalStatus h p) s = .next (t.okReply h 0x0B00
        (le 1 t.th.state ++ le 1 t.th.c ++ le 2 (maskOf (t.th.zones.map Zone.warn)) ++
          le 2 (maskOf (t.th.zones.map Zone.suspect)) ++ le 2 t.th.tripMask ++ le 4 t.th.trips.toNat ++
          le 4 t.th.lastStepTick.toNat ++
          (t.th.zones.map fun x => leI 2 x.reading ++ leI 2 x.effective ++ le 2 x.power).flatten ++ zeros 4))) ∧
    (∀ c r, p.length = 0 → s.inForceContent 1 = .calib c → c.model = some r →
      Sys2Proof.Machine.exec (.thermalModelRead h p) s = .next ((s.taken h).okReply h 0x0B02 r)) ∧
    (p.length = 40 → s.pendingCount < 16 → modelOk p = true → s.unlocked h = true → s.kennelWait 2 = none →
      Sys2Proof.Machine.exec (.thermalModelWrite h p) s = .next
        (((s.taken h).kennelQueue 1 true false (.calib { s.storeCal with model := some p })).kennelStart.parkedAs s
          0x0B03 h p 2)) ∧
    (p.length = 80 → s.pendingCount < 16 → compOk p = true → s.unlocked h = true → s.kennelWait 2 = none →
      Sys2Proof.Machine.exec (.hkCompWrite h p) s = .next
        (((s.taken h).kennelQueue 1 true false (.calib { s.storeCal with comp := some p })).kennelStart.parkedAs s
          0x0A06 h p 2)) ∧
    (p.length = 4 → ∃ th evq, Sys2Proof.Machine.exec (.zoneSuspectClear h p) s = .next
        ({ s.taken h with th := th, evq := evq }.okReply h 0x0B04 []) ∧
      (∀ z < 16, bit (u16 p 0) z = true → (at_ th.zones z).suspect = false) ∧
      (∀ z < 16, bit (u16 p 0) z = true → (at_ s.th.zones z).suspect = true →
        (at_ th.zones z).effective = (at_ s.th.zones z).reading) ∧
      (∀ z < 16, bit (u16 p 0) z = false → (at_ th.zones z).suspect = (at_ s.th.zones z).suspect))

/-- In LOCKOUT and in a restart interval the mailbox hardware answers THERMAL_STATUS, THERMAL_RELEASE and the event
queue; a release in LOCKOUT, every zone below 100 °C, begins the warm restart. (Parts of 15 R329, 17 R366, R376.) The
model's own choices in it: assumptions 6, 20, 87. -/
def Obligations.RestartIntervalCommandsComplete : Prop :=
  ∀ (h : Hdr) (p : Rec) (s : State), (s.mbx.fwState = 3 ∨ s.mbx.fwState = 4) → s.isHere h = true →
    (h.origin = .pcie → s.slotFree = true) →
    (p.length = 0 → Sys2Proof.Machine.exec (.thermalStatus h p) s = .next
      ((s.taken h).answer h
        { op := 0x0B00, tag := h.tag, code := cOk, hw := true, payload :=
          le 1 s.th.state ++ le 1 s.th.c ++ le 2 (maskOf (s.th.zones.map Zone.warn)) ++
          le 2 (maskOf (s.th.zones.map Zone.suspect)) ++ le 2 s.th.tripMask ++ le 4 s.th.trips.toNat ++
          le 4 s.th.lastStepTick.toNat ++
          (s.th.zones.map fun x => leI 2 x.reading ++ leI 2 x.effective ++ le 2 x.power).flatten ++ zeros 4 }).settle) ∧
    (p.length = 0 → s.th.state = 3 → s.allCool = true → s.noTags = true →
      Sys2Proof.Machine.exec (.thermalRelease h p) s = .next
        (({ s.taken h with th := { s.th with released := true } }.warmBegin).answer h
          { op := 0x0B01, tag := h.tag, code := cOk, payload := [], hw := true }).settle) ∧
    (p.length = 0 → s.th.state = 3 → s.allCool = true → s.noTags = false →
      ∃ mbx, mbx = { (s.taken h).mbx with fwState := 3 } ∧
      Sys2Proof.Machine.exec (.thermalRelease h p) s = .next
        ({ s.taken h with th := { s.th with released := true, state := 1 }, mbx := mbx }.answer h
          { op := 0x0B01, tag := h.tag, code := cOk, payload := [], hw := true }).settle) ∧
    (p.length = 0 → s.th.state ≠ 3 ∨ s.allCool = false →
      Sys2Proof.Machine.exec (.thermalRelease h p) s = .next
        ((s.taken h).answer h { op := 0x0B01, tag := h.tag, code := cState, payload := [], hw := true }).settle) ∧
    (p.length = 4 → 1 ≤ byteAt p 0 ∧ byteAt p 0 ≤ 14 → ∀ out, out = s.evq.recs.take (byteAt p 0) →
      Sys2Proof.Machine.exec (.eventRead h p) s = .next
      ({ s.taken h with evq := { s.evq with recs := s.evq.recs.drop (byteAt p 0) } }.answer h
        { op := 0x1200, tag := h.tag, code := cOk, hw := true, payload :=
          le 1 out.length ++ le 1 (b2n (!s.evq.lost.isEmpty)) ++ le 2 (s.evq.recs.length - byteAt p 0) ++
          le 4 (s.evq.seq - BitVec.ofNat 32 s.evq.recs.length).toNat ++ le 4 s.evq.lostSum ++ zeros 4 ++
          (out.map eventBytes).flatten }).settle) ∧
    Sys2Proof.Machine.exec (.modeSet h p) s = .next ((s.taken h).busy h 0x0200 5).settle

/-- Each of the commands of calibration and of the kennel completes with the reply and the state that its rules give.
(Parts of 16 R334, R341, R349, R350, R353.) The model's own choices in it: assumptions 6, 88, 90, 91, 132. -/
def Obligations.KennelCommandsComplete : Prop :=
  ∀ (h : Hdr) (p : Rec) (s : State), s.accepts h →
    (p.length = 8 → calCfgOk p = true → Sys2Proof.Machine.exec (.calConfig h p) s = .next
      ({ s.taken h with cal := { s.cal with cfgWait := some p } }.okReply h 0x0C00 [])) ∧
    (p.length = 0 → ∀ t : State, t = s.taken h →
      Sys2Proof.Machine.exec (.calStatus h p) s = .next (t.okReply h 0x0C01
        (le 1 (byteAt t.cal.cfg 0 % 16) ++ le 1 (t.suspMask 0) ++ le 2 (t.suspMask 3) ++ le 4 (t.suspMask 1) ++
          le 2 (maskOf ((List.range 16).map fun n =>
            decide ((at_ t.cal.units (32 + n)).lastRun + 2 * calPeriod t.cal.cfg 3 ≤ t.now))) ++
          le 2 (sat 16 ((t.cal.units.map CalUnit.defer).foldl max 0)) ++ le 4 t.cal.accepted.toNat ++
          le 4 t.cal.rejected.toNat ++ le 4 t.cal.slices.toNat ++ le 4 t.cal.passes.toNat))) ∧
    (∀ j, j = calIndex (byteAt p 0) (byteAt p 1) → p.length = 4 → byteAt p 1 < calUnits (byteAt p 0) →
      (byteAt p 2 = 0 → Sys2Proof.Machine.exec (.calControl h p) s = .next
        (((s.taken h).calUnit j fun u => { u with due := some (u.due.getD s.now) }).okReply h 0x0C02 [])) ∧
      (byteAt p 2 = 1 → (at_ s.cal.units j).suspended = true →
        Sys2Proof.Machine.exec (.calControl h p) s = .next
          (((s.taken h).calUnit j fun u => { u with suspended := false, rejects := 0 }).okReply h 0x0C02 []))) ∧
    (p.length = 4 → spanOk (if byteAt p 0 = 1 then 192 else calUnits (byteAt p 0)) 14 (byteAt p 1) (byteAt p 2) = true →
      ∀ t : State, t = s.taken h →
      Sys2Proof.Machine.exec (.calValuesRead h p) s = .next (t.okReply h 0x0C03
        (((List.range (byteAt p 2)).map fun i =>
          let k := byteAt p 1 + i
          match byteAt p 0 with
          | 0 => ((List.range 4).map fun r => leI 4 ((at_ t.cal.units k).value r)).flatten
          | 1 => leI 2 ((at_ t.cal.units (8 + k / 8)).value (2 * (k % 8))) ++
              leI 2 ((at_ t.cal.units (8 + k / 8)).value (2 * (k % 8) + 1))
          | _ => leI 4 ((at_ t.cal.units (32 + k)).value 0) ++ leI 2 ((at_ t.cal.units (32 + k)).value 1) ++
              leI 4 ((at_ t.cal.units (32 + k)).value 2) ++ leI 2 ((at_ t.cal.units (32 + k)).value 3) ++ zeros 4).flatten))) ∧
    (p.length = 4 → s.pendingCount < 16 → byteAt p 0 % 8 = 0 →
      Sys2Proof.Machine.exec (.kennelSave h p) s = .next ((s.taken h).okReply h 0x0C04 [])) ∧
    (p.length = 4 → s.pendingCount < 16 → byteAt p 0 % 8 = 0 → s.unlocked h = true →
      Sys2Proof.Machine.exec (.kennelErase h p) s = .next ((s.taken h).okReply h 0x0C08 [])) ∧
    (∀ m, m = byteAt p 0 % 8 → p.length = 4 → m ≠ 0 → s.pendingCount < 16 → s.kennelWait m = none →
      ∃ t, t = ([0, 1, 2].filter fun k => bit m k).foldl
          (fun s k => s.kennelQueue k true false (s.liveContent k)) (s.taken h) ∧
        Sys2Proof.Machine.exec (.kennelSave h p) s = .next (t.kennelStart.parkedAs s 0x0C04 h p m)) ∧
    (p.length = 8 → 600 ≤ u32 p 0 ∧ u32 p 0 ≤ 86400 → 600 ≤ u32 p 4 ∧ u32 p 4 ≤ 86400 →
      Sys2Proof.Machine.exec (.kennelConfig h p) s = .next
        ({ s.taken h with ken := { s.ken with period := [0, u32 p 0, u32 p 4] } }.okReply h 0x0C05 [])) ∧
    (p.length = 0 → ∀ t : State, t = { s.taken h with free := s.free + 1 } →
      Sys2Proof.Machine.exec (.kennelStatus h p) s = .next (t.okReply h 0x0C06
        (([0, 1, 2].map fun st =>
          le 1 (t.kslot st 0).state ++ le 1 (t.kslot st 1).state ++ le 1 ((t.inForceSlot st).getD 0xFF) ++
          le 1 (b2n (t.storeDirty st)) ++
          le 4 (match t.inForceSlot st with
            | some j => (t.kslot st j).seq.toNat
            | none => 0) ++ le 4 (t.ken.carry.getD st (0, 0)).1 ++ le 4 (t.ken.carry.getD st (0, 0)).2 ++
          le 4 (match t.ken.lastWrite.getD st none with
            | some w => sat 32 ((t.now - w) / tuS)
            | none => Config.free s.free) ++ zeros 4).flatten))) ∧
    (p.length = 10 → byteAt p 0 ≤ 2 → byteAt p 1 ≤ 1 → 1 ≤ u16 p 8 ∧ u16 p 8 ≤ 240 → u32 p 4 + u16 p 8 ≤ 65536 →
      ∀ t : State, t = s.taken h →
      Sys2Proof.Machine.exec (.kennelRead h p) s = .next (t.okReply h 0x0C07
        ((List.range (u16 p 8)).map fun i => t.kennelByteAt (byteAt p 0) (byteAt p 1) (u32 p 4 + i)))) ∧
    (∀ m, m = byteAt p 0 % 8 → p.length = 4 → m ≠ 0 → s.pendingCount < 16 → s.unlocked h = true →
      ∃ t, t = ([0, 1, 2].filter fun k => bit (byteAt p 0) k).foldl
          (fun s k => s.kennelQueue k true true .none) (s.taken h) ∧
        Sys2Proof.Machine.exec (.kennelErase h p) s = .next (t.kennelStart.parkedAs s 0x0C08 h p m))

/-- Each of the commands of Cumaslink completes with the reply and the state that its rules give. (Parts of 18 R402,
R404, R406, R408.) The model's own choices in it: assumptions 6, 93, 94. -/
def Obligations.CumaslinkCommandsComplete : Prop :=
  ∀ (h : Hdr) (p : Rec) (s : State), s.accepts h →
    (p.length = 16 → (clDepthSet p ≤ 4095 ∧ clRootBit p = true ∨ clDepthSet p = 0xFFFF) →
      1 ≤ u16 p 6 ∧ u16 p 6 ≤ 600 → s.enumOpen = false →
      ∃ t : State, Sys2Proof.Machine.exec (.clConfig h p) s = .next (t.okReply h 0x0D00 []) ∧ t = (s.taken h).clConfigure p ∧
        t.cl.cfg = p) ∧
    (p.length = 0 → ∀ t : State, t = s.taken h →
      Sys2Proof.Machine.exec (.clStatus h p) s = .next (t.okReply h 0x0D01
        (le 2 (t.cl.addr.getD 0).toNat ++
          le 1 (maskOf [t.cl.addr.isSome, t.cl.addrPersistent, t.isRoot, t.enumOpen]) ++
          zeros 1 ++ le 2 t.cl.depth.toNat ++ le 2 t.cl.treeDepth ++ le 4 t.cl.cableUp ++ le 8 t.cl.timeNs.toNat ++
          (t.cl.ports.map fun q => le 1 q.state ++ le 1 q.reason ++ le 1 (q.credits false + 16 * q.credits true) ++ zeros 1 ++
            le 4 q.tx.toNat ++ le 4 q.rx.toNat).flatten ++ le 4 t.cl.discards.toNat ++ le 4 t.cl.symErrors.toNat ++
          le 4 t.cl.bcastExecuted.toNat ++ le 4 t.cl.enumNodes.toNat))) ∧
    (p.length = 4 → s.isRoot = true → s.cl.enumRunning = false →
      Sys2Proof.Machine.exec (.clEnumerate h p) s = .next
        (((s.taken h).enumerate (BitVec.ofNat 16 (u16 p 0))).okReply h 0x0D02 [])) ∧
    (∀ (o : ClOut) (t : State), o = .frame 0x03 ((s.taken h).ownHdr 0) (byteAt p 0) (p.drop 16) →
      t = (if byteAt p 0 = 1 ∨ s.isRoot = true then ((s.taken h).clFlood 3 o none).clEnter .bcast (p.drop 16) none
        else (s.taken h).clSend 0 ⟨3, o, none⟩) →
      32 ≤ p.length → p.length = 32 + u16 p 0x12 → p.length ≤ 240 → s.pendingCount < 16 → byteAt p 0 ≤ 1 →
      u16 (p.drop 16) 0 ≠ 0x0D03 →
      Sys2Proof.Machine.exec (.clBroadcast h p) s = .next
        (if (t.cl.ports.any fun q => q.queue.any fun f => f.queue == 3 && f.out == o) = true
          then t.parkedAs s 0x0D03 h p 0 else t.okReply h 0x0D03 [])) ∧
    (p.length = 12 → s.isRoot = true → s.tickKind (u32 p 0) = 1 →
      Sys2Proof.Machine.exec (.clTimeSet h p) s = .next
        ({ s.taken h with cl := { s.cl with
          timeSet := some (u32 p 0, BitVec.ofNat 64 (u64 p 4), false) } }.okReply h 0x0D04 [])) ∧
    (p.length = 12 → s.isRoot = true → s.tickKind (u32 p 0) ≠ 1 → ∀ half,
      half = 5 * (s.tk.start + s.tk.len - s.startOf (u32 p 0)) →
      Sys2Proof.Machine.exec (.clTimeSet h p) s = .next
        ({ s.taken h with cl := { s.cl with
          timeSet := some ((s.tk.tick + 1).toNat, BitVec.ofNat 64 (u64 p 4) + BitVec.ofNat 64 (half / 2), half % 2 == 1) } }.codeReply
            h 0x0D04 cLate)) ∧
    (p.length = 4 → 1 ≤ u16 p 2 ∧ u16 p 2 ≤ 960 → u16 p 0 + u16 p 2 ≤ 65536 →
      ∀ t : State, t = s.taken h →
      Sys2Proof.Machine.exec (.clRouteRead h p) s = .next (t.okReply h 0x0D05
        ((List.range (ceilDiv (u16 p 2) 4)).map fun k => BitVec.ofNat 8 ((List.range 4).map fun j =>
          4 ^ j * (if 4 * k + j < u16 p 2 then spGet 0 t.cl.routes (u16 p 0 + (4 * k + j)) else 0)).sum)))

/-- Each of the commands of the content store completes with the reply and the state that its rules give. Those that
wait for the drive are parked on one operation. (Parts of 19 R417 to R419, R423, R424.) The model's own choices in it:
assumptions 6, 95, 96, 97. -/
def Obligations.ContentCommandsComplete : Prop :=
  ∀ (h : Hdr) (p : Rec) (s : State), s.accepts h →
    (p.length = 20 → u64 p 0 % 4096 = 0 → 100 ≤ u32 p 0x10 ∧ u32 p 0x10 ≤ 8000 → s.mounted = true →
      s.playBytes + s.cs.rings.sum = 0 →
      Sys2Proof.Machine.exec (.csConfig h p) s = .next
        ({ s.taken h with cs := { s.cs with
          poolAddr := u64 p 0, poolBytes := u64 p 8, readBudget := u32 p 0x10 } }.okReply h 0x0E00 [])) ∧
    (p.length = 0 → ∀ t : State, t = s.taken h →
      Sys2Proof.Machine.exec (.csStatus h p) s = .next (t.okReply h 0x0E01
        (le 1 t.cs.state ++ le 1 t.cs.reason ++ le 2 t.cs.table.length ++ le 4 t.freeBlocks ++ le 4 t.cs.blocks ++
          le 4 t.cs.mountFreed.toNat ++ le 4 t.cs.readErrors.toNat ++ le 4 (sat 32 t.poolFree)))) ∧
    (p.length = 4 → s.pendingCount < 16 → u16 p 0 = 0x7196 → s.cs.state = 2 ∨ s.cs.state = 3 →
      (∀ x ∈ s.cs.table, s.clipBusy (clId x.2) = false) →
      Sys2Proof.Machine.exec (.csFormat h p) s = .next
        (((s.taken h).addOp (.command 0x0E02 (s.driveKey 0x0E02 0 1)) (formatSteps s.cs.unit s.cs.blocks)).parkedAs s 0x0E02 h p
          (s.driveKey 0x0E02 0 1))) ∧
    (∀ i ext, p.length = 80 → s.pendingCount < 16 → u32 p 0 ≠ 0 → u32 p 0 ≠ 0xFFFFFFFF →
      infoOk (byteAt p 4) (slice p 0x10 64) = true → s.mounted = true → s.clip (u32 p 0) = none →
      ((List.range 4096).find? fun i => (s.clipAt i).isNone) = some i →
      allocate (freeRuns s.cs.blocks s.usedExtents) (ceilDiv (u64 p 8) 1048576) = some ext →
      Sys2Proof.Machine.exec (.clipCreate h p) s = .next
        ((((s.taken h).setClip i (some (clipRecord (u32 p 0) (byteAt p 4) (u64 p 8) ext (slice p 0x10 64)))).addOp
          (.command 0x0E03 (s.driveKey 0x0E03 i 4096)) (recordSteps i)).parkedAs s 0x0E03 h p (s.driveKey 0x0E03 i 4096))) ∧
    (∀ i r, s.mounted = true → s.pendingCount < 16 → s.clip (u32 p 0) = some (i, r) →
      (p.length = 24 → u64 p 8 % 4096 = 0 → u32 p 4 ≤ 4194304 →
        (u32 p 4 % 4096 = 0 ∨ u64 p 8 + u32 p 4 = clBytes r) → u64 p 8 + u32 p 4 ≤ clBytes r → clSealed r = false →
        Sys2Proof.Machine.exec (.clipWrite h p) s = .next
          (((s.taken h).addOp (.command 0x0E04 (s.driveKey 0x0E04 i 4096))
            (s.contentSteps true r (u64 p 8) (u32 p 4) (some (u64 p 0x10)) ++ [.flush])).parkedAs s 0x0E04 h p
              (s.driveKey 0x0E04 i 4096))) ∧
      (p.length = 8 → Sys2Proof.Machine.exec (.clipSeal h p) s = .next
        (((s.taken h).addOp (.command 0x0E05 (s.driveKey 0x0E05 i 4096)) (s.contentSteps false r 0 (clBytes r) none)).parkedAs s
          0x0E05 h p (s.driveKey 0x0E05 i 4096))) ∧
      (p.length = 4 → s.clipBusy (u32 p 0) = false → Sys2Proof.Machine.exec (.clipDelete h p) s = .next
        (((s.taken h).addOp (.command 0x0E06 (s.driveKey 0x0E06 i 4096))
          (recordSteps i ++ (if freeSteps r = [] then [] else freeSteps r ++ [.flush]))).parkedAs s 0x0E06 h p
            (s.driveKey 0x0E06 i 4096)))) ∧
    (p.length = 2 → u16 p 0 ≤ 4095 → s.mounted = true →
      Sys2Proof.Machine.exec (.clipInfo h p) s = .next ((s.taken h).okReply h 0x0E07
        ((s.clipAt (u16 p 0)).getD (zeros 128)))) ∧
    (p.length = 16 → byteAt p 0 ≤ 7 → byteAt p 1 = 2 → s.mounted = true → (s.clip (u32 p 4)).isSome = true →
      (∀ x, s.cs.plays.getD (byteAt p 0) none = some x → s.clipNamed x.clip = false) →
      (∀ x, s.cs.playWait.getD (byteAt p 0) none = some x → s.clipNamed x.clip = false) →
      Sys2Proof.Machine.exec (.clipPlay h p) s = .next
        ({ s.taken h with cs := { s.cs with
          plays := upd s.cs.plays (byteAt p 0) fun _ => none,
          playWait := upd s.cs.playWait (byteAt p 0) fun _ => none } }.okReply h 0x0E08 [])) ∧
    (∀ i r, p.length = 16 → byteAt p 0 ≤ 7 → byteAt p 1 ≤ 1 → 2 ≤ byteAt p 2 ∧ byteAt p 2 ≤ 16 → s.mounted = true →
      s.clip (u32 p 4) = some (i, r) → clType r = 1 → u32 p 0x0C < inFrames (clInfo r) → clSealed r = true →
      byteAt p 2 * inFrameBytes (clInfo r) ≤ s.poolFree →
      ∃ new : Play, new.clip = u32 p 4 ∧ new.first = u32 p 0x0C ∧ new.loop = (byteAt p 1 == 1) ∧
        new.stage = byteAt p 2 ∧
        (s.cs.plays.getD (byteAt p 0) none ≠ none → Sys2Proof.Machine.exec (.clipPlay h p) s = .next
          ({ s.taken h with cs := { s.cs with
            playWait := upd s.cs.playWait (byteAt p 0) fun _ => some new } }.okReply h 0x0E08 [])) ∧
        (s.cs.plays.getD (byteAt p 0) none = none → Sys2Proof.Machine.exec (.clipPlay h p) s = .next
          (({ s.taken h with cs := { s.cs with
            plays := upd s.cs.plays (byteAt p 0) fun _ => some new } }.stageLayer (byteAt p 0)).okReply h 0x0E08 []))) ∧
    (p.length = 12 → byteAt p 0 ≤ 3 → byteAt p 1 = 0 → s.mounted = true → (s.clip (u32 p 4)).isSome = true →
      Sys2Proof.Machine.exec (.cueControl h p) s = .next
        ({ s.taken h with cs := { s.cs with
          players := upd s.cs.players (byteAt p 0) fun _ => none } }.okReply h 0x0E09 [])) ∧
    (∀ i r, p.length = 12 → byteAt p 0 ≤ 3 → byteAt p 1 = 1 → s.pendingCount < 16 → s.mounted = true →
      s.clip (u32 p 4) = some (i, r) → clType r = 4 → clSealed r = true →
      s.cs.players.getD (byteAt p 0) none = none →
      ∃ new : Player, new.clip = u32 p 4 ∧ new.entries = [] ∧ new.next = 0 ∧ new.started = false ∧
        new.late = (s.tickKind (u32 p 8) != 1) ∧
        Sys2Proof.Machine.exec (.cueControl h p) s = .next
          (({ s.taken h with cs := { s.cs with
            players := upd s.cs.players (byteAt p 0) fun _ => some new } }.addOp
              (.command 0x0E09 (s.driveKey 0x0E09 (byteAt p 0) 4)) (s.contentSteps false r 0 (clBytes r) none)).parkedAs s
                0x0E09 h p (s.driveKey 0x0E09 (byteAt p 0) 4)))

/-- Each of the commands of the effect bus completes with the reply and the state that its rules give. (Parts of 20
R429, R431, R433, R434.) The model's own choices in it: assumptions 6, 99, 134. -/
def Obligations.EffectCommandsComplete : Prop :=
  ∀ (h : Hdr) (p : Rec) (s : State), s.accepts h →
    let n := byteAt p 8
    (p.length = 16 → epRecordOk p = true → Sys2Proof.Machine.exec (.epbConfig h p) s = .next
      (((s.taken h).epbSet (byteAt p 0) fun o => { o with recWait := some p }).okReply h 0x0F00 [])) ∧
    (p.length = 8 + 4 * u16 p 4 → byteAt p 0 ≤ 3 → 1 ≤ u16 p 4 ∧ u16 p 4 ≤ 58 → u16 p 2 + u16 p 4 ≤ 2048 →
      Sys2Proof.Machine.exec (.epbWrite h p) s = .next
        (((s.taken h).epbSet (byteAt p 0) fun o =>
          { o with staging := spPut 0 o.staging (4 * u16 p 2) (p.drop 8) }).okReply h 0x0F01 [])) ∧
    (p.length = 4 → ∃ outs, Sys2Proof.Machine.exec (.epbUpdate h p) s = .next
        ({ s.taken h with epb := { (s.taken h).epb with outs := outs } }.okReply h 0x0F02 []) ∧
      (∀ k, (k < 4 ∧ bit (byteAt p 0) k = true) → k < s.epb.outs.length →
        (at_ outs k).pending = (at_ s.epb.outs k).staging ∧ (at_ outs k).full = true) ∧
      (∀ k, ¬(k < 4 ∧ bit (byteAt p 0) k = true) → at_ outs k = at_ s.epb.outs k)) ∧
    (p.length = 32 → patternOk (p.drop 8) = true →
      (byteAt p 0 = 0 → Sys2Proof.Machine.exec (.epbPattern h p) s = .next
        (((s.taken h).epbSet n fun o => { o with
          pattern := p.drop 8, stopWait := if o.running then some 1 else none, startWait := none }).okReply h 0x0F03 [])) ∧
      (byteAt p 0 = 1 → byteAt p 9 ≠ 0 → Sys2Proof.Machine.exec (.epbPattern h p) s = .next
        (((s.taken h).epbSet n fun o => { o with
          pattern := p.drop 8, startWait := some 1, stopWait := none }).okReply h 0x0F03 [])) ∧
      (byteAt p 0 = 2 → Sys2Proof.Machine.exec (.epbPattern h p) s = .next
        (((s.taken h).epbSet n fun o => { o with pattern := p.drop 8 }).okReply h 0x0F03 []))) ∧
    (p.length = 0 → ∀ t : State, t = s.taken h →
      Sys2Proof.Machine.exec (.epbStatus h p) s = .next (t.okReply h 0x0F04
        (([0, 1, 2, 3].map fun n => le 1 (t.epbState n) ++ le 1 (b2n (t.epbOut n).full) ++ zeros 2 ++
          le 4 (t.epbOut n).frames.toNat ++ le 4 (t.epbOut n).skipped.toNat).flatten)))

/-- Each of the commands of identity and service access completes with the reply and the state that its rules give.
SERVICE_OPEN opens the session where the signature over the challenge verifies, and counts a failure where it does not.
(Parts of 21 R439, R443 to R445.) The model's own choices in it: assumptions 6, 19, 100, 102, 135. -/
def Obligations.SecurityCommandsComplete : Prop :=
  ∀ (h : Hdr) (p : Rec) (s : State), s.accepts h →
    let k := byteAt p 0
    (p.length = 0 → ∀ t : State, t = s.taken h →
      Sys2Proof.Machine.exec (.identityRead h p) s = .next (t.okReply h 0x1000
        (le 8 Config.serial.toNat ++ le 2 0xB1 ++ le 2 certificate.length ++ t.imageField 0x0C 4 ++
          t.imageField 0x10 1 ++ le 1 t.sec.secMin ++ le 1 (t.sec.fwRevoked % 16 + 16 * (leAt (t.imageField 0x11 1) 0 1 % 4)) ++
          le 1 (maskOf (t.sec.owners.map OwnerKey.enrolled ++ t.sec.owners.map OwnerKey.revoked)) ++
          le 4 ((t.sec.session.map fun x => x.no.toNat).getD 0) ++ deviceKey))) ∧
    (p.length = 4 → 1 ≤ u16 p 2 ∧ u16 p 2 ≤ 232 →
      Sys2Proof.Machine.exec (.certRead h p) s = .next
        (if u16 p 0 + u16 p 2 ≤ certificate.length
          then (s.taken h).okReply h 0x1001 (slice certificate (u16 p 0) (u16 p 2))
          else (s.taken h).codeReply h 0x1001 cBadParam)) ∧
    (p.length = 32 → s.pendingCount < 16 → (∀ c ∈ s.mbx.parked, c.opcode ≠ 0x1002) →
      Sys2Proof.Machine.exec (.attest h p) s = .next ((s.taken h).parkedAs s 0x1002 h p 0)) ∧
    (p.length = 0 → s.sec.lockUntil = none →
      Sys2Proof.Machine.exec (.serviceChallenge h p) s = .next
        ({ s.taken h with
          free := s.free + 1, sec := { s.sec with nonce := some (le 32 (Config.free s.free), s.now) } }.okReply h 0x1003
            (le 32 (Config.free s.free) ++ le 8 Config.serial.toNat))) ∧
    (∀ nonce t, p.length = 72 → k ≤ 3 → 60 ≤ u32 p 4 ∧ u32 p 4 ≤ 86400 →
      s.sec.nonce = some (nonce, t) → s.now ≤ t + 60 * tuS → s.sec.session = none →
      (at_ s.sec.owners k).enrolled = true → (at_ s.sec.owners k).revoked = false →
      Sys2Proof.Machine.exec (.serviceOpen h p) s = .next
        (if ecdsaOk (at_ s.sec.owners k).key (openMessage nonce (byteAt p 1) (u32 p 4)) (slice p 8 32)
            (slice p 0x28 32) = true
          then ({ s.taken h with sec := { s.sec with
            nonce := none, session := some ⟨s.sec.sessionNext, viaCl h, k, byteAt p 1 % 4, s.now + u32 p 4 * tuS⟩,
            sessionNext := s.sec.sessionNext + 1, failures := 0 } }.raise 0x1001 (b2n (viaCl h))
              (1 + 2 * (byteAt p 1 % 4) + 256 * (s.sec.sessionNext.toNat % 2 ^ 24))).okReply h 0x1004
                (le 4 s.sec.sessionNext.toNat)
          else ({ s.taken h with sec := { s.sec with
            nonce := none, failures := s.sec.failures + 1,
            lockUntil := if 5 ≤ s.sec.failures + 1 then some (s.now + 60 * tuS) else s.sec.lockUntil } }.raise 0x1002 k
              ((s.sec.failures + 1) % 256)).codeReply h 0x1004 cBadAuth)) ∧
    (∀ x, p.length = 0 → s.sec.session = some x → x.cl = viaCl h →
      Sys2Proof.Machine.exec (.serviceClose h p) s = .next
        (({ s.taken h with sec := { s.sec with session := none, halted := false } }.raise 0x1001 (b2n x.cl)
          (2 * x.scope + 8 + 256 * (x.no.toNat % 2 ^ 24))).okReply h 0x1005 [])) ∧
    (p.length = 68 → s.pendingCount < 16 → k ≤ 3 → onCurve (p.drop 4) = true →
      ((∀ o ∈ s.sec.owners, o.enrolled = false) ∧ s.ownersAhead 0x1006 = [] ∨ s.unlocked h = true) →
      k ∉ s.ownersAhead 0x1006 → (at_ s.sec.owners k).enrolled = false →
      Sys2Proof.Machine.exec (.serviceKeyEnroll h p) s = .next ((s.taken h).parkedAs s 0x1006 h p 0)) ∧
    (∀ j, p.length = 4 → s.pendingCount < 16 → k ≤ 3 → s.unlocked h = true → (at_ s.sec.owners k).enrolled = true →
      (at_ s.sec.owners k).revoked = false → j ≠ k → j < s.sec.owners.length → (at_ s.sec.owners j).enrolled = true →
      (at_ s.sec.owners j).revoked = false → k ∉ s.ownersAhead 0x1007 → j ∉ s.ownersAhead 0x1007 →
      Sys2Proof.Machine.exec (.serviceKeyRevoke h p) s = .next ((s.taken h).parkedAs s 0x1007 h p 0)) ∧
    (p.length = 4 → s.pendingCount < 16 → s.unlocked h = true →
      bit (byteAt p 1) (leAt (s.imageField 0x11 1) 0 1 % 4) = false →
      Sys2Proof.Machine.exec (.securityCommit h p) s = .next ((s.taken h).parkedAs s 0x1008 h p 0))

/-- Each of the commands of patina completes with the reply and the state that its rules give. (Parts of 21 R446 to
R450, R454.) The model's own choices in it: assumptions 6, 103, 134. -/
def Obligations.PatinaCommandsComplete : Prop :=
  ∀ (h : Hdr) (p : Rec) (s : State), s.accepts h →
    (p.length = 12 → 256 ≤ u16 p 2 ∧ u16 p 2 ≤ 2560 → 50 ≤ paReset p ∧ paReset p ≤ 100 →
      Sys2Proof.Machine.exec (.patinaConfig h p) s = .next
        ({ s.taken h with
          pat := { s.pat with cfg := p },
          ken := { s.ken with dirty := upd s.ken.dirty 2 fun _ => true } }.okReply h 0x1100 [])) ∧
    (p.length = 4 → spanOk 192 14 (byteAt p 0) (byteAt p 1) = true →
      ∀ t : State, t = s.taken h →
      Sys2Proof.Machine.exec (.patinaEmitterRead h p) s = .next (t.okReply h 0x1101
        (((List.range (byteAt p 1)).map fun i =>
          let c := byteAt p 0 + i
          q16 14 ((t.eRel c).getD 0) ++ le 1 (at_ t.pat.chans c).points.length ++
            le 1 (maskOf [(at_ t.pat.chans c).baseline, (t.remaining c).isSome]) ++ le 4 (hours16 (at_ t.pat.chans c).hoursTu) ++
            le 4 (((t.remaining c).map Prod.fst).getD 0xFFFFFFFF) ++
            le 4 (((t.remaining c).map Prod.snd).getD 0xFFFFFFFF)).flatten))) ∧
    (p.length = 4 → byteAt p 0 ≤ 2 →
      ∀ t : State, t = s.taken h →
      Sys2Proof.Machine.exec (.patinaUnitRead h p) s = .next (t.okReply h 0x1102
        (if byteAt p 0 = 0 then (t.pl.arrays.map fun x => le 8 x.resets ++ le 8 (arRating (x.record.getD [])) ++
            le 2 (resetFraction x) ++ zeros 2 ++ le 4 (toRating x)).flatten
          else if byteAt p 0 = 1 then (t.pat.axes.map fun x =>
            ((x.fInit.map fun f => leI 4 (f.fdiv 256)).getD (le 4 0xFFFFFFFF)) ++
            ((x.f.map fun f => leI 4 (f.fdiv 256)).getD (le 4 0xFFFFFFFF)) ++ q16 8 (x.ratio.getD 0) ++ zeros 2).flatten
          else ((List.range 6).map fun k =>
            let c := t.ken.carry.getD (k / 2) (0, 0)
            let w := if k % 2 = 0 then c.1 else c.2
            let n := ((t.ken.writeTimes.getD k []).filter fun i => decide ((t.now : Int) - i ≤ 3600000 * tuS)).length
            le 4 w ++ le 4 (if n = 0 then 0xFFFFFFFF else sat 32 ((10000 - w) * 16000 / n))).flatten))) ∧
    (p.length = 4 → spanOk 24 4 (byteAt p 0) (byteAt p 1) = true →
      ∀ t : State, t = s.taken h →
      Sys2Proof.Machine.exec (.patinaHoursRead h p) s = .next (t.okReply h 0x1103
        (((List.range (byteAt p 1)).map fun i =>
          ((t.pat.bankTu.getD (byteAt p 0 + i) []).map fun v => le 4 (hours16 v)).flatten ++ zeros 4 ++
            ((List.range 8).map fun k => le 4 (hours16 (at_ t.pat.chans (8 * (byteAt p 0 + i) + k)).hoursTu)).flatten).flatten))) ∧
    (p.length = 28 → s.unlocked h = true →
      (byteAt p 0 = 0 → Sys2Proof.Machine.exec (.patinaReset h p) s = .next
        ({ s.taken h with
          ken := { s.ken with dirty := upd s.ken.dirty 2 fun _ => true },
          pat := { s.pat with chans := s.pat.chans.mapIdx fun c (x : PatinaChan) =>
            (if chanMask p 4 c then ⟨x.hoursTu, chRole (s.chan c) == 1, [], s.pat.captures.length, [], 0⟩ else x) } }.okReply h 0x1104 [])) ∧
      (byteAt p 0 = 1 → Sys2Proof.Machine.exec (.patinaReset h p) s = .next
        ({ s.taken h with
          ken := { s.ken with dirty := upd s.ken.dirty 2 fun _ => true },
          pat := { s.pat with axes := s.pat.axes.mapIdx fun a (x : PatinaAxis) =>
            (if chanMask p 4 a then ⟨0, 0, 0, 0, none, none, none, none, false⟩ else x) } }.okReply h 0x1104 [])))

/-- Each of the commands of the firmware flash completes with the reply and the state that its rules give. (Parts of 21
R441, 22 R469.) The model's own choices in it: assumptions 6, 100, 107. -/
def Obligations.FirmwareCommandsComplete : Prop :=
  ∀ (h : Hdr) (p : Rec) (s : State), s.accepts h →
    let k := byteAt p 0
    (p.length = 0 → ∀ t : State, t = s.taken h →
      Sys2Proof.Machine.exec (.fwInfo h p) s = .next (t.okReply h 0x0180
        (le 1 (t.boot.slot.getD 0) ++ le 1 t.preferred ++ le 1 (b2n t.trialSet) ++ le 1 (byteAt t.bootRec 0x0A) ++
          ([0, 1, 2].map fun k => le 1 (b2n (t.imageOk k)) ++ slice (t.flashRead (slotBase k) 0x12) 0x10 1 ++
            slice (t.flashRead (slotBase k) 0x12) 0x11 1 ++ zeros 1 ++ slice (t.flashRead (slotBase k) 0x12) 0x0C 4 ++
            slice (t.flashRead (slotBase k) 0x12) 8 4).flatten))) ∧
    (p.length = 4 → s.pendingCount < 16 → k ≤ 2 → (k = 2 → s.unlocked h = true) → s.boot.slot ≠ some k →
      Sys2Proof.Machine.exec (.fwErase h p) s = .next ((s.taken h).parkedAs s 0x0181 h p 0)) ∧
    (p.length = 16 + u16 p 8 → s.pendingCount < 16 → k ≤ 2 → 1 ≤ u16 p 8 ∧ u16 p 8 ≤ 224 →
      u32 p 4 + u16 p 8 ≤ 0x1000000 → (k = 2 → s.unlocked h = true) → s.boot.slot ≠ some k →
      Sys2Proof.Machine.exec (.fwWrite h p) s = .next ((s.taken h).parkedAs s 0x0182 h p 0)) ∧
    (p.length = 4 → s.pendingCount < 16 → k ≤ 1 →
      Sys2Proof.Machine.exec (.fwActivate h p) s = .next ((s.taken h).parkedAs s 0x0183 h p 0)) ∧
    (p.length = 0 → s.trialSet = true → s.boot.slot = some s.preferred →
      ∀ u, u = (s.taken h).writeBootRec s.preferred 0 (byteAt s.bootRec 0x0A) →
      Sys2Proof.Machine.exec (.fwConfirm h p) s = .next
        ({ u with boot := { u.boot with trial := false } }.okReply h 0x0184 []))

/-! ## The host's registers and rings, the take of a command, the host link -/

/-- 17 R362: Which DOORBELL and RPL_CONS writes are accepted, what they do, and what an ignored write does. -/
def Obligations.IndexWritesFollowTheirRule : Prop :=
  ∀ (s : State) (v : W32) (bytes : List (Nat × Byte)), s.mbx.linkUp = true →
    let n : W16 := v.setWidth 16
    let cp := s.mbx.cmdProd
    let cc := s.mbx.cmdCons
    let rc := s.mbx.rplCons
    let m := (s.hostBytes bytes).mbx
    ((n - cc).toNat ≤ 64 → (n - cp).toNat ≤ (cc + 64 - cp).toNat →
      Sys2Proof.Machine.exec (.doorbellWrite v bytes) s = .next
        ({ s with mbx := { m with
          cmdProd := n, visible := s.mbx.visible ++ List.replicate (n - cp).toNat s.now } }).settle) ∧
    (¬((n - cc).toNat ≤ 64 ∧ (n - cp).toNat ≤ (cc + 64 - cp).toNat) →
      ∃ mbx, mbx = { m with flagDbInvalid := true, ctr := { m.ctr with ringErrors := m.ctr.ringErrors + 1 } } ∧
      Sys2Proof.Machine.exec (.doorbellWrite v bytes) s =
        .next (({ s with mbx := mbx }.raise 0x0101 0 (65536 * n.toNat)).settle)) ∧
    (n = cp → (cp - cc).toNat ≤ 64 → Sys2Proof.Machine.exec (.doorbellWrite v []) s = .next s.settle) ∧
    s.ringHead = parseEntry (spRead 0 s.mbx.bar2 (256 * (cc.toNat % 64)) 256) ∧
    (∀ entry : Rec, (s.ringReply entry).mbx.rplProd = s.mbx.rplProd + 1 ∧
      (s.ringReply entry).mbx.bar2 = spPut 0 s.mbx.bar2 (0x4000 + 256 * (s.mbx.rplProd.toNat % 64)) entry) ∧
    ((n - rc).toNat ≤ (s.mbx.rplProd - rc).toNat →
      Sys2Proof.Machine.exec (.rplConsWrite v) s = .next ({ s with mbx := { s.mbx with rplCons := n } }).settle) ∧
    (¬(n - rc).toNat ≤ (s.mbx.rplProd - rc).toNat →
      Sys2Proof.Machine.exec (.rplConsWrite v) s = .next
        (({ s with mbx := { s.mbx with
          flagRconsInvalid := true, ctr := { s.mbx.ctr with ringErrors := s.mbx.ctr.ringErrors + 1 } } }.raise 0x0101 0
            (1 + 65536 * n.toNat)).settle))

/-- A take removes the oldest command of its mailbox and handles it; where both heads may be taken the token's holder
goes first and the token passes; a head that has waited MAX_WAIT is answered BUSY with cause 2. While no reply slot is
free, a command of the host is not taken and has no effect. (Parts of 17 R365, R369, R372, R378.) The model's own
choices in it: assumptions 13, 15, 16, 17. -/
def Obligations.TakesHandleTheHead : Prop :=
  ∀ (s : State) (contested : Bool),
    (s.ringReady = true → (contested = true → s.clReady = false) → ∀ e, e = s.ringHead → ∃ t : State,
      t = ({ s with mbx := { s.mbx with
          cmdCons := s.mbx.cmdCons + 1, visible := s.mbx.visible.tail, doorbell := some (s.mbx.visible.headD 0),
          ctr := { s.mbx.ctr with pcieTaken := s.mbx.ctr.pcieTaken + 1 } } }).dispatch e.op (commandOf e.op)
        ⟨.pcie, e.tag, e.isLocal, e.target⟩ e.body e.length ∧
      Sys2Proof.Machine.exec (.ringHeadTake contested) s =
        .next ({ t with mbx := { t.mbx with doorbell := none } }).settle) ∧
    (∀ w rest, s.mbx.clBox = w :: rest → (contested = true → s.ringReady = false) → ∀ e, e = parseEntry w.entry →
      Sys2Proof.Machine.exec (.clMailboxTake contested) s = .next
        ((({ s with mbx := { s.mbx with
            clBox := rest, ctr := { s.mbx.ctr with clTaken := s.mbx.ctr.clTaken + 1 } } }).clRefill 1).dispatch e.op
          (commandOf e.op) ⟨w.origin, e.tag, e.isLocal, e.target⟩ e.body e.length).settle) ∧
    (s.ringReady = true → s.clReady = true → ∀ u : State, u = { s with mbx := { s.mbx with tokenCl := !s.mbx.tokenCl } } →
      (s.mbx.tokenCl = false →
        Sys2Proof.Machine.exec (.ringHeadTake true) s = Sys2Proof.Machine.exec (.ringHeadTake false) u ∧
        Sys2Proof.Machine.exec (.clMailboxTake true) s = Sys2Proof.Machine.exec (.ringHeadTake false) u) ∧
      (s.mbx.tokenCl = true →
        Sys2Proof.Machine.exec (.ringHeadTake true) s = Sys2Proof.Machine.exec (.clMailboxTake false) u ∧
        Sys2Proof.Machine.exec (.clMailboxTake true) s = Sys2Proof.Machine.exec (.clMailboxTake false) u)) ∧
    (s.ringReady = true → ∀ e, e = s.ringHead → s.waits e .pcie = true → ∃ t : State,
      t = ((({ s with
          now := max s.now (s.mbx.visible.headD 0 + s.mbx.maxWait * 100 * tuUs),
          mbx := { s.mbx with
            cmdCons := s.mbx.cmdCons + 1, visible := s.mbx.visible.tail, doorbell := some (s.mbx.visible.headD 0),
            ctr := { s.mbx.ctr with pcieTaken := s.mbx.ctr.pcieTaken + 1 } } } : State).stirs e.op).busy
        ⟨.pcie, e.tag, e.isLocal, e.target⟩ e.op 2) ∧
      Sys2Proof.Machine.exec (.maxWaitExpiry false) s =
        .next ({ t with mbx := { t.mbx with doorbell := none } }).settle) ∧
    (s.slotFree = false →
      (∀ (c : Cmd) (h : Hdr) (p : Rec), h.origin = .pcie → s.command c h p = s) ∧
      Sys2Proof.Machine.exec (.ringHeadTake false) s = .next s.settle)

/-- A reply to the host is one entry of the reply ring, at the slot RPL_PROD names, and RPL_PROD moves on by one;
nothing else of the device changes, and no other byte of BAR2. (Parts of 17 R361, R364, R373.) The model's own choices
in it: assumption 12. -/
def Obligations.ReplyFillsOneRingSlot : Prop :=
  ∀ (s : State) (h : Hdr) (r : Reply) (base : Nat), h.origin = .pcie → r.payload.length ≤ 240 →
    base = 0x4000 + 256 * (s.mbx.rplProd.toNat % 64) →
    (∃ bar2, s.answer h r = { s with mbx := { s.mbx with bar2 := bar2, rplProd := s.mbx.rplProd + 1 } }) ∧
    (∀ k, k < 16 + r.payload.length →
      some (spGet 0 (s.answer h r).mbx.bar2 (base + k)) = (s.localEntry r)[k]?) ∧
    (∀ a, a < base ∨ base + 256 ≤ a → spGet 0 (s.answer h r).mbx.bar2 a = spGet 0 s.mbx.bar2 a) ∧
    (s.localEntry r).take 8 = le 2 r.op ++ le 2 r.tag.toNat ++ le 4 (s.statusWord r.code)

/-- The outside completion of a parked command answers it; REMOTE_TIMEOUT answers a forwarded one TIMEOUT. The five
commands of the firmware flash run to their answers: an erased slot reads 0xFF, a written range holds the bytes of the
command, an image that passes every check becomes PREFERRED with TRIAL set, and a trial image that confirms itself
clears TRIAL. (Parts of 17 R368, R377, 21 R441, 22 R469.) The model's own choices in it: assumptions 19, 107. -/
def Obligations.OutsideCompletionsAnswer : Prop :=
  ∀ (s : State) (place : Nat) (data : Rec),
    (∀ c, s.mbx.parked[place]? = some c → c.mute = false → ∀ u : State,
      u = { s with mbx := { s.mbx with parked := s.mbx.parked.erase c } } →
      (c.opcode = 0x1002 → Sys2Proof.Machine.exec (.parkedCommandComplete place true data) s =
        .next (u.okReply c.hdr 0x1002 (s.attestReply c.payload))) ∧
      (c.opcode = 0x0182 → ∀ at' written, at' = slotBase (byteAt c.payload 0) + u32 c.payload 4 →
        written = slice c.payload 16 (u16 c.payload 8) →
        Sys2Proof.Machine.exec (.parkedCommandComplete place true data) s = .next
          ({ u with boot := { s.boot with
            flash := spPut 0xFF s.boot.flash at' written } }.okReply c.hdr 0x0182 [])) ∧
      (c.opcode = 0x1002 ∨ c.opcode = 0x1006 ∨ c.opcode = 0x1007 ∨ c.opcode = 0x1008 ∨ c.opcode = 0x0183 →
        Sys2Proof.Machine.exec (.parkedCommandComplete place false data) s = .next (u.codeReply c.hdr c.opcode cFault))) ∧
    (∀ r, s.mbx.remotes[place]? = some r → r.mute = false →
      Sys2Proof.Machine.exec (.remoteTimeoutExpiry place) s = .next
        ({ s with
          now := max s.now r.dueAt,
          mbx := { s.mbx with
            remotes := s.mbx.remotes.erase r,
            ctr := { s.mbx.ctr with remoteTimeout := s.mbx.ctr.remoteTimeout + 1 } } }.codeReply r.hdr r.opcode cTimeout)) ∧
    (∀ (h : Hdr) (p : Rec), s.accepts h → ∀ k base, k = byteAt p 0 → base = 0x1000000 * (k + 1) →
      (∀ (c : Parked) (op : Nat), c = ⟨op, h, p, s.now, 0, none, false⟩ → ∀ (t u : State), t = (s.taken h).parkedAs s op h p 0 →
        u = { t with mbx := { t.mbx with parked := t.mbx.parked.erase c } } → s.pendingCount < 16 →
        (k = 2 → s.unlocked h = true) → t.mbx.parked = s.mbx.parked ++ [c] ∧
        (op = 0x0181 → p.length = 4 → k ≤ 2 → s.boot.slot ≠ some k →
          Sys2Proof.Machine.exec (.fwErase h p) s = .next t ∧
          ∃ flash, Sys2Proof.Machine.exec (.parkedCommandComplete s.mbx.parked.length true data) t =
              .next ({ u with boot := { s.boot with flash := flash } }.okReply h op []) ∧
            ∀ a, spGet 0xFF flash a = (if base ≤ a ∧ a < base + 0x1000000 then 0xFF else spGet 0xFF s.boot.flash a)) ∧
        (op = 0x0182 → p.length = 16 + u16 p 8 → k ≤ 2 → 1 ≤ u16 p 8 ∧ u16 p 8 ≤ 224 →
          u32 p 4 + u16 p 8 ≤ 0x1000000 → s.boot.slot ≠ some k →
          Sys2Proof.Machine.exec (.fwWrite h p) s = .next t ∧
          Sys2Proof.Machine.exec (.parkedCommandComplete s.mbx.parked.length true data) t =
            .next ({ u with boot := { s.boot with
              flash := spPut 0xFF s.boot.flash (base + u32 p 4) (slice p 16 (u16 p 8)) } }.okReply h op [])) ∧
        (op = 0x0183 → p.length = 4 → k ≤ 1 → Sys2Proof.Machine.exec (.fwActivate h p) s = .next t ∧
          Sys2Proof.Machine.exec (.parkedCommandComplete s.mbx.parked.length true data) t =
            .next (if u.imageOk k = true then (u.writeBootRec k 1 0).okReply h op [] else u.codeReply h op cBadAuth))) ∧
      (p = [] → ∃ r : Rec, r.length = 40 ∧
        r.take 4 = le 1 (s.boot.slot.getD 0) ++ le 1 s.preferred ++ le 1 (b2n s.trialSet) ++ le 1 (byteAt s.bootRec 0x0A) ∧
        (∀ j < 3, slice r (4 + 12 * j) 1 = le 1 (b2n (s.imageOk j))) ∧
        Sys2Proof.Machine.exec (.fwInfo h p) s = .next ((s.taken h).okReply h 0x0180 r)) ∧
      (p = [] → s.trialSet = true → s.boot.slot = some s.preferred → ∃ t : State,
        Sys2Proof.Machine.exec (.fwConfirm h p) s = .next t ∧ t.boot.trial = false ∧
        t.boot.flash = (s.writeBootRec s.preferred 0 (byteAt s.bootRec 0x0A)).boot.flash ∧
        t = { s with
          evq := t.evq, mbx := t.mbx, boot := t.boot, cl := t.cl, src := t.src, con := t.con, show_ := t.show_, epb := t.epb }))

/-- The host link goes down and returns, and the host writes the configuration space. A lost link discards what was not
taken, clears the indices and counts the replies that will not be read. A write of 1 to a bit of MBX_FLAGS clears that
bit alone; a write to a register without a behaviour of its own has no effect. (Parts of 17 R356, R357, R358, R374, 00
R12.) The model's own choices in it: assumptions 9, 14, 18. -/
def Obligations.HostLinkFollowsItsRules : Prop :=
  ∀ s : State,
    (s.mbx.linkUp = true → ∀ lost, lost = (s.mbx.rplProd - s.mbx.rplCons).toNat + s.reserved →
      Sys2Proof.Machine.exec .hostLinkDown s = .next
        ((({ s with mbx := { s.mbx with
          linkUp := false, bar2 := [], visible := [], cmdProd := 0, cmdCons := 0, rplProd := 0, rplCons := 0,
          lostAtLink := lost, repliesLost := s.mbx.repliesLost + BitVec.ofNat 32 lost,
          parked := s.mbx.parked.map fun (c : Parked) => { c with mute := c.mute || c.hdr.origin == Origin.pcie },
          remotes := s.mbx.remotes.map fun (r : Remote) => { r with mute := r.mute || r.hdr.origin == Origin.pcie },
          busMaster := false, memSpace := false, d3hot := false, ltrEnable := false } }).endSessionOf false 4).settle)) ∧
    (s.mbx.linkUp = false → Sys2Proof.Machine.exec .hostLinkUp s = .next
      ((({ s with mbx := { s.mbx with linkUp := true, flagReplyLost := true, lostAtLink := 0 } }).raise 0x0103 0
        (sat 32 s.mbx.lostAtLink)).settle)) ∧
    (s.mbx.linkUp = true → ∀ bm ms d3 ltr, (ltr = true → s.mbx.ltrEnable = true) →
      Sys2Proof.Machine.exec (.pcieConfigWrite bm ms d3 ltr) s = .next
        ({ s with mbx := { s.mbx with busMaster := bm, memSpace := ms, d3hot := d3, ltrEnable := ltr } }).settle) ∧
    (s.mbx.linkUp = true →
      Sys2Proof.Machine.exec .mbxFlagsClearCpuFault s =
        .next ({ s with mbx := { s.mbx with flagCpuFault := false } }).settle ∧
      Sys2Proof.Machine.exec .mbxFlagsClearRestarted s =
        .next ({ s with mbx := { s.mbx with flagRestarted := false } }).settle ∧
      Sys2Proof.Machine.exec .mbxFlagsClearReplyLost s =
        .next ({ s with mbx := { s.mbx with flagReplyLost := false } }).settle ∧
      Sys2Proof.Machine.exec .mbxFlagsClearRconsInvalid s =
        .next ({ s with mbx := { s.mbx with flagRconsInvalid := false } }).settle ∧
      Sys2Proof.Machine.exec .mbxFlagsClearDbInvalid s =
        .next ({ s with mbx := { s.mbx with flagDbInvalid := false } }).settle ∧
      ∀ offset value, Sys2Proof.Machine.exec (.registerWriteOther offset value) s = .next s.settle)

/-! ## Reset, boot, faults of the whole device -/

/-- Power-on reset, the boot, readiness and the warm restart. (Parts of 22 R456, R458, R462, R470, 15 R328.) The model's
own choices in it: assumptions 11, 87, 105, 128. -/
def Obligations.StartUpFollowsItsOrder : Prop :=
  ∀ s : State,
    Sys2Proof.Machine.exec .powerOnReset s = .next
      ({ State.reset with
        free := s.free, pending := s.pending,
        src := { State.reset.src with vdrvLow := s.src.vdrvLow },
        show_ := { ShowIo.reset with
          ilkLowAt := if s.show_.ilkOff then s.show_.ilkLowAt.map fun _ => 0 else some 0 },
        boot := { Boot.reset with flash := s.boot.flash },
        sec := { Security.reset with owners := s.sec.owners, fwRevoked := s.sec.fwRevoked, secMin := s.sec.secMin },
        ken := { Kennel.reset with slots := s.ken.slots } }).settle ∧
    (s.boot.porstLow = true → ∃ c : State,
      c = (({ s with boot := { s.boot with
        porstLow := false, released := s.now, startAt := s.now } }).settleTrial.chooseImage true).openTick0 ∧
      c.tk.open_ = true ∧ c.now = s.now + 200 * tuUs ∧ c.tk.start = c.now ∧ (∀ q ∈ c.ck.plls, q.locked = true) ∧
      Sys2Proof.Machine.exec (.porstNRelease none) s =
        .next (if c.mbx.fwState = 5 then c else c.loadStores true).settle) ∧
    (s.boot.porstLow = false → s.mbx.fwState = 0 → s.boot.cause = 0 → s.diag.deferredEvents = [] → ∀ u : State,
      u = s.forward s.unitsDone → ∃ t : State,
      Sys2Proof.Machine.exec .firmwareReady s = .next t ∧ t.mbx.fwState = 1 ∧ t.com = s.com ∧
      t.evq = s.evq.push (mkEvent 0x0181 0 (if s.tk.open_ then s.tk.tick else 0) u.offset
        (s.boot.restart + 4 * s.boot.slot.getD 0 + 16 * b2n s.boot.trial + 32 * b2n s.boot.fallback +
          64 * b2n s.boot.reverted + 256 * s.boot.empty + 65536 * sat 16 ((u.now - s.boot.startAt) / tuMs)))) ∧
    (s.boot.porstLow = false → s.mbx.fwState = 2 → s.boot.cause ≠ 0 → s.diag.deferredEvents = [] → ∃ (t : State) (e : Event),
      Sys2Proof.Machine.exec .firmwareReady s = .next t ∧ t.mbx.fwState = 1 ∧ t.mbx.flagRestarted = true ∧
      t.com.maq = s.com.live ∧ t.src.staged = s.src.live ∧ e.code = 0x0181 ∧
      t.evq = (s.evq.push (mkEvent 0x0111 0 (if s.tk.open_ then s.tk.tick else 0) s.offset s.boot.cause)).push e) ∧
    (∀ c, s.th.state = 1 → s.mbx.fwState ≠ 5 → s.noTags = true → s.th.released = false → s.th.coolSince = some c →
      Sys2Proof.Machine.exec .warmRestartBegin s = .next
        ((s.forward (max (c + 2 * tuS) (s.th.tripAt + 2 * tuS))).warmBegin).settle)

/-- A processor fault, unless it ends in recovery, or a thermal trip of a running device sends every axis to heel; a
trip also turns every sink off and stops the outputs, and the third within 600 s is LOCKOUT. (Parts of 01 R26, R499, 15
R326, R329.) The model's own choices in it: assumptions 86, 106. -/
def Obligations.FaultsSendEveryAxisToHeel : Prop :=
  ∀ s : State, s.boot.porstLow = false → s.axes.length = 16 →
    (s.mbx.fwState = 1 → ∃ t : State, Sys2Proof.Machine.exec .lockstepMismatch s = .next t ∧
      t.mbx.flagCpuFault = true ∧ t.boot.cause = 1 ∧ t.boot.restart = 1 ∧
      ((t.mbx.fwState = 2 ∧ ∀ a < 16, (at_ t.axes a).state = 2) ∨ (t.mbx.fwState = 5 ∧ t.axes = State.reset.axes))) ∧
    (s.mbx.fwState = 1 → s.sec.halted = false → ∃ t : State, Sys2Proof.Machine.exec .watchdogExpiry s = .next t ∧
      t.mbx.flagCpuFault = true ∧ t.boot.cause = 2 ∧
      ((t.mbx.fwState = 2 ∧ ∀ a < 16, (at_ t.axes a).state = 2) ∨ (t.mbx.fwState = 5 ∧ t.axes = State.reset.axes))) ∧
    (∀ z ≤ 15, ∃ t : State, Sys2Proof.Machine.exec (.tripComparatorFire z) s = .next t ∧
      t.th.trips = s.th.trips + 1 ∧ t.th.tripMask = 2 ^ z ∧ t.th.tripAt = s.now ∧
      (t.th.state = 3 ↔ s.th.state = 3 ∨
        3 ≤ ((s.now :: s.th.tripTimes).filter fun x => decide (s.now - x ≤ 600 * tuS)).length) ∧
      (t.th.state ≠ 3 → t.th.state = 1) ∧
      t.mbx.fwState = (if s.mbx.fwState = 5 then 5 else if t.th.state = 3 then 4 else 3) ∧
      t.src.banksAt = none ∧ t.chi.sequencing = false ∧
      (∀ k ∈ t.src.sinks, k.code = 0) ∧ ∀ a < 16, (at_ t.axes a).state = 2)

/-- A failed bridge word, the loss and return of the bridge, and VDRV. (Parts of 01 R16, R17, 24 R485.) The model's own
choices in it: assumptions 5, 108. -/
def Obligations.BridgeAndSupplyActOnTheSinks : Prop :=
  ∀ s : State,
    (∀ word toCore, Sys2Proof.Machine.exec (.bridgeWordCrcFail word toCore false) s = .next s.settle) ∧
    (∀ word toCore, Sys2Proof.Machine.exec (.bridgeWordCrcFail word toCore true) s =
      .next (s.raise 0x0110 0 (word.toNat + 65536 * b2n toCore)).settle) ∧
    (s.show_.bridgeLost = false → s.axes.length = 16 → ∃ t : State, Sys2Proof.Machine.exec .bridgeLoss s = .next t ∧
      t.show_.bridgeLost = true ∧ (∀ k ∈ t.src.sinks, k.code = 0) ∧
      (∀ a < 8, (at_ s.axes a).state ≠ 0 → (at_ t.axes a).state = 2) ∧
      (∀ a < 16, (at_ s.axes a).state = 0 → (at_ t.axes a).state = 0)) ∧
    (s.show_.bridgeLost = true → ∃ ios, Sys2Proof.Machine.exec .bridgeResume s = .next
      ({ s with show_ := { s.show_ with bridgeLost := false }, ios := ios }).settle) ∧
    (∀ low, Sys2Proof.Machine.exec (.vdrvLow low) s =
      .next ({ s with src := { s.src with vdrvLow := low } }).settle)

/-! ## The order of the checks, the event queue, sparse stores, ticks -/

/-- A command other than STATUS that a mailbox has taken. While the firmware is not ready it is answered BUSY with cause
1, in a thermal interval BUSY with cause 5 but for the hardware's own opcodes; then its opcode and its LENGTH are
judged; a parking command finds room or BUSY with cause 3; and one for another node is forwarded. (Parts of 17 R366,
R370, R500.) The model's own choices in it: assumptions 6, 20. -/
def Obligations.CommandsAreCheckedInOrder : Prop :=
  ∀ (s : State) (c : Cmd) (h : Hdr) (p : Rec), (h.origin = .pcie → s.slotFree = true) → c.op ≠ 0x0100 →
    ∀ u : State, u = s.taken h →
    (s.mbx.fwState = 0 ∨ s.mbx.fwState = 2 ∨ s.mbx.fwState = 5 →
      s.command c h p = { u with mbx := u.mbx.countBusy 1 }.answer h
        { op := c.op, tag := h.tag, code := cBusy, payload := le 4 50000 ++ [1, 0, 0, 0], busy := true }) ∧
    (s.mbx.fwState = 3 ∨ s.mbx.fwState = 4 → hwOpcode c.op = false ∨ s.isHere h = false →
      s.command c h p = { u with mbx := u.mbx.countBusy 5 }.answer h
        { op := c.op, tag := h.tag, code := cBusy, payload := le 4 0xFFFFFFFF ++ [5, 0, 0, 0], busy := true, hw := true }) ∧
    (s.mbx.fwState = 1 →
      (240 < p.length ∨ (s.isHere h = true ∧ c.len p = false) →
        s.command c h p = u.answer h { op := c.op, tag := h.tag, code := cBadParam, payload := [] }) ∧
      (s.isHere h = true → p.length ≤ 240 → c.len p = true → c.parks p = true → 16 ≤ s.pendingCount →
        s.command c h p = u.busy h c.op 3) ∧
      (s.isHere h = false → p.length ≤ 240 → s.pendingCount < 16 →
        (s.cl.addr = none →
          s.command c h p = u.answer h { op := c.op, tag := h.tag, code := cState, payload := [] }) ∧
        (s.cl.addr ≠ none → ∃ t : State, s.command c h p = t.clSendTo h.target 3 0x01 (entryBytes c.op h p) ∧
          t.mbx.remotes = s.mbx.remotes ++ [Remote.mk c.op h (s.now + s.mbx.remoteTimeout * tuMs) false] ∧
          t.cl = s.cl)) ∧
      ∀ op n, op ≠ 0x0100 → commandOf op = none →
        s.dispatch op (commandOf op) h p n =
          { s with epb := { s.epb with silentSince := s.now } }.answer h
            { op := op, tag := h.tag, code := cBadOpcode, payload := [] })

/-- A command that its own rules answer with a code other than OK or LATE changes nothing but the count of free values
drawn. COMMIT counts its refusals (04 R83), SERVICE_OPEN uses up its nonce and counts failures (21 R444), and
POINT_APPEND forgets points already played before it judges; their chapters lay that down. (Parts of 17 R375.) The
model's own choices in it: assumptions 1, 7, 8. -/
def Obligations.RefusedCommandsHaveNoEffect : Prop :=
  ∀ (op : Nat) (c : Cmd), commandOf op = some c → op ≠ 0x0380 → op ≠ 0x1004 → op ≠ 0x0803 →
    ∀ (h : Hdr) (p : Rec) (s : State) (code : Nat) (payload : Rec) (t : State),
      c.run h p s = (.reply code payload, t) → code ≠ cOk → code ≠ cLate → t = { s with free := t.free }

/-- A raised event is written behind every record already there and takes the next sequence number, or, while the queue
holds 1,024 records, the counter of its code alone rises by 1, saturating. (Parts of 17 R380, R381.) -/
def Obligations.EventQueueKeepsEveryRecord : Prop :=
  ∀ (s : State) (code src payload : Nat) (q q' : EventQueue) (r : Event),
    q = s.evq → q' = (s.raise code src payload).evq →
    r = ⟨BitVec.ofNat 16 code, BitVec.ofNat 16 src, if s.tk.open_ then s.tk.tick else 0, BitVec.ofNat 32 s.offset,
      BitVec.ofNat 32 payload⟩ →
    q.lost.Pairwise (fun (a b : W16 × Nat) => a.1.toNat < b.1.toNat) → (∀ a ∈ q.lost, 0 < a.2) →
    ∀ count, count = (fun (x : EventQueue) (k : W16) => ((x.lost.find? fun a => a.1 == k).map Prod.snd).getD 0) →
    q'.lost.Pairwise (fun (a b : W16 × Nat) => a.1.toNat < b.1.toNat) ∧ (∀ a ∈ q'.lost, 0 < a.2) ∧
    (q.recs.length ≤ 1024 → q'.recs.length ≤ 1024) ∧
    (q.recs.length < 1024 → q'.recs = q.recs ++ [r] ∧ q'.seq = q.seq + 1 ∧ ∀ k, count q' k = count q k) ∧
    (1024 ≤ q.recs.length → q'.recs = q.recs ∧ q'.seq = q.seq ∧
      count q' (BitVec.ofNat 16 code) = min (count q (BitVec.ofNat 16 code) + 1) 0xFFFFFFFF ∧
      ∀ k, k ≠ BitVec.ofNat 16 code → count q' k = count q k)

/-- The memories of the device (BAR2, the flash, the coefficient and clip stores) are sparse stores. A block written
reads back at its addresses and changes no other; two stores in canonical form that read the same are the same. (Parts
of 17 R359, 22 R463.) The model's own choices in it: assumption 11. -/
def Obligations.SparseStoresReadBackWhatIsWritten : Prop :=
  ∀ (d : Byte) (m m' : Sparse Byte) (i : Nat) (xs : List Byte), spWf d m = true →
    (∀ k, k < xs.length → some (spGet d (spPut d m i xs) (i + k)) = xs[k]?) ∧
    (∀ a, a < i ∨ i + xs.length ≤ a → spGet d (spPut d m i xs) a = spGet d m a) ∧
    spRead d (spPut d m i xs) i xs.length = xs ∧
    (spWf d m' = true → (∀ a, spGet d m a = spGet d m' a) → m = m')

/-- In every mode each tick is the base tick or 1 tu longer, and any C ticks in a row that do not meet the wrap of the
counter last C × P tu exactly. (Parts of 02 R28, R32.) -/
def Obligations.TickLengthsFollowTheCadence : Prop :=
  ∀ mode, modeOk mode = true → ∀ (t : W32) (c n : Nat), (c, n) = cadence mode →
    (tickLen mode t = baseTick mode ∨ tickLen mode t = baseTick mode + 1) ∧
    (t.toNat + c ≤ 2 ^ 32 →
      ((List.range c).map fun (k : Nat) => tickLen mode (t + BitVec.ofNat 32 k)).sum = n ∧
      ∀ k, k < c → ticksSpan mode t.toNat (k + 1) =
        ticksSpan mode t.toNat k + tickLen mode (t + BitVec.ofNat 32 k))

/-! ## Statements of one numbered rule, whole -/

/-- 04 R81: MAQUETTE_RESYNC copies the live configuration into the maquette, whose edits are lost; a pending commit
stays. -/
def Obligations.MaquetteResyncCopiesTheLiveConfiguration : Prop :=
  ∀ (s : State) (h : Hdr), s.accepts h → ∃ t : State,
    Sys2Proof.Machine.exec (.maquetteResync h []) s = .next t ∧
    t.com.maq = s.com.live ∧ t.com = { s.com with maq := s.com.live } ∧ t.com.next = s.com.next ∧
    t.com.later = s.com.later ∧
    t = ({ s.taken h with com := { s.com with maq := s.com.live }, col := s.col.resync }).okReply h 0x0381 []

/-- 02 R30: Where each slot starts. Every slot keeps its recorded duration but the last DUMP slot, which on a long tick
is 1 tu longer; the slots together fill the tick, base or long. -/
def Obligations.LongTickTuLiesInTheLastDumpSlot : Prop :=
  ∀ (s : State) (c : Cfg) (d : Nat), c = s.com.live → sumOk c = true → c.lastDump = some d →
    (s.tk.len = baseTick c.mode.toNat ∨ s.tk.len = baseTick c.mode.toNat + 1) →
    (d < c.slots.length ∧ (at_ c.slots d).type = 2 ∧ ∀ j, d < j → j < c.slots.length → (at_ c.slots j).type ≠ 2) ∧
    s.slotOffset 0 = 0 ∧
    (∀ i, i < c.slots.length → s.slotOffset (i + 1) = s.slotOffset i + (at_ c.slots i).dur +
      (if i = d ∧ s.tk.len = baseTick c.mode.toNat + 1 then 1 else 0)) ∧
    s.slotOffset c.slots.length = s.tk.len

/-- 12 R268: COEF_WRITE writes only the inactive bank and is refused with STATE for the active bank or the target of a
pending swap; no commit, no edit of the maquette and no tick boundary touches either bank. -/
def Obligations.CoefficientBanksChangeOnlyWhileInactive : Prop :=
  ∀ s : State,
    (∀ (h : Hdr) (p : Rec) (x : Axis), s.accepts h → p.length = 112 → byteAt p 0 ≤ 15 → byteAt p 1 ≤ 1 →
      coefOk (slice p 8 104) = true → x = at_ s.axes (byteAt p 0) →
      ((byteAt p 1 = 1 ∧ x.active = true) ∨ (byteAt p 1 = 0 ∧ x.active = false) ∨ x.swapAt.isSome = true →
        Sys2Proof.Machine.exec (.coefWrite h p) s = .next ((s.taken h).codeReply h 0x0902 cState)) ∧
      (byteAt p 1 = 1 → x.active = false → x.swapAt = none →
        Sys2Proof.Machine.exec (.coefWrite h p) s = .next
          (((s.taken h).axis (byteAt p 0) fun (y : Axis) => { y with bankB := slice p 8 104, validB := true }).okReply h
            0x0902 [])) ∧
      (byteAt p 1 = 0 → x.active = true → x.swapAt = none →
        Sys2Proof.Machine.exec (.coefWrite h p) s = .next
          (((s.taken h).axis (byteAt p 0) fun (y : Axis) => { y with bankA := slice p 8 104, validA := true }).okReply h
            0x0902 []))) ∧
    (∀ (h : Hdr) (p : Rec) (t : State),
      Sys2Proof.Machine.exec (.commit h p) s = .next t ∨ Sys2Proof.Machine.exec (.maquetteResync h p) s = .next t ∨
      Sys2Proof.Machine.exec .tickBoundary s = .next t →
      ∀ i, (at_ t.axes i).bankA = (at_ s.axes i).bankA ∧ (at_ t.axes i).bankB = (at_ s.axes i).bankB ∧
        (at_ t.axes i).active = (at_ s.axes i).active)

/-- 22 R467: The mode and the armature after power-on reset, live and in the maquette, and that this armature meets SUM,
RESERVE and DUMP_SLOT. -/
def Obligations.ResetHoldsTheDefaultMode : Prop :=
  ∀ c, c = State.reset.com.live ∨ c = State.reset.com.maq →
    c.mode = 0x49 ∧ activeW c.mode.toNat = 3840 ∧ activeH c.mode.toNat = 2160 ∧
    60 * (cadence c.mode.toNat).2 = (cadence c.mode.toNat).1 * tuS ∧
    byteAt c.armature 0 = 0x49 ∧ c.slots = [Slot.mk 6666666 2 0 0] ∧ u32 c.armature 8 = 0 ∧
    (State.reset.admission c State.reset.src.live).take 3 = [false, false, false]

/-! ## The invariant of every step -/

/-- At reset, while the hardwired gates hold, no sink conducts, and while one of 08 R191 holds the running tick does not
qualify. (Parts of 08 R191, 24 R485, 17 R374.) The model's own choices in it: assumption 5. -/
def Obligations.GatesHoldAtReset : Prop := State.reset.gatesHold

/-- Whatever command is executed, as long as a hardwired gate holds no sink conducts, as long as one of 08 R191 holds
the running tick does not qualify, and FAULT sees a bridge loss only while it lasts or a fast axis is still in heel.
(Parts of 08 R191, 24 R485, 13 R295, 01 R17, 15 R327, 17 R374.) The model's own choices in it: assumptions 2, 5. -/
def Obligations.GatesHoldAfterEveryStep : Prop :=
  ∀ s s' : State, s.gatesHold → Sys2Proof.Machine.step s = .next s' → s'.gatesHold

/-! ## Instants of the tick, fetch and compose -/

/-- The boundary opens the next tick: the composed frame comes to the front outside plinth, the commit due goes live and
the later one moves up, a waiting cast switch and source set go live, and the cast in force is chosen. A slot starts, an
entry opens and a map point falls at their own instants, and each changes what the sequencer plays. (Parts of 01 R21, 02
R28, R29, R43, R45, 04 R83, 06 R125, R132, R137 to R139, 07 R166, R167, 08 R183.) The model's own choices in it:
assumptions 3, 59, 60, 62, 93, 113, 119, 125, 139. -/
def Obligations.InstantsOfTheTickRun : Prop :=
  ∀ s : State, s.tk.open_ = true →
    (s.tk.renumberDue = false → ∃ t : State, Sys2Proof.Machine.exec .tickBoundary s = .next t ∧
      t.tk.tick = s.tk.tick + 1 ∧ t.tk.start = s.tk.start + s.tk.len ∧ t.tk.prevLen = s.tk.len ∧ t.tk.slot = none ∧
      t.axes = s.axes ∧ t.boot = s.boot ∧ t.sec = s.sec ∧
      (s.chi.sequencing = true ∨ s.com.next.isSome = true → t.tk.len = tickLen t.liveMode (s.tk.tick + 1)) ∧
      (s.chi.plinth = false → s.inTrip = false →
        t.chi.frontRows = s.chi.backRows ∧ t.chi.frontDepth = s.chi.backDepth ∧ t.chi.frontTick = s.chi.backTick) ∧
      (s.chi.plinth = true →
        t.chi.frontRows = s.chi.frontRows ∧ t.chi.frontDepth = s.chi.frontDepth ∧ t.chi.frontTick = s.chi.frontTick) ∧
      t.com.next = s.com.later ∧ t.com.later = none ∧ t.chi.switch_ = none ∧ t.src.apply = none ∧
      (∀ p, s.com.next = some p → t.com.live = p.cfg ∧ t.com.liveNo = p.no ∧ t.chi.sequencing = true ∧
        (∀ set, p.bound = some set → s.src.apply = none → t.src.live = set)) ∧
      (s.com.next = none → t.com.liveNo = s.com.liveNo ∧
        t.com.live = (match s.chi.switch_ with
          | some k => { s.com.live with activeCast := k }
          | none => s.com.live)) ∧
      (∀ set, s.src.apply = some set → t.src.live = set) ∧
      (s.com.next = none → s.src.apply = none → t.src.live = s.src.live) ∧
      (s.inTrip = true → t.chi.inForce = 0xFF) ∧
      (s.inTrip = false → ∀ c, c = (chooseCast t.liveEnv t.chi.castLive).cast →
        (c = 0xFF ∨ t.chi.darkTick = true ∨ t.depthOk c = true → t.chi.inForce = c) ∧
        (c ≠ 0xFF → t.chi.darkTick = false → t.depthOk c = false → t.chi.inForce = s.chi.inForce))) ∧
    (∀ i, i = (match s.tk.slot with | none => 0 | some n => n + 1) → s.chi.sequencing = true → s.chi.runs.length = 4 →
      i < s.com.live.slots.length → ∃ t : State, Sys2Proof.Machine.exec .slotStart s = .next t ∧
      t.now = max s.now (s.tk.start + s.slotOffset i) ∧
      t.tk = { s.tk with
        slot := some i, wasSlot := s.tk.inSlot, inSlot := some (at_ s.com.live.slots i),
        slotAt := s.tk.start + s.slotOffset i,
        pth := if (at_ s.com.live.slots i).type = 3 ∨ s.tk.inSlot = none then (at_ s.com.live.slots i).pth else s.tk.pth } ∧
      (∀ a < 4, (at_ t.chi.runs a).pos = 0 ∧ (at_ t.chi.runs a).shown = none ∧
        ((at_ t.chi.runs a).group.isSome = true → (at_ t.chi.runs a).group = some (s.com.live.groupNo a i))) ∧
      t = { s with
        now := t.now, tk := t.tk, chi := t.chi, pl := t.pl, src := t.src, diag := t.diag, con := t.con, show_ := t.show_ }) ∧
    (∀ a ws light g off, a ≤ 3 → (at_ s.chi.runs a).group = some g → s.chi.sequencing = true → s.plays a = true →
      s.chi.runs.length = 4 → ∀ r, r = at_ s.chi.runs a →
      off = (r.clear || r.once || (s.array a).clear || (s.array a).sgnd) → ∃ t : State,
      Sys2Proof.Machine.exec (.entryOpen a ws light) s = .next t ∧ t.now = max s.now r.nextAt ∧
      (at_ t.chi.runs a).shown = (if off then none else r.loaded) ∧
      (a < s.pl.arrays.length → ∃ l, (at_ t.pl.arrays a).wire = (s.array a).wire ++
        .reset none off (some (r.nextAt + s.src.live.herdSpan a)) (s.array a).loadSeq :: l) ∧
      (at_ t.chi.runs a).entry = ((at_ ((s.cast s.chi.inForce).groups a) g)[r.pos]?).map Prod.fst ∧
      t = { s with
        now := t.now, evq := t.evq, chi := t.chi, pl := t.pl, src := t.src, diag := t.diag, con := t.con, show_ := t.show_ }) ∧
    (∀ a, a ≤ 3 → s.chi.sequencing = true → (s.array a).state = 5 → s.mapSet a ≠ [] → s.chi.runs.length = 4 →
      ∀ inTick, inTick = s.mapInTick a (loadTu ((s.array a).record.getD []) (s.mapSet a).length) →
      (if inTick then s.com.live else s.dueCfg).picIndex a ≠ [] → ∃ t : State,
      Sys2Proof.Machine.exec (.mapPoint a) s = .next t ∧
      (at_ t.chi.runs a).mapLanes = BitVec.ofNat 96 (((s.mapSet a).map fun n => 2 ^ n).sum) ∧
      (at_ t.chi.runs a).clear = false ∧
      t = { s with now := t.now, chi := t.chi, pl := t.pl, src := t.src, con := t.con, show_ := t.show_ })

/-- A compose line starts, a frame ends, reads of rows and fences end, self-refresh begins and ends, and transfers
return their tags. (Parts of 03 R71 to R73, R76, 04 R89, R94.) The model's own choices in it: assumptions 3, 31, 40, 45,
46, 52, 121, 122, 126. -/
def Obligations.FetchAndComposeEventsRun : Prop :=
  ∀ s : State,
    (s.tk.open_ = true → s.inTrip = false → s.fetch.line < vTotal s.liveMode → ∃ t : State,
      Sys2Proof.Machine.exec .composeLineStart s = .next t ∧ t.fetch.line = s.fetch.line + 1 ∧
      t.now = max s.now (s.tk.start + lineOffset s.liveMode s.tk.len s.fetch.line) ∧
      t = { s with
        now := t.now, evq := t.evq, mbx := t.mbx, com := t.com, fetch := t.fetch, col := t.col, chi := t.chi, src := t.src,
        con := t.con, show_ := t.show_, cal := t.cal }) ∧
    (s.tk.open_ = true → s.inTrip = false → s.chi.plinth = false → s.fetch.done = false → ∃ t : State,
      Sys2Proof.Machine.exec .frameDone s = .next t ∧ t.fetch.done = true ∧ t.com.frameTick = s.tk.tick ∧
      t.col.stats = s.col.run ∧
      t = { s with
        now := t.now, evq := t.evq, com := t.com, fetch := t.fetch, col := t.col, src := t.src, con := t.con,
        show_ := t.show_ }) ∧
    (∀ n good ofs data e i w, s.fetch.inflight.findIdx? (fun e => e.user == .points n && decide (0 < e.tags)) = some i →
      e = { at_ s.fetch.inflight i with tags := (at_ s.fetch.inflight i).tags - 1 } →
      w = (({ s with fetch := { s.fetch with
        inflight := (upd s.fetch.inflight i fun _ => e).filter fun x => decide (0 < x.tags + x.left) } }).returnTags
          e.cls 1).offerTags.judgeFences →
      Sys2Proof.Machine.exec (.readCompletion (.points n) good ofs data) s =
        .next (if good = true ∧ ofs = 0 then w.pointAhead n data else w).settle ∧
      (e.host = true → Sys2Proof.Machine.exec (.completionTimeout (.points n)) s = .next w.settle)) ∧
    (∀ u, (∀ e ∈ s.fetch.inflight, e.user = u → 0 < e.tags → e.host = false) →
      Sys2Proof.Machine.exec (.completionTimeout u) s = .next s.settle) ∧
    (∀ l good v i, s.com.fences.findIdx? (fun f => f.layer == l && f.startSt == 1) = some i → ∀ u : State,
      u = { s with
        free := s.free + 1,
        com := { s.com with fences := upd s.com.fences i fun f =>
          { f with startVal := if good then v else BitVec.ofNat 64 (Config.free s.free), startSt := if good then 2 else 3 } } } →
      Sys2Proof.Machine.exec (.fenceReadCompletion l false good v) s = .next ((u.returnTags 0 1).offerTags.judgeFences).settle) ∧
    (s.fetch.selfRefresh = false → s.ddrBusy = false → s.chi.plinth = true ∨
      (bit (byteAt s.com.live.fetchCfg 4) 1 = true ∧ 100 * u16 s.com.live.fetchCfg 2 ≤ s.ltDdrNow) →
      Sys2Proof.Machine.exec .selfRefreshEntry s =
        .next ({ s with fetch := { s.fetch with selfRefresh := true, srCount := s.fetch.srCount + 1 } }).settle) ∧
    (s.fetch.selfRefresh = true → s.ddrBusy = true → Sys2Proof.Machine.exec .selfRefreshExit s =
      .next ({ s with fetch := { s.fetch with selfRefresh := false } }).settle) ∧
    (s.fetch.selfRefresh = true → s.ddrBusy = false → s.chi.plinth = false → Sys2Proof.Machine.exec .selfRefreshExit s =
      .next ({ s with
        now := s.now + (s.ltDdrNow - 2000) * 2 / 5, fetch := { s.fetch with selfRefresh := false } }).settle) ∧
    (∀ u e, s.fetch.inflight.find? (fun e => e.user == u && decide (0 < e.tags)) = some e → e.host = true →
      Sys2Proof.Machine.exec (.completionTimeout u) s = Sys2Proof.Machine.exec (.readCompletion u false 0 []) s) ∧
    (∀ n, Sys2Proof.Machine.exec (.dmaTransferDone n) s = .next
      ({ s with fetch := { s.fetch with held := upd s.fetch.held 3 fun v => v - n } } : State).offerTags.settle) ∧
    (s.fetch.inflight = [] → s.com.fences = [] → s.cs.ops = [] → s.offerTags.judgeFences = s)


/-! ## Messages, timers and lanes of the plane link -/

/-- What each message of an array does. Every valid message of an array of the split restarts its 1 ms. (Parts of 07
R154, R159, R160, R162 to R165.) The model's own choices in it: assumptions 4, 64, 66, 67, 113, 130. -/
def Obligations.ArrayMessagesAct : Prop :=
  ∀ (s : State) (a : Nat), a < s.pl.count → a < s.pl.arrays.length → s.inTrip = false →
    ∀ (x : ArrayUnit) (put : (ArrayUnit → ArrayUnit) → State), x = { at_ s.pl.arrays a with lastMsg := s.now } →
    (∀ f, put f = { s with pl := { s.pl with arrays := upd s.pl.arrays a fun y => f { y with lastMsg := s.now } } }) →
    (∀ st fl lock deskew lk dk, lk = s.shareMask a lock → dk = s.shareMask a deskew →
      (x.state = 1 → Sys2Proof.Machine.exec (.arrayStatusMessage a st fl lock deskew) s = .next
        (put fun y => { y with lock := lk, deskew := dk, state := 2, since := s.now }).settle) ∧
      (x.state = 2 → lk = s.shareFull a → Sys2Proof.Machine.exec (.arrayStatusMessage a st fl lock deskew) s = .next
        (put fun y => { y with lock := lk, deskew := dk, state := 3, since := s.now }).settle) ∧
      (x.state = 3 → lk ≠ 0 → lk &&& dk = lk → Sys2Proof.Machine.exec (.arrayStatusMessage a st fl lock deskew) s = .next
        (put fun y => { y with
          lock := lk, deskew := dk, state := 4, since := s.now, accepted := false, acked := 0,
          cmdSeq := (y.cmdSeq + 1) % 256, wire := y.wire ++ [.command 5 ((y.cmdSeq + 1) % 256) 0] }).settle) ∧
      (x.state = 0 ∨ x.state = 4 ∨ 6 ≤ x.state ∨ (x.state = 2 ∧ lk ≠ s.shareFull a) ∨ (x.state = 3 ∧ (lk = 0 ∨ lk &&& dk ≠ lk)) →
        Sys2Proof.Machine.exec (.arrayStatusMessage a st fl lock deskew) s =
          .next (put fun y => { y with lock := lk, deskew := dk }).settle) ∧
      (x.state = 5 → ∀ u, u = (put fun y => { y with lock := lk, deskew := dk }) →
        Sys2Proof.Machine.exec (.arrayStatusMessage a st fl lock deskew) s = .next
          ((u.lanesOf a).foldl (fun (v : State) n =>
            v.lane n (Lane.shown v.now (lk.getLsbD n && dk.getLsbD n))) u).settle)) ∧
    (∀ n reason, s.laneArray n = some a → Sys2Proof.Machine.exec (.laneAlarm a n reason) s =
      .next ((put id).loseLane n reason).settle) ∧
    (∀ tick closed bad resets cl, x.state ≠ 4 → Sys2Proof.Machine.exec (.tickReport a tick closed bad resets cl) s = .next
      (put fun y => { y with
        loadFails := y.loadFails + BitVec.ofNat 32 (bad + (y.sentTick - closed)), acked := y.acked + resets }).settle) ∧
    (∀ tick closed bad resets cl, x.state = 4 → x.accepted = true →
      byteAt (x.record.getD []) 0x0B + 1 ≤ x.acked + resets → ∃ t : State,
      Sys2Proof.Machine.exec (.tickReport a tick closed bad resets cl) s = .next t ∧
      ((at_ t.pl.arrays a).state = 5 ∨ (at_ t.pl.arrays a).state = 7) ∧
      (at_ t.pl.arrays a).bias = arBiasDefault (x.record.getD [])) ∧
    (∀ v : Int, ∀ r, x.record = some r → ∀ hot level, hot = (if arTMax r ≤ v then x.hotRun + 1 else 0) →
      level = (if 2 ≤ hot then 2 else if arTWarn r ≤ v then 1 else 0) → ∀ u : State,
      u = (put fun y => { y with
        temp := some v, hotRun := hot, level := level,
        clear := if v < arTWarn r then false else y.clear || decide (2 ≤ hot) }) →
      Sys2Proof.Machine.exec (.temp a v) s = .next
        (if level = x.level then u else u.raise 0x0505 a (level + 65536 * pattern 16 v)).settle) ∧
    (∀ v : Int, x.record = none →
      Sys2Proof.Machine.exec (.temp a v) s = .next (put fun y => { y with temp := some v }).settle) ∧
    (∀ r mask, x.state = 4 → recordFault s.pl.count r = none → mask = s.trainedMask a →
      Sys2Proof.Machine.exec (.arrayRecord a r) s = .next
      ({ (put fun y => { y with
        record := some r, accepted := true, acked := 0, epoch := (y.epoch + 1) % 16, loadSeq := (y.loadSeq + 1) % 256,
        loadsSent := y.loadsSent + 1,
        wire := y.wire ++ acceptedTraffic r ((y.epoch + 1) % 16) mask ((y.loadSeq + 1) % 256) (y.clear || y.sgnd) }) with
          chi := { s.chi with runs := upd s.chi.runs a fun q => { q with mapLanes := mask } } }).settle) ∧
    (∀ r reason, x.state = 4 → recordFault s.pl.count r = some reason →
      Sys2Proof.Machine.exec (.arrayRecord a r) s = .next ((put id).stopArray a 7 reason).settle) ∧
    (∀ part counts, s.pl.lanes.length = 96 → part < 2 → counts.length = 48 → ∃ t : State,
      Sys2Proof.Machine.exec (.laneReport a part counts) s = .next t ∧
      (∀ i < 48, (at_ t.pl.lanes (48 * part + i)).bip = if s.laneArray (48 * part + i) = some a then
          (at_ s.pl.lanes (48 * part + i)).bip + BitVec.ofNat 32 (at_ counts i)
        else (at_ s.pl.lanes (48 * part + i)).bip) ∧
      t = { s with pl := t.pl, src := t.src, con := t.con, show_ := t.show_ }) ∧
    (∀ cmd seq c, x.cmds.find? (fun c => c.cmd == cmd && c.seq == seq) = some c → ∀ result ≠ 0,
      Sys2Proof.Machine.exec (.cmdAck a cmd seq result) s = .next
        ((put fun y => { y with cmds := y.cmds.erase c }).finishKey 0x0504 (256 * a + seq) cOk (le 1 result)).settle) ∧
    (∀ seq c, x.cmds.find? (fun c => c.cmd == 1 && c.seq == seq) = some c →
      Sys2Proof.Machine.exec (.cmdAck a 1 seq 0) s = .next
        ((put fun y => { y with cmds := y.cmds.erase c, biasNext := some (c.arg % 65536) }).finishKey 0x0504 (256 * a + seq)
          cOk [0]).settle) ∧
    (∀ serial fw, Sys2Proof.Machine.exec (.ident a serial fw) s =
      .next (put fun y => { y with identSerial := serial, identFw := fw }).settle) ∧
    (∀ count rating, rating = arRating (x.record.getD []) →
      s.pat.arrayAlert.getD a false = true ∨ rating = 0 ∨ 100 * count < paReset s.pat.cfg * rating →
      Sys2Proof.Machine.exec (.resetCount a count) s = .next
        (put fun y => { y with
          resets := count,
          resetHist := (y.opTu, count) ::
            (y.resetHist.take 1 ++ (y.resetHist.drop 1).filter fun h => decide (y.opTu ≤ h.1 + hundredHours)) }).settle) ∧
    Sys2Proof.Machine.exec (.backchannelBadMessage a) s =
      .next ({ s with pl := { s.pl with badMsgs := s.pl.badMsgs + 1 } }).settle

/-- The timers of training, of the backchannel and of ARRAY_CMD, and a lane that is lost, retrained and ready again. An
array that stops shows its state and reason and takes its lanes out of service. (Parts of 07 R154, R160, R164, R165,
R169, R170.) The model's own choices in it: assumptions 3, 64, 65, 130. -/
def Obligations.ArrayTimersAndLanesAct : Prop :=
  ∀ (s : State) (a : Nat), a < s.pl.count → a < s.pl.arrays.length → s.inTrip = false →
    (∀ st reason, ((s.stopArray a st reason).pl.arrays.length = s.pl.arrays.length ∧
      (at_ (s.stopArray a st reason).pl.arrays a).state = st ∧ (at_ (s.stopArray a st reason).pl.arrays a).since = s.now) ∧
      (st = 7 → (at_ (s.stopArray a st reason).pl.arrays a).reason = reason)) ∧
    ((s.array a).state = 1 → Sys2Proof.Machine.exec (.trainDetectTimeout a) s =
      .next ((s.forward ((s.array a).since + 100000 * tuUs)).stopArray a 7 1).settle) ∧
    ((s.array a).state = 2 → ∀ u : State, u = s.forward ((s.array a).since + 2000 * tuUs) →
      Sys2Proof.Machine.exec (.trainLockTimeout a) s =
        .next (if (s.array a).lock = 0 then u.stopArray a 7 2 else u.enterArray a 3 0).settle) ∧
    ((s.array a).state = 3 → ∀ u : State, u = s.forward ((s.array a).since + 1000 * tuUs) →
      Sys2Proof.Machine.exec (.trainDeskewTimeout a) s =
        .next (if (s.array a).lock &&& (s.array a).deskew = 0 then u.stopArray a 7 3 else u.toRecord a).settle) ∧
    ((s.array a).state = 4 → Sys2Proof.Machine.exec (.trainRecordTimeout a) s =
      .next ((s.forward ((s.array a).since + 10000 * tuUs)).stopArray a 7 4).settle) ∧
    ((s.array a).state = 7 → bit s.pl.ctl.toNat 0 = true → Sys2Proof.Machine.exec (.arrayRetrainTimer a) s =
      .next ((s.forward ((s.array a).since + 1000000 * tuUs)).startArray a).settle) ∧
    ((s.array a).state = 5 ∨ (s.array a).state = 6 → Sys2Proof.Machine.exec (.backchannelTimeout a) s =
      .next ((s.forward ((s.array a).lastMsg + tuMs)).stopArray a 7 7).settle) ∧
    (∀ c rest, (s.array a).cmds = c :: rest → ∀ u : State,
      u = { s with
        now := max s.now (c.sent + 10 * tuMs),
        pl := { s.pl with arrays := upd s.pl.arrays a fun x => { x with cmds := x.cmds.erase c } } } →
      Sys2Proof.Machine.exec (.arrayCmdTimeout a) s =
        .next (u.finishKey 0x0504 (256 * a + c.seq) cTimeout []).settle) ∧
    (∀ n, s.laneArray n = some a → n < s.pl.lanes.length → s.trained a = true → s.laneUsable n = true → ∃ t : State,
      Sys2Proof.Machine.exec (.transmitterFault n) s = .next t ∧ (at_ t.pl.lanes n).ok = false ∧
      (at_ t.pl.lanes n).losses = (at_ s.pl.lanes n).losses + 1 ∧ t.chi.laneLost = true ∧
      ((at_ t.pl.lanes n).held = true ↔ (at_ s.pl.lanes n).held = true ∨
        3 ≤ ((s.now :: (at_ s.pl.lanes n).lossTimes).filter fun x => decide (s.now - x ≤ 60 * tuS)).length) ∧
      t = { s with evq := t.evq, chi := t.chi, pl := t.pl, src := t.src, con := t.con, show_ := t.show_ }) ∧
    (∀ n since locked, s.laneArray n = some a → ∀ l, l = at_ s.pl.lanes n → l.trying = some since → l.ok = false →
      l.held = false → l.ready = false → l.lockedAt = none → (s.array a).state = 5 → bit s.pl.ctl.toNat 1 = true →
      ∀ at', at' = max s.now (since + tuS) → Sys2Proof.Machine.exec (.laneRetrainAttempt n locked) s = .next
        ({ s with now := at', pl := { s.pl with lanes := upd s.pl.lanes n fun l =>
          { l with trying := some at', attempt := true, lockedAt := if locked then some at' else none } } }).settle) ∧
    (∀ n since, (at_ s.pl.lanes n).lockedAt = some since → Sys2Proof.Machine.exec (.laneReady n) s = .next
      ({ s with now := max s.now (since + 100 * tuMs), pl := { s.pl with lanes := upd s.pl.lanes n fun l =>
        { l with ready := true, trying := none, lockedAt := none, attempt := false } } }).settle)


/-! ## Sources, diagnostics and constancy between commands -/

/-- An effect period, a diagnostic cell, a neighbour period, over-temperature of a sink, a dark block, and a solver run,
whose every scale moves by at most its step. (Parts of 08 R190, R192, 09 R203, R205, R210, 10 R220, R230.) The model's
own choices in it: assumptions 4, 69, 71, 73, 74, 114, 131. -/
def Obligations.SourceAndSolverEventsRun : Prop :=
  ∀ s : State, s.src.sinks.length = 192 → s.diag.chans.length = 192 →
    (∀ at' u v, at' = max s.now (max (100000 * ceilDiv s.now 100000) s.src.effectNext) → u = ({ s with now := at' } : State) →
      v = { u with src := { u.src with effectM := s.src.effectSet.length, effectNext := at' + 100000 } } →
      (s.src.effectSet = [] → Sys2Proof.Machine.exec (.effectPwmPeriod []) s = .next v.settle) ∧
      (∀ c, s.src.effectSet = [c] → c < 192 → (at_ s.src.sinks c).widen = false →
        (at_ s.src.sinks c).runsPast at' = false → ∀ on, on = onTimeOf (chDuty (s.chan c)) → on ≠ 0 → s.effectCode c ≠ 0 →
        Sys2Proof.Machine.exec (.effectPwmPeriod []) s = .next
          ({ v with src := { v.src with sinks := upd s.src.sinks c fun (k : Sink) =>
            { k with
              phase := 0, onTime := on, widen := false,
              plan := (k.plan.filter fun (q : Pulse) => decide (at' < q.stop + 200000)) ++
                [(⟨at', at' + on, s.effectCode c, false⟩ : Pulse)] } } }).settle)) ∧
    (∀ (m : CellMeas) opens, s.cellOpens = some opens → ∃ t : State, Sys2Proof.Machine.exec (.diagCell m) s = .next t ∧
      t.diag.cell = s.diag.cell + 1 ∧ t.diag.cellNext = opens + 4000 ∧
      (m.cut = true ∨ s.sinksHeld = true →
        t = ({ s with
          now := max s.now (opens + 600)
          diag := { s.diag with cell := s.diag.cell + 1, cellNext := opens + 4000 } }).settle) ∧
      (∀ c q, m.charge = [(c, q)] → m.cut = false → s.sinksHeld = false → c < 192 → s.enabled c = true →
        ({ s with now := max s.now (opens + 600) } : State).chanDead c = false →
        (at_ t.src.sinks c).emit = sat 32 ((at_ s.src.sinks c).emit + s.emitterCharge c q))) ∧
    (∀ at', at' = max s.now (s.diag.periodAt + dgPeriod s.diag.cfg * tuS) →
      (s.diag.running = true → Sys2Proof.Machine.exec .neighbourPeriodStart s = .next
        ({ s with now := at', diag := { s.diag with periodAt := at', roundWait := true } }).settle) ∧
      (s.diag.running = false → ∀ v,
        v = ({ s with
          now := at'
          diag := { s.diag with periodAt := at', running := true, pos := 0, shorts := 0 } } : State) →
        (v.roundNext ≠ none → Sys2Proof.Machine.exec .neighbourPeriodStart s = .next v.settle) ∧
        (v.roundNext = none → s.diag.roundWait = false → Sys2Proof.Machine.exec .neighbourPeriodStart s = .next
          (({ v with diag := { v.diag with running := false } }).raise 0x0684 0 0).settle))) ∧
    (∀ c < 192, (at_ s.diag.chans c).otOff = false → ∃ t : State,
      Sys2Proof.Machine.exec (.sinkOvertempDetect c) s = .next t ∧ (at_ t.diag.chans c).otOff = true ∧
      (at_ t.src.sinks c).code = 0 ∧
      ((at_ s.diag.chans c).kind = 0 → ((at_ t.diag.chans c).kind = 4 ↔
        3 ≤ ((s.now :: (at_ s.diag.chans c).otTimes).filter fun x => decide (s.now - x ≤ 60 * tuS)).length)) ∧
      t = { s with
        evq := t.evq, src := t.src, diag := t.diag, con := t.con, show_ := t.show_ }) ∧
    (∀ c < 192, (at_ s.diag.chans c).otOff = true → ∀ u : State,
      u = { s with
        now := max s.now ((at_ s.diag.chans c).otSince + 100 * tuMs),
        diag := { s.diag with chans := upd s.diag.chans c fun d => { d with otOff := false } } } →
      Sys2Proof.Machine.exec (.sinkOvertempResume c) s = .next (u.raise 0x0683 c 0).settle) ∧
    (∀ i < 8, ∀ samples : List Int, samples.length = 4096 → s.darkNow i = true → (∀ x ∈ samples, satCode x = false) →
      s.con.inputs.length = 8 → ∀ v, v = sortBy (fun a b => decide (a ≤ b)) samples →
      (at_ v 3071 - at_ v 1023 ≤ ccIqr s.con.cfg → (at_ s.con.inputs i).fault ≠ some 0 →
        Sys2Proof.Machine.exec (.darkBlock i samples) s = .next
          ({ s with con := { s.con with inputs := upd s.con.inputs i fun l =>
            { l with darkCode := upd l.darkCode l.range fun _ => at_ v 2047, rejRun := 0 } } }).settle) ∧
      (¬at_ v 3071 - at_ v 1023 ≤ ccIqr s.con.cfg → (at_ s.con.inputs i).rejRun < 7 →
        Sys2Proof.Machine.exec (.darkBlock i samples) s = .next
          ({ s with con := { s.con with inputs := upd s.con.inputs i fun l =>
            { l with rejects := l.rejects + 1, rejRun := l.rejRun + 1 } } }).settle)) ∧
    (ccMode s.con.cfg ≠ 0 → s.mbx.fwState = 1 → s.con.runAt + u16 s.con.cfg 8 * tuMs ≤ s.tk.start → ∃ t : State, Sys2Proof.Machine.exec .solverRun s = .next t ∧
      t.con.runTick = s.tk.tick ∧ t.con.runAt = s.tk.start ∧ (ccMode s.con.cfg ≠ 2 ∨ t.con.limitState = 2 → t.con.s = s.con.s) ∧
      (∀ p < 8, s.con.s.getD p 0 ≤ 32768 → t.con.s.getD p 0 ≤ s.con.s.getD p 0 + u16 s.con.cfg 0x0A ∧
        s.con.s.getD p 0 ≤ t.con.s.getD p 0 + u16 s.con.cfg 0x0A) ∧
      t = { s with free := t.free, evq := t.evq, src := t.src, con := t.con, show_ := t.show_ })


/-! ## Beam heads and axes between commands -/

/-- A point plays or the stream stalls, stalled data lands, an idle head parks, a head comes to rest on its dump, and
the scan-speed monitor samples. (Parts of 11 R239, R246, R250, R252, R254.) The model's own choices in it: assumptions
3, 76, 77, 119. -/
def Obligations.BeamEventsRun : Prop :=
  ∀ (s : State) (n : Nat), n ≤ 3 → s.heads.length = 4 → ∀ x y : Head, x = at_ s.heads n → y = x.trim s.now →
    (∀ g d, y.front = some g → (x.state = 1 ∨ x.state = 2) → x.stalled = none → g.has g.next = true → ∃ t : State,
      Sys2Proof.Machine.exec (.pointDue n (some d) []) s = .next t ∧ t.now = max s.now g.due ∧
      (at_ t.heads n).state = 2 ∧ (at_ t.heads n).played = x.played + 1 ∧
      (at_ t.heads n).tgtFrom = landedSet x.record d 0 ∧ (at_ t.heads n).dueAt = g.due ∧
      (at_ t.heads n).dueEnd = g.due + g.period ∧
      (at_ t.heads n).ahead = (if 2 * hdPoint x.record ≤ d.length ∧ ((x.trim t.now).advance g).nextIn = true then some (landedSet x.record d 1)
        else none) ∧
      (0 < g.period → ∃ (on on' : List Nat) (rest : List PointLight),
        (at_ t.heads n).line =
          ⟨g.due + g.period + hdIntDelay x.record, List.replicate 8 0, on'⟩ ::
            ⟨g.due + hdIntDelay x.record, (at_ t.heads n).ints, on⟩ :: rest) ∧
      (at_ t.heads n).ints = (if bit (pointFlags x.record d) 0 then List.replicate 8 0 else pointInts x.record d) ∧
      (at_ t.heads n).segs = ((x.trim t.now).segs.map fun k => if k.no = g.no then { k with next := k.next + 1 } else k) ∧
      (∀ m, m ≠ n → at_ t.heads m = at_ s.heads m) ∧
      t = { s with
        now := t.now, evq := t.evq, mbx := t.mbx, fetch := t.fetch, src := t.src, heads := t.heads, con := t.con,
        show_ := t.show_ }) ∧
    (∀ g d, y.front = some g → (x.state = 1 ∨ x.state = 2) → x.stalled = none → d = none ∨ g.has g.next = false → ∃ t : State,
      Sys2Proof.Machine.exec (.pointDue n d []) s = .next t ∧ t.now = max s.now g.due ∧
      (at_ t.heads n).stalled = some t.now ∧ (at_ t.heads n).state = 2 ∧ (at_ t.heads n).ahead = none ∧ (at_ t.heads n).stalls = x.stalls + 1 ∧ (at_ t.heads n).played = x.played ∧
      (at_ t.heads n).segs = (x.trim t.now).segs ∧ (∀ i, (at_ t.heads n).ints.getD i 0 = 0)) ∧
    (∀ since, x.stalled = some since → x.nextIn = true → ∀ l, l = s.now + 400 - since → ∃ u : State,
      u = { s with
        now := s.now + 400,
        heads := upd s.heads n fun h => { h with
          stalled := none,
          segs := (h.segs.filter fun g => g.left == 0) ++ shiftSegs l none (h.segs.filter fun g => g.left != 0) } } ∧
      Sys2Proof.Machine.exec (.pointDataLanded n) s = .next (u.raise 0x0803 n (sat 32 l)).settle) ∧
    (x.state = 2 → x.queued = 0 → ∀ u : State, u = s.forward (max x.dueEnd x.emptyAt + hdParkIdle x.record * tuUs) → ∃ t : State,
      Sys2Proof.Machine.exec (.parkIdleExpiry n) s = .next t ∧ t.now = u.now ∧ (at_ t.heads n).state = 1 ∧
      t.evq = (u.raise 0x0801 n (1 + 16 * 2)).evq ∧
      (∀ c ∈ s.headChans n, (at_ s.src.sinks c).plan = [] → (at_ t.src.sinks c).code = 0)) ∧
    ((x.state = 1 ∨ x.state = 3) → s.atPark n = true → Sys2Proof.Machine.exec (.headOnDump n) s = .next
      ({ s with
        now := max s.now (x.parkAt.getD s.now + tuMs)
        heads := upd s.heads n fun h => { h with parkAt := some (x.parkAt.getD s.now), onDump := true } }).settle) ∧
    (¬(x.state = 1 ∨ x.state = 3) ∨ s.atPark n = false → Sys2Proof.Machine.exec (.headOnDump n) s = .next
      ({ s with heads := upd s.heads n fun h => { h with parkAt := none } }).settle) ∧
    (∀ at', at' = max s.now (max (400 * ceilDiv s.now 400) (x.sampAt + 400)) → x.state ≠ 2 → ∃ t : State,
      Sys2Proof.Machine.exec (.scanSpeedSample n) s = .next t ∧ t.now = at' ∧ (at_ t.heads n).sampAt = at' ∧
      (at_ t.heads n).history =
        ((fastFb (at_ s.ios (2 * n)), fastFb (at_ s.ios (2 * n + 1))) :: x.history).take 8 ∧
      (at_ t.heads n).dwell = none ∧ (at_ t.heads n).state = x.state ∧
      t = { s with now := t.now, heads := t.heads, src := t.src, con := t.con, show_ := t.show_ })

/-- One sample of an axis in each of its states, the ramp of a heeled axis, steps of the external input, encoder edges,
conversions and drive periods. (Parts of 12 R263, R271, 13 R282, R284 to R286, R288, R290.) The model's own choices in
it: assumptions 3, 79, 80. -/
def Obligations.AxisEventsRun : Prop :=
  ∀ (s : State) (a : Nat), a ≤ 15 → s.axes.length = 16 → s.ios.length = 16 → ∀ (x : Axis) (o : AxisIo),
    x = at_ s.axes a → o = at_ s.ios a →
    (∀ m, x.state ≠ 1 → x.closeAt = none → x.swapAt = none → ioKind o.record = 0 → ∃ t : State,
      Sys2Proof.Machine.exec (.axisSample a m) s = .next t ∧ t.now = max s.now (s.nextSample a) ∧
      (at_ t.axes a).y = fastFb o ∧ (at_ t.axes a).r1 = fastFb o ∧ (at_ t.axes a).r2 = x.r1 ∧ (at_ t.axes a).u = x.u ∧
      (at_ t.axes a).state = x.state ∧ (at_ t.axes a).iVal = x.iVal ∧ (∀ b, b ≠ a → at_ t.axes b = at_ s.axes b) ∧
      t = { s with
        now := t.now, evq := t.evq, src := t.src, con := t.con, heads := t.heads, axes := t.axes, ios := t.ios,
        show_ := t.show_ }) ∧
    (∀ m, x.state = 1 → x.closeAt = none → x.openAt = none → x.swapAt = none → ioKind o.record = 0 →
      ∃ (t : State) (r : Int) (z : Axis), Sys2Proof.Machine.exec (.axisSample a m) s = .next t ∧
      z = x.compute (bit (byteAt x.record 1) 0) r (fastFb o) none ∧
      ((at_ t.axes a).state = 1 ∨ (at_ t.axes a).state = 2) ∧ (at_ t.axes a).y = fastFb o ∧
      ((at_ t.axes a).state = 1 ∨ (o.detWait = none ∧ dtArmed o.det 0 = false) →
        (at_ t.axes a).r1 = r ∧ (at_ t.axes a).r2 = x.r1 ∧ (at_ t.axes a).e = z.e ∧ (at_ t.axes a).iVal = z.iVal ∧
        (at_ t.axes a).w = z.w ∧ (at_ t.axes a).v1 = z.v1 ∧ (at_ t.axes a).w1 = z.w1 ∧ (at_ t.axes a).u = z.u ∧
        (at_ t.axes a).satCount = z.satCount) ∧
      (∀ b, b ≠ a → at_ t.axes b = at_ s.axes b) ∧ t.tk = s.tk ∧ t.com = s.com ∧ t.mbx = s.mbx) ∧
    (∀ m t0 preset, x.state = 0 → x.closeAt = some (t0, preset) → t0 < max s.now (s.nextSample a) → x.swapAt = none → ioKind o.record = 0 → ∃ t : State,
      Sys2Proof.Machine.exec (.axisSample a m) s = .next t ∧
      ((at_ t.axes a).state = 1 ∨ (at_ t.axes a).state = 2) ∧ (at_ t.axes a).closeAt = none ∧
      (at_ t.axes a).e = 0 ∧ (at_ t.axes a).w = 0 ∧ (at_ t.axes a).r1 = fastFb o ∧ (at_ t.ios a).target = fastFb o) ∧
    (∀ k, o.rampStep = some k → ∃ t : State, Sys2Proof.Machine.exec (.heelRampStep a) s = .next t ∧
      t = ({ s with
        now := max s.now (o.rampAt + 400 * (k + 1)),
        ios := upd s.ios a fun x => { x with
          dac := roundDiv (x.rampFrom * ((1000 - (k + 1) : Nat) : Int)) 1000,
          rampStep := if k + 1 < 1000 then some (k + 1) else none } }).settle) ∧
    (∀ dir, ioSource o.record = 2 → x.state = 1 → (∀ t0, o.stepAt = some t0 → t0 + exStepMin o.ext ≤ s.now) →
      Sys2Proof.Machine.exec (.extStepInput a dir) s = .next
        ({ s with ios := upd s.ios a fun y => { y with
          pExt := y.pExt + (if dir != bit (byteAt o.ext 1) 0 then (u32 o.ext 0x0C : Int) else -(u32 o.ext 0x0C : Int)),
          stepAt := some s.now } }).settle) ∧
    (∀ dir t0, ioSource o.record = 2 → x.state = 1 → o.stepAt = some t0 → s.now < t0 + exStepMin o.ext →
      Sys2Proof.Machine.exec (.extStepInput a dir) s = .next
        ({ s with ios := upd s.ios a fun y => { y with stepsClamped := y.stepsClamped + 1 } }).settle) ∧
    (∀ b1 b2 gap, ioKind o.record = 1 → ((o.encA = b1 ∨ o.encB = b2) ∧ ((o.encA = b1 ∧ o.encB = b2) ∨ 14 ≤ gap)) →
      Sys2Proof.Machine.exec (.encoderEdge a b1 b2 false gap) s = .next
        ({ s with ios := upd s.ios a fun y => { y with
          count := signed 32 (pattern 32 (y.count + quadStep y.encA y.encB b1 b2)), encA := b1, encB := b2,
          edgeSeen := y.edgeSeen || (y.encA != b1) || (y.encB != b2) } }).settle) ∧
    (∀ b1 b2 z gap, ioKind o.record = 1 → o.encA ≠ b1 → o.encB ≠ b2 → dtArmed o.det 4 = true → x.state = 1 → ∃ t : State,
      Sys2Proof.Machine.exec (.encoderEdge a b1 b2 z gap) s = .next t ∧ (at_ t.axes a).state = 2 ∧
      (at_ t.ios a).causes = 2 ^ 4 ∧ (at_ t.ios a).badAt = s.now) ∧
    (∀ code : Int, ∀ full : Int, full = (if a < 8 then 131072 else 32768) → -full < code → code < full - 1 →
      Sys2Proof.Machine.exec (.feedbackConversion a (.position code)) s =
        .next ((fun (u : State) => if a < 8 then u.notePark (a / 2) else u)
          { s with ios := upd s.ios a fun y => { y with raw := code, satRun := 0 } }).settle) ∧
    (∀ code, u16 o.det 4 ≤ code → code ≤ u16 o.det 6 →
      Sys2Proof.Machine.exec (.feedbackConversion a (.sum code)) s =
        .next ({ s with ios := upd s.ios a fun y => { y with sumCode := code, sumRun := 0 } }).settle) ∧
    (8 ≤ a → Sys2Proof.Machine.exec (.axisPwmPeriod a) s = .next
      ({ s with ios := upd s.ios a fun y => { y with
        duties := if y.started s.now = false ∨ y.brake then [0, 0, 0]
          else (axisDuties y x.state).map (onTime (ioPwmTu y.record) (ioMinPulse y.record)) } }).settle)

/-- A trigger counts once a tick, an input active for 10 s is stuck until it is released, and the interlock blanks every
head and, if set so, sends the axes to heel; it is restored once ILK_N has been low for 10 ms without a break. (Parts of
13 R293 to R295.) The model's own choices in it: assumptions 3, 83, 84. -/
def Obligations.TriggersAndInterlockAct : Prop :=
  ∀ s : State, s.show_.trigs.length = 8 →
    (∀ i < 8, ∀ tr, tr = at_ s.show_.trigs i → s.trigEnabled i = true → tr.stuck = false → ∀ tick ofs,
      (tick, ofs) = s.dateOf (s.now - s.trigFilt i) →
      (tr.lastTick = some tick → Sys2Proof.Machine.exec (.triggerInput i) s = .next
        ({ s with show_ := { s.show_ with trigs := upd s.show_.trigs i fun x =>
          { x with level := s.trigHigh i, active := true, since := s.now, extra := x.extra + 1 } } }).settle) ∧
      (tr.lastTick ≠ some tick → ∃ t : State, Sys2Proof.Machine.exec (.triggerInput i) s = .next t ∧
        at_ t.show_.trigs i =
          { tr with level := s.trigHigh i, active := true, since := s.now, lastTick := some tick, count := tr.count + 1 } ∧
        t.evq = s.evq.push (mkEvent 0x0983 i tick ofs (tr.count + 1).toNat) ∧
        (∀ a < 16, s.ios.length = 16 → ∀ v, (at_ s.ios a).armed = some (i, v) →
          (at_ t.ios a).newTarget = some (s.now, v) ∧ (at_ t.ios a).armed = none) ∧
        t = { s with
          evq := t.evq, ios := t.ios, show_ := { t.show_ with cfg := s.show_.cfg }, src := t.src, con := t.con })) ∧
    (∀ i < 8, ∀ tr, tr = at_ s.show_.trigs i → s.trigEnabled i = true → tr.active = true → tr.stuck = false → ∃ u : State,
      u = { s with
        now := max s.now (tr.since + 10 * tuS),
        show_ := { s.show_ with trigs := upd s.show_.trigs i fun x => { x with stuck := true } } } ∧
      Sys2Proof.Machine.exec (.triggerHeld10s i) s = .next (u.raise 0x0984 i 1).settle) ∧
    (∀ i < 8, ∀ tr, tr = at_ s.show_.trigs i → tr.active = true → ∃ u : State,
      u = { s with show_ := { s.show_ with
        trigs := upd s.show_.trigs i fun x => { x with level := !s.trigHigh i, active := false, stuck := false } } } ∧
      Sys2Proof.Machine.exec (.triggerRelease i) s = .next (if tr.stuck then u.raise 0x0984 i 0 else u).settle) ∧
    (s.show_.ilkOff = false → s.heads.length = 4 → s.axes.length = 16 → ∃ t : State,
      Sys2Proof.Machine.exec .interlockDeassert s = .next t ∧ t.show_.ilkOff = true ∧ t.show_.ilkLowAt = none ∧
      t.show_.deassertions = s.show_.deassertions + 1 ∧
      (∀ n < 4, (at_ s.heads n).state ≠ 0 → (at_ t.heads n).state = 3 ∧ bit (at_ t.heads n).causes 1 = true) ∧
      (∀ a < 16, (at_ t.axes a).state =
        if bit (byteAt s.show_.cfg 0x20) 0 ∧ (at_ s.axes a).state ≠ 0 then 2 else (at_ s.axes a).state) ∧
      (∀ n < 4, n < s.epb.outs.length → ∀ o, o = at_ s.epb.outs n → epIlkBlank o.record = true → epEnable o.record = true →
        o.sending = none → o.zeroSent = false → s.mbx.fwState = 1 →
        (at_ t.epb.outs n).output = [] ∧ (at_ t.epb.outs n).frames = o.frames + 1 ∧
        (at_ t.epb.outs n).sending = some (s.now + epFrameTu o.record + epResetTu o.record))) ∧
    (s.show_.ilkOff = true →
      (s.show_.ilkLowAt = none → Sys2Proof.Machine.exec .interlockRestore s =
        .next ({ s with show_ := { s.show_ with ilkLowAt := some s.now } }).settle) ∧
      Sys2Proof.Machine.exec .interlockDeassert s =
        .next ({ s with show_ := { s.show_ with ilkLowAt := none } }).settle) ∧
    (∀ low, s.show_.ilkOff = true → s.show_.ilkLowAt = some low → s.boot.porstLow = false → ∃ u : State,
      u = { s with
        now := max s.now (max low s.boot.released + 10 * tuMs), show_ := { s.show_ with ilkOff := false },
        epb := { s.epb with outs := s.epb.outs.map fun o => { o with zeroSent := false } } } ∧
      Sys2Proof.Machine.exec .interlockRestore s = .next (u.raise 0x0985 0 1).settle)


/-! ## Clocks and tick references -/

/-- The references of the tick sources, the steps of the PLLs, the loss and return of REFCLK and of lock, and the
housekeeping clock. (Parts of 02 R35, 14 R302, R304, R305, R307 to R311, R313, R314.) The model's own choices in it:
assumptions 3, 25, 27. -/
def Obligations.ClockEventsRun : Prop :=
  ∀ s : State, s.ck.plls.length = 4 → s.tk.refs.length = 3 →
    (∀ last rest, (at_ s.tk.refs 1).refs = last :: rest → ∀ (ref : Int) (good : Bool),
      ref = (s.now + s.tk.syncInDelay : Nat) → good = inWindow s.liveMode last ref → ∃ t : State,
      Sys2Proof.Machine.exec .syncInEdge s = .next t ∧ (at_ t.tk.refs 1).refs = (ref :: last :: rest).take 9 ∧
      (at_ t.tk.refs 1).sums = (s.ofsAt ref :: (at_ s.tk.refs 1).sums).take 9 ∧
      (at_ t.tk.refs 1).inWindow = (if good then min 8 ((at_ s.tk.refs 1).inWindow + 1) else 0) ∧
      (at_ t.tk.refs 1).misses = (if good then 0 else (at_ s.tk.refs 1).misses + 1) ∧
      (good = false → 1 ≤ (at_ s.tk.refs 1).misses → (at_ t.tk.refs 1).valid = false) ∧
      t = { s with evq := t.evq, tk := t.tk, src := t.src, con := t.con, ck := t.ck, show_ := t.show_ }) ∧
    ((at_ s.tk.refs 1).refs = [] → Sys2Proof.Machine.exec .syncInEdge s =
      .next ({ s with tk := { s.tk with
        refs := upd s.tk.refs 1 fun r => { r with
          refs := [((s.now + s.tk.syncInDelay : Nat) : Int)]
          sums := [s.ofsAt ((s.now + s.tk.syncInDelay : Nat) : Int)] } } }).settle) ∧
    (∀ id outside, 1 ≤ id → id ≤ 3 → ∃ t : State, Sys2Proof.Machine.exec (.tickReferenceMissing id outside) s = .next t ∧
      (at_ t.tk.refs (id - 1)).inWindow = 0 ∧ (at_ t.tk.refs (id - 1)).misses = (at_ s.tk.refs (id - 1)).misses + 1 ∧
      (at_ t.tk.refs (id - 1)).valid = ((at_ s.tk.refs (id - 1)).valid && (at_ s.tk.refs (id - 1)).misses == 0) ∧
      ((at_ s.tk.refs (id - 1)).valid = true → 1 ≤ (at_ s.tk.refs (id - 1)).misses → s.tk.active = id →
        t.ck.goal = (if (at_ s.ck.plls 1).coast then none else some (clampI (-30000) 30000 s.ck.freqEst)) ∧ t.evq = (s.raise 0x0202 0 (id + 256 * (if outside then 1 else 0))).evq) ∧
      t = { s with evq := t.evq, tk := t.tk, src := t.src, con := t.con, ck := t.ck, show_ := t.show_ }) ∧
    (∀ g, s.ck.goal = some g → (at_ s.ck.plls 1).coast = false → (at_ s.ck.plls 1).offset ≠ g → ∀ at',
      at' = max s.now (s.nextStep 1) → Sys2Proof.Machine.exec .genlockStep s = .next
        ({ s with
          now := at'
          ck := { s.ck with
            ofsSum := s.ofsAt at'
            ofsFrom := at'
            plls := upd s.ck.plls 1 fun q => { q with
              offset := clampI (-30000) 30000 (q.offset + clampI (-5000) 5000 (g - q.offset)), stepAt := some at' } } }).settle) ∧
    (∀ n r, n < 4 → (at_ s.ck.plls n).ramp = some r → ∀ t0 r' o (u : State),
      t0 = max ((at_ s.ck.plls n).stepAt.getD r.at_) r.at_ + 100 * tuUs → rampStepTo t0 r = (r', o) →
      u = ((s.forward t0).setOffset n o t0).pll n (fun q => { q with ramp := r' }) →
      (r'.isSome = true → Sys2Proof.Machine.exec (.clockRampStep n) s = .next u.settle) ∧
      (r' = none → Sys2Proof.Machine.exec (.clockRampStep n) s =
        .next (u.raise 0x0A03 n (65536 * pattern 16 o)).settle)) ∧
    (s.ck.refValid = true → ∃ t : State, Sys2Proof.Machine.exec .refclkLoss s = .next t ∧ t.ck.refValid = false ∧
      t.ck.refLosses = s.ck.refLosses + 1 ∧ t.ck.hkBad = 0 ∧ t.ck.hkGood = 0 ∧
      (∀ n < 4, (at_ t.ck.plls n).locked = false ∧ (at_ t.ck.plls n).coast = true ∧ (at_ t.ck.plls n).ramp = none ∧
        (at_ t.ck.plls n).offset = (at_ s.ck.plls n).offset) ∧
      t = { s with evq := t.evq, src := t.src, con := t.con, ck := t.ck, show_ := t.show_ }) ∧
    (∀ ppm : Int, (bit (byteAt s.ck.cfg 6) 0 = false ∨ s.ck.hkDistrust = true ∨ ppm.natAbs ≤ 1000 ∨ (s.ck.hkCrystal = false ∧ ppm.natAbs ≤ 20000) ∨
        (s.ck.hkCrystal = false ∧ s.ck.hkComp = false)) →
      Sys2Proof.Machine.exec (.refclkFreqCheck ppm) s = .next ({ s with ck := { s.ck with refErr := ppm } }).settle) ∧
    (∀ ppm : Int, bit (byteAt s.ck.cfg 6) 0 = true → s.ck.refValid = true → s.ck.hkDistrust = false →
      ((s.ck.hkCrystal = true ∧ 1000 < ppm.natAbs) ∨ (s.ck.hkComp = true ∧ 20000 < ppm.natAbs)) → ∃ t : State,
      Sys2Proof.Machine.exec (.refclkFreqCheck ppm) s = .next t ∧ t.ck.refValid = false ∧ t.ck.refErr = ppm ∧
      ∀ n < 4, (at_ t.ck.plls n).coast = true) ∧
    (∀ ppm : Int, s.ck.refValid = false → ∃ t : State, Sys2Proof.Machine.exec (.refclkRestore ppm) s = .next t ∧
      t.ck.refValid = true ∧ t.ck.refErr = ppm ∧
      (∀ n < 4, (at_ s.ck.plls n).coast = true →
        (at_ t.ck.plls n).pull = (at_ s.ck.plls n).pull + 100 * ppm ∧ (at_ t.ck.plls n).stepAt = some s.now) ∧
      (∀ n < 4, (at_ s.ck.plls n).coast = false → at_ t.ck.plls n = at_ s.ck.plls n) ∧
      t = { s with evq := t.evq, src := t.src, con := t.con, ck := t.ck, show_ := t.show_ }) ∧
    (∀ n < 4, s.ck.refValid = true → (at_ s.ck.plls n).locked = true → ∃ t : State,
      Sys2Proof.Machine.exec (.pllLockLoss n) s = .next t ∧ (at_ t.ck.plls n).locked = false ∧
      (at_ t.ck.plls n).coast = true ∧ (at_ t.ck.plls n).ramp = none ∧ t.ck.lockLosses = s.ck.lockLosses + 1 ∧
      (∀ m, m ≠ n → at_ t.ck.plls m = at_ s.ck.plls m) ∧
      t = { s with evq := t.evq, src := t.src, con := t.con, ck := t.ck, show_ := t.show_ }) ∧
    (∀ n < 4, ∀ q, q = at_ s.ck.plls n → q.coast = true → s.ck.refValid = true → ∀ (goal : Int) (found : Nat),
      goal = (if q.cause = 0 then q.pull else q.pull + 100 * s.ck.refErr) →
      found = (if q.cause = 0 then q.stepAt.getD s.now else q.frozenAt) → ∃ (drift : Int) (u : State),
      (s.now ≤ q.frozenAt + tuS → drift.natAbs ≤ 1000) ∧ u = { s with
        now := max s.now (found + 100 * tuUs * (stepsFor (goal - drift) - 1) + 120 * tuUs)
        free := s.free + 1
        ck := { s.ck with plls := upd s.ck.plls n fun q => { q with coast := false, locked := true, pull := 0 } } } ∧
      Sys2Proof.Machine.exec (.pllRelock n) s = .next (u.raise 0x0A02 n (1 + 2 * q.cause)).settle) ∧
    Sys2Proof.Machine.exec .hkCrystalStart s = .next ({ s with ck := { s.ck with hkCrystal := true } }).settle ∧
    (s.ck.hkCrystal = true → ∃ u : State, u = { s with ck := { s.ck with hkCrystal := false } } ∧
      Sys2Proof.Machine.exec .hkCrystalStop s =
        .next (u.raise 0x0A01 1 (6 + 65536 * pattern 16 (clampI (-32768) 32767 s.ck.hkErr))).settle) ∧
    (∀ ppm : Int, s.ck.refValid = true → ∀ bad good, bad = (if 10000 < ppm.natAbs then min (s.ck.hkBad + 1) 3 else 0) →
      good = (if ppm.natAbs ≤ 5000 then min (s.ck.hkGood + 1) 3 else 0) → ∃ u : State,
      u = { s with ck := { s.ck with
        hkErr := ppm, hkBad := bad, hkGood := good,
        hkDistrust := if bad = 3 then true else if good = 3 then false else s.ck.hkDistrust,
        hkComp := if bad = 3 then false else if good = 3 then s.ck.comp.isSome else s.ck.hkComp } } ∧
      Sys2Proof.Machine.exec (.hkMeasure ppm) s =
        .next (if bad = 3 ∧ s.ck.hkDistrust = false then u.raise 0x0A04 0 2 else u).settle) ∧
    ((at_ s.ck.plls 0).locked = true ∨ (at_ s.ck.plls 0).coast = true → Sys2Proof.Machine.exec .sscTurningPoint s =
      .next ({ s with ck := { s.ck with sysSsc := byteAt s.ck.cfg 0 } }).settle)

/-! ## Zone readings, calibration units, writes of the kennel -/

/-- A reading of a zone and what it decides, a calibration unit that falls due, and the writes of the kennel; in a
restart interval the drives are reset. (Parts of 15 R318, R319, R322, R323, R326, 16 R338, R347 to R350, 15 R329.) The
model's own choices in it: assumptions 4, 85, 90, 118. -/
def Obligations.ThermalAndKennelEventsRun : Prop :=
  ∀ s : State,
    (∀ (z : Nat) (v : Int) (power : Nat), z ≤ 15 → s.boot.porstLow = false → s.th.zones.length = 16 → ∀ x,
      x = at_ s.th.zones z → x.suspect = false →
      (badReading v = false → x.devRun < 15 → ∃ t : State, Sys2Proof.Machine.exec (.zoneReading z v power) s = .next t ∧
        (at_ t.th.zones z).reading = v ∧ (at_ t.th.zones z).effective = v ∧ (at_ t.th.zones z).suspect = false ∧
        (at_ t.th.zones z).warn = (if 800 ≤ v then true else if v < 760 then false else x.warn) ∧
        (at_ t.th.zones z).hotRun = (if 1000 ≤ v then min 3 (x.hotRun + 1) else 0) ∧
        (1000 ≤ v ∧ x.hotRun = 1 → t.th.tripMask = 2 ^ z ∧ t.th.trips = s.th.trips + 1 ∧ (t.th.state = 1 ∨ t.th.state = 3)) ∧
        (¬(1000 ≤ v ∧ x.hotRun = 1) → t.th.state = s.th.state ∧ t.th.trips = s.th.trips ∧ t.mbx = s.mbx ∧
          t.axes = s.axes)) ∧
      (badReading v = true → ∃ t : State, Sys2Proof.Machine.exec (.zoneReading z v power) s = .next t ∧
        (at_ t.th.zones z).reading = v ∧ (at_ t.th.zones z).suspect = true)) ∧
    (s.inTrip = true → ∃ t : State, Sys2Proof.Machine.exec .nvmeTripReset s = .next t ∧
      t.now = max s.now (s.th.tripAt + tuS) ∧ (∀ o ∈ t.cs.ops, o.tags = 0) ∧ t.tags 3 = 0 ∧
      t = { s with
        now := t.now, fetch := t.fetch, cs := t.cs, src := t.src, con := t.con, show_ := t.show_ }) ∧
    (∀ task unit, unit < calUnits task → ∀ j u, j = calIndex task unit → u = at_ s.cal.units j → u.due = none →
      u.suspended = false → calEnabled s.cal.cfg task = true → ∀ at', at' = max s.now (u.lastRun + calPeriod s.cal.cfg task) →
      Sys2Proof.Machine.exec (.calUnitDue task unit) s = .next
        ({ s with now := at', cal := { s.cal with units := upd s.cal.units j fun u =>
          { u with due := some at', defer := 0 } } }).settle) ∧
    (∀ store, store = 1 ∨ store = 2 → s.storeDirty store = true → s.mbx.fwState = 1 → s.ken.queue = [] →
      s.ken.writing = none → s.ken.slots.length = 6 → s.ken.dirty.length = 3 → s.ken.lastWrite.length = 3 → ∀ at' slot,
      at' = max s.now ((s.ken.lastWrite.getD store none).getD 0 + s.writePeriod store) →
      slot = (if s.inForceSlot store = some 0 then 1 else 0) → ∃ t : State,
      Sys2Proof.Machine.exec (.kennelPacedWrite store) s = .next t ∧ t.now = at' ∧
      t.ken.writing = some ⟨store, slot, false, false, false, at', s.tk.tick, ({ s with now := at' }).liveContent store⟩ ∧ t.ken.queue = [] ∧
      (at_ t.ken.slots (2 * store + slot)).state = 2 ∧ t.ken.dirty.getD store true = false ∧
      t.ken.lastWrite.getD store none = some at' ∧
      (∀ k, k ≠ 2 * store + slot → at_ t.ken.slots k = at_ s.ken.slots k) ∧
      t = { s with now := t.now, ken := t.ken, src := t.src, con := t.con, show_ := t.show_ }) ∧
    (∀ w, s.ken.writing = some w → w.erase = false → w.commanded = false → s.ken.queue = [] → s.ken.slots.length = 6 →
      s.ken.dirty.length = 3 → w.store < 3 → w.slot < 2 →
      (∃ t : State, Sys2Proof.Machine.exec (.kennelWriteDone true) s = .next t ∧ t.ken.writing = none ∧
        (at_ t.ken.slots (2 * w.store + w.slot)) =
          ⟨1, (match s.inForceSlot w.store with | some k => nextSeq (s.kslot w.store k).seq | none => 1),
            (s.ken.carry.getD w.store (0, 0)).1, (s.ken.carry.getD w.store (0, 0)).2, w.tick, w.content, []⟩ ∧
        (∀ k, k ≠ 2 * w.store + w.slot → at_ t.ken.slots k = at_ s.ken.slots k) ∧
        t = { s with evq := t.evq, ken := t.ken, src := t.src, con := t.con, show_ := t.show_ }) ∧
      (w.retried = false → Sys2Proof.Machine.exec (.kennelWriteDone false) s = .next
        ({ s with ken := { s.ken with
          writing := some { w with retried := true }, carry := bumpCarry s.ken.carry w.store w.slot,
          writeTimes := bumpTimes s.ken.writeTimes (2 * w.store + w.slot) s.now } }).settle) ∧
      (w.retried = true → ∃ t : State, Sys2Proof.Machine.exec (.kennelWriteDone false) s = .next t ∧ t.ken.writing = none ∧
        t.ken.dirty.getD w.store false = true ∧ t.ken.slots = s.ken.slots ∧
        t = { s with evq := t.evq, ken := t.ken, src := t.src, con := t.con, show_ := t.show_ }))


/-! ## Cumaslink between commands -/

/-- Training and loss of a port, PORT_ID, CREDIT, TICK, TIME and the delay exchanges. (Parts of 18 R384, R388, R390,
R394, R397, R398, R401, R407.) The model's own choices in it: assumptions 4, 68, 93, 94, 133. -/
def Obligations.CumaslinkLinkEventsRun : Prop :=
  ∀ (s : State) (p : Nat), p < 3 → s.cl.ports.length = 3 → ∀ q, q = at_ s.cl.ports p →
    (∀ (sent : Nat → ClPort → ClPort), (∀ now x, sent now x =
        (let n := (now - x.since) / (10 * tuUs) + 1
         { x with ids := max x.ids n, wire := x.wire ++ ((List.range n).drop x.ids).map fun i =>
            (clAt (x.since + i * (10 * tuUs)), ClOut.portId p (maskOf [s.isRoot, s.cl.addr.isSome]) (s.cl.addr.getD 0)) })) →
      q.state = 1 →
      (∀ role flags addr, (p = 0 ∧ (role = 1 ∨ role = 2) ∨ p ≠ 0 ∧ role = 0) →
        (q.idRun < 7 → Sys2Proof.Machine.exec (.portId p role flags addr true) s = .next
          ({ s with cl := { s.cl with
            ports := upd s.cl.ports p fun q => { (sent s.now q) with idRun := q.idRun + 1 } } }).settle) ∧
        (q.idRun = 7 → ∃ t : State, Sys2Proof.Machine.exec (.portId p role flags addr true) s = .next t ∧
          (at_ t.cl.ports p).state = 2 ∧ (at_ t.cl.ports p).reason = 0 ∧ (at_ t.cl.ports p).since = s.now ∧
          t = { s with evq := t.evq, cl := t.cl, src := t.src, con := t.con, show_ := t.show_ })) ∧
      (∀ (role flags : Byte) addr, (p = 0 ∧ role.toNat ≠ 1 ∧ role.toNat ≠ 2 ∨ p ≠ 0 ∧ role.toNat ≠ 0) → ∃ u : State,
        u = { s with cl := { s.cl with ports := upd s.cl.ports p fun q =>
          { (sent s.now q) with state := 3, reason := 3, since := s.now, idRun := 0, ids := 0 } } } ∧
        Sys2Proof.Machine.exec (.portId p role flags addr true) s = .next (u.raise 0x0D01 p (3 + 4 + 16 * 3)).settle) ∧
      (∀ role flags addr, Sys2Proof.Machine.exec (.portId p role flags addr false) s = .next
        ({ s with cl := { s.cl with
          ports := upd s.cl.ports p fun q => { (sent s.now q) with idRun := 0 }, symErrors := s.cl.symErrors + 1 } }).settle) ∧
      (∀ at', at' = max s.now (q.since + 2 * tuMs) → ∃ u : State, u = { s with
        now := at',
        cl := { s.cl with ports := upd s.cl.ports p fun q =>
          { (sent at' q) with state := 0, reason := 5, since := at', idRun := 0, ids := 0 } } } ∧
        Sys2Proof.Machine.exec (.clTrainingTimeout p) s = .next (u.raise 0x0D01 p (4 + 16 * 5)).settle)) ∧
    (q.state = 0 → clEnabled s.cl.cfg p = true → ∃ u : State,
      u = { s with cl := { s.cl with
        ports := upd s.cl.ports p fun q => { q with state := 1, since := s.now, idRun := 0, ids := 0 } } } ∧
      Sys2Proof.Machine.exec (.clSignalDetect p) s = .next (u.raise 0x0D01 p (1 + 16 * q.reason)).settle) ∧
    (q.state = 2 → ∀ role flags addr,
      Sys2Proof.Machine.exec (.portId p role flags addr true) s = .next s.settle ∧
      Sys2Proof.Machine.exec (.portId p role flags addr false) s = .next
        ({ s with cl := { s.cl with
          ports := upd s.cl.ports p fun q => { q with idRun := 0 }, symErrors := s.cl.symErrors + 1 } }).settle) ∧
    (q.state = 2 → (s.mbx.parked.filter fun c => c.opcode == 0x0D03) = [] → ∀ code, ∃ t : State,
      Sys2Proof.Machine.exec (.clLinkLoss p code) s = .next t ∧
      (at_ t.cl.ports p).state = 0 ∧ (at_ t.cl.ports p).reason = (if code then 2 else 1) ∧
      (at_ t.cl.ports p).queue = [] ∧ (at_ t.cl.ports p).since = s.now ∧
      (∀ w ∈ t.mbx.clWait, ∀ h, w.hold = some h → h.port ≠ p) ∧
      (∀ x ∈ t.cl.ports, ∀ f ∈ x.queue, ∀ h, f.hold = some h → h.port ≠ p) ∧
      t.cl.discards = s.cl.discards + BitVec.ofNat 32 q.queue.length) ∧
    ((q.state = 0 ∨ q.state = 3) → clEnabled s.cl.cfg p = true → ∃ u : State,
      u = { s with
        now := max s.now (q.since + (if q.state = 0 then 10 * tuMs else tuS)),
        cl := { s.cl with ports := upd s.cl.ports p fun x =>
          { x with
            state := 1, since := max s.now (q.since + (if q.state = 0 then 10 * tuMs else tuS)), idRun := 0, ids := 0 } } } ∧
      Sys2Proof.Machine.exec (.clRetryTimer p) s =
        .next (u.raise 0x0D01 p (1 + 4 * q.state + 16 * q.reason)).settle) ∧
    (q.state = 2 → ∀ rsp, Sys2Proof.Machine.exec (.clBadFrame p rsp) s = .next
      ({ s with cl := { s.cl with
        discards := s.cl.discards + 1,
        ports := upd s.cl.ports p fun q => ClPort.free { q with rx := q.rx + 1 } s.now rsp } }).settle) ∧
    (q.state = 2 → p ≠ 0 → ∀ seq, Sys2Proof.Machine.exec (.delayReq p seq true) s = .next
      ({ s with cl := { s.cl with ports := upd s.cl.ports p fun q =>
        { q with wire := q.wire ++ [(clAt s.now, ClOut.delayRsp seq)] } } }).settle) ∧
    (q.state = 1 ∨ q.state = 2 → (p ≠ 0 → ∀ seq, Sys2Proof.Machine.exec (.delayReq p seq false) s = .next
        ({ s with cl := { s.cl with symErrors := s.cl.symErrors + 1 } }).settle) ∧
      ∀ rsp freed, Sys2Proof.Machine.exec (.credit p rsp freed false) s = .next
        ({ s with cl := { s.cl with symErrors := s.cl.symErrors + 1 } }).settle) ∧
    (q.state = 2 → q.queue = [] → (s.mbx.parked.filter fun c => c.opcode == 0x0D03) = [] → ∀ rsp freed,
      Sys2Proof.Machine.exec (.credit p rsp freed true) s = .next
        ({ s with cl := { s.cl with ports := upd s.cl.ports p fun q =>
          if rsp then { q with freedRsp := freed } else { q with freedReq := freed } } }).settle) ∧
    (q.state = 2 → Sys2Proof.Machine.exec (.creditTimer p) s = .next
      ({ s with cl := { s.cl with ports := upd s.cl.ports p fun q => { q with
        wire := q.wire ++ [(clAt s.now, ClOut.credit false q.ownReq), (clAt s.now, ClOut.credit true q.ownRsp)] } } }).settle) ∧
    (q.state = 2 → p = 0 → s.isRoot = false → ∀ (to_ : List (Int × ClOut) → List ClPort),
      (∀ o, to_ o = s.cl.ports.mapIdx fun k (x : ClPort) => if k ≠ 0 ∧ x.state = 2 then { x with wire := x.wire ++ o } else x) →
      (∀ ns, Sys2Proof.Machine.exec (.clTime ns true) s = .next
        ({ s with cl := { s.cl with
          ports := to_ [(clAt s.now + clHop, ClOut.time ns false)], timeRx := some (s.cl.tickNo, ns),
          timeNs := if s.cl.tickNo = s.tk.tick then ns else s.cl.timeNs } }).settle) ∧
      (∀ ns, Sys2Proof.Machine.exec (.clTime ns false) s = .next
        ({ s with cl := { s.cl with
          ports := to_ [(clAt s.now + clHop, ClOut.time ns true)], symErrors := s.cl.symErrors + 1 } }).settle) ∧
      (∀ seq turn trip, seq = s.cl.reqSeq → ∀ l, l = ((trip - turn.toNat) :: s.cl.exchanges).take 16 →
        Sys2Proof.Machine.exec (.delayRsp seq turn true trip) s = .next
          ({ s with cl := { s.cl with exchanges := l, cableUp := l.sum / (2 * l.length) } }).settle) ∧
      Sys2Proof.Machine.exec .delayReqTimer s = .next
        ({ s with cl := { s.cl with
          reqSeq := s.cl.reqSeq + 1,
          ports := upd s.cl.ports 0 fun q =>
            { q with wire := q.wire ++ [(clAt s.now, ClOut.delayReq (s.cl.reqSeq + 1))] } } }).settle ∧
      (∀ no hops depth acc (frac : Nat), ∃ dev : Int, -128 ≤ dev ∧ dev ≤ 128 ∧
        ∀ copy : Bool → State, (∀ bad, copy bad = { s with
          free := s.free + 1,
          cl := { s.cl with ports := to_ [(clAt s.now + frac + clHop + dev,
            ClOut.tick no (hops + 1) depth (BitVec.ofInt 32 (acc.toInt + s.cl.cableUp + dev)) bad)] } }) →
        Sys2Proof.Machine.exec (.clTick no hops depth acc false frac) s = .next
          ({ (copy true) with cl := { (copy true).cl with
            tickNo := s.cl.tickNo + 1, symErrors := s.cl.symErrors + 1 } }).settle ∧
        (s.cl.exchanges.length < 16 → Sys2Proof.Machine.exec (.clTick no hops depth acc true frac) s = .next
          ({ (copy false) with cl := { (copy false).cl with
            tickNo := no, depth := hops + 1, treeDepth := depth.toNat } }).settle) ∧
        (16 ≤ s.cl.exchanges.length → s.tk.refs.length = 3 → ∀ ref : Int,
          ref = ((clAt s.now + frac - (acc.toInt + s.cl.cableUp) + ((depth.toNat : Int) - (hops.toNat + 1)) * clHop).fdiv 160) →
          ∃ t : State, Sys2Proof.Machine.exec (.clTick no hops depth acc true frac) s = .next t ∧
          t.cl = { (copy false).cl with
            tickNo := no, depth := hops + 1, treeDepth := depth.toNat, tickRx := some (no, ref) } ∧
          (at_ t.tk.refs 0).refs = (ref :: (at_ s.tk.refs 0).refs).take 9)))

/-- What a node does with each frame that reaches it: a command or a reply for it or for another node, a broadcast, and
the frames of enumeration. (Parts of 17 R377, 18 R402 to R404, R406.) The model's own choices in it: assumptions 4, 92,
94, 133. -/
def Obligations.CumaslinkFramesRun : Prop :=
  ∀ (s : State) (p : Nat), p < 3 → s.cl.ports.length = 3 → (at_ s.cl.ports p).state = 2 →
    ∀ (recv : Bool → State), (∀ rsp, recv rsp = { s with
      cl := { s.cl with ports := upd s.cl.ports p fun q => ClPort.free { q with rx := q.rx + 1 } s.now rsp } }) →
    (∀ hd entry, s.cl.addr = some hd.dest → s.mbx.clWait = [] → s.mbx.clBox.length < 16 → ∃ t : State,
      Sys2Proof.Machine.exec (.mbxCmd p hd entry) s = .next t ∧
      t.mbx = { s.mbx with clBox := s.mbx.clBox ++ [⟨.node hd.src, entry, none, s.now⟩] } ∧
      t = { s with mbx := t.mbx, cl := t.cl, src := t.src, con := t.con, show_ := t.show_ }) ∧
    (∀ hd entry, s.cl.addr ≠ some hd.dest → spGet 0 s.cl.routes hd.dest.toNat = 0 → s.isRoot = true →
      Sys2Proof.Machine.exec (.mbxCmd p hd entry) s =
        .next ({ (recv false) with cl := { (recv false).cl with discards := s.cl.discards + 1 } }).settle) ∧
    (∀ hd entry r, s.cl.addr = some hd.dest → s.mbx.remotes.find? (fun r => r.opcode == u16 entry 0 &&
        r.hdr.tag == BitVec.ofNat 16 (u16 entry 2) && r.hdr.target == hd.src) = some r → r.mute = false →
      r.hdr.origin = .pcie → ∃ t : State, Sys2Proof.Machine.exec (.mbxReply p hd entry) s = .next t ∧
      t.mbx.remotes = s.mbx.remotes.erase r ∧ t.mbx.rplProd = s.mbx.rplProd + 1 ∧
      t = { s with mbx := t.mbx, cl := t.cl, src := t.src, con := t.con, show_ := t.show_ }) ∧
    (∀ hd entry, s.cl.addr = some hd.dest → (∀ r ∈ s.mbx.remotes, r.opcode ≠ u16 entry 0) → ∃ t : State,
      Sys2Proof.Machine.exec (.mbxReply p hd entry) s = .next t ∧
      t.mbx.ctr.remoteLate = s.mbx.ctr.remoteLate + 1 ∧ t.mbx.rplProd = s.mbx.rplProd ∧
      t.evq = (s.raise 0x0102 hd.src.toNat
        ((BitVec.ofNat 16 (u16 entry 2) : W16).toNat + 65536 * u16 entry 0)).evq) ∧
    (∀ hd subtree entry, p = 0 ∨ (s.isRoot = true ∧ subtree = false) → s.mbx.clWait = [] → s.mbx.clBox.length < 16 → ∃ t : State,
      Sys2Proof.Machine.exec (.bcast p hd subtree entry) s = .next t ∧
      t.mbx.clBox = s.mbx.clBox ++ [⟨.bcast, entry, none, s.now⟩] ∧
      t = { s with mbx := t.mbx, cl := t.cl, src := t.src, con := t.con, show_ := t.show_ }) ∧
    (∀ src index paddr pset serial, p ≠ 0 → s.isRoot = true → s.cl.enumRunning = true →
      Sys2Proof.Machine.exec (.report ⟨p, src⟩ index paddr pset serial) s = .next
        ({ (recv true) with cl := { (recv true).cl with reports := s.cl.reports ++ [ClReport.mk index paddr pset serial] } }).settle) ∧
    (∀ a serial, p ≠ 0 → s.isRoot = true → ∀ others, others = s.cl.holders.filter (fun x => x.2 != serial) →
      (others.any fun x => x.1 == a) = false → ∀ src persistent,
      Sys2Proof.Machine.exec (.announce ⟨p, src⟩ a true persistent serial) s = .next
        ({ (recv true) with cl := { (recv true).cl with
          routes := spSet 0 s.cl.routes a.toNat p, holders := others ++ [(a, serial)],
          addressed := if s.cl.enumRunning then (others ++ [(a, serial)]).length else s.cl.addressed } }).settle) ∧
    (p = 0 → s.isRoot = false → s.childPorts = [] →
      (∀ src block b, block < 32 → ∃ t : State, Sys2Proof.Machine.exec (.persistSet ⟨p, src⟩ block b) s = .next t ∧
        t.cl.kept = s.cl.kept.filter (fun a => a.toNat / 2048 != block) ++ blockAddrs block b ∧
        t = { s with cl := t.cl, src := t.src, con := t.con, show_ := t.show_ }) ∧
      (∀ src index serial, index = s.cl.index → index ≠ 0xFFFFFFFF → ∃ t : State,
        Sys2Proof.Machine.exec (.conflict ⟨p, src⟩ index serial) s = .next t ∧ t.cl.addr = none ∧ t.cl.denied = true ∧
        t = { s with evq := t.evq, cl := t.cl, src := t.src, con := t.con, show_ := t.show_ }) ∧
      (∀ tok : ClToken, tok.assign = false → ∃ t : State, Sys2Proof.Machine.exec (.token p tok) s = .next t ∧
        t.cl.index = tok.index ∧ t.cl.denied = false ∧ t.cl.tokenPort = none ∧ t.cl.enumHere = true ∧ t.cl.enumAt = s.now ∧
        (s.cl.addrPersistent = false → t.cl.addr = none) ∧
        t = { s with evq := t.evq, cl := t.cl, src := t.src, con := t.con, show_ := t.show_ }) ∧
      (∀ tok : ClToken, tok.assign = true → clPersist s.cl.cfg = true → s.cl.denied = false → ∃ t : State,
        Sys2Proof.Machine.exec (.token p tok) s = .next t ∧ t.cl.addr = some (clPAddr s.cl.cfg) ∧
        t.cl.addrPersistent = true ∧ t.cl.enumHere = false ∧
        t = { s with evq := t.evq, cl := t.cl, src := t.src, con := t.con, show_ := t.show_ })) ∧
    (∀ tok, p ≠ 0 → s.cl.tokenPort = some p → s.isRoot = false → s.nextChild p = none → ∃ t : State,
      Sys2Proof.Machine.exec (.tokenBack p tok) s = .next t ∧ t.cl.tokenPort = none ∧
      t = { s with cl := t.cl, src := t.src, con := t.con, show_ := t.show_ }) ∧
    (s.cl.enumRunning = true → ∃ (t : State) (k : Nat), Sys2Proof.Machine.exec .enumTimeoutExpiry s = .next t ∧
      t.now = max s.now (s.cl.enumAt + u16 s.cl.cfg 6 * tuS) ∧ t.cl.enumRunning = false ∧ t.cl.enumHere = false ∧
      t.cl.enumNodes = BitVec.ofNat 32 s.cl.addressed ∧ k < 4096 ∧
      t.evq = ((s.forward (s.cl.enumAt + u16 s.cl.cfg 6 * tuS)).raise 0x0D02 0
        (1 + 16 * k + 65536 * sat 16 s.cl.addressed)).evq)


/-! ## Content store, effect outputs, sessions -/

/-- A mount judges the drive and what it reads, an operation of the drive ends, the drive is lost, a cue falls due, an
effect output comes to rest, and its fallback starts. (Parts of 19 R410 to R414, R416, R421, R423, R424, 20 R431, R432.)
The model's own choices in it: assumptions 4, 95, 98, 99. -/
def Obligations.ContentAndEffectEventsRun : Prop :=
  ∀ s : State,
    (∀ d : DriveImage, ∃ t : State, Sys2Proof.Machine.exec (.csMount d) s = .next t ∧
      (d.linkOk = false → t.cs.state = 4 ∧ t.cs.reason = 1) ∧
      (d.linkOk = true → d.controllerOk = false → t.cs.state = 4 ∧ t.cs.reason = 2) ∧
      (d.linkOk = true → d.controllerOk = true → d.namespaceOk = false ∨ 2 ^ 32 < d.lbas → t.cs.state = 4 ∧ t.cs.reason = 3) ∧
      (d.linkOk = true → d.controllerOk = true → d.namespaceOk = true → d.lbas ≤ 2 ^ 32 →
        t.cs.blocks = (d.lbas - 2048) / 256 ∧
        t.cs.unit = (if d.mdts = 0 then 64 else max 1 (min 64 (d.mdts / 4096))) ∧
        t.cs.slots = min 16 d.queues * (min 1024 (d.mqes + 1) - 1) ∧
        (pickSuper (d.superA.take 64) (d.superB.take 64) = none → t.cs.state = 2 ∧ t.cs.table = []) ∧
        (∀ r, pickSuper (d.superA.take 64) (d.superB.take 64) = some r → t.cs.state = 3 ∧ t.cs.reason = 0 ∧
          t.cs.table = (mountTable d.table).1 ∧ t.cs.superSeq = BitVec.ofNat 32 (u32 r 8))) ∧
      t.ck = { s.ck with nvRef := true } ∧
      t = { s with
        evq := t.evq, fetch := t.fetch, ck := t.ck, cs := t.cs, src := t.src, con := t.con, show_ := t.show_ }) ∧
    (∀ place o status data, s.cs.ops = [o] → place = 0 → o.tags ≠ 0 →
      (1 < o.tags → o.status = 0 → status = 0 → (∀ n no k, o.use ≠ .points n no k) →
        Sys2Proof.Machine.exec (.nvmeCompletion place status data) s = .next
          ({ s with
            fetch := { s.fetch with held := upd s.fetch.held 2 fun v => v - 1 },
            cs := { s.cs with ops := [{ o with tags := o.tags - 1, barrier := false }] } } : State).offerTags.settle) ∧
      (o.tags = 1 → o.todo = [] → o.status = 0 →
      (∀ l f p, o.use = .clipFrame l p.clip f → s.cs.plays.getD l none = some p → l < s.cs.plays.length → status = 0 →
        Sys2Proof.Machine.exec (.nvmeCompletion place status data) s = .next
          ({ s with
            fetch := { s.fetch with held := upd s.fetch.held 2 fun v => v - 1 },
            cs := { s.cs with
              ops := []
              plays := upd s.cs.plays l fun _ => some { p with landed := p.landed ++ [f] } } } : State).offerTags.settle) ∧
      (∀ l id f, o.use = .clipFrame l id f → status = 0 → (∀ p, some p ∈ s.cs.plays → p.clip ≠ id) →
        Sys2Proof.Machine.exec (.nvmeCompletion place status data) s = .next
          ({ s with
            fetch := { s.fetch with held := upd s.fetch.held 2 fun v => v - 1 },
            cs := { s.cs with ops := [] } } : State).offerTags.settle) ∧
      (∀ n no k g, o.use = .points n no k → status ≠ 0 → n < s.heads.length →
        (at_ s.heads n).segs = [g] → g.no.toNat = no → g.clip.isSome = true → g.first + g.staged = k → ∃ t : State,
        Sys2Proof.Machine.exec (.nvmeCompletion place status data) s = .next t ∧ t.cs.ops = [] ∧
        t.cs.readErrors = s.cs.readErrors + 1 ∧ (at_ t.heads n).segs = [{ g with broken := true }] ∧
        t.evq = (s.raise 0x0E02 (8 + n) (status.toNat + 65536 * (k % 65536))).evq))) ∧
    (s.cs.ops = [] → s.cs.state ≠ 0 → ∃ u : State,
      u = { s with
        free := s.free + 1
        fetch := { s.fetch with held := upd s.fetch.held 3 fun v => v - s.tags 3 }
        cs := { s.cs with state := 0, reason := 0 } } ∧
      Sys2Proof.Machine.exec .nvmeLinkLoss s = .next (u.raise 0x0E01 0 (8 * s.cs.state)).settle) ∧
    (∀ k j pl at' e, ((s.cs.players.getD k none).bind Player.dueFor).isSome = true → j < 4 →
      s.cs.players.getD j none = some pl → pl.entries[pl.next]? = some (at', e) → pl.started = true → at' ≤ pl.ticks →
      (∀ i < 4, i ≠ j → ∀ d, (s.cs.players.getD i none).bind Player.dueFor = some d →
        d < pl.ticks - at' ∨ (d = pl.ticks - at' ∧ j < i)) →
      s.mbx.clWait = [] → s.mbx.clBox.length < 16 →
      Sys2Proof.Machine.exec (.cueEntryDue k) s = .next
        ({ s with
          cs := { s.cs with players := upd s.cs.players j fun _ =>
            if pl.next + 1 < pl.entries.length then some { pl with next := pl.next + 1 } else none },
          epb := { s.epb with silentSince := s.now },
          mbx := { s.mbx with clBox := s.mbx.clBox ++ [ClWaiting.mk (.cue j pl.next) e none s.now] } }).settle) ∧
    (∀ n o ends, n < s.epb.outs.length → o = at_ s.epb.outs n → o.sending = some ends →
      (epEnable o.record && s.epbIlk n && !o.zeroSent && s.mbx.fwState == 1) = false →
      Sys2Proof.Machine.exec (.epbOutputIdle n) s = .next
        ({ s with
          now := max s.now ends,
          epb := { s.epb with outs := upd s.epb.outs n fun o => { o with sending := none } } }).settle) ∧
    (∀ n o ends, n < s.epb.outs.length → o = at_ s.epb.outs n → o.sending = some ends →
      (epEnable o.record && s.epbIlk n && !o.zeroSent && s.mbx.fwState == 1) = true → ∃ t : State,
      Sys2Proof.Machine.exec (.epbOutputIdle n) s = .next t ∧ (at_ t.epb.outs n).output = [] ∧
      (at_ t.epb.outs n).zeroSent = true ∧ (at_ t.epb.outs n).frames = o.frames + 1 ∧
      (at_ t.epb.outs n).sentAt = max s.now ends ∧ (at_ t.epb.outs n).cutOff = false ∧
      (at_ t.epb.outs n).sending = some (max s.now ends + epFrameTu o.record + epResetTu o.record)) ∧
    (∀ n o, n ≤ 3 → o = at_ s.epb.outs n → epFallback o.record = true → byteAt o.pattern 1 ≠ 0 → o.running = false →
      s.mbx.fwState = 1 → Sys2Proof.Machine.exec (.epbSilenceExpiry n) s = .next
        ({ s with
          now := max s.now (s.epb.silentSince + u16 o.record 8 * tuS),
          epb := { s.epb with outs := upd s.epb.outs n fun o =>
            { o with startWait := some 0, stopWait := none } } }).settle)

/-- A service session, its nonce and the lockout after failures end in time; a debugger halts the processor only through
the JTAG port that a session has opened. (Parts of 21 R444, R445, R455.) The model's own choices in it: assumptions 3,
102, 110. -/
def Obligations.SessionTimersRun : Prop :=
  ∀ s : State,
    (∀ x, s.sec.session = some x → ∃ u : State,
      u = { s with now := max s.now x.endsAt, sec := { s.sec with session := none, halted := false } } ∧
      Sys2Proof.Machine.exec .serviceSessionExpiry s =
        .next (u.raise 0x1001 (b2n x.cl) (2 * x.scope + 256 * (x.no.toNat % 2 ^ 24))).settle) ∧
    (∀ v at', s.sec.nonce = some (v, at') → Sys2Proof.Machine.exec .serviceNonceExpiry s = .next
      ({ s with now := max s.now (at' + 60 * tuS), sec := { s.sec with nonce := none } }).settle) ∧
    (∀ at', s.sec.lockUntil = some at' → Sys2Proof.Machine.exec .authLockoutExpiry s = .next
      ({ s with now := max s.now at', sec := { s.sec with lockUntil := none } }).settle) ∧
    (∀ halted, s.jtagOpen = true → Sys2Proof.Machine.exec (.debuggerHalt halted) s =
      .next ({ s with sec := { s.sec with halted := halted } }).settle) ∧
    (∀ halted, s.jtagOpen = false → Sys2Proof.Machine.exec (.debuggerHalt halted) s = .next s.settle)
end

