-- ==== Sys2Proof/Laws/Bytes.lean ====
section
/-! SUPPORT. Lists addressed by an index, and the canonical form that every operation on a sparse store keeps. -/
namespace Sys2Proof.Machine

/-- Two changes of one entry are one. -/
theorem upd_upd {α : Type} (l : List α) (i : Nat) (f g : α → α) :
    upd (upd l i f) i g = upd l i fun x => g (f x) := by
  simp only [upd, List.modify_modify_eq]
  rfl

@[simp] theorem upd_length {α : Type} (l : List α) (i : Nat) (f : α → α) : (upd l i f).length = l.length := by
  simp [upd]

/-- A change reaches the entry it names, if the list has it, and no other. -/
theorem at_upd {α : Type} [Inhabited α] (l : List α) (i j : Nat) (f : α → α) :
    at_ (upd l i f) j = if i = j ∧ j < l.length then f (at_ l j) else at_ l j := by
  simp only [at_, upd, List.getD_eq_getElem?_getD, List.getElem?_modify]
  by_cases h : i = j
  · subst h
    by_cases h2 : i < l.length
    · simp [h2]
    · simp [h2]
  · simp [h]

@[simp] theorem le_length (n v : Nat) : (le n v).length = n := by
  induction n generalizing v with
  | zero => rfl
  | succ n ih => simp [le, ih]

theorem spWfFrom_mono {α : Type} [DecidableEq α] (d : α) {lo lo' : Nat} (h : lo' ≤ lo) (m : Sparse α)
    (w : spWfFrom d lo m = true) : spWfFrom d lo' m = true := by
  cases m with
  | nil => rfl
  | cons x t =>
    obtain ⟨k, v⟩ := x
    simp only [spWfFrom, Bool.and_eq_true, decide_eq_true_eq] at w ⊢
    exact ⟨⟨by omega, w.1.2⟩, w.2⟩

theorem spSet_wfFrom {α : Type} [DecidableEq α] (d : α) (m : Sparse α) (lo i : Nat) (x : α) (h : lo ≤ i)
    (w : spWfFrom d lo m = true) : spWfFrom d lo (spSet d m i x) = true := by
  induction m generalizing lo with
  | nil =>
    simp only [spSet]
    split <;> simp_all [spWfFrom]
  | cons y t ih =>
    obtain ⟨k, v⟩ := y
    simp only [spWfFrom, Bool.and_eq_true, decide_eq_true_eq] at w
    obtain ⟨⟨hk, hv⟩, ht⟩ := w
    simp only [spSet]
    split
    · subst k
      split
      · exact spWfFrom_mono d (by omega) t ht
      · simp [spWfFrom, *]
    · split
      · split
        · simp [spWfFrom, *]
        · simp only [spWfFrom, Bool.and_eq_true, decide_eq_true_eq]
          exact ⟨⟨h, ‹_›⟩, ⟨by omega, hv⟩, ht⟩
      · simp only [spWfFrom, Bool.and_eq_true, decide_eq_true_eq]
        exact ⟨⟨hk, hv⟩, ih (k + 1) (by omega) ht⟩

/-- A write keeps the canonical form of a sparse store. -/
theorem spSet_wf {α : Type} [DecidableEq α] (d : α) (m : Sparse α) (i : Nat) (x : α) (w : spWf d m = true) :
    spWf d (spSet d m i x) = true := spSet_wfFrom d m 0 i x (Nat.zero_le i) w

/-- A block write keeps it. -/
theorem spPut_wf {α : Type} [DecidableEq α] (d : α) (m : Sparse α) (i : Nat) (xs : List α) (w : spWf d m = true) :
    spWf d (spPut d m i xs) = true := by
  induction xs generalizing m i with
  | nil => exact w
  | cons x xs ih => exact ih _ _ (spSet_wf d m i x w)

end Sys2Proof.Machine
end

