-- ==== Sys2Proof/Laws/State.lean ====
section
/-! SUPPORT. What the small updates of the state leave as it was: one lemma per field per update. -/
namespace Sys2Proof.Machine

/-! ## taken -/
@[simp] theorem State.taken_now (s : State) (h : Hdr) : (s.taken h).now = s.now := rfl
@[simp] theorem State.taken_free (s : State) (h : Hdr) : (s.taken h).free = s.free := rfl
@[simp] theorem State.taken_pending (s : State) (h : Hdr) : (s.taken h).pending = s.pending := rfl
@[simp] theorem State.taken_evq (s : State) (h : Hdr) : (s.taken h).evq = s.evq := rfl
@[simp] theorem State.taken_tk (s : State) (h : Hdr) : (s.taken h).tk = s.tk := rfl
@[simp] theorem State.taken_com (s : State) (h : Hdr) : (s.taken h).com = s.com := rfl
@[simp] theorem State.taken_fetch (s : State) (h : Hdr) : (s.taken h).fetch = s.fetch := rfl
@[simp] theorem State.taken_col (s : State) (h : Hdr) : (s.taken h).col = s.col := rfl
@[simp] theorem State.taken_chi (s : State) (h : Hdr) : (s.taken h).chi = s.chi := rfl
@[simp] theorem State.taken_pl (s : State) (h : Hdr) : (s.taken h).pl = s.pl := rfl
@[simp] theorem State.taken_src (s : State) (h : Hdr) : (s.taken h).src = s.src := rfl
@[simp] theorem State.taken_diag (s : State) (h : Hdr) : (s.taken h).diag = s.diag := rfl
@[simp] theorem State.taken_con (s : State) (h : Hdr) : (s.taken h).con = s.con := rfl
@[simp] theorem State.taken_heads (s : State) (h : Hdr) : (s.taken h).heads = s.heads := rfl
@[simp] theorem State.taken_axes (s : State) (h : Hdr) : (s.taken h).axes = s.axes := rfl
@[simp] theorem State.taken_ios (s : State) (h : Hdr) : (s.taken h).ios = s.ios := rfl
@[simp] theorem State.taken_show_ (s : State) (h : Hdr) : (s.taken h).show_ = s.show_ := rfl
@[simp] theorem State.taken_ck (s : State) (h : Hdr) : (s.taken h).ck = s.ck := rfl
@[simp] theorem State.taken_th (s : State) (h : Hdr) : (s.taken h).th = s.th := rfl
@[simp] theorem State.taken_cal (s : State) (h : Hdr) : (s.taken h).cal = s.cal := rfl
@[simp] theorem State.taken_pat (s : State) (h : Hdr) : (s.taken h).pat = s.pat := rfl
@[simp] theorem State.taken_ken (s : State) (h : Hdr) : (s.taken h).ken = s.ken := rfl
@[simp] theorem State.taken_cl (s : State) (h : Hdr) : (s.taken h).cl = s.cl := rfl
@[simp] theorem State.taken_cs (s : State) (h : Hdr) : (s.taken h).cs = s.cs := rfl
@[simp] theorem State.taken_sec (s : State) (h : Hdr) : (s.taken h).sec = s.sec := rfl
@[simp] theorem State.taken_boot (s : State) (h : Hdr) : (s.taken h).boot = s.boot := rfl

/-! ## deliver -/
@[simp] theorem State.deliver_now (s : State) (e : Event) : (s.deliver e).now = s.now := rfl
@[simp] theorem State.deliver_free (s : State) (e : Event) : (s.deliver e).free = s.free := rfl
@[simp] theorem State.deliver_pending (s : State) (e : Event) : (s.deliver e).pending = s.pending := rfl
@[simp] theorem State.deliver_mbx (s : State) (e : Event) : (s.deliver e).mbx = s.mbx := rfl
@[simp] theorem State.deliver_tk (s : State) (e : Event) : (s.deliver e).tk = s.tk := rfl
@[simp] theorem State.deliver_com (s : State) (e : Event) : (s.deliver e).com = s.com := rfl
@[simp] theorem State.deliver_fetch (s : State) (e : Event) : (s.deliver e).fetch = s.fetch := rfl
@[simp] theorem State.deliver_col (s : State) (e : Event) : (s.deliver e).col = s.col := rfl
@[simp] theorem State.deliver_chi (s : State) (e : Event) : (s.deliver e).chi = s.chi := rfl
@[simp] theorem State.deliver_pl (s : State) (e : Event) : (s.deliver e).pl = s.pl := rfl
@[simp] theorem State.deliver_src (s : State) (e : Event) : (s.deliver e).src = s.src := rfl
@[simp] theorem State.deliver_diag (s : State) (e : Event) : (s.deliver e).diag = s.diag := rfl
@[simp] theorem State.deliver_con (s : State) (e : Event) : (s.deliver e).con = s.con := rfl
@[simp] theorem State.deliver_heads (s : State) (e : Event) : (s.deliver e).heads = s.heads := rfl
@[simp] theorem State.deliver_axes (s : State) (e : Event) : (s.deliver e).axes = s.axes := rfl
@[simp] theorem State.deliver_ios (s : State) (e : Event) : (s.deliver e).ios = s.ios := rfl
@[simp] theorem State.deliver_show_ (s : State) (e : Event) : (s.deliver e).show_ = s.show_ := rfl
@[simp] theorem State.deliver_ck (s : State) (e : Event) : (s.deliver e).ck = s.ck := rfl
@[simp] theorem State.deliver_th (s : State) (e : Event) : (s.deliver e).th = s.th := rfl
@[simp] theorem State.deliver_cal (s : State) (e : Event) : (s.deliver e).cal = s.cal := rfl
@[simp] theorem State.deliver_pat (s : State) (e : Event) : (s.deliver e).pat = s.pat := rfl
@[simp] theorem State.deliver_ken (s : State) (e : Event) : (s.deliver e).ken = s.ken := rfl
@[simp] theorem State.deliver_cl (s : State) (e : Event) : (s.deliver e).cl = s.cl := rfl
@[simp] theorem State.deliver_cs (s : State) (e : Event) : (s.deliver e).cs = s.cs := rfl
@[simp] theorem State.deliver_epb (s : State) (e : Event) : (s.deliver e).epb = s.epb := rfl
@[simp] theorem State.deliver_sec (s : State) (e : Event) : (s.deliver e).sec = s.sec := rfl
@[simp] theorem State.deliver_boot (s : State) (e : Event) : (s.deliver e).boot = s.boot := rfl

/-! ## raise -/
@[simp] theorem State.raise_now (s : State) (c src p : Nat) : (s.raise c src p).now = s.now := rfl
@[simp] theorem State.raise_free (s : State) (c src p : Nat) : (s.raise c src p).free = s.free := rfl
@[simp] theorem State.raise_pending (s : State) (c src p : Nat) : (s.raise c src p).pending = s.pending := rfl
@[simp] theorem State.raise_mbx (s : State) (c src p : Nat) : (s.raise c src p).mbx = s.mbx := rfl
@[simp] theorem State.raise_tk (s : State) (c src p : Nat) : (s.raise c src p).tk = s.tk := rfl
@[simp] theorem State.raise_com (s : State) (c src p : Nat) : (s.raise c src p).com = s.com := rfl
@[simp] theorem State.raise_fetch (s : State) (c src p : Nat) : (s.raise c src p).fetch = s.fetch := rfl
@[simp] theorem State.raise_col (s : State) (c src p : Nat) : (s.raise c src p).col = s.col := rfl
@[simp] theorem State.raise_chi (s : State) (c src p : Nat) : (s.raise c src p).chi = s.chi := rfl
@[simp] theorem State.raise_pl (s : State) (c src p : Nat) : (s.raise c src p).pl = s.pl := rfl
@[simp] theorem State.raise_src (s : State) (c src p : Nat) : (s.raise c src p).src = s.src := rfl
@[simp] theorem State.raise_diag (s : State) (c src p : Nat) : (s.raise c src p).diag = s.diag := rfl
@[simp] theorem State.raise_con (s : State) (c src p : Nat) : (s.raise c src p).con = s.con := rfl
@[simp] theorem State.raise_heads (s : State) (c src p : Nat) : (s.raise c src p).heads = s.heads := rfl
@[simp] theorem State.raise_axes (s : State) (c src p : Nat) : (s.raise c src p).axes = s.axes := rfl
@[simp] theorem State.raise_ios (s : State) (c src p : Nat) : (s.raise c src p).ios = s.ios := rfl
@[simp] theorem State.raise_show_ (s : State) (c src p : Nat) : (s.raise c src p).show_ = s.show_ := rfl
@[simp] theorem State.raise_ck (s : State) (c src p : Nat) : (s.raise c src p).ck = s.ck := rfl
@[simp] theorem State.raise_th (s : State) (c src p : Nat) : (s.raise c src p).th = s.th := rfl
@[simp] theorem State.raise_cal (s : State) (c src p : Nat) : (s.raise c src p).cal = s.cal := rfl
@[simp] theorem State.raise_pat (s : State) (c src p : Nat) : (s.raise c src p).pat = s.pat := rfl
@[simp] theorem State.raise_ken (s : State) (c src p : Nat) : (s.raise c src p).ken = s.ken := rfl
@[simp] theorem State.raise_cl (s : State) (c src p : Nat) : (s.raise c src p).cl = s.cl := rfl
@[simp] theorem State.raise_cs (s : State) (c src p : Nat) : (s.raise c src p).cs = s.cs := rfl
@[simp] theorem State.raise_epb (s : State) (c src p : Nat) : (s.raise c src p).epb = s.epb := rfl
@[simp] theorem State.raise_sec (s : State) (c src p : Nat) : (s.raise c src p).sec = s.sec := rfl
@[simp] theorem State.raise_boot (s : State) (c src p : Nat) : (s.raise c src p).boot = s.boot := rfl

/-! ## raiseB -/
@[simp] theorem State.raiseB_now (s : State) (c src p : Nat) : (s.raiseB c src p).now = s.now := rfl
@[simp] theorem State.raiseB_free (s : State) (c src p : Nat) : (s.raiseB c src p).free = s.free := rfl
@[simp] theorem State.raiseB_pending (s : State) (c src p : Nat) : (s.raiseB c src p).pending = s.pending := rfl
@[simp] theorem State.raiseB_mbx (s : State) (c src p : Nat) : (s.raiseB c src p).mbx = s.mbx := rfl
@[simp] theorem State.raiseB_tk (s : State) (c src p : Nat) : (s.raiseB c src p).tk = s.tk := rfl
@[simp] theorem State.raiseB_com (s : State) (c src p : Nat) : (s.raiseB c src p).com = s.com := rfl
@[simp] theorem State.raiseB_fetch (s : State) (c src p : Nat) : (s.raiseB c src p).fetch = s.fetch := rfl
@[simp] theorem State.raiseB_col (s : State) (c src p : Nat) : (s.raiseB c src p).col = s.col := rfl
@[simp] theorem State.raiseB_chi (s : State) (c src p : Nat) : (s.raiseB c src p).chi = s.chi := rfl
@[simp] theorem State.raiseB_pl (s : State) (c src p : Nat) : (s.raiseB c src p).pl = s.pl := rfl
@[simp] theorem State.raiseB_src (s : State) (c src p : Nat) : (s.raiseB c src p).src = s.src := rfl
@[simp] theorem State.raiseB_diag (s : State) (c src p : Nat) : (s.raiseB c src p).diag = s.diag := rfl
@[simp] theorem State.raiseB_con (s : State) (c src p : Nat) : (s.raiseB c src p).con = s.con := rfl
@[simp] theorem State.raiseB_heads (s : State) (c src p : Nat) : (s.raiseB c src p).heads = s.heads := rfl
@[simp] theorem State.raiseB_axes (s : State) (c src p : Nat) : (s.raiseB c src p).axes = s.axes := rfl
@[simp] theorem State.raiseB_ios (s : State) (c src p : Nat) : (s.raiseB c src p).ios = s.ios := rfl
@[simp] theorem State.raiseB_show_ (s : State) (c src p : Nat) : (s.raiseB c src p).show_ = s.show_ := rfl
@[simp] theorem State.raiseB_ck (s : State) (c src p : Nat) : (s.raiseB c src p).ck = s.ck := rfl
@[simp] theorem State.raiseB_th (s : State) (c src p : Nat) : (s.raiseB c src p).th = s.th := rfl
@[simp] theorem State.raiseB_cal (s : State) (c src p : Nat) : (s.raiseB c src p).cal = s.cal := rfl
@[simp] theorem State.raiseB_pat (s : State) (c src p : Nat) : (s.raiseB c src p).pat = s.pat := rfl
@[simp] theorem State.raiseB_ken (s : State) (c src p : Nat) : (s.raiseB c src p).ken = s.ken := rfl
@[simp] theorem State.raiseB_cl (s : State) (c src p : Nat) : (s.raiseB c src p).cl = s.cl := rfl
@[simp] theorem State.raiseB_cs (s : State) (c src p : Nat) : (s.raiseB c src p).cs = s.cs := rfl
@[simp] theorem State.raiseB_epb (s : State) (c src p : Nat) : (s.raiseB c src p).epb = s.epb := rfl
@[simp] theorem State.raiseB_sec (s : State) (c src p : Nat) : (s.raiseB c src p).sec = s.sec := rfl
@[simp] theorem State.raiseB_boot (s : State) (c src p : Nat) : (s.raiseB c src p).boot = s.boot := rfl

/-! ## raiseOfs -/
@[simp] theorem State.raiseOfs_now (s : State) (c src o p : Nat) : (s.raiseOfs c src o p).now = s.now := rfl
@[simp] theorem State.raiseOfs_free (s : State) (c src o p : Nat) : (s.raiseOfs c src o p).free = s.free := rfl
@[simp] theorem State.raiseOfs_pending (s : State) (c src o p : Nat) : (s.raiseOfs c src o p).pending = s.pending := rfl
@[simp] theorem State.raiseOfs_mbx (s : State) (c src o p : Nat) : (s.raiseOfs c src o p).mbx = s.mbx := rfl
@[simp] theorem State.raiseOfs_tk (s : State) (c src o p : Nat) : (s.raiseOfs c src o p).tk = s.tk := rfl
@[simp] theorem State.raiseOfs_com (s : State) (c src o p : Nat) : (s.raiseOfs c src o p).com = s.com := rfl
@[simp] theorem State.raiseOfs_fetch (s : State) (c src o p : Nat) : (s.raiseOfs c src o p).fetch = s.fetch := rfl
@[simp] theorem State.raiseOfs_col (s : State) (c src o p : Nat) : (s.raiseOfs c src o p).col = s.col := rfl
@[simp] theorem State.raiseOfs_chi (s : State) (c src o p : Nat) : (s.raiseOfs c src o p).chi = s.chi := rfl
@[simp] theorem State.raiseOfs_pl (s : State) (c src o p : Nat) : (s.raiseOfs c src o p).pl = s.pl := rfl
@[simp] theorem State.raiseOfs_src (s : State) (c src o p : Nat) : (s.raiseOfs c src o p).src = s.src := rfl
@[simp] theorem State.raiseOfs_diag (s : State) (c src o p : Nat) : (s.raiseOfs c src o p).diag = s.diag := rfl
@[simp] theorem State.raiseOfs_con (s : State) (c src o p : Nat) : (s.raiseOfs c src o p).con = s.con := rfl
@[simp] theorem State.raiseOfs_heads (s : State) (c src o p : Nat) : (s.raiseOfs c src o p).heads = s.heads := rfl
@[simp] theorem State.raiseOfs_axes (s : State) (c src o p : Nat) : (s.raiseOfs c src o p).axes = s.axes := rfl
@[simp] theorem State.raiseOfs_ios (s : State) (c src o p : Nat) : (s.raiseOfs c src o p).ios = s.ios := rfl
@[simp] theorem State.raiseOfs_show_ (s : State) (c src o p : Nat) : (s.raiseOfs c src o p).show_ = s.show_ := rfl
@[simp] theorem State.raiseOfs_ck (s : State) (c src o p : Nat) : (s.raiseOfs c src o p).ck = s.ck := rfl
@[simp] theorem State.raiseOfs_th (s : State) (c src o p : Nat) : (s.raiseOfs c src o p).th = s.th := rfl
@[simp] theorem State.raiseOfs_cal (s : State) (c src o p : Nat) : (s.raiseOfs c src o p).cal = s.cal := rfl
@[simp] theorem State.raiseOfs_pat (s : State) (c src o p : Nat) : (s.raiseOfs c src o p).pat = s.pat := rfl
@[simp] theorem State.raiseOfs_ken (s : State) (c src o p : Nat) : (s.raiseOfs c src o p).ken = s.ken := rfl
@[simp] theorem State.raiseOfs_cl (s : State) (c src o p : Nat) : (s.raiseOfs c src o p).cl = s.cl := rfl
@[simp] theorem State.raiseOfs_cs (s : State) (c src o p : Nat) : (s.raiseOfs c src o p).cs = s.cs := rfl
@[simp] theorem State.raiseOfs_epb (s : State) (c src o p : Nat) : (s.raiseOfs c src o p).epb = s.epb := rfl
@[simp] theorem State.raiseOfs_sec (s : State) (c src o p : Nat) : (s.raiseOfs c src o p).sec = s.sec := rfl
@[simp] theorem State.raiseOfs_boot (s : State) (c src o p : Nat) : (s.raiseOfs c src o p).boot = s.boot := rfl

/-! ## forward -/
@[simp] theorem State.forward_free (s : State) (t : Nat) : (s.forward t).free = s.free := rfl
@[simp] theorem State.forward_pending (s : State) (t : Nat) : (s.forward t).pending = s.pending := rfl
@[simp] theorem State.forward_evq (s : State) (t : Nat) : (s.forward t).evq = s.evq := rfl
@[simp] theorem State.forward_mbx (s : State) (t : Nat) : (s.forward t).mbx = s.mbx := rfl
@[simp] theorem State.forward_tk (s : State) (t : Nat) : (s.forward t).tk = s.tk := rfl
@[simp] theorem State.forward_com (s : State) (t : Nat) : (s.forward t).com = s.com := rfl
@[simp] theorem State.forward_fetch (s : State) (t : Nat) : (s.forward t).fetch = s.fetch := rfl
@[simp] theorem State.forward_col (s : State) (t : Nat) : (s.forward t).col = s.col := rfl
@[simp] theorem State.forward_chi (s : State) (t : Nat) : (s.forward t).chi = s.chi := rfl
@[simp] theorem State.forward_pl (s : State) (t : Nat) : (s.forward t).pl = s.pl := rfl
@[simp] theorem State.forward_src (s : State) (t : Nat) : (s.forward t).src = s.src := rfl
@[simp] theorem State.forward_diag (s : State) (t : Nat) : (s.forward t).diag = s.diag := rfl
@[simp] theorem State.forward_con (s : State) (t : Nat) : (s.forward t).con = s.con := rfl
@[simp] theorem State.forward_heads (s : State) (t : Nat) : (s.forward t).heads = s.heads := rfl
@[simp] theorem State.forward_axes (s : State) (t : Nat) : (s.forward t).axes = s.axes := rfl
@[simp] theorem State.forward_ios (s : State) (t : Nat) : (s.forward t).ios = s.ios := rfl
@[simp] theorem State.forward_show_ (s : State) (t : Nat) : (s.forward t).show_ = s.show_ := rfl
@[simp] theorem State.forward_ck (s : State) (t : Nat) : (s.forward t).ck = s.ck := rfl
@[simp] theorem State.forward_th (s : State) (t : Nat) : (s.forward t).th = s.th := rfl
@[simp] theorem State.forward_cal (s : State) (t : Nat) : (s.forward t).cal = s.cal := rfl
@[simp] theorem State.forward_pat (s : State) (t : Nat) : (s.forward t).pat = s.pat := rfl
@[simp] theorem State.forward_ken (s : State) (t : Nat) : (s.forward t).ken = s.ken := rfl
@[simp] theorem State.forward_cl (s : State) (t : Nat) : (s.forward t).cl = s.cl := rfl
@[simp] theorem State.forward_cs (s : State) (t : Nat) : (s.forward t).cs = s.cs := rfl
@[simp] theorem State.forward_epb (s : State) (t : Nat) : (s.forward t).epb = s.epb := rfl
@[simp] theorem State.forward_sec (s : State) (t : Nat) : (s.forward t).sec = s.sec := rfl
@[simp] theorem State.forward_boot (s : State) (t : Nat) : (s.forward t).boot = s.boot := rfl

/-! ## ringReply -/
@[simp] theorem State.ringReply_now (s : State) (e : Rec) : (s.ringReply e).now = s.now := rfl
@[simp] theorem State.ringReply_free (s : State) (e : Rec) : (s.ringReply e).free = s.free := rfl
@[simp] theorem State.ringReply_pending (s : State) (e : Rec) : (s.ringReply e).pending = s.pending := rfl
@[simp] theorem State.ringReply_evq (s : State) (e : Rec) : (s.ringReply e).evq = s.evq := rfl
@[simp] theorem State.ringReply_tk (s : State) (e : Rec) : (s.ringReply e).tk = s.tk := rfl
@[simp] theorem State.ringReply_com (s : State) (e : Rec) : (s.ringReply e).com = s.com := rfl
@[simp] theorem State.ringReply_fetch (s : State) (e : Rec) : (s.ringReply e).fetch = s.fetch := rfl
@[simp] theorem State.ringReply_col (s : State) (e : Rec) : (s.ringReply e).col = s.col := rfl
@[simp] theorem State.ringReply_chi (s : State) (e : Rec) : (s.ringReply e).chi = s.chi := rfl
@[simp] theorem State.ringReply_pl (s : State) (e : Rec) : (s.ringReply e).pl = s.pl := rfl
@[simp] theorem State.ringReply_src (s : State) (e : Rec) : (s.ringReply e).src = s.src := rfl
@[simp] theorem State.ringReply_diag (s : State) (e : Rec) : (s.ringReply e).diag = s.diag := rfl
@[simp] theorem State.ringReply_con (s : State) (e : Rec) : (s.ringReply e).con = s.con := rfl
@[simp] theorem State.ringReply_heads (s : State) (e : Rec) : (s.ringReply e).heads = s.heads := rfl
@[simp] theorem State.ringReply_axes (s : State) (e : Rec) : (s.ringReply e).axes = s.axes := rfl
@[simp] theorem State.ringReply_ios (s : State) (e : Rec) : (s.ringReply e).ios = s.ios := rfl
@[simp] theorem State.ringReply_show_ (s : State) (e : Rec) : (s.ringReply e).show_ = s.show_ := rfl
@[simp] theorem State.ringReply_ck (s : State) (e : Rec) : (s.ringReply e).ck = s.ck := rfl
@[simp] theorem State.ringReply_th (s : State) (e : Rec) : (s.ringReply e).th = s.th := rfl
@[simp] theorem State.ringReply_cal (s : State) (e : Rec) : (s.ringReply e).cal = s.cal := rfl
@[simp] theorem State.ringReply_pat (s : State) (e : Rec) : (s.ringReply e).pat = s.pat := rfl
@[simp] theorem State.ringReply_ken (s : State) (e : Rec) : (s.ringReply e).ken = s.ken := rfl
@[simp] theorem State.ringReply_cl (s : State) (e : Rec) : (s.ringReply e).cl = s.cl := rfl
@[simp] theorem State.ringReply_cs (s : State) (e : Rec) : (s.ringReply e).cs = s.cs := rfl
@[simp] theorem State.ringReply_epb (s : State) (e : Rec) : (s.ringReply e).epb = s.epb := rfl
@[simp] theorem State.ringReply_sec (s : State) (e : Rec) : (s.ringReply e).sec = s.sec := rfl
@[simp] theorem State.ringReply_boot (s : State) (e : Rec) : (s.ringReply e).boot = s.boot := rfl

/-! ## park -/
@[simp] theorem State.park_now (s : State) (ahead op : Nat) (h : Hdr) (p : Rec) (key : Nat) : (s.park ahead op h p key).now = s.now := rfl
@[simp] theorem State.park_free (s : State) (ahead op : Nat) (h : Hdr) (p : Rec) (key : Nat) : (s.park ahead op h p key).free = s.free := rfl
@[simp] theorem State.park_pending (s : State) (ahead op : Nat) (h : Hdr) (p : Rec) (key : Nat) : (s.park ahead op h p key).pending = s.pending := rfl
@[simp] theorem State.park_evq (s : State) (ahead op : Nat) (h : Hdr) (p : Rec) (key : Nat) : (s.park ahead op h p key).evq = s.evq := rfl
@[simp] theorem State.park_tk (s : State) (ahead op : Nat) (h : Hdr) (p : Rec) (key : Nat) : (s.park ahead op h p key).tk = s.tk := rfl
@[simp] theorem State.park_com (s : State) (ahead op : Nat) (h : Hdr) (p : Rec) (key : Nat) : (s.park ahead op h p key).com = s.com := rfl
@[simp] theorem State.park_fetch (s : State) (ahead op : Nat) (h : Hdr) (p : Rec) (key : Nat) : (s.park ahead op h p key).fetch = s.fetch := rfl
@[simp] theorem State.park_col (s : State) (ahead op : Nat) (h : Hdr) (p : Rec) (key : Nat) : (s.park ahead op h p key).col = s.col := rfl
@[simp] theorem State.park_chi (s : State) (ahead op : Nat) (h : Hdr) (p : Rec) (key : Nat) : (s.park ahead op h p key).chi = s.chi := rfl
@[simp] theorem State.park_pl (s : State) (ahead op : Nat) (h : Hdr) (p : Rec) (key : Nat) : (s.park ahead op h p key).pl = s.pl := rfl
@[simp] theorem State.park_src (s : State) (ahead op : Nat) (h : Hdr) (p : Rec) (key : Nat) : (s.park ahead op h p key).src = s.src := rfl
@[simp] theorem State.park_diag (s : State) (ahead op : Nat) (h : Hdr) (p : Rec) (key : Nat) : (s.park ahead op h p key).diag = s.diag := rfl
@[simp] theorem State.park_con (s : State) (ahead op : Nat) (h : Hdr) (p : Rec) (key : Nat) : (s.park ahead op h p key).con = s.con := rfl
@[simp] theorem State.park_heads (s : State) (ahead op : Nat) (h : Hdr) (p : Rec) (key : Nat) : (s.park ahead op h p key).heads = s.heads := rfl
@[simp] theorem State.park_axes (s : State) (ahead op : Nat) (h : Hdr) (p : Rec) (key : Nat) : (s.park ahead op h p key).axes = s.axes := rfl
@[simp] theorem State.park_ios (s : State) (ahead op : Nat) (h : Hdr) (p : Rec) (key : Nat) : (s.park ahead op h p key).ios = s.ios := rfl
@[simp] theorem State.park_show_ (s : State) (ahead op : Nat) (h : Hdr) (p : Rec) (key : Nat) : (s.park ahead op h p key).show_ = s.show_ := rfl
@[simp] theorem State.park_ck (s : State) (ahead op : Nat) (h : Hdr) (p : Rec) (key : Nat) : (s.park ahead op h p key).ck = s.ck := rfl
@[simp] theorem State.park_th (s : State) (ahead op : Nat) (h : Hdr) (p : Rec) (key : Nat) : (s.park ahead op h p key).th = s.th := rfl
@[simp] theorem State.park_cal (s : State) (ahead op : Nat) (h : Hdr) (p : Rec) (key : Nat) : (s.park ahead op h p key).cal = s.cal := rfl
@[simp] theorem State.park_pat (s : State) (ahead op : Nat) (h : Hdr) (p : Rec) (key : Nat) : (s.park ahead op h p key).pat = s.pat := rfl
@[simp] theorem State.park_ken (s : State) (ahead op : Nat) (h : Hdr) (p : Rec) (key : Nat) : (s.park ahead op h p key).ken = s.ken := rfl
@[simp] theorem State.park_cl (s : State) (ahead op : Nat) (h : Hdr) (p : Rec) (key : Nat) : (s.park ahead op h p key).cl = s.cl := rfl
@[simp] theorem State.park_cs (s : State) (ahead op : Nat) (h : Hdr) (p : Rec) (key : Nat) : (s.park ahead op h p key).cs = s.cs := rfl
@[simp] theorem State.park_epb (s : State) (ahead op : Nat) (h : Hdr) (p : Rec) (key : Nat) : (s.park ahead op h p key).epb = s.epb := rfl
@[simp] theorem State.park_sec (s : State) (ahead op : Nat) (h : Hdr) (p : Rec) (key : Nat) : (s.park ahead op h p key).sec = s.sec := rfl
@[simp] theorem State.park_boot (s : State) (ahead op : Nat) (h : Hdr) (p : Rec) (key : Nat) : (s.park ahead op h p key).boot = s.boot := rfl

/-! ## port -/
@[simp] theorem State.port_now (s : State) (p : Nat) (f : ClPort → ClPort) : (s.port p f).now = s.now := rfl
@[simp] theorem State.port_free (s : State) (p : Nat) (f : ClPort → ClPort) : (s.port p f).free = s.free := rfl
@[simp] theorem State.port_pending (s : State) (p : Nat) (f : ClPort → ClPort) : (s.port p f).pending = s.pending := rfl
@[simp] theorem State.port_evq (s : State) (p : Nat) (f : ClPort → ClPort) : (s.port p f).evq = s.evq := rfl
@[simp] theorem State.port_mbx (s : State) (p : Nat) (f : ClPort → ClPort) : (s.port p f).mbx = s.mbx := rfl
@[simp] theorem State.port_tk (s : State) (p : Nat) (f : ClPort → ClPort) : (s.port p f).tk = s.tk := rfl
@[simp] theorem State.port_com (s : State) (p : Nat) (f : ClPort → ClPort) : (s.port p f).com = s.com := rfl
@[simp] theorem State.port_fetch (s : State) (p : Nat) (f : ClPort → ClPort) : (s.port p f).fetch = s.fetch := rfl
@[simp] theorem State.port_col (s : State) (p : Nat) (f : ClPort → ClPort) : (s.port p f).col = s.col := rfl
@[simp] theorem State.port_chi (s : State) (p : Nat) (f : ClPort → ClPort) : (s.port p f).chi = s.chi := rfl
@[simp] theorem State.port_pl (s : State) (p : Nat) (f : ClPort → ClPort) : (s.port p f).pl = s.pl := rfl
@[simp] theorem State.port_src (s : State) (p : Nat) (f : ClPort → ClPort) : (s.port p f).src = s.src := rfl
@[simp] theorem State.port_diag (s : State) (p : Nat) (f : ClPort → ClPort) : (s.port p f).diag = s.diag := rfl
@[simp] theorem State.port_con (s : State) (p : Nat) (f : ClPort → ClPort) : (s.port p f).con = s.con := rfl
@[simp] theorem State.port_heads (s : State) (p : Nat) (f : ClPort → ClPort) : (s.port p f).heads = s.heads := rfl
@[simp] theorem State.port_axes (s : State) (p : Nat) (f : ClPort → ClPort) : (s.port p f).axes = s.axes := rfl
@[simp] theorem State.port_ios (s : State) (p : Nat) (f : ClPort → ClPort) : (s.port p f).ios = s.ios := rfl
@[simp] theorem State.port_show_ (s : State) (p : Nat) (f : ClPort → ClPort) : (s.port p f).show_ = s.show_ := rfl
@[simp] theorem State.port_ck (s : State) (p : Nat) (f : ClPort → ClPort) : (s.port p f).ck = s.ck := rfl
@[simp] theorem State.port_th (s : State) (p : Nat) (f : ClPort → ClPort) : (s.port p f).th = s.th := rfl
@[simp] theorem State.port_cal (s : State) (p : Nat) (f : ClPort → ClPort) : (s.port p f).cal = s.cal := rfl
@[simp] theorem State.port_pat (s : State) (p : Nat) (f : ClPort → ClPort) : (s.port p f).pat = s.pat := rfl
@[simp] theorem State.port_ken (s : State) (p : Nat) (f : ClPort → ClPort) : (s.port p f).ken = s.ken := rfl
@[simp] theorem State.port_cs (s : State) (p : Nat) (f : ClPort → ClPort) : (s.port p f).cs = s.cs := rfl
@[simp] theorem State.port_epb (s : State) (p : Nat) (f : ClPort → ClPort) : (s.port p f).epb = s.epb := rfl
@[simp] theorem State.port_sec (s : State) (p : Nat) (f : ClPort → ClPort) : (s.port p f).sec = s.sec := rfl
@[simp] theorem State.port_boot (s : State) (p : Nat) (f : ClPort → ClPort) : (s.port p f).boot = s.boot := rfl

/-! ## pll -/
@[simp] theorem State.pll_now (s : State) (n : Nat) (f : Pll → Pll) : (s.pll n f).now = s.now := rfl
@[simp] theorem State.pll_free (s : State) (n : Nat) (f : Pll → Pll) : (s.pll n f).free = s.free := rfl
@[simp] theorem State.pll_pending (s : State) (n : Nat) (f : Pll → Pll) : (s.pll n f).pending = s.pending := rfl
@[simp] theorem State.pll_evq (s : State) (n : Nat) (f : Pll → Pll) : (s.pll n f).evq = s.evq := rfl
@[simp] theorem State.pll_mbx (s : State) (n : Nat) (f : Pll → Pll) : (s.pll n f).mbx = s.mbx := rfl
@[simp] theorem State.pll_tk (s : State) (n : Nat) (f : Pll → Pll) : (s.pll n f).tk = s.tk := rfl
@[simp] theorem State.pll_com (s : State) (n : Nat) (f : Pll → Pll) : (s.pll n f).com = s.com := rfl
@[simp] theorem State.pll_fetch (s : State) (n : Nat) (f : Pll → Pll) : (s.pll n f).fetch = s.fetch := rfl
@[simp] theorem State.pll_col (s : State) (n : Nat) (f : Pll → Pll) : (s.pll n f).col = s.col := rfl
@[simp] theorem State.pll_chi (s : State) (n : Nat) (f : Pll → Pll) : (s.pll n f).chi = s.chi := rfl
@[simp] theorem State.pll_pl (s : State) (n : Nat) (f : Pll → Pll) : (s.pll n f).pl = s.pl := rfl
@[simp] theorem State.pll_src (s : State) (n : Nat) (f : Pll → Pll) : (s.pll n f).src = s.src := rfl
@[simp] theorem State.pll_diag (s : State) (n : Nat) (f : Pll → Pll) : (s.pll n f).diag = s.diag := rfl
@[simp] theorem State.pll_con (s : State) (n : Nat) (f : Pll → Pll) : (s.pll n f).con = s.con := rfl
@[simp] theorem State.pll_heads (s : State) (n : Nat) (f : Pll → Pll) : (s.pll n f).heads = s.heads := rfl
@[simp] theorem State.pll_axes (s : State) (n : Nat) (f : Pll → Pll) : (s.pll n f).axes = s.axes := rfl
@[simp] theorem State.pll_ios (s : State) (n : Nat) (f : Pll → Pll) : (s.pll n f).ios = s.ios := rfl
@[simp] theorem State.pll_show_ (s : State) (n : Nat) (f : Pll → Pll) : (s.pll n f).show_ = s.show_ := rfl
@[simp] theorem State.pll_th (s : State) (n : Nat) (f : Pll → Pll) : (s.pll n f).th = s.th := rfl
@[simp] theorem State.pll_cal (s : State) (n : Nat) (f : Pll → Pll) : (s.pll n f).cal = s.cal := rfl
@[simp] theorem State.pll_pat (s : State) (n : Nat) (f : Pll → Pll) : (s.pll n f).pat = s.pat := rfl
@[simp] theorem State.pll_ken (s : State) (n : Nat) (f : Pll → Pll) : (s.pll n f).ken = s.ken := rfl
@[simp] theorem State.pll_cl (s : State) (n : Nat) (f : Pll → Pll) : (s.pll n f).cl = s.cl := rfl
@[simp] theorem State.pll_cs (s : State) (n : Nat) (f : Pll → Pll) : (s.pll n f).cs = s.cs := rfl
@[simp] theorem State.pll_epb (s : State) (n : Nat) (f : Pll → Pll) : (s.pll n f).epb = s.epb := rfl
@[simp] theorem State.pll_sec (s : State) (n : Nat) (f : Pll → Pll) : (s.pll n f).sec = s.sec := rfl
@[simp] theorem State.pll_boot (s : State) (n : Nat) (f : Pll → Pll) : (s.pll n f).boot = s.boot := rfl

/-! ## head -/
@[simp] theorem State.head_now (s : State) (n : Nat) (f : Head → Head) : (s.head n f).now = s.now := rfl
@[simp] theorem State.head_free (s : State) (n : Nat) (f : Head → Head) : (s.head n f).free = s.free := rfl
@[simp] theorem State.head_pending (s : State) (n : Nat) (f : Head → Head) : (s.head n f).pending = s.pending := rfl
@[simp] theorem State.head_evq (s : State) (n : Nat) (f : Head → Head) : (s.head n f).evq = s.evq := rfl
@[simp] theorem State.head_mbx (s : State) (n : Nat) (f : Head → Head) : (s.head n f).mbx = s.mbx := rfl
@[simp] theorem State.head_tk (s : State) (n : Nat) (f : Head → Head) : (s.head n f).tk = s.tk := rfl
@[simp] theorem State.head_com (s : State) (n : Nat) (f : Head → Head) : (s.head n f).com = s.com := rfl
@[simp] theorem State.head_fetch (s : State) (n : Nat) (f : Head → Head) : (s.head n f).fetch = s.fetch := rfl
@[simp] theorem State.head_col (s : State) (n : Nat) (f : Head → Head) : (s.head n f).col = s.col := rfl
@[simp] theorem State.head_chi (s : State) (n : Nat) (f : Head → Head) : (s.head n f).chi = s.chi := rfl
@[simp] theorem State.head_pl (s : State) (n : Nat) (f : Head → Head) : (s.head n f).pl = s.pl := rfl
@[simp] theorem State.head_src (s : State) (n : Nat) (f : Head → Head) : (s.head n f).src = s.src := rfl
@[simp] theorem State.head_diag (s : State) (n : Nat) (f : Head → Head) : (s.head n f).diag = s.diag := rfl
@[simp] theorem State.head_con (s : State) (n : Nat) (f : Head → Head) : (s.head n f).con = s.con := rfl
@[simp] theorem State.head_axes (s : State) (n : Nat) (f : Head → Head) : (s.head n f).axes = s.axes := rfl
@[simp] theorem State.head_ios (s : State) (n : Nat) (f : Head → Head) : (s.head n f).ios = s.ios := rfl
@[simp] theorem State.head_show_ (s : State) (n : Nat) (f : Head → Head) : (s.head n f).show_ = s.show_ := rfl
@[simp] theorem State.head_ck (s : State) (n : Nat) (f : Head → Head) : (s.head n f).ck = s.ck := rfl
@[simp] theorem State.head_th (s : State) (n : Nat) (f : Head → Head) : (s.head n f).th = s.th := rfl
@[simp] theorem State.head_cal (s : State) (n : Nat) (f : Head → Head) : (s.head n f).cal = s.cal := rfl
@[simp] theorem State.head_pat (s : State) (n : Nat) (f : Head → Head) : (s.head n f).pat = s.pat := rfl
@[simp] theorem State.head_ken (s : State) (n : Nat) (f : Head → Head) : (s.head n f).ken = s.ken := rfl
@[simp] theorem State.head_cl (s : State) (n : Nat) (f : Head → Head) : (s.head n f).cl = s.cl := rfl
@[simp] theorem State.head_cs (s : State) (n : Nat) (f : Head → Head) : (s.head n f).cs = s.cs := rfl
@[simp] theorem State.head_epb (s : State) (n : Nat) (f : Head → Head) : (s.head n f).epb = s.epb := rfl
@[simp] theorem State.head_sec (s : State) (n : Nat) (f : Head → Head) : (s.head n f).sec = s.sec := rfl
@[simp] theorem State.head_boot (s : State) (n : Nat) (f : Head → Head) : (s.head n f).boot = s.boot := rfl

/-! ## axis -/
@[simp] theorem State.axis_now (s : State) (n : Nat) (f : Axis → Axis) : (s.axis n f).now = s.now := rfl
@[simp] theorem State.axis_free (s : State) (n : Nat) (f : Axis → Axis) : (s.axis n f).free = s.free := rfl
@[simp] theorem State.axis_pending (s : State) (n : Nat) (f : Axis → Axis) : (s.axis n f).pending = s.pending := rfl
@[simp] theorem State.axis_evq (s : State) (n : Nat) (f : Axis → Axis) : (s.axis n f).evq = s.evq := rfl
@[simp] theorem State.axis_mbx (s : State) (n : Nat) (f : Axis → Axis) : (s.axis n f).mbx = s.mbx := rfl
@[simp] theorem State.axis_tk (s : State) (n : Nat) (f : Axis → Axis) : (s.axis n f).tk = s.tk := rfl
@[simp] theorem State.axis_com (s : State) (n : Nat) (f : Axis → Axis) : (s.axis n f).com = s.com := rfl
@[simp] theorem State.axis_fetch (s : State) (n : Nat) (f : Axis → Axis) : (s.axis n f).fetch = s.fetch := rfl
@[simp] theorem State.axis_col (s : State) (n : Nat) (f : Axis → Axis) : (s.axis n f).col = s.col := rfl
@[simp] theorem State.axis_chi (s : State) (n : Nat) (f : Axis → Axis) : (s.axis n f).chi = s.chi := rfl
@[simp] theorem State.axis_pl (s : State) (n : Nat) (f : Axis → Axis) : (s.axis n f).pl = s.pl := rfl
@[simp] theorem State.axis_src (s : State) (n : Nat) (f : Axis → Axis) : (s.axis n f).src = s.src := rfl
@[simp] theorem State.axis_diag (s : State) (n : Nat) (f : Axis → Axis) : (s.axis n f).diag = s.diag := rfl
@[simp] theorem State.axis_con (s : State) (n : Nat) (f : Axis → Axis) : (s.axis n f).con = s.con := rfl
@[simp] theorem State.axis_heads (s : State) (n : Nat) (f : Axis → Axis) : (s.axis n f).heads = s.heads := rfl
@[simp] theorem State.axis_ios (s : State) (n : Nat) (f : Axis → Axis) : (s.axis n f).ios = s.ios := rfl
@[simp] theorem State.axis_show_ (s : State) (n : Nat) (f : Axis → Axis) : (s.axis n f).show_ = s.show_ := rfl
@[simp] theorem State.axis_ck (s : State) (n : Nat) (f : Axis → Axis) : (s.axis n f).ck = s.ck := rfl
@[simp] theorem State.axis_th (s : State) (n : Nat) (f : Axis → Axis) : (s.axis n f).th = s.th := rfl
@[simp] theorem State.axis_cal (s : State) (n : Nat) (f : Axis → Axis) : (s.axis n f).cal = s.cal := rfl
@[simp] theorem State.axis_pat (s : State) (n : Nat) (f : Axis → Axis) : (s.axis n f).pat = s.pat := rfl
@[simp] theorem State.axis_ken (s : State) (n : Nat) (f : Axis → Axis) : (s.axis n f).ken = s.ken := rfl
@[simp] theorem State.axis_cl (s : State) (n : Nat) (f : Axis → Axis) : (s.axis n f).cl = s.cl := rfl
@[simp] theorem State.axis_cs (s : State) (n : Nat) (f : Axis → Axis) : (s.axis n f).cs = s.cs := rfl
@[simp] theorem State.axis_epb (s : State) (n : Nat) (f : Axis → Axis) : (s.axis n f).epb = s.epb := rfl
@[simp] theorem State.axis_sec (s : State) (n : Nat) (f : Axis → Axis) : (s.axis n f).sec = s.sec := rfl
@[simp] theorem State.axis_boot (s : State) (n : Nat) (f : Axis → Axis) : (s.axis n f).boot = s.boot := rfl

/-! ## io -/
@[simp] theorem State.io_now (s : State) (n : Nat) (f : AxisIo → AxisIo) : (s.io n f).now = s.now := rfl
@[simp] theorem State.io_free (s : State) (n : Nat) (f : AxisIo → AxisIo) : (s.io n f).free = s.free := rfl
@[simp] theorem State.io_pending (s : State) (n : Nat) (f : AxisIo → AxisIo) : (s.io n f).pending = s.pending := rfl
@[simp] theorem State.io_evq (s : State) (n : Nat) (f : AxisIo → AxisIo) : (s.io n f).evq = s.evq := rfl
@[simp] theorem State.io_mbx (s : State) (n : Nat) (f : AxisIo → AxisIo) : (s.io n f).mbx = s.mbx := rfl
@[simp] theorem State.io_tk (s : State) (n : Nat) (f : AxisIo → AxisIo) : (s.io n f).tk = s.tk := rfl
@[simp] theorem State.io_com (s : State) (n : Nat) (f : AxisIo → AxisIo) : (s.io n f).com = s.com := rfl
@[simp] theorem State.io_fetch (s : State) (n : Nat) (f : AxisIo → AxisIo) : (s.io n f).fetch = s.fetch := rfl
@[simp] theorem State.io_col (s : State) (n : Nat) (f : AxisIo → AxisIo) : (s.io n f).col = s.col := rfl
@[simp] theorem State.io_chi (s : State) (n : Nat) (f : AxisIo → AxisIo) : (s.io n f).chi = s.chi := rfl
@[simp] theorem State.io_pl (s : State) (n : Nat) (f : AxisIo → AxisIo) : (s.io n f).pl = s.pl := rfl
@[simp] theorem State.io_src (s : State) (n : Nat) (f : AxisIo → AxisIo) : (s.io n f).src = s.src := rfl
@[simp] theorem State.io_diag (s : State) (n : Nat) (f : AxisIo → AxisIo) : (s.io n f).diag = s.diag := rfl
@[simp] theorem State.io_con (s : State) (n : Nat) (f : AxisIo → AxisIo) : (s.io n f).con = s.con := rfl
@[simp] theorem State.io_heads (s : State) (n : Nat) (f : AxisIo → AxisIo) : (s.io n f).heads = s.heads := rfl
@[simp] theorem State.io_axes (s : State) (n : Nat) (f : AxisIo → AxisIo) : (s.io n f).axes = s.axes := rfl
@[simp] theorem State.io_show_ (s : State) (n : Nat) (f : AxisIo → AxisIo) : (s.io n f).show_ = s.show_ := rfl
@[simp] theorem State.io_ck (s : State) (n : Nat) (f : AxisIo → AxisIo) : (s.io n f).ck = s.ck := rfl
@[simp] theorem State.io_th (s : State) (n : Nat) (f : AxisIo → AxisIo) : (s.io n f).th = s.th := rfl
@[simp] theorem State.io_cal (s : State) (n : Nat) (f : AxisIo → AxisIo) : (s.io n f).cal = s.cal := rfl
@[simp] theorem State.io_pat (s : State) (n : Nat) (f : AxisIo → AxisIo) : (s.io n f).pat = s.pat := rfl
@[simp] theorem State.io_ken (s : State) (n : Nat) (f : AxisIo → AxisIo) : (s.io n f).ken = s.ken := rfl
@[simp] theorem State.io_cl (s : State) (n : Nat) (f : AxisIo → AxisIo) : (s.io n f).cl = s.cl := rfl
@[simp] theorem State.io_cs (s : State) (n : Nat) (f : AxisIo → AxisIo) : (s.io n f).cs = s.cs := rfl
@[simp] theorem State.io_epb (s : State) (n : Nat) (f : AxisIo → AxisIo) : (s.io n f).epb = s.epb := rfl
@[simp] theorem State.io_sec (s : State) (n : Nat) (f : AxisIo → AxisIo) : (s.io n f).sec = s.sec := rfl
@[simp] theorem State.io_boot (s : State) (n : Nat) (f : AxisIo → AxisIo) : (s.io n f).boot = s.boot := rfl

/-! ## arr -/
@[simp] theorem State.arr_now (s : State) (n : Nat) (f : ArrayUnit → ArrayUnit) : (s.arr n f).now = s.now := rfl
@[simp] theorem State.arr_free (s : State) (n : Nat) (f : ArrayUnit → ArrayUnit) : (s.arr n f).free = s.free := rfl
@[simp] theorem State.arr_pending (s : State) (n : Nat) (f : ArrayUnit → ArrayUnit) : (s.arr n f).pending = s.pending := rfl
@[simp] theorem State.arr_evq (s : State) (n : Nat) (f : ArrayUnit → ArrayUnit) : (s.arr n f).evq = s.evq := rfl
@[simp] theorem State.arr_mbx (s : State) (n : Nat) (f : ArrayUnit → ArrayUnit) : (s.arr n f).mbx = s.mbx := rfl
@[simp] theorem State.arr_tk (s : State) (n : Nat) (f : ArrayUnit → ArrayUnit) : (s.arr n f).tk = s.tk := rfl
@[simp] theorem State.arr_com (s : State) (n : Nat) (f : ArrayUnit → ArrayUnit) : (s.arr n f).com = s.com := rfl
@[simp] theorem State.arr_fetch (s : State) (n : Nat) (f : ArrayUnit → ArrayUnit) : (s.arr n f).fetch = s.fetch := rfl
@[simp] theorem State.arr_col (s : State) (n : Nat) (f : ArrayUnit → ArrayUnit) : (s.arr n f).col = s.col := rfl
@[simp] theorem State.arr_chi (s : State) (n : Nat) (f : ArrayUnit → ArrayUnit) : (s.arr n f).chi = s.chi := rfl
@[simp] theorem State.arr_src (s : State) (n : Nat) (f : ArrayUnit → ArrayUnit) : (s.arr n f).src = s.src := rfl
@[simp] theorem State.arr_diag (s : State) (n : Nat) (f : ArrayUnit → ArrayUnit) : (s.arr n f).diag = s.diag := rfl
@[simp] theorem State.arr_con (s : State) (n : Nat) (f : ArrayUnit → ArrayUnit) : (s.arr n f).con = s.con := rfl
@[simp] theorem State.arr_heads (s : State) (n : Nat) (f : ArrayUnit → ArrayUnit) : (s.arr n f).heads = s.heads := rfl
@[simp] theorem State.arr_axes (s : State) (n : Nat) (f : ArrayUnit → ArrayUnit) : (s.arr n f).axes = s.axes := rfl
@[simp] theorem State.arr_ios (s : State) (n : Nat) (f : ArrayUnit → ArrayUnit) : (s.arr n f).ios = s.ios := rfl
@[simp] theorem State.arr_show_ (s : State) (n : Nat) (f : ArrayUnit → ArrayUnit) : (s.arr n f).show_ = s.show_ := rfl
@[simp] theorem State.arr_ck (s : State) (n : Nat) (f : ArrayUnit → ArrayUnit) : (s.arr n f).ck = s.ck := rfl
@[simp] theorem State.arr_th (s : State) (n : Nat) (f : ArrayUnit → ArrayUnit) : (s.arr n f).th = s.th := rfl
@[simp] theorem State.arr_cal (s : State) (n : Nat) (f : ArrayUnit → ArrayUnit) : (s.arr n f).cal = s.cal := rfl
@[simp] theorem State.arr_pat (s : State) (n : Nat) (f : ArrayUnit → ArrayUnit) : (s.arr n f).pat = s.pat := rfl
@[simp] theorem State.arr_ken (s : State) (n : Nat) (f : ArrayUnit → ArrayUnit) : (s.arr n f).ken = s.ken := rfl
@[simp] theorem State.arr_cl (s : State) (n : Nat) (f : ArrayUnit → ArrayUnit) : (s.arr n f).cl = s.cl := rfl
@[simp] theorem State.arr_cs (s : State) (n : Nat) (f : ArrayUnit → ArrayUnit) : (s.arr n f).cs = s.cs := rfl
@[simp] theorem State.arr_epb (s : State) (n : Nat) (f : ArrayUnit → ArrayUnit) : (s.arr n f).epb = s.epb := rfl
@[simp] theorem State.arr_sec (s : State) (n : Nat) (f : ArrayUnit → ArrayUnit) : (s.arr n f).sec = s.sec := rfl
@[simp] theorem State.arr_boot (s : State) (n : Nat) (f : ArrayUnit → ArrayUnit) : (s.arr n f).boot = s.boot := rfl

/-! ## lane -/
@[simp] theorem State.lane_now (s : State) (n : Nat) (f : Lane → Lane) : (s.lane n f).now = s.now := rfl
@[simp] theorem State.lane_free (s : State) (n : Nat) (f : Lane → Lane) : (s.lane n f).free = s.free := rfl
@[simp] theorem State.lane_pending (s : State) (n : Nat) (f : Lane → Lane) : (s.lane n f).pending = s.pending := rfl
@[simp] theorem State.lane_evq (s : State) (n : Nat) (f : Lane → Lane) : (s.lane n f).evq = s.evq := rfl
@[simp] theorem State.lane_mbx (s : State) (n : Nat) (f : Lane → Lane) : (s.lane n f).mbx = s.mbx := rfl
@[simp] theorem State.lane_tk (s : State) (n : Nat) (f : Lane → Lane) : (s.lane n f).tk = s.tk := rfl
@[simp] theorem State.lane_com (s : State) (n : Nat) (f : Lane → Lane) : (s.lane n f).com = s.com := rfl
@[simp] theorem State.lane_fetch (s : State) (n : Nat) (f : Lane → Lane) : (s.lane n f).fetch = s.fetch := rfl
@[simp] theorem State.lane_col (s : State) (n : Nat) (f : Lane → Lane) : (s.lane n f).col = s.col := rfl
@[simp] theorem State.lane_chi (s : State) (n : Nat) (f : Lane → Lane) : (s.lane n f).chi = s.chi := rfl
@[simp] theorem State.lane_src (s : State) (n : Nat) (f : Lane → Lane) : (s.lane n f).src = s.src := rfl
@[simp] theorem State.lane_diag (s : State) (n : Nat) (f : Lane → Lane) : (s.lane n f).diag = s.diag := rfl
@[simp] theorem State.lane_con (s : State) (n : Nat) (f : Lane → Lane) : (s.lane n f).con = s.con := rfl
@[simp] theorem State.lane_heads (s : State) (n : Nat) (f : Lane → Lane) : (s.lane n f).heads = s.heads := rfl
@[simp] theorem State.lane_axes (s : State) (n : Nat) (f : Lane → Lane) : (s.lane n f).axes = s.axes := rfl
@[simp] theorem State.lane_ios (s : State) (n : Nat) (f : Lane → Lane) : (s.lane n f).ios = s.ios := rfl
@[simp] theorem State.lane_show_ (s : State) (n : Nat) (f : Lane → Lane) : (s.lane n f).show_ = s.show_ := rfl
@[simp] theorem State.lane_ck (s : State) (n : Nat) (f : Lane → Lane) : (s.lane n f).ck = s.ck := rfl
@[simp] theorem State.lane_th (s : State) (n : Nat) (f : Lane → Lane) : (s.lane n f).th = s.th := rfl
@[simp] theorem State.lane_cal (s : State) (n : Nat) (f : Lane → Lane) : (s.lane n f).cal = s.cal := rfl
@[simp] theorem State.lane_pat (s : State) (n : Nat) (f : Lane → Lane) : (s.lane n f).pat = s.pat := rfl
@[simp] theorem State.lane_ken (s : State) (n : Nat) (f : Lane → Lane) : (s.lane n f).ken = s.ken := rfl
@[simp] theorem State.lane_cl (s : State) (n : Nat) (f : Lane → Lane) : (s.lane n f).cl = s.cl := rfl
@[simp] theorem State.lane_cs (s : State) (n : Nat) (f : Lane → Lane) : (s.lane n f).cs = s.cs := rfl
@[simp] theorem State.lane_epb (s : State) (n : Nat) (f : Lane → Lane) : (s.lane n f).epb = s.epb := rfl
@[simp] theorem State.lane_sec (s : State) (n : Nat) (f : Lane → Lane) : (s.lane n f).sec = s.sec := rfl
@[simp] theorem State.lane_boot (s : State) (n : Nat) (f : Lane → Lane) : (s.lane n f).boot = s.boot := rfl

/-! ## dchan -/
@[simp] theorem State.dchan_now (s : State) (n : Nat) (f : DiagChan → DiagChan) : (s.dchan n f).now = s.now := rfl
@[simp] theorem State.dchan_free (s : State) (n : Nat) (f : DiagChan → DiagChan) : (s.dchan n f).free = s.free := rfl
@[simp] theorem State.dchan_pending (s : State) (n : Nat) (f : DiagChan → DiagChan) : (s.dchan n f).pending = s.pending := rfl
@[simp] theorem State.dchan_evq (s : State) (n : Nat) (f : DiagChan → DiagChan) : (s.dchan n f).evq = s.evq := rfl
@[simp] theorem State.dchan_mbx (s : State) (n : Nat) (f : DiagChan → DiagChan) : (s.dchan n f).mbx = s.mbx := rfl
@[simp] theorem State.dchan_tk (s : State) (n : Nat) (f : DiagChan → DiagChan) : (s.dchan n f).tk = s.tk := rfl
@[simp] theorem State.dchan_com (s : State) (n : Nat) (f : DiagChan → DiagChan) : (s.dchan n f).com = s.com := rfl
@[simp] theorem State.dchan_fetch (s : State) (n : Nat) (f : DiagChan → DiagChan) : (s.dchan n f).fetch = s.fetch := rfl
@[simp] theorem State.dchan_col (s : State) (n : Nat) (f : DiagChan → DiagChan) : (s.dchan n f).col = s.col := rfl
@[simp] theorem State.dchan_chi (s : State) (n : Nat) (f : DiagChan → DiagChan) : (s.dchan n f).chi = s.chi := rfl
@[simp] theorem State.dchan_pl (s : State) (n : Nat) (f : DiagChan → DiagChan) : (s.dchan n f).pl = s.pl := rfl
@[simp] theorem State.dchan_src (s : State) (n : Nat) (f : DiagChan → DiagChan) : (s.dchan n f).src = s.src := rfl
@[simp] theorem State.dchan_con (s : State) (n : Nat) (f : DiagChan → DiagChan) : (s.dchan n f).con = s.con := rfl
@[simp] theorem State.dchan_heads (s : State) (n : Nat) (f : DiagChan → DiagChan) : (s.dchan n f).heads = s.heads := rfl
@[simp] theorem State.dchan_axes (s : State) (n : Nat) (f : DiagChan → DiagChan) : (s.dchan n f).axes = s.axes := rfl
@[simp] theorem State.dchan_ios (s : State) (n : Nat) (f : DiagChan → DiagChan) : (s.dchan n f).ios = s.ios := rfl
@[simp] theorem State.dchan_show_ (s : State) (n : Nat) (f : DiagChan → DiagChan) : (s.dchan n f).show_ = s.show_ := rfl
@[simp] theorem State.dchan_ck (s : State) (n : Nat) (f : DiagChan → DiagChan) : (s.dchan n f).ck = s.ck := rfl
@[simp] theorem State.dchan_th (s : State) (n : Nat) (f : DiagChan → DiagChan) : (s.dchan n f).th = s.th := rfl
@[simp] theorem State.dchan_cal (s : State) (n : Nat) (f : DiagChan → DiagChan) : (s.dchan n f).cal = s.cal := rfl
@[simp] theorem State.dchan_pat (s : State) (n : Nat) (f : DiagChan → DiagChan) : (s.dchan n f).pat = s.pat := rfl
@[simp] theorem State.dchan_ken (s : State) (n : Nat) (f : DiagChan → DiagChan) : (s.dchan n f).ken = s.ken := rfl
@[simp] theorem State.dchan_cl (s : State) (n : Nat) (f : DiagChan → DiagChan) : (s.dchan n f).cl = s.cl := rfl
@[simp] theorem State.dchan_cs (s : State) (n : Nat) (f : DiagChan → DiagChan) : (s.dchan n f).cs = s.cs := rfl
@[simp] theorem State.dchan_epb (s : State) (n : Nat) (f : DiagChan → DiagChan) : (s.dchan n f).epb = s.epb := rfl
@[simp] theorem State.dchan_sec (s : State) (n : Nat) (f : DiagChan → DiagChan) : (s.dchan n f).sec = s.sec := rfl
@[simp] theorem State.dchan_boot (s : State) (n : Nat) (f : DiagChan → DiagChan) : (s.dchan n f).boot = s.boot := rfl

/-! ## calUnit -/
@[simp] theorem State.calUnit_now (s : State) (n : Nat) (f : CalUnit → CalUnit) : (s.calUnit n f).now = s.now := rfl
@[simp] theorem State.calUnit_free (s : State) (n : Nat) (f : CalUnit → CalUnit) : (s.calUnit n f).free = s.free := rfl
@[simp] theorem State.calUnit_pending (s : State) (n : Nat) (f : CalUnit → CalUnit) : (s.calUnit n f).pending = s.pending := rfl
@[simp] theorem State.calUnit_evq (s : State) (n : Nat) (f : CalUnit → CalUnit) : (s.calUnit n f).evq = s.evq := rfl
@[simp] theorem State.calUnit_mbx (s : State) (n : Nat) (f : CalUnit → CalUnit) : (s.calUnit n f).mbx = s.mbx := rfl
@[simp] theorem State.calUnit_tk (s : State) (n : Nat) (f : CalUnit → CalUnit) : (s.calUnit n f).tk = s.tk := rfl
@[simp] theorem State.calUnit_com (s : State) (n : Nat) (f : CalUnit → CalUnit) : (s.calUnit n f).com = s.com := rfl
@[simp] theorem State.calUnit_fetch (s : State) (n : Nat) (f : CalUnit → CalUnit) : (s.calUnit n f).fetch = s.fetch := rfl
@[simp] theorem State.calUnit_col (s : State) (n : Nat) (f : CalUnit → CalUnit) : (s.calUnit n f).col = s.col := rfl
@[simp] theorem State.calUnit_chi (s : State) (n : Nat) (f : CalUnit → CalUnit) : (s.calUnit n f).chi = s.chi := rfl
@[simp] theorem State.calUnit_pl (s : State) (n : Nat) (f : CalUnit → CalUnit) : (s.calUnit n f).pl = s.pl := rfl
@[simp] theorem State.calUnit_src (s : State) (n : Nat) (f : CalUnit → CalUnit) : (s.calUnit n f).src = s.src := rfl
@[simp] theorem State.calUnit_diag (s : State) (n : Nat) (f : CalUnit → CalUnit) : (s.calUnit n f).diag = s.diag := rfl
@[simp] theorem State.calUnit_con (s : State) (n : Nat) (f : CalUnit → CalUnit) : (s.calUnit n f).con = s.con := rfl
@[simp] theorem State.calUnit_heads (s : State) (n : Nat) (f : CalUnit → CalUnit) : (s.calUnit n f).heads = s.heads := rfl
@[simp] theorem State.calUnit_axes (s : State) (n : Nat) (f : CalUnit → CalUnit) : (s.calUnit n f).axes = s.axes := rfl
@[simp] theorem State.calUnit_ios (s : State) (n : Nat) (f : CalUnit → CalUnit) : (s.calUnit n f).ios = s.ios := rfl
@[simp] theorem State.calUnit_show_ (s : State) (n : Nat) (f : CalUnit → CalUnit) : (s.calUnit n f).show_ = s.show_ := rfl
@[simp] theorem State.calUnit_ck (s : State) (n : Nat) (f : CalUnit → CalUnit) : (s.calUnit n f).ck = s.ck := rfl
@[simp] theorem State.calUnit_th (s : State) (n : Nat) (f : CalUnit → CalUnit) : (s.calUnit n f).th = s.th := rfl
@[simp] theorem State.calUnit_pat (s : State) (n : Nat) (f : CalUnit → CalUnit) : (s.calUnit n f).pat = s.pat := rfl
@[simp] theorem State.calUnit_ken (s : State) (n : Nat) (f : CalUnit → CalUnit) : (s.calUnit n f).ken = s.ken := rfl
@[simp] theorem State.calUnit_cl (s : State) (n : Nat) (f : CalUnit → CalUnit) : (s.calUnit n f).cl = s.cl := rfl
@[simp] theorem State.calUnit_cs (s : State) (n : Nat) (f : CalUnit → CalUnit) : (s.calUnit n f).cs = s.cs := rfl
@[simp] theorem State.calUnit_epb (s : State) (n : Nat) (f : CalUnit → CalUnit) : (s.calUnit n f).epb = s.epb := rfl
@[simp] theorem State.calUnit_sec (s : State) (n : Nat) (f : CalUnit → CalUnit) : (s.calUnit n f).sec = s.sec := rfl
@[simp] theorem State.calUnit_boot (s : State) (n : Nat) (f : CalUnit → CalUnit) : (s.calUnit n f).boot = s.boot := rfl

/-! ## epbSet -/
@[simp] theorem State.epbSet_now (s : State) (n : Nat) (f : EffectOut → EffectOut) : (s.epbSet n f).now = s.now := rfl
@[simp] theorem State.epbSet_free (s : State) (n : Nat) (f : EffectOut → EffectOut) : (s.epbSet n f).free = s.free := rfl
@[simp] theorem State.epbSet_pending (s : State) (n : Nat) (f : EffectOut → EffectOut) : (s.epbSet n f).pending = s.pending := rfl
@[simp] theorem State.epbSet_evq (s : State) (n : Nat) (f : EffectOut → EffectOut) : (s.epbSet n f).evq = s.evq := rfl
@[simp] theorem State.epbSet_mbx (s : State) (n : Nat) (f : EffectOut → EffectOut) : (s.epbSet n f).mbx = s.mbx := rfl
@[simp] theorem State.epbSet_tk (s : State) (n : Nat) (f : EffectOut → EffectOut) : (s.epbSet n f).tk = s.tk := rfl
@[simp] theorem State.epbSet_com (s : State) (n : Nat) (f : EffectOut → EffectOut) : (s.epbSet n f).com = s.com := rfl
@[simp] theorem State.epbSet_fetch (s : State) (n : Nat) (f : EffectOut → EffectOut) : (s.epbSet n f).fetch = s.fetch := rfl
@[simp] theorem State.epbSet_col (s : State) (n : Nat) (f : EffectOut → EffectOut) : (s.epbSet n f).col = s.col := rfl
@[simp] theorem State.epbSet_chi (s : State) (n : Nat) (f : EffectOut → EffectOut) : (s.epbSet n f).chi = s.chi := rfl
@[simp] theorem State.epbSet_pl (s : State) (n : Nat) (f : EffectOut → EffectOut) : (s.epbSet n f).pl = s.pl := rfl
@[simp] theorem State.epbSet_src (s : State) (n : Nat) (f : EffectOut → EffectOut) : (s.epbSet n f).src = s.src := rfl
@[simp] theorem State.epbSet_diag (s : State) (n : Nat) (f : EffectOut → EffectOut) : (s.epbSet n f).diag = s.diag := rfl
@[simp] theorem State.epbSet_con (s : State) (n : Nat) (f : EffectOut → EffectOut) : (s.epbSet n f).con = s.con := rfl
@[simp] theorem State.epbSet_heads (s : State) (n : Nat) (f : EffectOut → EffectOut) : (s.epbSet n f).heads = s.heads := rfl
@[simp] theorem State.epbSet_axes (s : State) (n : Nat) (f : EffectOut → EffectOut) : (s.epbSet n f).axes = s.axes := rfl
@[simp] theorem State.epbSet_ios (s : State) (n : Nat) (f : EffectOut → EffectOut) : (s.epbSet n f).ios = s.ios := rfl
@[simp] theorem State.epbSet_show_ (s : State) (n : Nat) (f : EffectOut → EffectOut) : (s.epbSet n f).show_ = s.show_ := rfl
@[simp] theorem State.epbSet_ck (s : State) (n : Nat) (f : EffectOut → EffectOut) : (s.epbSet n f).ck = s.ck := rfl
@[simp] theorem State.epbSet_th (s : State) (n : Nat) (f : EffectOut → EffectOut) : (s.epbSet n f).th = s.th := rfl
@[simp] theorem State.epbSet_cal (s : State) (n : Nat) (f : EffectOut → EffectOut) : (s.epbSet n f).cal = s.cal := rfl
@[simp] theorem State.epbSet_pat (s : State) (n : Nat) (f : EffectOut → EffectOut) : (s.epbSet n f).pat = s.pat := rfl
@[simp] theorem State.epbSet_ken (s : State) (n : Nat) (f : EffectOut → EffectOut) : (s.epbSet n f).ken = s.ken := rfl
@[simp] theorem State.epbSet_cl (s : State) (n : Nat) (f : EffectOut → EffectOut) : (s.epbSet n f).cl = s.cl := rfl
@[simp] theorem State.epbSet_cs (s : State) (n : Nat) (f : EffectOut → EffectOut) : (s.epbSet n f).cs = s.cs := rfl
@[simp] theorem State.epbSet_sec (s : State) (n : Nat) (f : EffectOut → EffectOut) : (s.epbSet n f).sec = s.sec := rfl
@[simp] theorem State.epbSet_boot (s : State) (n : Nat) (f : EffectOut → EffectOut) : (s.epbSet n f).boot = s.boot := rfl

/-! ## staged -/
@[simp] theorem State.staged_now (s : State) (f : SourceSet → SourceSet) : (s.staged f).now = s.now := rfl
@[simp] theorem State.staged_free (s : State) (f : SourceSet → SourceSet) : (s.staged f).free = s.free := rfl
@[simp] theorem State.staged_pending (s : State) (f : SourceSet → SourceSet) : (s.staged f).pending = s.pending := rfl
@[simp] theorem State.staged_evq (s : State) (f : SourceSet → SourceSet) : (s.staged f).evq = s.evq := rfl
@[simp] theorem State.staged_mbx (s : State) (f : SourceSet → SourceSet) : (s.staged f).mbx = s.mbx := rfl
@[simp] theorem State.staged_tk (s : State) (f : SourceSet → SourceSet) : (s.staged f).tk = s.tk := rfl
@[simp] theorem State.staged_com (s : State) (f : SourceSet → SourceSet) : (s.staged f).com = s.com := rfl
@[simp] theorem State.staged_fetch (s : State) (f : SourceSet → SourceSet) : (s.staged f).fetch = s.fetch := rfl
@[simp] theorem State.staged_col (s : State) (f : SourceSet → SourceSet) : (s.staged f).col = s.col := rfl
@[simp] theorem State.staged_chi (s : State) (f : SourceSet → SourceSet) : (s.staged f).chi = s.chi := rfl
@[simp] theorem State.staged_pl (s : State) (f : SourceSet → SourceSet) : (s.staged f).pl = s.pl := rfl
@[simp] theorem State.staged_diag (s : State) (f : SourceSet → SourceSet) : (s.staged f).diag = s.diag := rfl
@[simp] theorem State.staged_con (s : State) (f : SourceSet → SourceSet) : (s.staged f).con = s.con := rfl
@[simp] theorem State.staged_heads (s : State) (f : SourceSet → SourceSet) : (s.staged f).heads = s.heads := rfl
@[simp] theorem State.staged_axes (s : State) (f : SourceSet → SourceSet) : (s.staged f).axes = s.axes := rfl
@[simp] theorem State.staged_ios (s : State) (f : SourceSet → SourceSet) : (s.staged f).ios = s.ios := rfl
@[simp] theorem State.staged_show_ (s : State) (f : SourceSet → SourceSet) : (s.staged f).show_ = s.show_ := rfl
@[simp] theorem State.staged_ck (s : State) (f : SourceSet → SourceSet) : (s.staged f).ck = s.ck := rfl
@[simp] theorem State.staged_th (s : State) (f : SourceSet → SourceSet) : (s.staged f).th = s.th := rfl
@[simp] theorem State.staged_cal (s : State) (f : SourceSet → SourceSet) : (s.staged f).cal = s.cal := rfl
@[simp] theorem State.staged_pat (s : State) (f : SourceSet → SourceSet) : (s.staged f).pat = s.pat := rfl
@[simp] theorem State.staged_ken (s : State) (f : SourceSet → SourceSet) : (s.staged f).ken = s.ken := rfl
@[simp] theorem State.staged_cl (s : State) (f : SourceSet → SourceSet) : (s.staged f).cl = s.cl := rfl
@[simp] theorem State.staged_cs (s : State) (f : SourceSet → SourceSet) : (s.staged f).cs = s.cs := rfl
@[simp] theorem State.staged_epb (s : State) (f : SourceSet → SourceSet) : (s.staged f).epb = s.epb := rfl
@[simp] theorem State.staged_sec (s : State) (f : SourceSet → SourceSet) : (s.staged f).sec = s.sec := rfl
@[simp] theorem State.staged_boot (s : State) (f : SourceSet → SourceSet) : (s.staged f).boot = s.boot := rfl

/-! ## tref -/
@[simp] theorem State.tref_now (s : State) (n : Nat) (f : TickRef → TickRef) : (s.tref n f).now = s.now := rfl
@[simp] theorem State.tref_free (s : State) (n : Nat) (f : TickRef → TickRef) : (s.tref n f).free = s.free := rfl
@[simp] theorem State.tref_pending (s : State) (n : Nat) (f : TickRef → TickRef) : (s.tref n f).pending = s.pending := rfl
@[simp] theorem State.tref_evq (s : State) (n : Nat) (f : TickRef → TickRef) : (s.tref n f).evq = s.evq := rfl
@[simp] theorem State.tref_mbx (s : State) (n : Nat) (f : TickRef → TickRef) : (s.tref n f).mbx = s.mbx := rfl
@[simp] theorem State.tref_com (s : State) (n : Nat) (f : TickRef → TickRef) : (s.tref n f).com = s.com := rfl
@[simp] theorem State.tref_fetch (s : State) (n : Nat) (f : TickRef → TickRef) : (s.tref n f).fetch = s.fetch := rfl
@[simp] theorem State.tref_col (s : State) (n : Nat) (f : TickRef → TickRef) : (s.tref n f).col = s.col := rfl
@[simp] theorem State.tref_chi (s : State) (n : Nat) (f : TickRef → TickRef) : (s.tref n f).chi = s.chi := rfl
@[simp] theorem State.tref_pl (s : State) (n : Nat) (f : TickRef → TickRef) : (s.tref n f).pl = s.pl := rfl
@[simp] theorem State.tref_src (s : State) (n : Nat) (f : TickRef → TickRef) : (s.tref n f).src = s.src := rfl
@[simp] theorem State.tref_diag (s : State) (n : Nat) (f : TickRef → TickRef) : (s.tref n f).diag = s.diag := rfl
@[simp] theorem State.tref_con (s : State) (n : Nat) (f : TickRef → TickRef) : (s.tref n f).con = s.con := rfl
@[simp] theorem State.tref_heads (s : State) (n : Nat) (f : TickRef → TickRef) : (s.tref n f).heads = s.heads := rfl
@[simp] theorem State.tref_axes (s : State) (n : Nat) (f : TickRef → TickRef) : (s.tref n f).axes = s.axes := rfl
@[simp] theorem State.tref_ios (s : State) (n : Nat) (f : TickRef → TickRef) : (s.tref n f).ios = s.ios := rfl
@[simp] theorem State.tref_show_ (s : State) (n : Nat) (f : TickRef → TickRef) : (s.tref n f).show_ = s.show_ := rfl
@[simp] theorem State.tref_ck (s : State) (n : Nat) (f : TickRef → TickRef) : (s.tref n f).ck = s.ck := rfl
@[simp] theorem State.tref_th (s : State) (n : Nat) (f : TickRef → TickRef) : (s.tref n f).th = s.th := rfl
@[simp] theorem State.tref_cal (s : State) (n : Nat) (f : TickRef → TickRef) : (s.tref n f).cal = s.cal := rfl
@[simp] theorem State.tref_pat (s : State) (n : Nat) (f : TickRef → TickRef) : (s.tref n f).pat = s.pat := rfl
@[simp] theorem State.tref_ken (s : State) (n : Nat) (f : TickRef → TickRef) : (s.tref n f).ken = s.ken := rfl
@[simp] theorem State.tref_cl (s : State) (n : Nat) (f : TickRef → TickRef) : (s.tref n f).cl = s.cl := rfl
@[simp] theorem State.tref_cs (s : State) (n : Nat) (f : TickRef → TickRef) : (s.tref n f).cs = s.cs := rfl
@[simp] theorem State.tref_epb (s : State) (n : Nat) (f : TickRef → TickRef) : (s.tref n f).epb = s.epb := rfl
@[simp] theorem State.tref_sec (s : State) (n : Nat) (f : TickRef → TickRef) : (s.tref n f).sec = s.sec := rfl
@[simp] theorem State.tref_boot (s : State) (n : Nat) (f : TickRef → TickRef) : (s.tref n f).boot = s.boot := rfl

/-! ## settle: everything but the sinks, `stateHeld` and `bridgeHeel` -/
theorem State.settle_eq (s : State) : s.settle = { s with
    src := s.settle.src, con := s.settle.con, show_ := s.settle.show_ } := rfl
@[simp] theorem State.settle_now (s : State) : s.settle.now = s.now := by
  rw [State.settle_eq]
@[simp] theorem State.settle_free (s : State) : s.settle.free = s.free := by
  rw [State.settle_eq]
@[simp] theorem State.settle_pending (s : State) : s.settle.pending = s.pending := by
  rw [State.settle_eq]
@[simp] theorem State.settle_evq (s : State) : s.settle.evq = s.evq := by
  rw [State.settle_eq]
@[simp] theorem State.settle_mbx (s : State) : s.settle.mbx = s.mbx := by
  rw [State.settle_eq]
@[simp] theorem State.settle_tk (s : State) : s.settle.tk = s.tk := by
  rw [State.settle_eq]
@[simp] theorem State.settle_com (s : State) : s.settle.com = s.com := by
  rw [State.settle_eq]
@[simp] theorem State.settle_fetch (s : State) : s.settle.fetch = s.fetch := by
  rw [State.settle_eq]
@[simp] theorem State.settle_col (s : State) : s.settle.col = s.col := by
  rw [State.settle_eq]
@[simp] theorem State.settle_chi (s : State) : s.settle.chi = s.chi := by
  rw [State.settle_eq]
@[simp] theorem State.settle_pl (s : State) : s.settle.pl = s.pl := by
  rw [State.settle_eq]
@[simp] theorem State.settle_diag (s : State) : s.settle.diag = s.diag := by
  rw [State.settle_eq]
@[simp] theorem State.settle_heads (s : State) : s.settle.heads = s.heads := by
  rw [State.settle_eq]
@[simp] theorem State.settle_axes (s : State) : s.settle.axes = s.axes := by
  rw [State.settle_eq]
@[simp] theorem State.settle_ios (s : State) : s.settle.ios = s.ios := by
  rw [State.settle_eq]
@[simp] theorem State.settle_ck (s : State) : s.settle.ck = s.ck := by
  rw [State.settle_eq]
@[simp] theorem State.settle_th (s : State) : s.settle.th = s.th := by
  rw [State.settle_eq]
@[simp] theorem State.settle_cal (s : State) : s.settle.cal = s.cal := by
  rw [State.settle_eq]
@[simp] theorem State.settle_pat (s : State) : s.settle.pat = s.pat := by
  rw [State.settle_eq]
@[simp] theorem State.settle_ken (s : State) : s.settle.ken = s.ken := by
  rw [State.settle_eq]
@[simp] theorem State.settle_cl (s : State) : s.settle.cl = s.cl := by
  rw [State.settle_eq]
@[simp] theorem State.settle_cs (s : State) : s.settle.cs = s.cs := by
  rw [State.settle_eq]
@[simp] theorem State.settle_epb (s : State) : s.settle.epb = s.epb := by
  rw [State.settle_eq]
@[simp] theorem State.settle_sec (s : State) : s.settle.sec = s.sec := by
  rw [State.settle_eq]
@[simp] theorem State.settle_boot (s : State) : s.settle.boot = s.boot := by
  rw [State.settle_eq]

end Sys2Proof.Machine
end

