-- ==== Sys2Proof/Laws/Answer.lean ====
section
/-! SUPPORT. What an answer changes (17 R361, R371, R378): the reply ring, the Cumaslink ports or the event queue, and no other
unit. -/
namespace Sys2Proof.Machine

/-- Everything but the mailbox, the Cumaslink unit and the event queue, which answers change. -/
def State.core (s : State) : State := { s with mbx := Mailbox.reset, cl := Cumaslink.reset, evq := ⟨[], 0, []⟩ }

@[simp] theorem State.port_core (s : State) (p : Nat) (f : ClPort → ClPort) : (s.port p f).core = s.core := rfl
@[simp] theorem State.clDiscard_core (s : State) : s.clDiscard.core = s.core := rfl
@[simp] theorem State.raise_core (s : State) (code src payload : Nat) : (s.raise code src payload).core = s.core := rfl
@[simp] theorem State.ringReply_core (s : State) (entry : Rec) : (s.ringReply entry).core = s.core := rfl

@[simp] theorem State.release_core (s : State) (h : Option Hold) : (s.release h).core = s.core := by
  cases h with
  | none => rfl
  | some h =>
    simp only [State.release]
    split <;> rfl

@[simp] theorem State.sendOne_core (s : State) (p : Nat) : (s.sendOne p).core = s.core := by
  simp only [State.sendOne]
  split
  · rfl
  · split
    · rfl
    · split
      · rfl
      · simp

theorem foldl_core {α : Type} (l : List α) (f : State → α → State) (h : ∀ s a, (f s a).core = s.core) (s : State) :
    (l.foldl f s).core = s.core := by
  induction l generalizing s with
  | nil => rfl
  | cons a l ih => exact (ih _).trans (h _ _)

@[simp] theorem State.pump_core (s : State) (p : Nat) : (s.pump p).core = s.core :=
  foldl_core _ _ (fun s _ => s.sendOne_core p) s

@[simp] theorem State.clSend_core (s : State) (p : Nat) (f : ClFrame) : (s.clSend p f).core = s.core := by
  simp only [State.clSend]
  split <;> simp

@[simp] theorem State.clSendTo_core (s : State) (dest : W16) (queue type : Nat) (payload : Rec) :
    (s.clSendTo dest queue type payload).core = s.core := by
  simp only [State.clSendTo]
  split <;> simp

/-- An answer changes the mailbox, the Cumaslink unit and the event queue at most. -/
@[simp] theorem State.answer_core (s : State) (h : Hdr) (r : Reply) : (s.answer h r).core = s.core := by
  simp only [State.answer]
  split
  · simp
  · simp
  · rfl
  · simp only [State.cueResult, State.raiseIf]
    split <;> simp

/-- So does the end of a parked command. -/
@[simp] theorem State.finish_core (s : State) (c : Parked) (code : Nat) (payload : Rec) :
    (s.finish c code payload).core = s.core := by
  simp only [State.finish]
  split
  · rfl
  · simp
    rfl

/-- Two states with the same core agree on each of its units. -/
theorem State.core_units {s t : State} (h : s.core = t.core) :
    s.now = t.now ∧ s.free = t.free ∧ s.pending = t.pending ∧ s.tk = t.tk ∧ s.com = t.com ∧ s.src = t.src ∧
      s.heads = t.heads ∧ s.axes = t.axes ∧ s.ken = t.ken ∧ s.boot = t.boot := by
  have e := fun {α : Type} (f : State → α) => congrArg f h
  exact ⟨e State.now, e State.free, e State.pending, e State.tk, e State.com, e State.src, e State.heads, e State.axes,
    e State.ken, e State.boot⟩

end Sys2Proof.Machine
end

