-- ==== Sys2Proof/Laws/Gates.lean ====
section
/-! SUPPORT. The gates at the end of every command, and that every meaning ends with them. -/
namespace Sys2Proof.Machine

theorem done_eq (s : State) : done s = .next s.settle := rfl

theorem State.settle_bridgeHeel (s : State) : s.settle.show_.bridgeHeel = s.bridgeHolds := rfl

@[simp] theorem State.settle_bridgeLost (s : State) : s.settle.show_.bridgeLost = s.show_.bridgeLost := rfl

@[simp] theorem State.seeBridge_bridgeHolds (s : State) : s.seeBridge.bridgeHolds = s.bridgeHolds := by
  simp only [State.bridgeHolds, State.seeBridge]
  cases s.show_.bridgeLost <;> cases s.show_.bridgeHeel <;> simp

@[simp] theorem State.seeBridge_allOff (s : State) : s.seeBridge.allOff = s.allOff := by
  simp only [State.allOff, State.seeBridge_bridgeHolds]
  rfl

@[simp] theorem State.seeBridge_sinksHeld (s : State) : s.seeBridge.sinksHeld = s.sinksHeld := by
  simp only [State.sinksHeld, State.seeBridge_allOff]
  rfl

@[simp] theorem State.settle_allOff (s : State) : s.settle.allOff = s.allOff :=
  s.seeBridge_allOff

@[simp] theorem State.settle_sinksHeld (s : State) : s.settle.sinksHeld = s.sinksHeld :=
  s.seeBridge_sinksHeld

/-- What conducts now follows from the plans and heads, and the sinks of a held state do not conduct. -/
theorem State.settleSink_held (s : State) (c : Nat) (k : Sink) (h : s.sinksHeld = true) : (s.settleSink c k).code = 0 := by
  simp [State.settleSink, State.pinCode, h]

/-- While a gate holds, no sink conducts. -/
theorem State.settle_held (s : State) (h : s.sinksHeld = true) : ∀ k ∈ s.settle.src.sinks, k.code = 0 := by
  intro k hk
  have h' : s.seeBridge.sinksHeld = true := by simpa using h
  simp only [State.settle, State.settleSources, List.mem_mapIdx] at hk
  obtain ⟨c, hc, rfl⟩ := hk
  exact State.settleSink_held _ _ _ h'

/-- Under a condition of 08 R191 the running tick does not qualify. -/
theorem State.settle_stateHeld (s : State) (h : s.allOff = true) : s.settle.con.stateHeld = true := by
  simp [State.settle, h]

/-- While none holds, constancy is as it was. -/
theorem State.settle_unheld (s : State) (h : s.allOff = false) : s.settle.con = s.con := by
  simp [State.settle, h]; rfl

/-- The gates hold after `settle`, whatever the state was. -/
theorem State.settle_gatesHold (s : State) : s.settle.gatesHold := by
  refine ⟨fun h => s.settle_held (by rwa [State.settle_sinksHeld] at h),
    fun h => s.settle_stateHeld (by rwa [State.settle_allOff] at h), fun h => ?_⟩
  rw [State.settle_bridgeHeel] at h
  simp only [State.bridgeHolds, Bool.and_eq_true, Bool.or_eq_true, List.any_eq_true, beq_iff_eq] at h
  simp only [State.settle_bridgeLost, State.settle_axes]
  grind

/-- Every meaning ends with the gates. -/
theorem exec_done (i : Instr) (s : State) : ∃ t, exec i s = done t := by
  cases i <;> exact ⟨_, rfl⟩

/-- No command stops the block. -/
theorem exec_next (i : Instr) (s : State) : ∃ t, exec i s = .next t := by
  obtain ⟨t, h⟩ := exec_done i s
  exact ⟨t.settle, h⟩

end Sys2Proof.Machine
end

