-- ==== Sys2Proof/Laws/Boundary.lean ====
section
/-! SUPPORT. What a tick boundary (01 R21, 02 R29) leaves to its opening: every unit's part of the boundary keeps the timeline, the
axes, the boot state and the security state. -/
namespace Sys2Proof.Machine

/-- The part of the state that only the opening of a tick changes at its boundary. -/
def ticksOf (o : Bool) (n : W32) (st pl : Nat) (sl : Option Nat) (ax : List Axis) (b : Boot) (x : Security) := (o, n, st, pl, sl, ax, b, x)
def State.ticks (s : State) := ticksOf s.tk.open_ s.tk.tick s.tk.start s.tk.prevLen s.tk.slot s.axes s.boot s.sec
@[simp] theorem ticksOf_eq (s : State) : ticksOf s.tk.open_ s.tk.tick s.tk.start s.tk.prevLen s.tk.slot s.axes s.boot s.sec = s.ticks := rfl
@[simp] theorem ticks_mk {now free pending evq mbx tk com fetch col chi pl src diag con heads axes ios show_ ck th cal pat ken cl cs epb sec boot} : (State.mk now free pending evq mbx tk com fetch col chi pl src diag con heads axes ios show_ ck th cal pat ken cl cs epb sec boot).ticks = ticksOf tk.open_ tk.tick tk.start tk.prevLen tk.slot axes boot sec := rfl

theorem foldl_ticks {α : Type} (l : List α) (f : State → α → State) (h : ∀ s a, (f s a).ticks = s.ticks) (s : State) : (l.foldl f s).ticks = s.ticks := by
  induction l generalizing s with
  | nil => rfl
  | cons a l ih => exact (ih _).trans (h _ _)

@[simp] theorem State.forward_ticks (s : State) (t : Nat) : (s.forward t).ticks = s.ticks := by
  rfl
@[simp] theorem State.deliver_ticks (s : State) (e : Event) : (s.deliver e).ticks = s.ticks := by
  rfl
@[simp] theorem State.raiseB_ticks (s : State) (code src payload : Nat) : (s.raiseB code src payload).ticks = s.ticks := by
  rfl
@[simp] theorem State.sourceBoundary_ticks (s : State) (t : W32) (len : Nat) : (s.sourceBoundary t len).ticks = s.ticks := by
  unfold State.sourceBoundary; simp [apply_ite State.ticks]
@[simp] theorem State.lightIn_ticks (s : State) (i : Nat) (f : LightIn → LightIn) : (s.lightIn i f).ticks = s.ticks := by
  rfl
@[simp] theorem State.raise_ticks (s : State) (code src payload : Nat) : (s.raise code src payload).ticks = s.ticks := by
  rfl
@[simp] theorem State.senseFault_ticks (s : State) (i : Nat) (f : Option Nat) : (s.senseFault i f).ticks = s.ticks := by
  unfold State.senseFault
  simp
  (repeat' split) <;> simp
@[simp] theorem State.judgeInput_ticks (s : State) (i : Nat) : (s.judgeInput i).ticks = s.ticks := by
  unfold State.judgeInput
  (repeat' split) <;> first
    | with_reducible rfl
    | (simp; done)
    | (simp; (repeat' split) <;> simp)
@[simp] theorem State.dropDead_ticks (s : State) : (s.dropDead).ticks = s.ticks := by
  rfl
@[simp] theorem State.constancyEnd_ticks (s : State) (len : Nat) : (s.constancyEnd len).ticks = s.ticks := by
  unfold State.constancyEnd; simp [foldl_ticks]
@[simp] theorem State.trace_ticks (s : State) (a p : Nat) (f : Trace → Trace) : (s.trace a p f).ticks = s.ticks := by
  rfl
@[simp] theorem State.captureNow_ticks (s : State) : (s.captureNow).ticks = s.ticks := by
  unfold State.captureNow; simp [foldl_ticks]
@[simp] theorem State.judgeConf_ticks (s : State) (p : Nat) : (s.judgeConf p).ticks = s.ticks := by
  unfold State.judgeConf; simp [apply_ite State.ticks]
@[simp] theorem State.constancyBoundary_ticks (s : State) : (s.constancyBoundary).ticks = s.ticks := by
  unfold State.constancyBoundary; simp [apply_ite State.ticks, foldl_ticks]
@[simp] theorem State.stepEvent_ticks (s : State) (src new old reason : Nat) : (s.stepEvent src new old reason).ticks = s.ticks := by
  rfl
@[simp] theorem State.throttleBoundary_ticks (s : State) : (s.throttleBoundary).ticks = s.ticks := by
  unfold State.throttleBoundary
  simp
  (repeat' split) <;> simp
@[simp] theorem State.layerRun_ticks (s : State) (l : Nat) (f : LayerRun → LayerRun) : (s.layerRun l f).ticks = s.ticks := by
  rfl
@[simp] theorem State.takeTags_ticks (s : State) (cls n : Nat) : (s.takeTags cls n).ticks = s.ticks := by
  rfl
@[simp] theorem State.wake_ticks (s : State) : (s.wake).ticks = s.ticks := by
  rfl
@[simp] theorem State.nextAsk_ticks (s : State) : (s.nextAsk).ticks = s.ticks := by
  rfl
@[simp] theorem State.refuseAt_ticks (s : State) (i : Nat) : (s.refuseAt i).ticks = s.ticks := by
  unfold State.refuseAt; split <;> rfl
@[simp] theorem State.issueAt_ticks (s : State) (cls i : Nat) : (s.issueAt cls i).ticks = s.ticks := by
  unfold State.issueAt; simp [apply_ite State.ticks]
@[simp] theorem State.issueFence_ticks (s : State) (i : Nat) : (s.issueFence i).ticks = s.ticks := by
  unfold State.issueFence; simp [apply_ite State.ticks]
@[simp] theorem State.pumpReads_ticks (s : State) (cls : Nat) : (s.pumpReads cls).ticks = s.ticks := by
  have h (l : List (Nat × Bool × Nat)) : (l.foldl (fun (s : State) x => if x.2.1 then s.issueFence x.2.2 else s.issueAt cls x.2.2) s).ticks
      = s.ticks := foldl_ticks _ _ (fun s x => by split <;> simp) _
  exact h (s.waiting cls)
@[simp] theorem State.pumpOps_ticks (n : Nat) (s : State) : (s.pumpOps n).ticks = s.ticks := by
  induction n generalizing s with
  | zero => rfl
  | succ n ih =>
    unfold State.pumpOps
    split
    · rfl
    · simp [ih, apply_ite State.ticks]
@[simp] theorem State.offerTags_ticks (s : State) : (s.offerTags).ticks = s.ticks := by
  simp [State.offerTags]
@[simp] theorem State.addReads_ticks (s : State) (u : ReadUser) (cls n : Nat) (host : Bool) (buf : Buffer) (key : Nat) : (s.addReads u cls n host buf key).ticks = s.ticks := by
  unfold State.addReads; split <;> simp
@[simp] theorem State.linkUp_ticks (s : State) : (s.linkUp).ticks = s.ticks := by
  unfold State.linkUp; split <;> simp
@[simp] theorem State.askRow_ticks (s : State) (l plane row : Nat) : (s.askRow l plane row).ticks = s.ticks := by
  unfold State.askRow; simp [apply_ite State.ticks]
@[simp] theorem State.askLayer_ticks (s : State) (l r : Nat) : (s.askLayer l r).ticks = s.ticks := by
  unfold State.askLayer; simp [apply_ite State.ticks, foldl_ticks]
@[simp] theorem State.fetchAhead_ticks (s : State) (r : Nat) : (s.fetchAhead r).ticks = s.ticks := by
  unfold State.fetchAhead; simp [foldl_ticks]
@[simp] theorem State.judgeFence_ticks (s : State) (i : Nat) : (s.judgeFence i).ticks = s.ticks := by
  unfold State.judgeFence; simp [apply_ite State.ticks]
@[simp] theorem State.latchFences_ticks (s : State) : (s.latchFences).ticks = s.ticks := by
  unfold State.latchFences; simp [apply_ite State.ticks, foldl_ticks]
@[simp] theorem State.judgeFences_ticks (s : State) : (s.judgeFences).ticks = s.ticks := by
  unfold State.judgeFences; simp [foldl_ticks]
@[simp] theorem State.pumpFences_ticks (s : State) : (s.pumpFences).ticks = s.ticks := by
  simp [State.pumpFences]
@[simp] theorem State.discardReads_ticks (s : State) (l : Nat) : (s.discardReads l).ticks = s.ticks := by
  rfl
@[simp] theorem State.endFrame_ticks (s : State) : (s.endFrame).ticks = s.ticks := by
  unfold State.endFrame; simp [foldl_ticks]
@[simp] theorem State.beginFrame_ticks (s : State) : (s.beginFrame).ticks = s.ticks := by
  unfold State.beginFrame; simp [apply_ite State.ticks]
@[simp] theorem State.swapFrames_ticks (s : State) : (s.swapFrames).ticks = s.ticks := by
  unfold State.swapFrames; split <;> simp
@[simp] theorem State.sink_ticks (s : State) (c : Nat) (f : Sink → Sink) : (s.sink c f).ticks = s.ticks := by
  rfl
@[simp] theorem State.unplan_ticks (s : State) (cs : List Nat) : (s.unplan cs).ticks = s.ticks := by
  unfold State.unplan; simp [foldl_ticks]
@[simp] theorem State.moveEmitters_ticks (s : State) (old : SourceSet) : (s.moveEmitters old).ticks = s.ticks := by
  unfold State.moveEmitters; rfl
@[simp] theorem State.dchan_ticks (s : State) (c : Nat) (f : DiagChan → DiagChan) : (s.dchan c f).ticks = s.ticks := by
  rfl
@[simp] theorem State.roleChange_ticks (s : State) (old : SourceSet) : (s.roleChange old).ticks = s.ticks := by
  unfold State.roleChange; simp [apply_ite State.ticks, foldl_ticks]
@[simp] theorem State.putSources_ticks (s : State) (set : SourceSet) : (s.putSources set).ticks = s.ticks := by
  simp [State.putSources]
@[simp] theorem State.sourceApplied_ticks (s : State) (no : Option W32) : (s.sourceApplied no).ticks = s.ticks := by
  unfold State.sourceApplied; split <;> simp
@[simp] theorem State.ltrSend_ticks (s : State) (x : Option Nat) (t : Nat) : (s.ltrSend x t).ticks = s.ticks := by
  rfl
@[simp] theorem State.ltrFalls_ticks (t n : Nat) (s : State) : (State.ltrFalls t n s).ticks = s.ticks := by
  induction n generalizing s with
  | zero => rfl
  | succ n ih => unfold State.ltrFalls; simp [ih, apply_ite State.ticks]
theorem State.ltrFalls_eq (t n : Nat) (s : State) : State.ltrFalls t n s = { s with fetch := (State.ltrFalls t n s).fetch } := by
  induction n generalizing s with
  | zero => rfl
  | succ n ih =>
    unfold State.ltrFalls
    simp only
    split
    · rfl
    · rw [ih]; rfl
theorem State.ltrTo_eq (s : State) (t : Nat) : s.ltrTo t = { s with fetch := (s.ltrTo t).fetch } := by
  unfold State.ltrTo
  split
  · exact State.ltrFalls_eq ..
  · rfl
@[simp] theorem State.ltrTo_tk (s : State) (t : Nat) : (s.ltrTo t).tk = s.tk := by rw [State.ltrTo_eq]
@[simp] theorem State.ltrTo_ticks (s : State) (t : Nat) : (s.ltrTo t).ticks = s.ticks := by
  unfold State.ltrTo; split <;> simp
@[simp] theorem State.leavePlinth_ticks (s : State) (reason : Nat) : (s.leavePlinth reason).ticks = s.ticks := by
  unfold State.leavePlinth; split <;> simp
@[simp] theorem State.goLive_ticks (s : State) (p : Pending) : (s.goLive p).ticks = s.ticks := by
  unfold State.goLive; split <;> simp [apply_ite State.ticks]
@[simp] theorem State.switchCast_ticks (s : State) : (s.switchCast).ticks = s.ticks := by
  unfold State.switchCast; split <;> simp
@[simp] theorem State.enterPlinth_ticks (s : State) (committed : Bool) : (s.enterPlinth committed).ticks = s.ticks := by
  unfold State.enterPlinth; split <;> simp [apply_ite State.ticks]
@[simp] theorem State.smallSettings_ticks (s : State) : (s.smallSettings).ticks = s.ticks := by
  unfold State.smallSettings
  (repeat' split) <;> first
    | with_reducible rfl
    | (simp; done)
    | (simp; (repeat' split) <;> simp)
@[simp] theorem State.configBoundary_ticks (s : State) : (s.configBoundary).ticks = s.ticks := by
  unfold State.configBoundary
  simp
  (repeat' split) <;> simp
@[simp] theorem State.lane_ticks (s : State) (n : Nat) (f : Lane → Lane) : (s.lane n f).ticks = s.ticks := by
  rfl
@[simp] theorem State.restoreLane_ticks (s : State) (n : Nat) : (s.restoreLane n).ticks = s.ticks := by
  unfold State.restoreLane; split <;> simp [apply_ite State.ticks]
@[simp] theorem State.setCast_ticks (s : State) (c : CastChoice) (reason : Nat) : (s.setCast c reason).ticks = s.ticks := by
  unfold State.setCast; simp [apply_ite State.ticks]
@[simp] theorem State.arr_ticks (s : State) (a : Nat) (f : ArrayUnit → ArrayUnit) : (s.arr a f).ticks = s.ticks := by
  rfl
@[simp] theorem State.judgeDegraded_ticks (s : State) (a : Nat) : (s.judgeDegraded a).ticks = s.ticks := by
  unfold State.judgeDegraded; simp [apply_ite State.ticks]
@[simp] theorem State.newMap_ticks (s : State) (a : Nat) (mask : BitVec 96) : (s.newMap a mask).ticks = s.ticks := by
  rfl
@[simp] theorem State.runBoundary_ticks (s : State) (a : Nat) : (s.runBoundary a).ticks = s.ticks := by
  unfold State.runBoundary; simp [apply_ite State.ticks]
@[simp] theorem State.countLoads_ticks (s : State) : (s.countLoads).ticks = s.ticks := by
  rfl
@[simp] theorem State.castBoundary_ticks (s : State) (before : Option Nat) (switched : Bool) : (s.castBoundary before switched).ticks = s.ticks := by
  unfold State.castBoundary; simp [apply_ite State.ticks, foldl_ticks]
@[simp] theorem State.tref_ticks (s : State) (id : Nat) (f : TickRef → TickRef) : (s.tref id f).ticks = s.ticks := by
  rfl
@[simp] theorem State.loseSource_ticks (s : State) (id reason : Nat) : (s.loseSource id reason).ticks = s.ticks := by
  unfold State.loseSource
  have h (f) : (s.tref id f).ticks = s.ticks := State.tref_ticks ..
  split
  · dsimp only
    split
    · exact h fun r => { r with valid := false }
    · exact h _
  · rfl
@[simp] theorem State.rejudgeSources_ticks (s : State) : (s.rejudgeSources).ticks = s.ticks := by
  unfold State.rejudgeSources; simp [apply_ite State.ticks]
@[simp] theorem State.genlockBoundary_ticks (s : State) : (s.genlockBoundary).ticks = s.ticks := by
  unfold State.genlockBoundary; split <;> simp [apply_ite State.ticks]
@[simp] theorem State.pll_ticks (s : State) (n : Nat) (f : Pll → Pll) : (s.pll n f).ticks = s.ticks := by
  rfl
@[simp] theorem State.endRamp_ticks (s : State) (n reason : Nat) : (s.endRamp n reason).ticks = s.ticks := by
  unfold State.endRamp; simp [apply_ite State.ticks]
@[simp] theorem State.dropGoal_ticks (s : State) (new : Nat) (v : Bool) : (s.dropGoal new v).ticks = s.ticks := by
  unfold State.dropGoal; (repeat' split) <;> first
    | rfl
    | exact State.endRamp_ticks s 1 2
@[simp] theorem State.phaseAtBoundary_ticks (s : State) (b : Bool) : (s.phaseAtBoundary b).ticks = s.ticks := by
  unfold State.phaseAtBoundary; (repeat' split) <;> rfl
@[simp] theorem State.switchSource_ticks (s : State) : (s.switchSource).ticks = s.ticks := by
  unfold State.switchSource
  simp only [apply_ite State.ticks]
  (repeat' split) <;> simp
@[simp] theorem State.stampCheck_ticks (s : State) : (s.stampCheck).ticks = s.ticks := by
  unfold State.stampCheck; split <;> simp
@[simp] theorem State.sourceOfTick_ticks (s : State) (mode : Bool) : (s.sourceOfTick mode).ticks = s.ticks := by
  unfold State.sourceOfTick; simp [apply_ite State.ticks]
@[simp] theorem State.pumpAll_ticks (s : State) : (s.pumpAll).ticks = s.ticks := by
  simp [State.pumpAll]
@[simp] theorem State.refresh_ticks (s : State) : (s.refresh).ticks = s.ticks := by
  rfl
@[simp] theorem State.plinthRefresh_ticks (s : State) : (s.plinthRefresh).ticks = s.ticks := by
  unfold State.plinthRefresh; split <;> simp
@[simp] theorem State.supplyJudge_ticks (s : State) (b : Nat) : (s.supplyJudge b).ticks = s.ticks := by
  unfold State.supplyJudge; simp [apply_ite State.ticks, foldl_ticks]
@[simp] theorem State.endRound_ticks (s : State) : (s.endRound).ticks = s.ticks := by
  rfl
@[simp] theorem State.roundCheck_ticks (s : State) : (s.roundCheck).ticks = s.ticks := by
  unfold State.roundCheck State.roundOver; simp [apply_ite State.ticks]
@[simp] theorem State.countWaiting_ticks (s : State) : (s.countWaiting).ticks = s.ticks := by
  unfold State.countWaiting; simp [apply_ite State.ticks, foldl_ticks]
@[simp] theorem State.diagBoundary_ticks (s : State) : (s.diagBoundary).ticks = s.ticks := by
  unfold State.diagBoundary; simp [apply_ite State.ticks, foldl_ticks]
@[simp] theorem State.epbSet_ticks (s : State) (n : Nat) (f : EffectOut → EffectOut) : (s.epbSet n f).ticks = s.ticks := by
  rfl
@[simp] theorem State.epbSend_ticks (s : State) (n : Nat) : (s.epbSend n).ticks = s.ticks := by
  rfl
@[simp] theorem State.epbZero_ticks (s : State) (n : Nat) : (s.epbZero n).ticks = s.ticks := by
  unfold State.epbZero; simp [apply_ite State.ticks]
@[simp] theorem State.epbEvent_ticks (s : State) (n st reason : Nat) : (s.epbEvent n st reason).ticks = s.ticks := by
  rfl
@[simp] theorem State.epbStop_ticks (s : State) (n : Nat) : (s.epbStop n).ticks = s.ticks := by
  unfold State.epbStop
  (repeat' split) <;> rfl
@[simp] theorem State.epbStart_ticks (s : State) (n : Nat) : (s.epbStart n).ticks = s.ticks := by
  unfold State.epbStart
  (repeat' split) <;> rfl
@[simp] theorem State.epbTick_ticks (s : State) (n : Nat) : (s.epbTick n).ticks = s.ticks := by
  unfold State.epbTick
  simp
  (repeat' split) <;> simp
@[simp] theorem State.epbBoundary_ticks (s : State) : (s.epbBoundary).ticks = s.ticks := by
  simp [State.epbBoundary]
@[simp] theorem State.pchan_ticks (s : State) (c : Nat) (f : PatinaChan → PatinaChan) : (s.pchan c f).ticks = s.ticks := by
  rfl
@[simp] theorem State.patinaAlert_ticks (s : State) (unit kind value : Nat) : (s.patinaAlert unit kind value).ticks = s.ticks := by
  rfl
@[simp] theorem State.takeFree_ticks (s : State) : (s.takeFree).2.ticks = s.ticks := by
  rfl
@[simp] theorem State.judgeEmitter_ticks (s : State) (c : Nat) : (s.judgeEmitter c).ticks = s.ticks := by
  have h : ∀ e : Option Rat, (match e with
      | some e => ((roundRat (e * 16384)).toNat, s)
      | none => (Config.free s.takeFree.1, s.takeFree.2)).2.ticks = s.ticks := fun e => by cases e <;> simp
  simp only [State.judgeEmitter]
  repeat' split
  all_goals rfl
@[simp] theorem State.takePoints_ticks (s : State) (c : Nat) : (s.takePoints c).ticks = s.ticks := by
  unfold State.takePoints; split <;> simp
@[simp] theorem State.patinaBoundary_ticks (s : State) (len : Nat) : (s.patinaBoundary len).ticks = s.ticks := by
  unfold State.patinaBoundary; simp [apply_ite State.ticks, foldl_ticks]
@[simp] theorem State.calBoundary_ticks (s : State) : (s.calBoundary).ticks = s.ticks := by
  rfl
@[simp] theorem State.clDev_ticks (s : State) : (s.clDev).2.ticks = s.ticks := by
  unfold State.clDev
  split
  rename_i h
  have := State.takeFree_ticks s
  rw [h] at this
  exact this
@[simp] theorem State.port_ticks (s : State) (p : Nat) (f : ClPort → ClPort) : (s.port p f).ticks = s.ticks := by
  rfl
@[simp] theorem State.symbolAt_ticks (s : State) (p : Nat) (t : Int) (o : ClOut) : (s.symbolAt p t o).ticks = s.ticks := by
  unfold State.symbolAt; split <;> simp
@[simp] theorem State.toChildren_ticks (s : State) (t : Int) (o : ClOut) : (s.toChildren t o).ticks = s.ticks := by
  unfold State.toChildren; simp [foldl_ticks]
@[simp] theorem State.advanceTime_ticks (s : State) (len : Nat) : (s.advanceTime len).ticks = s.ticks := by
  rfl
@[simp] theorem State.ownTime_ticks (s : State) (len : Nat) : (s.ownTime len).ticks = s.ticks := by
  unfold State.ownTime; split <;> simp [apply_ite State.ticks]
@[simp] theorem State.keepTime_ticks (s : State) : (s.keepTime).ticks = s.ticks := by
  unfold State.keepTime; split <;> simp [apply_ite State.ticks]
@[simp] theorem State.clBoundary_ticks (s : State) (len : Nat) : (s.clBoundary len).ticks = s.ticks := by
  simp only [State.clBoundary]; split <;> simp
@[simp] theorem State.addOp_ticks (s : State) (u : NvmeUse) (l : List DriveStep) : (s.addOp u l).ticks = s.ticks := by
  simp [State.addOp]
@[simp] theorem State.stageLayer_ticks (s : State) (l : Nat) : (s.stageLayer l).ticks = s.ticks := by
  unfold State.stageLayer; split <;> simp [apply_ite State.ticks, foldl_ticks]
@[simp] theorem State.stageHead_ticks (s : State) (n : Nat) : (s.stageHead n).ticks = s.ticks := by
  simp only [State.stageHead]
  split
  · split
    · rfl
    · simp
  · rfl
@[simp] theorem State.csBoundary_ticks (s : State) : (s.csBoundary).ticks = s.ticks := by
  unfold State.csBoundary; simp [apply_ite State.ticks, foldl_ticks]
@[simp] theorem State.effectBoundary_ticks (s : State) : (s.effectBoundary).ticks = s.ticks := by
  rfl
@[simp] theorem State.unitBoundaries_ticks (s : State) (len : Nat) : (s.unitBoundaries len).ticks = s.ticks := by
  simp [State.unitBoundaries]
/-- A boundary at which no renumbering is due opens the next tick where the running one ends; everything else it does keeps
the timeline. -/
theorem State.boundary_ticks (s : State) (h : s.tk.open_ = true) (hr : s.tk.renumberDue = false) :
    s.boundary.ticks = (({ s with now := max s.now (s.tk.start + s.tk.len) } : State).openTick (s.tk.start + s.tk.len) (s.tk.tick + 1) false).ticks := by
  have hn : ((s.ltrTo (s.tk.start + s.tk.len)).forward (s.tk.start + s.tk.len)).nextNumber (s.tk.start + s.tk.len) =
      (s.tk.tick + 1, false) := by
    simp [State.nextNumber, State.forward, hr]
  simp [State.boundary, h, hn]
  simp [State.openTick, State.forward]
  rw [State.ltrTo_eq]
end Sys2Proof.Machine
end

