-- ==== Sys2Proof/Laws/Mailbox.lean ====
section
/-! SUPPORT. What taking a mailbox command that is begun at once does, by what its own rules answer (17 R366). -/
namespace Sys2Proof.Machine

theorem State.accepts_isHere {s : State} {h : Hdr} (a : s.accepts h) : (s.taken h).isHere h = true := a.2.1

@[simp] theorem State.taken_pendingCount (s : State) (h : Hdr) : (s.taken h).pendingCount = s.pendingCount := by
  simp only [State.pendingCount, State.taken, State.countTake, Mailbox.countTake]
  split <;> rfl

@[simp] theorem State.taken_fwState (s : State) (h : Hdr) : (s.taken h).mbx.fwState = s.mbx.fwState := by
  simp only [State.taken, State.countTake, Mailbox.countTake]
  split <;> rfl

@[simp] theorem State.taken_parked (s : State) (h : Hdr) : (s.taken h).mbx.parked = s.mbx.parked := by
  simp only [State.taken, State.countTake, Mailbox.countTake]
  split <;> rfl

/-- A command that is begun runs its own rules on the state that has taken it. -/
theorem State.command_runs {s : State} {c : Cmd} {h : Hdr} {p : Rec} (a : s.accepts h) (hop : c.op ≠ 0x0100)
    (hl : c.len p = true) (hp : p.length ≤ 240) (hk : c.parks p = true → s.pendingCount < 16) :
    s.command c h p = (s.taken h).runHere c h p false := by
  obtain ⟨hf, hh, hs⟩ := a
  have h1 : ¬(h.origin = Origin.pcie ∧ s.slotFree = false) := by
    rintro ⟨ho, hn⟩
    rw [hs ho] at hn
    exact Bool.noConfusion hn
  have hf' : (s.taken h).mbx.fwState = 1 := by rw [State.taken_fwState, hf]
  have h4 : ¬(c.parks p = true ∧ 16 ≤ (s.taken h).pendingCount) := by
    rintro ⟨hq, hn⟩
    rw [State.taken_pendingCount] at hn
    exact absurd (hk hq) (by omega)
  have e : (s.countTake h).stirs c.op = s.taken h := by rw [State.stirs, if_neg hop]; rfl
  rw [State.command, if_neg h1, State.dispatch, if_neg hop, e, hf', if_neg (by decide), if_neg (by decide)]
  simp only [State.begin]
  rw [if_neg (by omega), if_pos (show (s.taken h).isHere h = true from hh), if_neg (by simp [hl]), if_neg h4]

/-- A command that its rules answer at once. -/
theorem State.command_reply {s t : State} {c : Cmd} {h : Hdr} {p pay : Rec} {code : Nat} (a : s.accepts h)
    (hop : c.op ≠ 0x0100) (hl : c.len p = true) (hp : p.length ≤ 240) (hk : c.parks p = true → s.pendingCount < 16)
    (hr : c.run h p (s.taken h) = (.reply code pay, t)) :
    s.command c h p = t.answer h { op := c.op, tag := h.tag, code := code, payload := pay } := by
  rw [State.command_runs a hop hl hp hk]
  simp only [State.runHere, hr]

/-- A command that its rules park. -/
theorem State.command_park {s t : State} {c : Cmd} {h : Hdr} {p : Rec} {key : Nat} (a : s.accepts h)
    (hop : c.op ≠ 0x0100) (hl : c.len p = true) (hp : p.length ≤ 240) (hk : c.parks p = true → s.pendingCount < 16)
    (hr : c.run h p (s.taken h) = (.park key, t)) :
    s.command c h p = t.park ((s.taken h).writesAhead (key % 8)) c.op h p key := by
  rw [State.command_runs a hop hl hp hk]
  simp only [State.runHere, hr]

end Sys2Proof.Machine
end

