-- ==== Sys2Proof/Machine/Wire.lean ====
section
/-! DEFINITION. What leaves the device bit by bit: the blocks, packets and stripes of the plane link (chapter 07), the
symbols and frames of Cumaslink (chapter 18), the code of an effect output (chapter 20). Each is a function of what
State records. -/
namespace Sys2Proof.Machine

/-- A cyclic redundancy check, most significant bit first: width `n`, polynomial, start value, over bytes. -/
def crcMsb (n poly : Nat) (start : Nat) (data : List Byte) : Nat :=
  data.foldl (fun (c : Nat) (b : Byte) =>
    (List.range 8).foldl (fun c _ => if c.testBit (n - 1) then (2 * c ^^^ poly) % 2 ^ n else 2 * c % 2 ^ n)
      (c ^^^ b.toNat * 2 ^ (n - 8))) start

/-! ## Blocks of the plane link (07 R146, R147) -/

/-- A 66-bit block: a control or a data block, and its payload. -/
structure PlBlock where
  control : Bool
  payload : W64
  deriving DecidableEq, Repr, Inhabited

def ctrl (v : Nat) : PlBlock := ⟨true, BitVec.ofNat 64 v⟩

def blkIdle : PlBlock := ctrl 0x1E
def blkTrain (lane array : Nat) : PlBlock := ctrl (0x2D + 2 ^ 8 * lane + 2 ^ 16 * array)
def blkAlign (lane : Nat) (bip : Byte) (epoch : Nat) : PlBlock :=
  ctrl (0x33 + 2 ^ 8 * lane + 2 ^ 16 * bip.toNat + 2 ^ 24 * epoch)
def blkTick (no : W16) : PlBlock := ctrl (0x4B + 2 ^ 8 * no.toNat)
def blkLaneMap (part epoch : Nat) (mask : BitVec 96) : PlBlock :=
  ctrl (0x55 + 2 ^ 8 * part + 2 ^ 9 * epoch + 2 ^ 13 * bits mask.toNat (48 * part + 47) (48 * part))
def blkReset (block : Option Nat) (clear : Bool) (delay seq : Nat) : PlBlock :=
  ctrl (0x66 + 2 ^ 8 * b2n block.isSome + 2 ^ 9 * b2n clear + 2 ^ 16 * delay + 2 ^ 24 * seq + 2 ^ 32 * block.getD 0 +
    2 ^ 40 * b2n block.isSome)
/-- HEADER; the arguments stand at their bits of the payload. -/
def blkHeader (type args : Nat) (prev : Nat) : PlBlock := ctrl (0x78 + 2 ^ 8 * type + 2 ^ 16 * prev + args)

/-- The DELAY of a RESET whose stripe ends at `fin` and that executes at `x` (07 R157). -/
def resetDelay (x fin : Nat) : Nat := x - fin - 48

/-- The instants at which the stripe of a RESET may end (07 R157). -/
def resetStripeOk (x fin : Nat) : Bool := decide (fin + 48 ≤ x) && decide (x ≤ fin + 303)

/-- The BIP-8 of the payloads sent on a lane between two ALIGN blocks: the parity of each bit of every byte. -/
def bip8 (l : List W64) : Byte := l.foldl (fun (c : Byte) (p : W64) => (List.range 8).foldl (fun (c : Byte) (i : Nat) => c ^^^ (p >>> (8 * i)).setWidth 8) c) 0

/-- The self-synchronous scrambler x^58 + x^39 + 1; `hist` holds the bits sent on the lane before, the last one first. -/
def scramble : List Bool → List Bool → List Bool
  | _, [] => []
  | hist, b :: l =>
    let o := xor b (xor (hist.getD 38 false) (hist.getD 57 false))
    o :: scramble ((o :: hist).take 58) l

/-- The bits of a block in the order sent: the sync header, then the payload scrambled, bit 0 first. -/
def PlBlock.sent (b : PlBlock) (hist : List Bool) : List Bool :=
  [b.control, !b.control] ++ scramble hist ((List.range 64).map fun i => b.payload.getLsbD i)

/-! ## Packets of the plane link (07 R149 to R152) -/

/-- A packet: PKT_TYPE, ARGS at their bits, data blocks. -/
structure PlPacket where
  type : Nat
  args : Nat
  data : List W64
  deriving DecidableEq, Repr, Inhabited

/-- The check of a packet's data blocks; 0xFFFF without any (07 R152). -/
def packetCrc (data : List W64) : Nat := crcMsb 16 0x1021 0xFFFF (data.map fun d => le 8 d.toNat).flatten

/-- A mirror of a load: on where the plane of the frame has a 1 inside the section's active area (06 R130, 07 R151). -/
def mirrorOn (ox oy : Nat) (plane : Option (Nat × Nat)) (frame : List (List (List Nat))) (row col : Nat) : Bool :=
  match plane with
  | none => false
  | some (p, b) => decide (oy ≤ row ∧ ox ≤ col) && (((frame.getD (row - oy) []).getD (col - ox) []).getD p 0).testBit b

/-- The data blocks of one row of a load. -/
def loadRow (cols ox oy : Nat) (plane : Option (Nat × Nat)) (frame : List (List (List Nat))) (row : Nat) : List W64 :=
  (List.range (cols / 64)).map fun m =>
    BitVec.ofNat 64 (maskOf ((List.range 64).map fun j => mirrorOn ox oy plane frame row (64 * m + j)))

/-- The packets of what is sent. -/
def PlOut.packets : PlOut → List PlPacket
  | .load seq rows cols ox oy plane frame =>
    let k := ceilDiv 256 (cols / 64)
    ((List.range (ceilDiv rows k)).map fun i =>
      let n := min k (rows - k * i)
      ⟨1, 2 ^ 32 * (k * i) + 2 ^ 44 * (n - 1) + 2 ^ 52 * seq,
        ((List.range n).map fun j => loadRow cols ox oy plane frame (k * i + j)).flatten⟩) ++
      [⟨2, 2 ^ 32 * rows + 2 ^ 44 * seq, []⟩]
  | .command cmd seq arg => [⟨3, 2 ^ 32 * cmd + 2 ^ 40 * seq, [BitVec.ofNat 64 arg]⟩, ⟨0, 0, []⟩]
  | .tick _ => []
  | .laneMap _ _ => []
  | .reset _ _ _ _ => []

/-- The replicated blocks of what is sent, the stripe of a RESET ending at `fin`. DELAY is 0 in a RESET of training, for which 07 states no
instant (DESIGN CHOICE, assumption 130). -/
def PlOut.replicated (fin : Nat) : PlOut → List PlBlock
  | .tick no => [blkTick no]
  | .laneMap e m => [blkLaneMap 0 e m, blkLaneMap 1 e m]
  | .reset b c (some x) seq => [blkReset b c (resetDelay x fin) seq]
  | .reset b c none seq => [blkReset b c 0 seq]
  | .load _ _ _ _ _ _ _ => []
  | .command _ _ _ => []

/-- The packet stream: each HEADER carries the check of the packet before it. -/
def packetStream : Nat → List PlPacket → List PlBlock
  | _, [] => []
  | prev, p :: l => blkHeader p.type p.args prev :: p.data.map (fun d => ⟨false, d⟩) ++ packetStream (packetCrc p.data) l

/-- Stripes over n lanes in service, filled up with IDLE (07 R148); `k` bounds the stripes. -/
def stripes (n : Nat) : Nat → List PlBlock → List (List PlBlock)
  | 0, _ => []
  | k + 1, l => if l = [] then [] else ((l.take n) ++ List.replicate (n - l.length) blkIdle) :: stripes n k (l.drop n)

/-- The lanes of a lane map in ascending physical order. -/
def maskLanes (m : BitVec 96) : List Nat := (List.range 96).filter fun n => m.getLsbD n

/-- The stripes of an array's traffic over the lanes in service, each block with the physical lane it goes on (07 R148): a replicated
block fills a stripe, the packet stream runs over the lanes in ascending order, and a LANE_MAP takes effect at the first stripe after
its second block. The stripe of a RESET ends `lead` + 48 tu before it executes. -/
def wireStripes (lead : Nat) : List Nat → Nat → List PlOut → List (List (Nat × PlBlock))
  | _, _, [] => []
  | lanes, prev, o :: l =>
    let fin := match o with
      | .reset _ _ (some x) _ => x - 48 - lead
      | _ => 0
    let whole := (o.replicated fin).map fun b => lanes.map fun n => (n, b)
    let blocks := packetStream prev o.packets
    let striped := (stripes lanes.length blocks.length blocks).map fun k => List.zip lanes k
    let prev := match o.packets.getLast? with
      | some p => packetCrc p.data
      | none => prev
    let lanes := match o with
      | .laneMap _ m => maskLanes m
      | _ => lanes
    whole ++ striped ++ wireStripes lead lanes prev l

/-- What a lane of an array carries besides the packet stream (07 R160): nothing in electrical idle, else TRAIN or IDLE, and
the block times between two ALIGN blocks. -/
def laneFiller (state lane array : Nat) : Option (PlBlock × Option Nat) := match state with
  | 2 => some (blkTrain lane array, none)
  | 3 => some (blkIdle, some 256)
  | 4 => some (blkIdle, some 256)
  | 5 => some (blkIdle, some 16384)
  | 6 => some (blkIdle, some 16384)
  | _ => none

/-- What a lane carries besides the packet stream: nothing outside the split, before its transmitter has started and in a trip; a lane
that is being retrained while its array runs carries TRAIN until it locks, and then ALIGN as in training (07 R169). -/
def State.laneSends (s : State) (n : Nat) : Option (PlBlock × Option Nat) := match s.laneArray n with
  | none => none
  | some a =>
    let l := at_ s.pl.lanes n
    if s.inTrip ∨ s.laneStarted n = false then none
    else if (s.array a).state = 5 ∧ l.attempt ∧ l.ok = false then
      (if l.lockedAt.isNone then some (blkTrain n a, none) else some (blkIdle, some 256))
    else laneFiller (s.array a).state n a

/-! ## Symbols and frames of Cumaslink (18 R386, R387, R390) -/

/-- A symbol's data bytes and the CRC-8 over them, inverted where the node forwards a bad one (18 R389). -/
def symbolBytes (data : List Byte) (bad : Bool) : List Byte :=
  let c := BitVec.ofNat 8 (crcMsb 8 0x07 0 data)
  data ++ [if bad then ~~~c else c]

/-- A frame: header, payload and CRC-32. -/
def frameBytes (type : Nat) (h : ClHdr) (flags : Nat) (payload : List Byte) : List Byte :=
  let r := le 1 type ++ le 1 (flags % 128 + 128 * b2n h.srcValid) ++ le 2 h.dest.toNat ++
    le 2 (if h.srcValid then h.src.toNat else 0) ++ le 2 payload.length ++ payload
  r ++ le 4 (crc32 r).toNat

/-- The data bytes of what leaves a port; the TURN of DELAY_RSP is what the device measures. -/
def ClOut.bytes (o : ClOut) (turn : Nat) : List Byte := match o with
  | .frame t h f p => frameBytes t h f p
  | .tick no hops depth acc bad => symbolBytes (le 4 no.toNat ++ le 2 hops.toNat ++ le 2 depth.toNat ++ le 4 acc.toNat) bad
  | .time ns bad => symbolBytes (le 8 ns.toNat) bad
  | .delayReq q => symbolBytes [q] false
  | .delayRsp q => symbolBytes (q :: le 2 turn) false
  | .credit rsp freed => symbolBytes [if rsp then 1 else 0, freed] false
  | .portId role flags addr => symbolBytes (le 1 role ++ le 1 flags ++ le 2 addr.toNat) false

/-- A character of the line: a K character or a data character, by its byte, K x.y and D x.y being x + 32 y. -/
structure ClChar where
  k : Bool
  byte : Byte
  deriving DecidableEq, Repr, Inhabited

def kChar (x y : Nat) : ClChar := ⟨true, BitVec.ofNat 8 (x + 32 * y)⟩
def dChar (b : Byte) : ClChar := ⟨false, b⟩

/-- The K character that starts a symbol or opens a frame. -/
def ClOut.start : ClOut → ClChar
  | .frame _ _ _ _ => kChar 27 7
  | .portId _ _ _ => kChar 28 0
  | .tick _ _ _ _ _ => kChar 28 1
  | .time _ _ => kChar 28 2
  | .delayReq _ => kChar 28 3
  | .delayRsp _ => kChar 28 4
  | .credit _ _ => kChar 23 7

def ClOut.isFrame : ClOut → Bool
  | .frame _ _ _ _ => true
  | _ => false

/-- The characters of what leaves a port (18 R387): a frame closes with K29.7. -/
def ClOut.chars (o : ClOut) (turn : Nat) : List ClChar :=
  o.start :: (o.bytes turn).map dChar ++ (if o.isFrame then [kChar 29 7] else [])

/-- The order of what waits for a port: TICK, TIME, DELAY_RSP, DELAY_REQ, CREDIT; frames last (18 R388). -/
def ClOut.rank : ClOut → Nat
  | .tick _ _ _ _ _ => 0
  | .time _ _ => 1
  | .delayRsp _ => 2
  | .delayReq _ => 3
  | .credit _ _ => 4
  | .portId _ _ _ => 5
  | .frame _ _ _ _ => 6

/-- The line of a port between two characters: what is left of the symbol and of the frame being sent, what has not begun. -/
structure ClLine where
  sym : List ClChar
  frame : List ClChar
  wait : List (Int × ClOut)
  deriving Inhabited

/-- The next of those waiting that may begin: the lowest rank, of equals the first. -/
def firstOf (l : List (Int × ClOut)) : Option (Int × ClOut) :=
  l.foldl (fun (b : Option (Int × ClOut)) x => match b with
    | none => some x
    | some y => if x.2.rank < y.2.rank then some x else b) none

/-- A TICK begins with the character nearest its instant; nothing else begins before it is due. -/
def clDue (t : Int) (x : Int × ClOut) : Bool := decide (x.1 ≤ if x.2.rank = 0 then t + 128 else t)

/-- The character that a port sends at instant `t`, in 1/64 ns, and the line after it (18 R387, R388). Symbols go between the characters
of a frame; but for a TICK none begins in the 60 ns before a TICK is due. IDLE fills the line, and where it would run into a TICK only
its first character is sent (DEDUCED, assumption 133). -/
def ClLine.next (l : ClLine) (turn : Nat) (t : Int) : ClChar × ClLine :=
  let hold := l.wait.any fun x => x.2.rank == 0 && decide (t < x.1) && decide (x.1 ≤ t + 60 * 64)
  let ready := l.wait.filter (clDue t)
  let begin_ := fun (x : Int × ClOut) => (x.2.start, (x.2.chars turn).tail, l.wait.erase x)
  match l.sym with
  | c :: rest => (c, { l with sym := rest })
  | [] =>
    match firstOf (ready.filter fun x => !x.2.isFrame && (x.2.rank == 0 || !hold)) with
    | some x => let (c, rest, w) := begin_ x
      (c, { l with sym := rest, wait := w })
    | none => match l.frame with
      | c :: rest => (c, { l with frame := rest })
      | [] => match firstOf (ready.filter fun x => x.2.isFrame) with
        | some x => let (c, rest, w) := begin_ x
          (c, { l with frame := rest, wait := w })
        | none =>
          let cut := l.wait.any fun x => x.2.rank == 0 && clDue (t + 256) x
          (kChar 28 5, if cut then l else { l with sym := [dChar 0x50] })

/-- `n` characters of a port from instant `t` on, one every 4 ns. -/
def ClLine.send (turn : Nat) : Nat → Int → ClLine → List ClChar
  | 0, _, _ => []
  | n + 1, t, l =>
    let (c, l) := l.next turn t
    c :: ClLine.send turn n (t + 256) l

/-- What a port sends in `n` characters from instant `t` on; a port that is down or disabled is in electrical idle (18 R407). -/
def State.clLine (s : State) (p turn n : Nat) (t : Int) : List ClChar :=
  let q := at_ s.cl.ports p
  if q.state = 0 ∨ q.state = 3 ∨ s.inTrip then [] else ClLine.send turn n t ⟨[], [], q.wire⟩

/-! ## The 8b/10b code (18 R386; PRESUMED, assumption 133) -/

/-- The six bits of the low five at negative disparity, sent from the left. -/
def code6 : List String :=
  ["100111", "011101", "101101", "110001", "110101", "101001", "011001", "111000", "111001", "100101", "010101", "110100", "001101",
   "101100", "011100", "010111", "011011", "100011", "010011", "110010", "001011", "101010", "011010", "111010", "110011", "100110",
   "010110", "110110", "001110", "101110", "011110", "101011"]

/-- The four bits of the high three at negative disparity, of a data and of a K character. -/
def code4 : List String := ["1011", "1001", "0101", "1100", "1101", "1010", "0110", "1110"]
def code4K : List String := ["1011", "0110", "1010", "1100", "1101", "0101", "1001", "0111"]

def codeBits (s : String) : List Bool := s.toList.map fun c => c == '1'

/-- A group as sent at a disparity, `plus` positive, and the disparity after it: unbalanced groups, and those named in `swap`, are
complemented at positive disparity. -/
def codeGroup (g : List Bool) (swap plus : Bool) : List Bool × Bool :=
  let ones := (g.filter id).length
  let even := 2 * ones == g.length
  ((if plus && (!even || swap) then g.map not else g), if even then plus else !plus)

/-- The ten bits of a character at a running disparity, in the order sent, and the disparity after them. -/
def code10 (c : ClChar) (plus : Bool) : List Bool × Bool :=
  let x := c.byte.toNat % 32
  let y := c.byte.toNat / 32
  let (a, mid) := codeGroup (codeBits (if c.k ∧ x = 28 then "001111" else code6.getD x "")) (x == 7) plus
  let alt := y == 7 && (c.k || (!mid && (x == 17 || x == 18 || x == 20)) || (mid && (x == 11 || x == 13 || x == 14)))
  let (b, after) := codeGroup (codeBits (if alt then "0111" else (if c.k then code4K else code4).getD y "")) (c.k || y == 3) mid
  (a ++ b, after)

/-- The bits of a row of characters. -/
def code10s : List ClChar → Bool → List Bool
  | [], _ => []
  | c :: l, plus =>
    let (b, plus) := code10 c plus
    b ++ code10s l plus

/-! ## The code of an effect output (20 R426, R427) -/

/-- The bytes of a frame: each pixel's components in the order of ORDER. -/
def epbFrame (r : Rec) (pixels : Sparse Byte) : List Byte :=
  ((List.range (epLength r)).map fun i => (List.range (byteAt r 2)).map fun k =>
    spGet 0 pixels (4 * i + bits (byteAt r 3) (2 * k + 1) (2 * k))).flatten

/-- High and low times of a frame's bits, in tu, each byte's most significant bit first. -/
def epbCode (bytes : List Byte) : List (Nat × Nat) :=
  (bytes.map fun b => ((List.range 8).map fun i => if b.getLsbD (7 - i) then (280, 220) else (140, 360))).flatten

/-- The bits of the frame that an output sends, from `sentAt` on: all of it, or those up to its cut-off. -/
def State.epbWire (s : State) (n : Nat) : List (Nat × Nat) :=
  let o := s.epbOut n
  match o.sending with
  | some t => (epbCode (epbFrame o.record o.output)).take ((t - epResetTu o.record - o.sentAt) / 500)
  | none => []

/-- The level of an output's line (20 R426): high in the first part of each bit, low in a reset and while idle. -/
def State.epbLevel (s : State) (n : Nat) : Bool :=
  let d := s.now - (s.epbOut n).sentAt
  match (s.epbWire n)[d / 500]? with
  | some b => decide (d % 500 < b.1)
  | none => false

/-! ## PTH and SYNC_OUT (02 R42, R43) -/

/-- The level of SYNC_OUT: low while it is not enabled, else active during its pulse. -/
def State.syncOutLevel (s : State) : Bool :=
  bit s.tk.syncOutCtl.toNat 0 && decide (s.now < s.tk.syncUntil) == bit s.tk.syncOutCtl.toNat 1

end Sys2Proof.Machine
end

