-- ==== Sys2Proof/Machine/Pins.lean ====
section
/-! DEFINITION. The levels of the output pins (24 R486, R494, R497) as State gives them: before a unit starts, while it runs, and with the
supplies absent. -/
namespace Sys2Proof.Machine

/-- An output pin, or a group of pins that hold one level. -/
inductive Pin where
  | snk (c : Nat)
  | drv (a : Nat)
  | pwm (a i : Nat)
  | ssiClk (a : Nat)
  | pth (i : Nat)
  | syncOut
  | epb (n : Nat)
  | planeLink (lane : Nat)
  | cumaslink (port : Nat)
  | hostLink
  | driveLink
  | driveClock
  | drivePerst
  | flash
  | tdo
  deriving DecidableEq, Repr

/-- What a pin shows. `code` is that of a sink that conducts, `volts` a DAC code at ±2.5 V full scale about 1.65 V common mode, `duty` the on-time
of each PWM period in tu, `idle` electrical idle; a pin that carries a signal is `running`. -/
inductive PinLevel where
  | highZ
  | low
  | high
  | off
  | idle
  | code (n : Nat)
  | volts (code : Int)
  | duty (tu : Nat)
  | running
  deriving DecidableEq, Repr

def PinLevel.ofBool (b : Bool) : PinLevel := if b then .high else .low

/-- The pins with VDD_IO or VA33 absent (24 R486). -/
def Pin.unpowered : Pin → PinLevel
  | .snk _ => .off
  | .planeLink _ | .cumaslink _ | .hostLink | .driveLink => .idle
  | .driveClock | .drivePerst => .low
  | _ => .highZ

/-! ## The clock of an SSI encoder (13 R286, 24 R494) -/

/-- Its period in tu. -/
def ssiPeriod (r : Rec) : Nat := 4 * byteAt r 0x17

/-- The falling edges of a frame: the one that latches the position, then one for each bit that the encoder shifts out. -/
def ssiEdges (r : Rec) : Nat := 1 + ioSsiBits r + ioSsiStatus r + (if ioSsiCrc r then 6 else 0)

/-- The first falling edge of the frame for the sample at `t`: the last half period ends 100 tu before it. -/
def ssiLatch (r : Rec) (t : Nat) : Nat := t - 100 - (ssiEdges r * ssiPeriod r - ssiPeriod r / 2)

/-- AXn_SSI_CLK: high but for the first half of each period of a frame. -/
def State.ssiClk (s : State) (a : Nat) : Bool :=
  let x := at_ s.ios a
  let t := ssiLatch x.record (s.nextSample a)
  s.boot.porstLow || !x.started s.now || ioKind x.record != 2 || decide (s.now < t) ||
    decide (ssiEdges x.record * ssiPeriod x.record ≤ s.now - t) || decide (ssiPeriod x.record / 2 ≤ (s.now - t) % ssiPeriod x.record)

/-! ## Every output -/

/-- The level of a pin with the supplies in range. -/
def State.pinLevel (s : State) : Pin → PinLevel
  | .snk c =>
    let n := s.pinCode c (at_ s.src.sinks c) s.now
    if n = 0 then .off else .code n
  | .drv a => .volts (at_ s.ios a).dac
  | .pwm a i => match (at_ s.ios a).duties.getD i 0 with
    | 0 => .low
    | n => .duty n
  | .ssiClk a => .ofBool (s.ssiClk a)
  | .pth i => .ofBool (bit s.tk.pth i)
  | .syncOut => .ofBool s.syncOutLevel
  | .epb n => .ofBool (s.epbLevel n)
  | .planeLink n => if s.boot.porstLow ∨ s.laneSends n = none then .idle else .running
  | .cumaslink p => if s.boot.porstLow ∨ clEnabled s.cl.cfg p = false then .idle else .running
  | .hostLink => if s.boot.porstLow ∨ s.mbx.linkUp = false then .idle else .running
  | .driveLink => if s.ck.nvRef then .running else .idle
  | .driveClock => if s.nvRefclk then .running else .low
  | .drivePerst => .ofBool s.ck.nvRef
  | .flash => if s.boot.porstLow ∨ s.mbx.fwState = 5 then .highZ else .running
  | .tdo => if s.jtagOpen then .running else .highZ

end Sys2Proof.Machine
end

