-- ==== Sys2Proof/WellFormed.lean ====
section
/-! DEFINITION. Well-formed commands: every index names a unit that the device has, and every payload fits its entry. A
meaning is total all the same: an index of no unit changes nothing. -/
namespace Sys2Proof

def inRangeB (lo hi v : Nat) : Bool := decide (lo ≤ v) && decide (v ≤ hi)
/-- Units of 01 R27. -/
def okArray (a : Nat) : Bool := decide (a < 4)
def okLane (n : Nat) : Bool := decide (n < 96)
def okHead (n : Nat) : Bool := decide (n < 4)
def okAxis (a : Nat) : Bool := decide (a < 16)
def okChannel (c : Nat) : Bool := decide (c < 192)
def okZone (z : Nat) : Bool := decide (z < 16)
def okPort (p : Nat) : Bool := decide (p < 3)
def okWord (v : Nat) : Bool := decide (v < 65536)
def okWindows (l : List WindowObs) : Bool := l.all fun w => okChannel w.channel
def okUser (u : ReadUser) : Bool := match u with
  | .layerRow layer plane _ => decide (layer < 8) && decide (plane < 4)
  | .points head => okHead head
  | .castCopy => true
/-- A command or reply entry: a 16-byte header and up to 240 bytes (17 R359, R361). -/
def okEntry (e : List Byte) : Bool := inRangeB 16 256 e.length

/-- The operands of a command lie in the ranges of the spec. -/
def Instr.wf (i : Instr) : Bool :=
  match i with
  | .status _ p | .mailboxConfig _ p | .whistleAck _ p | .mailboxCounters _ p | .eventRead _ p
  | .eventOverflowRead _ p | .fwInfo _ p | .fwErase _ p | .fwWrite _ p | .fwActivate _ p | .fwConfirm _ p
  | .modeSet _ p | .armatureWrite _ p | .armatureRead _ p | .tickSourceSet _ p | .tickStatus _ p | .tickStamp _ p
  | .admissionQuery _ p | .layerWrite _ p | .layerRead _ p | .filterWrite _ p | .backgroundSet _ p | .tagAllot _ p
  | .fetchConfig _ p | .fetchStatus _ p | .commit _ p | .maquetteResync _ p | .commitStatus _ p | .retireRead _ p
  | .composeEventSet _ p | .freezeConfig _ p | .signatureRead _ p | .fenceRead _ p | .colourConfig _ p
  | .matrixWrite _ p | .matrixRead _ p | .tableWrite _ p | .tableRead _ p | .tableFill _ p | .tableCrc _ p
  | .ditherMaskWrite _ p | .ditherMaskSelect _ p | .ditherMaskRead _ p | .colourStats _ p | .pixelProbe _ p
  | .castWrite _ p | .castRead _ p | .castSelect _ p | .castSwitch _ p | .castCheck _ p | .castLoadClip _ p
  | .plinthEnter _ p | .chiselStatus _ p | .plConfig _ p | .plTrain _ p | .plStatus _ p | .arrayRecordRead _ p
  | .arrayCmd _ p | .laneControl _ p | .laneCounters _ p | .bankWrite _ p | .channelWrite _ p | .levelWrite _ p
  | .levelFill _ p | .sourceApply _ p | .sourceRead _ p | .chargeRead _ p | .chargeSave _ p | .chargeClear _ p
  | .sinkStatus _ p | .diagConfig _ p | .diagStatus _ p | .diagClear _ p | .diagRoundNow _ p | .neighbourRead _ p
  | .constancyConfig _ p | .senseConfig _ p | .targetSet _ p | .targetCapture _ p | .scaleSet _ p
  | .constancyStatus _ p | .emitterRead _ p | .senseRead _ p | .headConfig _ p | .headRead _ p | .headControl _ p
  | .pointAppend _ p | .headStatus _ p | .axisConfig _ p | .axisConfigRead _ p | .coefWrite _ p | .coefRead _ p
  | .bankSelect _ p | .axisLoop _ p | .axisStatus _ p | .axisIoConfig _ p | .axisIoRead _ p | .extConfig _ p
  | .detectConfig _ p | .profileLimits _ p | .profileMove _ p | .setpointSource _ p | .heelControl _ p
  | .axisIoStatus _ p | .triggerConfig _ p | .triggerStatus _ p | .clockConfig _ p | .clockStep _ p
  | .clockRamp _ p | .clockRampStop _ p | .clockStatus _ p | .hkCompRead _ p | .hkCompWrite _ p
  | .thermalStatus _ p | .thermalRelease _ p | .thermalModelRead _ p | .thermalModelWrite _ p
  | .zoneSuspectClear _ p | .calConfig _ p | .calStatus _ p | .calControl _ p | .calValuesRead _ p
  | .kennelSave _ p | .kennelConfig _ p | .kennelStatus _ p | .kennelRead _ p | .kennelErase _ p | .clConfig _ p
  | .clStatus _ p | .clEnumerate _ p | .clBroadcast _ p | .clTimeSet _ p | .clRouteRead _ p | .csConfig _ p
  | .csStatus _ p | .csFormat _ p | .clipCreate _ p | .clipWrite _ p | .clipSeal _ p | .clipDelete _ p
  | .clipInfo _ p | .clipPlay _ p | .cueControl _ p | .epbConfig _ p | .epbWrite _ p | .epbUpdate _ p
  | .epbPattern _ p | .epbStatus _ p | .identityRead _ p | .certRead _ p | .attest _ p | .serviceChallenge _ p
  | .serviceOpen _ p | .serviceClose _ p | .serviceKeyEnroll _ p | .serviceKeyRevoke _ p | .securityCommit _ p
  | .patinaConfig _ p | .patinaEmitterRead _ p | .patinaUnitRead _ p | .patinaHoursRead _ p | .patinaReset _ p => decide (p.length ≤ 240)
  | .doorbellWrite _ bar2 => bar2.all fun c => decide (c.1 < 0x8000)
  | .registerWriteOther offset _ => decide (offset < 0x10000) && offset % 4 == 0 && !(offset == 0x10 || offset == 0x20 || offset == 0x24)
  | .porstNRelease flash => match flash with
    | some l => l.all fun c => decide (c.1 < 0x4000000)
    | none => true
  | .entryOpen array windows light => okArray array && okWindows windows && light.all fun x => decide (x.input < 8)
  | .mapPoint array => okArray array
  | .readCompletion user _ _ data => okUser user && decide (data.length ≤ 256)
  | .fenceReadCompletion layer _ _ _ => decide (layer < 8)
  | .arrayStatusMessage array state _ _ _ => okArray array && decide (state < 8)
  | .laneAlarm array lane reason => okArray array && okLane lane && decide (reason < 4)
  | .tickReport array _ closed notComplete resets cleared => okArray array && okWord closed && okWord notComplete && okWord resets && okWord cleared
  | .temp array value => okArray array && decide (-32768 ≤ value) && decide (value ≤ 32767)
  | .arrayRecord array record => okArray array && decide (record.length ≤ 256)
  | .laneReport array part counts => okArray array && decide (part < 2) && decide (counts.length ≤ 48)
  | .resetCount array count => okArray array && decide (count < 2 ^ 64)
  | .cmdAck array cmd seq result => okArray array && decide (cmd < 256) && decide (seq < 256) && decide (result < 256)
  | .ident array _ _ => okArray array
  | .backchannelTimeout array => okArray array
  | .trainDetectTimeout array => okArray array
  | .trainLockTimeout array => okArray array
  | .trainDeskewTimeout array => okArray array
  | .trainRecordTimeout array => okArray array
  | .arrayRetrainTimer array => okArray array
  | .arrayCmdTimeout array => okArray array
  | .transmitterFault lane => okLane lane
  | .laneRetrainAttempt lane _ => okLane lane
  | .laneReady lane => okLane lane
  | .effectPwmPeriod windows => okWindows windows
  | .diagCell m => m.sensed.all fun x => okChannel x.1
  | .sinkOvertempDetect channel => okChannel channel
  | .sinkOvertempResume channel => okChannel channel
  | .darkBlock input samples => decide (input < 8) && samples.length == 4096
  | .pointDue head _ windows => okHead head && okWindows windows
  | .pointDataLanded head => okHead head
  | .parkIdleExpiry head => okHead head
  | .headOnDump head => okHead head
  | .scanSpeedSample head => okHead head
  | .axisSample axis _ => okAxis axis
  | .heelRampStep axis => okAxis axis
  | .extStepInput axis _ => okAxis axis
  | .triggerInput input => decide (input < 8)
  | .triggerHeld10s input => decide (input < 8)
  | .triggerRelease input => decide (input < 8)
  | .tickReferenceMissing source _ => inRangeB 1 3 source
  | .clockRampStep pll => decide (pll < 4)
  | .pllLockLoss pll => decide (pll < 4)
  | .pllRelock pll => decide (pll < 4)
  | .zoneReading zone value _ => okZone zone && decide (-32768 ≤ value) && decide (value ≤ 32767)
  | .tripComparatorFire zone => okZone zone
  | .calUnitDue task unit => decide (task < 4) && decide (unit < 24)
  | .kennelPacedWrite store => inRangeB 1 2 store
  | .portId port _ _ _ _ => okPort port
  | .delayReq port _ _ => okPort port
  | .credit port _ _ _ => okPort port
  | .creditTimer port => okPort port
  | .mbxCmd port _ entry => okPort port && okEntry entry
  | .mbxReply port _ entry => okPort port && okEntry entry
  | .bcast port _ _ entry => okPort port && okEntry entry
  | .token port _ => okPort port
  | .tokenBack port _ => okPort port
  | .report port _ _ _ _ => okPort port.port
  | .persistSet port block _ => okPort port.port && decide (block < 32)
  | .announce port _ _ _ _ => okPort port.port
  | .conflict port _ _ => okPort port.port
  | .clSignalDetect port => okPort port
  | .clLinkLoss port _ => okPort port
  | .clTrainingTimeout port => okPort port
  | .clRetryTimer port => okPort port
  | .cueEntryDue player => decide (player < 4)
  | .epbOutputIdle output => decide (output < 4)
  | .epbSilenceExpiry output => decide (output < 4)
  | .backchannelBadMessage array => okArray array
  | .clBadFrame port _ => okPort port
  | .completionTimeout user => okUser user
  | .encoderEdge axis _ _ _ _ => okAxis axis
  | .feedbackConversion axis _ => okAxis axis
  | .axisPwmPeriod axis => okAxis axis
  | .dmaTransferDone tags => inRangeB 1 16384 tags
  | .rplConsWrite _ | .mbxFlagsClearCpuFault | .mbxFlagsClearRestarted | .mbxFlagsClearReplyLost
  | .mbxFlagsClearRconsInvalid | .mbxFlagsClearDbInvalid | .ringHeadTake _ | .clMailboxTake _ | .maxWaitExpiry _
  | .parkedCommandComplete _ _ _ | .remoteTimeoutExpiry _ | .hostLinkDown | .hostLinkUp | .powerOnReset
  | .firmwareReady | .lockstepMismatch | .watchdogExpiry | .bridgeWordCrcFail _ _ _ | .bridgeLoss | .bridgeResume
  | .tickBoundary | .slotStart | .composeLineStart | .frameDone | .selfRefreshEntry | .selfRefreshExit
  | .neighbourPeriodStart | .solverRun | .interlockDeassert | .interlockRestore | .syncInEdge | .genlockStep
  | .refclkLoss | .refclkFreqCheck _ | .refclkRestore _ | .hkCrystalStart | .hkCrystalStop | .hkMeasure _
  | .warmRestartBegin | .nvmeTripReset | .kennelWriteDone _ | .clTick _ _ _ _ _ _ | .clTime _ _ | .delayRsp _ _ _ _
  | .delayReqTimer | .enumTimeoutExpiry | .csMount _ | .nvmeCompletion _ _ _ | .serviceSessionExpiry
  | .serviceNonceExpiry | .authLockoutExpiry | .pcieConfigWrite _ _ _ _ | .nvmeLinkLoss | .sscTurningPoint
  | .vdrvLow _ | .debuggerHalt _ => true

end Sys2Proof
end

