-- ==== Sys2Proof/Tests/Slice0.lean ====
section
/-! SUPPORT. Tests of the model. `smoke_` theorems show that every check of WellFormed refuses something; `test_` theorems
check one field after one step, with the expected value taken from the spec; `wit_` theorems show states and operands that
meet the hypotheses of each statement, clause by clause, at bounds of their ranges. -/
set_option maxRecDepth 100000
namespace Sys2Proof.Tests
open Sys2Proof.Machine

/-- A payload of `n` bytes that begins with `l`. -/
def pay (n : Nat) (l : Rec) : Rec := l ++ zeros (n - l.length)

/-- A command of the host for this device. -/
def hp : Hdr := ⟨.pcie, 1, true, 0⟩

/-- The device after reset, out of reset and with its firmware ready. -/
def rdy : State :=
  { State.reset with
    mbx := { Mailbox.reset with fwState := 1 }, boot := { Boot.reset with porstLow := false },
    show_ := { ShowIo.reset with ilkOff := false } }

/-- The same with tick 0 open. -/
def ticking : State := { rdy with tk := { TickUnit.reset with open_ := true } }

/-- A session of the host in which LOCKED commands are open. -/
def inSession : State :=
  { rdy with sec := { Security.reset with session := some ⟨1, false, 0, 3, 1000⟩, owners := [⟨true, false, zeros 64⟩,
    ⟨true, false, zeros 64⟩, ⟨false, false, zeros 64⟩, ⟨false, false, zeros 64⟩] } }

def nextOf : Out → State
  | .next s => s
  | _ => State.reset

theorem accepts_of {s : State} (h : s.mbx = rdy.mbx) : s.accepts hp := by
  refine ⟨by rw [h]; rfl, rfl, fun _ => ?_⟩
  simp only [State.slotFree, State.reserved, h]
  rfl

/-! ## Well-formed commands -/

theorem smoke_wf_payloads : Instr.wf (.status hp (zeros 241)) = false ∧ Instr.wf (.status hp (zeros 240)) = true ∧
    Instr.wf (.doorbellWrite 0 [(0x8000, 0)]) = false ∧ Instr.wf (.registerWriteOther 0x10 0) = false ∧
    Instr.wf (.registerWriteOther 0x12 0) = false ∧ Instr.wf (.registerWriteOther 0x10000 0) = false ∧
    Instr.wf (.porstNRelease (some [(0x4000000, 0)])) = false ∧ Instr.wf (.dmaTransferDone 0) = false ∧
    Instr.wf (.dmaTransferDone 16385) = false ∧ Instr.wf (.dmaTransferDone 16384) = true := by decide

theorem smoke_wf_picture : Instr.wf (.entryOpen 4 [] []) = false ∧ Instr.wf (.mapPoint 4) = false ∧
    Instr.wf (.readCompletion (.layerRow 8 0 0) true 0 []) = false ∧
    Instr.wf (.readCompletion (.layerRow 0 4 0) true 0 []) = false ∧
    Instr.wf (.readCompletion (.points 4) true 0 []) = false ∧ Instr.wf (.readCompletion .castCopy true 0 (zeros 257)) = false ∧
    Instr.wf (.fenceReadCompletion 8 false true 0) = false ∧ Instr.wf (.completionTimeout (.points 4)) = false := by decide

theorem smoke_wf_arrays : Instr.wf (.arrayStatusMessage 4 0 0 0 0) = false ∧ Instr.wf (.arrayStatusMessage 0 8 0 0 0) = false ∧
    Instr.wf (.laneAlarm 0 96 0) = false ∧ Instr.wf (.laneAlarm 0 0 4) = false ∧ Instr.wf (.laneAlarm 4 0 0) = false ∧
    Instr.wf (.tickReport 0 0 65536 0 0 0) = false ∧ Instr.wf (.tickReport 0 0 0 65536 0 0) = false ∧
    Instr.wf (.tickReport 0 0 0 0 65536 0) = false ∧ Instr.wf (.tickReport 0 0 0 0 0 65536) = false ∧
    Instr.wf (.tickReport 4 0 0 0 0 0) = false ∧ Instr.wf (.temp 0 32768) = false ∧ Instr.wf (.temp 0 (-32769)) = false ∧
    Instr.wf (.temp 4 0) = false ∧ Instr.wf (.arrayRecord 4 []) = false ∧ Instr.wf (.arrayRecord 0 (zeros 257)) = false ∧
    Instr.wf (.laneReport 4 0 []) = false ∧ Instr.wf (.laneReport 0 2 []) = false ∧
    Instr.wf (.laneReport 0 0 (List.replicate 49 0)) = false ∧ Instr.wf (.resetCount 4 0) = false ∧
    Instr.wf (.resetCount 0 (2 ^ 64)) = false ∧ Instr.wf (.cmdAck 4 0 0 0) = false ∧ Instr.wf (.cmdAck 0 256 0 0) = false ∧
    Instr.wf (.cmdAck 0 0 256 0) = false ∧ Instr.wf (.cmdAck 0 0 0 256) = false ∧ Instr.wf (.ident 4 0 0) = false := by decide

theorem smoke_wf_array_timers : Instr.wf (.backchannelTimeout 4) = false ∧ Instr.wf (.trainDetectTimeout 4) = false ∧
    Instr.wf (.trainLockTimeout 4) = false ∧ Instr.wf (.trainDeskewTimeout 4) = false ∧
    Instr.wf (.trainRecordTimeout 4) = false ∧ Instr.wf (.arrayRetrainTimer 4) = false ∧
    Instr.wf (.arrayCmdTimeout 4) = false ∧ Instr.wf (.transmitterFault 96) = false ∧
    Instr.wf (.laneRetrainAttempt 96 true) = false ∧ Instr.wf (.laneReady 96) = false ∧
    Instr.wf (.backchannelBadMessage 4) = false := by decide

theorem smoke_wf_sources : Instr.wf (.effectPwmPeriod [⟨192, 0, 0, 0, 0⟩]) = false ∧
    Instr.wf (.diagCell { (default : CellMeas) with sensed := [(192, 0)] }) = false ∧ Instr.wf (.entryOpen 0 [⟨192, 0, 0, 0, 0⟩] []) = false ∧
    Instr.wf (.entryOpen 0 [] [⟨8, 0, 0, 0, 0⟩]) = false ∧ Instr.wf (.sinkOvertempDetect 192) = false ∧ Instr.wf (.sinkOvertempResume 192) = false ∧
    Instr.wf (.darkBlock 8 (List.replicate 4096 0)) = false ∧ Instr.wf (.darkBlock 0 []) = false := by decide

theorem smoke_wf_heads_and_axes : Instr.wf (.pointDue 4 none []) = false ∧ Instr.wf (.pointDue 0 none [⟨192, 0, 0, 0, 0⟩]) = false ∧ Instr.wf (.axisSample 16 default) = false ∧ Instr.wf (.pointDataLanded 4) = false ∧
    Instr.wf (.parkIdleExpiry 4) = false ∧ Instr.wf (.headOnDump 4) = false ∧ Instr.wf (.scanSpeedSample 4) = false ∧
    Instr.wf (.heelRampStep 16) = false ∧ Instr.wf (.extStepInput 16 true) = false ∧ Instr.wf (.triggerInput 8) = false ∧
    Instr.wf (.triggerHeld10s 8) = false ∧ Instr.wf (.triggerRelease 8) = false ∧
    Instr.wf (.encoderEdge 16 true true true 0) = false ∧ Instr.wf (.feedbackConversion 16 (.position 0)) = false ∧
    Instr.wf (.axisPwmPeriod 16) = false := by decide

theorem smoke_wf_clocks_and_heat : Instr.wf (.tickReferenceMissing 0 true) = false ∧
    Instr.wf (.tickReferenceMissing 4 true) = false ∧ Instr.wf (.clockRampStep 4) = false ∧
    Instr.wf (.pllLockLoss 4) = false ∧ Instr.wf (.pllRelock 4) = false ∧ Instr.wf (.zoneReading 16 0 0) = false ∧
    Instr.wf (.zoneReading 0 32768 0) = false ∧ Instr.wf (.zoneReading 0 (-32769) 0) = false ∧
    Instr.wf (.tripComparatorFire 16) = false ∧ Instr.wf (.calUnitDue 4 0) = false ∧ Instr.wf (.calUnitDue 0 24) = false ∧
    Instr.wf (.kennelPacedWrite 0) = false ∧ Instr.wf (.kennelPacedWrite 3) = false := by decide

theorem smoke_wf_cumaslink : Instr.wf (.portId 3 0 0 0 true) = false ∧ Instr.wf (.delayReq 3 0 true) = false ∧
    Instr.wf (.credit 3 true 0 true) = false ∧ Instr.wf (.creditTimer 3) = false ∧
    Instr.wf (.mbxCmd 3 default (zeros 16)) = false ∧ Instr.wf (.mbxCmd 0 default (zeros 15)) = false ∧
    Instr.wf (.mbxCmd 0 default (zeros 257)) = false ∧ Instr.wf (.mbxReply 3 default (zeros 16)) = false ∧
    Instr.wf (.mbxReply 0 default []) = false ∧ Instr.wf (.bcast 3 default true (zeros 16)) = false ∧
    Instr.wf (.bcast 0 default true []) = false ∧ Instr.wf (.token 3 default) = false ∧
    Instr.wf (.tokenBack 3 default) = false ∧ Instr.wf (.report ⟨3, none⟩ 0 0 false 0) = false ∧
    Instr.wf (.persistSet ⟨3, none⟩ 0 0) = false ∧ Instr.wf (.persistSet ⟨0, none⟩ 32 0) = false ∧
    Instr.wf (.announce ⟨3, none⟩ 0 true true 0) = false ∧ Instr.wf (.conflict ⟨3, none⟩ 0 0) = false ∧
    Instr.wf (.clSignalDetect 3) = false ∧ Instr.wf (.clLinkLoss 3 true) = false ∧
    Instr.wf (.clTrainingTimeout 3) = false ∧ Instr.wf (.clRetryTimer 3) = false ∧ Instr.wf (.clBadFrame 3 true) = false ∧
    Instr.wf (.cueEntryDue 4) = false ∧ Instr.wf (.epbOutputIdle 4) = false ∧ Instr.wf (.epbSilenceExpiry 4) = false := by decide

/-! ## Witnesses: the queue, the mailbox and the tick -/

theorem wit_step : ({ rdy with pending := [.tickBoundary, .slotStart] } : State).pending = .tickBoundary :: [.slotStart] ∧
    rdy.pending = [] := by decide

theorem wit_accepts : rdy.accepts hp ∧ ticking.accepts hp ∧ inSession.accepts hp :=
  ⟨accepts_of rfl, accepts_of rfl, accepts_of rfl⟩

theorem wit_mailbox :
    (([] : Rec).length = 0 ∧ rdy.isHere hp = true ∧ (hp.origin = .pcie → rdy.slotFree = true)) ∧
    (∃ p : Rec, p.length = 8 ∧ 5 ≤ u16 p 0 ∧ u16 p 0 ≤ 1000 ∧ 1 ≤ u16 p 2 ∧ u16 p 2 ≤ 10000) ∧
    (∃ p : Rec, p.length = 8 ∧ u16 p 0 = 1000 ∧ u16 p 2 = 10000) ∧ (∃ p : Rec, p.length = 4 ∧ bit (byteAt p 0) 1 = true) :=
  ⟨by decide, ⟨pay 8 [5, 0, 1], by decide⟩, ⟨pay 8 [0xE8, 3, 0x10, 0x27], by decide⟩, ⟨pay 4 [3], by decide⟩⟩

theorem wit_eventQueue : (∃ p : Rec, p.length = 4 ∧ 1 ≤ byteAt p 0 ∧ byteAt p 0 ≤ 14) ∧
    (∃ p : Rec, p.length = 4 ∧ byteAt p 0 = 14 ∧ bit (byteAt p 2) 0 = true) ∧
    (∃ p : Rec, p.length = 4 ∧ bit (byteAt p 2) 0 = false) :=
  ⟨⟨pay 4 [1], by decide⟩, ⟨pay 4 [14, 0, 1], by decide⟩, ⟨pay 4 [], by decide⟩⟩

/-- Clocks with a ramp on PLL 1 and a compensation record. -/
def ramping : State :=
  { rdy with ck := { Clocks.reset with
    comp := some (zeros 80), plls := upd Clocks.reset.plls 1 fun q => { q with ramp := some ⟨[(5000, 100)], false, 0, 0, 0⟩ } } }

theorem wit_clock :
    (∃ p : Rec, p.length = 8 ∧ byteAt p 0 ≤ 10 ∧ byteAt p 1 ≤ 10 ∧ (3000 ≤ u16 p 2 ∧ u16 p 2 ≤ 3300) ∧
      (8 ≤ u16 p 4 ∧ u16 p 4 ≤ 1024) ∧ byteAt p 1 = byteAt rdy.ck.cfg 1) ∧
    (∃ p : Rec, p.length = 8 ∧ byteAt p 0 ≤ 1 ∧ (i32 p 4).natAbs ≤ 5000 ∧
      (((at_ rdy.ck.plls 1).offset + i32 p 4).natAbs : Int) ≤ pllLimit 1 ∧ rdy.pllFree 1 = true ∧
      rdy.stepSpaced 1 = true) ∧
    (∃ p : Rec, p.length = 4 + 8 * byteAt p 1 ∧ byteAt p 0 ≤ 1 ∧ 1 ≤ byteAt p 1 ∧
      rampOk (pllLimit 1) (at_ rdy.ck.plls 1).offset (rampSegs p (byteAt p 1)) = true ∧ bit (byteAt p 2) 0 = false) ∧
    ((at_ ramping.ck.plls 1).ramp.isSome = true ∧ ramping.ck.comp = some (zeros 80)) :=
  ⟨⟨[10, 0, 0xB8, 0x0B, 8, 0, 0, 0], by decide⟩, ⟨[1, 0, 0, 0] ++ le 4 5000, by decide⟩,
    ⟨[1, 1, 0, 0] ++ le 4 5000 ++ le 4 100, by decide⟩, by decide⟩

theorem wit_tick :
    (modeOk 0x10 = true ∧ modeOk 0x5D = true) ∧
    (∃ p : Rec, p.length = 4 + u16 p 2 ∧ 1 ≤ u16 p 2 ∧ u16 p 2 ≤ 236 ∧ u16 p 0 + u16 p 2 ≤ 528) ∧
    (∃ p : Rec, p.length = 4 + u16 p 2 ∧ u16 p 2 = 236 ∧ u16 p 0 + u16 p 2 = 528) ∧
    (∃ p : Rec, p.length = 6 ∧ byteAt p 0 ≤ 1 ∧ u16 p 4 = 240 ∧ u16 p 2 + u16 p 4 = 528) ∧
    (∃ p : Rec, p.length = 12 ∧ prioOk ((p.take 4).map BitVec.toNat) = true ∧ byteAt p 4 ≤ 1 ∧ 1 ≤ u16 p 6 ∧
      u32 p 8 < baseTick rdy.liveMode) ∧
    (∃ p : Rec, p.length = 20 ∧ ticking.tickKind (u32 p 0) ≠ 1) ∧ (∃ p : Rec, p.length = 20 ∧ ticking.tickKind (u32 p 0) = 1) ∧
    rdy.admitted rdy.com.maq rdy.commitSet = true :=
  ⟨by decide, ⟨[0, 0, 1, 0, 0], by decide⟩, ⟨pay 240 [0x24, 1, 236, 0], by decide⟩, ⟨[1, 0, 0x20, 1, 240, 0], by decide⟩,
    ⟨[1, 2, 3, 0, 1, 1, 1, 0] ++ le 4 6666665, by decide⟩, ⟨pay 20 [], by decide⟩, ⟨pay 20 [1], by decide⟩, by decide⟩

/-- LAYER_WRITE of layer 7, switched off. -/
def layerPay : Rec := pay 100 [7]

theorem wit_layer :
    (∃ p : Rec, p.length = 100 ∧ byteAt p 0 ≤ 7 ∧ layerOk (slice p 4 96) = true) ∧
    (∃ p : Rec, p.length = 2 ∧ byteAt p 0 = 1 ∧ byteAt p 1 = 7) ∧
    (∃ p : Rec, p.length = 4 + 16 * byteAt p 2 ∧ byteAt p 0 = 15 ∧ byteAt p 1 + byteAt p 2 = 64 ∧ byteAt p 2 = 1 ∧
      ((filterRows p (byteAt p 2)).all fun r => r.sum == 16384) = true) ∧
    (∃ p : Rec, p.length = 8 ∧ allotOk [u16 p 0, u16 p 2, u16 p 4, u16 p 6] = true) ∧
    (∃ p : Rec, p.length = 8 ∧ u16 p 0 = 10 ∧ u16 p 2 = 10000) :=
  ⟨⟨layerPay, by decide⟩, ⟨[1, 7], by decide⟩, ⟨[15, 63, 1, 0] ++ le 2 16384 ++ zeros 14, by decide⟩,
    ⟨le 2 1024 ++ le 2 256 ++ le 2 64 ++ le 2 15040, by decide⟩, ⟨le 2 10 ++ le 2 10000 ++ zeros 4, by decide⟩⟩

/-- Past the latch line of the running tick. -/
def lateIn : State := { ticking with now := 6666665 }

theorem wit_commit :
    (lateIn.accepts hp ∧ lateIn.isLate = true ∧ ticking.isLate = false) ∧
    (ticking.commitTake.admitted ticking.com.maq ticking.commitTake.commitSet = true ∧ ticking.commitTake.isLate = false) ∧
    (lateIn.commitTake.admitted lateIn.com.maq lateIn.commitTake.commitSet = true ∧ lateIn.commitTake.isLate = true) ∧
    ({ ticking with com := { ticking.com with takenAt := some 0 } } : State).commitTake.now = 1 ∧
    (∃ p : Rec, p.length = 8 ∧ byteAt p 4 = 4 ∧
      (BitVec.ofNat 32 (u32 p 0) - (rdy.com.retSeq - BitVec.ofNat 32 rdy.com.log.length)).toNat < 2 ^ 31) ∧
    (∃ p : Rec, p.length = 4 ∧ byteAt p 0 = 3) :=
  ⟨⟨accepts_of rfl, by decide, by decide⟩, by decide, by decide, by decide, ⟨pay 8 [0, 0, 0, 0, 4], by decide⟩,
    ⟨pay 4 [3], by decide⟩⟩

theorem wit_colour :
    (∃ p : Rec, p.length = 16 ∧ colourCfgOk p = true) ∧
    (∃ p : Rec, p.length = 8 + 24 * byteAt p 1 ∧ 1 ≤ byteAt p 1 ∧ byteAt p 0 + byteAt p 1 = 8) ∧
    (∃ p : Rec, p.length = 8 + 4 * u16 p 4 ∧ byteAt p 0 = 7 ∧ u16 p 4 = 58 ∧ u16 p 2 + u16 p 4 = 4096) ∧
    (∃ p : Rec, p.length = 6 ∧ byteAt p 0 ≤ 1 ∧ byteAt p 1 = 7 ∧ u16 p 4 = 60 ∧ u16 p 2 + u16 p 4 = 4096) ∧
    (∃ p : Rec, p.length = 2 ∧ byteAt p 0 ≤ 1 ∧ byteAt p 1 ≤ 7) ∧
    (∃ p : Rec, p.length = 8 + 2 * u16 p 4 ∧ byteAt p 0 ≤ 7 ∧ u16 p 4 = 116 ∧ u16 p 2 + u16 p 4 = 4096 ∧
      rdy.col.maskWait = none) ∧
    (∃ p : Rec, p.length = 6 ∧ byteAt p 0 = 2 ∧ byteAt p 1 ≤ 7 ∧ u16 p 4 = 120 ∧ u16 p 2 + u16 p 4 = 4096) ∧
    (∃ p : Rec, p.length = 4 ∧ u16 p 0 + 1 = activeW rdy.liveMode ∧ u16 p 2 + 1 = activeH rdy.liveMode) :=
  ⟨⟨rdy.com.live.colour, by decide⟩, ⟨pay 56 [6, 2], by decide⟩, ⟨pay 240 [7, 0, 0xC6, 0x0F, 58], by decide⟩,
    ⟨[1, 7, 0xC4, 0x0F, 60, 0], by decide⟩, ⟨[1, 7], by decide⟩, ⟨pay 240 [0, 0, 0x8C, 0x0F, 116], by decide⟩,
    ⟨[2, 7, 0x88, 0x0F, 120, 0], by decide⟩, ⟨[0xFF, 0x0E, 0x6F, 0x08], by decide⟩⟩

/-- A record of a sealed clip of 1 MiB at most, in block `id`. -/
def clipOf (id type bytes : Nat) (info : Rec) : Nat × Rec :=
  (id, overlay (clipRecord id type bytes [(id, 1)] info) 5 [1])

/-- INFO of a picture clip of 2 frames of 4,096 bytes. -/
def picInfo : Rec := pay 64 (le 2 0 ++ le 2 16 ++ le 2 16 ++ le 2 1 ++ le 4 2 ++ le 4 4096)

/-- A mounted store with a sealed clip of each kind and an unsealed one. -/
def stored : State :=
  { ticking with cs := { ContentStore.reset with
    state := 3, blocks := 100, poolBytes := 0x100000,
    table := [clipOf 1 1 8192 picInfo, clipOf 3 3 4096 (zeros 64), clipOf 4 4 64 (zeros 64),
      (5, clipRecord 5 2 4096 [(5, 1)] (zeros 64))] } }

theorem stored_accepts : stored.accepts hp := accepts_of rfl

/-- An array record of 07 R158 with the default bias 500 and BIAS_MAX 1,000. -/
def arrayRec : Rec := overlay (pay 64 [1, 0, 0, 0, 0, 0, 0x70, 8, 0, 0xF]) 0x14 (le 2 0 ++ le 2 1000 ++ le 2 500)

/-- A device with array 0 in state `n` on all its lanes, and lane 0 given. -/
def withArray (n : Nat) (l : Lane) : State :=
  { rdy with pl := { PlaneLink.reset with
    lanes := upd PlaneLink.reset.lanes 0 fun _ => l,
    arrays := upd PlaneLink.reset.arrays 0 fun x => { x with state := n, record := some arrayRec, accepted := true } } }

/-- A lane in service. -/
def goodLane : Lane := { (default : Lane) with ok := true, ready := true }

/-- An armature with a PIC slot of array 0 before its DUMP slot. -/
def picArmature : Rec :=
  [0x49, 2, 0, 0] ++ le 4 6666666 ++ le 4 0 ++ zeros 4 ++ le 4 3000000 ++ [0, 1, 0, 0] ++ le 4 3666666 ++ [2, 0, 0, 0] ++ zeros 496

/-- A cast of one entry: bit 0 of primary 0 on array 0, lit for 300,000 tu, with a correct CHECK. -/
def castBytes : Rec :=
  let body := overlay (pay 104 ([1, 0, 0x49, 1, 0, 0, 1, 0, 1] ++ zeros 7 ++ (List.replicate 16 [0, 0x80]).flatten ++ [0, 0, 1, 0]))
    0x60 (le 4 300000)
  overlay body 0x50 (le 4 (crc32 body).toNat)

/-- Cast slot 3 holds that cast; array 0 runs on lane 0 and has a picture channel. -/
def withCast : State :=
  let cfg := { Cfg.reset with armature := picArmature }
  { stored with
    chi := { ChiselUnit.reset with slots := upd ChiselUnit.reset.slots 3 fun _ => spPut 0 [] 0 castBytes },
    pl := (withArray 5 goodLane).pl, com := { stored.com with live := cfg, maq := cfg },
    src := { stored.src with live := { SourceSet.reset with chans := upd SourceSet.reset.chans 0 fun _ => [1, 0, 0, 0, 0, 0, 0, 0] } } }

theorem wit_chisel :
    (∃ p : Rec, p.length = 8 + u16 p 4 ∧ byteAt p 0 = 15 ∧ u16 p 4 = 232 ∧ u16 p 2 + u16 p 4 = slotBytes ∧
      rdy.slotInUse 15 = false) ∧
    (∃ p : Rec, p.length = 6 ∧ byteAt p 0 ≤ 15 ∧ u16 p 4 = 240 ∧ u16 p 2 + u16 p 4 = slotBytes) ∧
    (∃ p : Rec, p.length = 4 ∧ byteAt p 0 = 15 ∧ byteAt p 1 = 0xFF) ∧
    (∃ p : Rec, p.length = 4 ∧ byteAt p 0 = 14 ∧ byteAt p 1 = 15) ∧
    (withCast.commitPending = false ∧ withCast.chi.switch_ = none ∧ 3 ≠ withCast.com.live.fallbackCast ∧
      withCast.switchFails 3 = [] ∧ withCast.chi.plinth = false) ∧
    castFails (withCast.castEnv withCast.com.maq withCast.commitSet) (withCast.cast 3) none = [] ∧
    (∃ p r, p.length = 8 ∧ byteAt p 0 = 15 ∧ stored.mounted = true ∧ stored.clip (u32 p 4) = some (3, r) ∧ clType r = 3 ∧
      clBytes r ≤ slotBytes ∧ clSealed r = true ∧ stored.slotInUse 15 = false ∧ stored.pendingCount < 16) ∧
    (rdy.commitPending = false ∧ rdy.chi.plinth = false ∧ rdy.chi.darkTick = false) :=
  ⟨⟨pay 240 [15, 0, 0x78, 0x7F, 232], by decide⟩, ⟨[15, 0, 0x70, 0x7F, 240, 0], by decide⟩, ⟨[15, 0xFF, 0, 0], by decide⟩,
    ⟨[14, 15, 0, 0], by decide⟩, by decide, by decide, ⟨[15, 0, 0, 0, 3, 0, 0, 0], (clipOf 3 3 4096 (zeros 64)).2, by decide⟩,
    by decide⟩

theorem wit_planeLink :
    (∃ p : Rec, p.length = 8 ∧ byteAt p 0 = 4 ∧ rdy.allDisabled = true) ∧
    (∃ p : Rec, p.length = 4 ∧ byteAt p 0 < rdy.pl.count ∧ byteAt p 1 = 1 ∧ (rdy.array 0).state = 0) ∧
    (∃ p : Rec, p.length = 4 ∧ byteAt p 0 < 1 ∧ byteAt p 1 = 0 ∧ ((withArray 7 goodLane).array 0).state ≠ 0) ∧
    ((withArray 5 goodLane).array 0).record = some arrayRec ∧
    (∃ p : Rec, p.length = 12 ∧ byteAt p 1 = 1 ∧ (withArray 5 goodLane).trained 0 = true ∧
      arBiasMin arrayRec ≤ u64 p 4 % 65536 ∧ u64 p 4 % 65536 = arBiasMax arrayRec ∧ (withArray 5 goodLane).pendingCount < 16) ∧
    (∃ p : Rec, p.length = 12 ∧ byteAt p 1 = 2 ∧ (withArray 5 goodLane).showsInForce 0 = false) ∧
    (∃ p : Rec, p.length = 4 ∧ byteAt p 0 = 95 ∧ byteAt p 1 = 1 ∧ 95 < rdy.pl.lanes.length) ∧
    (∃ p : Rec, p.length = 4 ∧ byteAt p 0 = 95 ∧ byteAt p 1 = 0) ∧
    (∃ p : Rec, p.length = 4 ∧ byteAt p 1 = 24 ∧ byteAt p 0 + byteAt p 1 = 96) :=
  ⟨⟨pay 8 [4], by decide⟩, ⟨[0, 1, 0, 0], by decide⟩, ⟨[0, 0, 0, 0], by decide⟩, by decide,
    ⟨[0, 1, 0, 0] ++ le 8 1000, by decide⟩, ⟨pay 12 [0, 2], by decide⟩, ⟨[95, 1, 0, 0], by decide⟩, ⟨[95, 0, 0, 0], by decide⟩,
    ⟨[72, 24, 0, 0], by decide⟩⟩

/-- A source set bound to the next commit. -/
def bound : State := { rdy with src := { SourceUnit.reset with bound := some SourceSet.reset } }

theorem wit_source :
    (∃ p : Rec, p.length = 4 + 8 * byteAt p 1 ∧ spanOk 24 24 (byteAt p 0) (byteAt p 1) = true ∧
      (recordsAt p 4 8 (byteAt p 1)).all bankOk = true) ∧
    (∃ p : Rec, p.length = 4 + 8 * byteAt p 1 ∧ spanOk 192 29 (byteAt p 0) (byteAt p 1) = true ∧
      (recordsAt p 4 8 (byteAt p 1)).all chanOk = true) ∧
    (∃ p : Rec, p.length = 4 + 32 * byteAt p 1 ∧ spanOk 192 7 (byteAt p 0) (byteAt p 1) = true ∧
      ((List.range (byteAt p 1)).map fun i => levelTable p (4 + 32 * i)).all levelOk = true) ∧
    (∃ p : Rec, p.length = 56 ∧ levelOk (levelTable p 24) = true) ∧
    (rdy.commitPending = false ∧ rdy.src.apply = none ∧ rdy.src.bound = none ∧ rdy.rangeOk rdy.src.staged = true ∧
      rdy.castsLive = false) ∧ bound.src.bound.isSome = true ∧
    (spanOk 24 24 0 24 = true ∧ spanOk 192 30 162 30 = true ∧ spanOk 192 7 185 7 = true ∧ spanOk 192 14 178 14 = true ∧
      spanOk 192 48 144 48 = true) ∧
    (rdy.pendingCount < 16 ∧ rdy.kennelWait 4 = none) ∧
    (inSession.unlocked hp = true ∧ inSession.kennelWait 4 = none ∧ inSession.pendingCount < 16) :=
  ⟨⟨pay 12 [23, 1, 0, 0, 1, 0, 0x10], by decide⟩, ⟨pay 12 [191, 1, 0, 0, 1], by decide⟩, ⟨pay 36 [191, 1], by decide⟩,
    ⟨zeros 56, by decide⟩, by decide, by decide, by decide, by decide, by decide⟩

theorem wit_diagnostic :
    (∃ p : Rec, p.length = 8 ∧ dgLevel p = 32768 ∧ dgPeriod p = 3600) ∧ (∃ p : Rec, p.length = 8 ∧ dgLevel p = 1 ∧ dgPeriod p = 60) ∧
    (spanOk 192 56 136 56 = true ∧ spanOk 192 60 132 60 = true) ∧
    (∃ p : Rec, ∃ s : State, p.length = 24 ∧ chanMask p 0 0 = true ∧ chanMask p 0 191 = false ∧ (at_ s.diag.chans 0).kind ≠ 0 ∧
      s.mbx = rdy.mbx) :=
  ⟨⟨le 2 32768 ++ le 2 3600 ++ zeros 4, by decide⟩, ⟨le 2 1 ++ le 2 60 ++ zeros 4, by decide⟩, by decide, ⟨pay 24 [1],
    { rdy with diag := { DiagUnit.reset with chans := upd DiagUnit.reset.chans 0 fun d => { d with kind := 3 } } }, by decide,
    by decide, by decide, by decide, rfl⟩⟩

theorem wit_constancy :
    (∃ p : Rec, p.length = 24 ∧ constCfgOk p = true) ∧ (∃ p : Rec, p.length = 32 ∧ senseOk p = true) ∧
    ((∀ i < 8, rdy.constArrays i = [] ∨ 1 / 2 ≤ rdy.confOf i) ∧
      (∀ i < 8, ∀ a ∈ rdy.servedArrays i, ∀ c ∈ rdy.liveChans a i, (at_ rdy.con.emitters c).vals.length = 8)) ∧
    (∃ p : Rec, p.length = 16 ∧ (∀ i < 8, u16 p (2 * i) = 32768) ∧ ccMode rdy.con.cfg = 0) ∧
    spanOk 192 28 164 28 = true :=
  ⟨⟨Constancy.defaultCfg, by decide⟩, ⟨Constancy.reset.sense, by decide⟩, by
      have h : ∀ i < 8, rdy.constArrays i = [] := by decide
      have g : ∀ i < 8, rdy.servedArrays i = [] := by decide
      exact ⟨fun i hi => .inl (h i hi), fun i hi a ha => by simp [g i hi] at ha⟩,
    ⟨(List.replicate 8 (le 2 32768)).flatten, by decide⟩, by decide⟩
/-! ## Witnesses: heads, axes, thermal, calibration -/

/-- A head record of the commands: ring of 256 bytes, park after 10, MONITOR_EN 1. -/
def headRec : Rec := overlay (pay 52 ([3, 4, 0, 0] ++ zeros 12 ++ le 2 1 ++ le 2 1 ++ le 2 1 ++ le 2 1 ++ le 4 40000 ++ le 4 10)) 0x2C
  (le 4 256)

/-- Head 3 changed, its axes CLOSED under set-point source 0, and a mounted store. -/
def withHead (f : Head → Head) : State :=
  { stored with
    heads := upd State.reset.heads 3 f,
    axes := State.reset.axes.map fun x => { x with state := 1, validA := true },
    cs := { stored.cs with
      rings := [1, 1, 1, 1],
      table := [clipOf 2 2 4096 (pay 64 ([0, 0, 0, 0] ++ le 4 4000 ++ le 4 10))] } }

/-- A POINT_APPEND for head 3 of 10 points of 4,000 tu after the last segment. -/
def appendHost : Rec := pay 28 ([3, 0, 1, 0] ++ le 4 10 ++ le 4 4000)
/-- The same from clip 2, PERIOD taken from the clip, at tick 1, offset 0. -/
def appendClip : Rec := pay 28 ([3, 1, 0, 0] ++ le 4 10 ++ le 4 0 ++ le 4 1 ++ le 4 0 ++ le 4 2)

/-- Head 3 in state `n`, with its record. -/
def headIn (n : Nat) : State := withHead fun x => { x with record := headRec, state := n, producer := 3 }

theorem wit_beam :
    (rdy.accepts hp ∧ (headIn 1).accepts hp ∧ headRec.length = 52 ∧ headOk headRec = true ∧ hdMonitor headRec = true ∧
      byteAt headRec 0 = 3 ∧ (at_ rdy.heads 3).state = 0 ∧ rdy.headNamed 3 = false) ∧
    ((headIn 0).axesReady 3 = true ∧ (at_ (headIn 0).heads 3).state = 0 ∧ 3 < (headIn 1).heads.length) ∧
    ((at_ (headIn 3).heads 3).state = 3 ∧ ∀ c < 7, bit (at_ (headIn 3).heads 3).causes c = true → (headIn 3).causeHolds 3 c = false) ∧
    (appendHost.length = 28 ∧ byteAt appendHost 0 = 3 ∧ u32 appendHost 4 ≠ 0 ∧ u32 appendHost 8 = 4000 ∧
      bit (byteAt appendHost 2) 0 = true ∧ u32 appendHost 4 ≤ ((at_ (headIn 1).heads 3).trim (headIn 1).now).ringFree ∧
      ((at_ (headIn 1).heads 3).trim (headIn 1).now).segs.length < 64) ∧
    (appendClip.length = 28 ∧ byteAt appendClip 1 = 1 ∧ u32 appendClip 8 = 0 ∧
      (headIn 2).offsetOk (u32 appendClip 0x0C) (u32 appendClip 0x10) = true ∧ (headIn 2).clipFault 3 appendClip = none) :=
  ⟨⟨accepts_of rfl, accepts_of rfl, by decide⟩, by decide, by decide, by decide, by decide⟩

/-- A coefficient record with LEASH_LO < LEASH_HI and OUT_LO < OUT_HI. -/
def coefRec : Rec := pay 80 [] ++ le 8 1 ++ zeros 8 ++ le 8 1
/-- Axis 15 changed. -/
def withAxis (f : Axis → Axis) (g : AxisIo → AxisIo) : State :=
  { ticking with axes := upd State.reset.axes 15 f, ios := upd State.reset.ios 15 g }

theorem wit_engine :
    ((Axis.defaultRecord 15).length = 16 ∧ axisRecOk (Axis.defaultRecord 15) = true ∧ (at_ rdy.axes 15).state = 0) ∧
    (∃ p : Rec, p.length = 112 ∧ byteAt p 0 = 15 ∧ byteAt p 1 = 1 ∧ coefOk (slice p 8 104) = true ∧
      (at_ rdy.axes 15).active = false ∧ (at_ rdy.axes 15).swapAt = none) ∧
    (∃ p : Rec, p.length = 112 ∧ byteAt p 1 = 0 ∧ coefOk (slice p 8 104) = true ∧
      (at_ (withAxis (fun x => { x with active := true }) id).axes (byteAt p 0)).active = true) ∧
    (∃ p : Rec, p.length = 112 ∧ byteAt p 0 = 15 ∧ byteAt p 1 = 0 ∧ coefOk (slice p 8 104) = true ∧
      (at_ rdy.axes 15).active = false) ∧
    (∃ p : Rec, p.length = 4 ∧ byteAt p 0 = 15 ∧ byteAt p 1 = 1) ∧
    (∃ p : Rec, p.length = 12 ∧ bit (byteAt p 2) 0 = true ∧ ∀ b < 16, bit (u16 p 0) b = true →
      (at_ (withAxis (fun x => { x with validA := true }) id).axes b).swapAt = none ∧
      (at_ (withAxis (fun x => { x with validA := true }) id).axes b).active = false ∧
      (at_ (withAxis (fun x => { x with validA := true }) id).axes b).validA = true) ∧
    (∃ p : Rec, p.length = 12 ∧ bit (byteAt p 2) 0 = false ∧ ticking.offsetOk (u32 p 4) (u32 p 8) = true ∧
      ticking.instantOf (u32 p 4) (u32 p 8) = some 6666667) ∧
    (∃ p : Rec, p.length = 12 ∧ bit (byteAt p 2) 0 = false ∧ ticking.offsetOk (u32 p 4) (u32 p 8) = true ∧
      ticking.instantOf (u32 p 4) (u32 p 8) = none) ∧
    (∃ p : Rec, p.length = 16 ∧ byteAt p 0 = 15 ∧ byteAt p 1 = 1) ∧
    (∃ s : State, s.now = tuMs ∧ (at_ s.axes 15).state = 0 ∧ (at_ s.axes 15).bankValid = true ∧ 1 ≤ s.fbValid 15) :=
  ⟨by decide, ⟨[15, 1] ++ zeros 6 ++ coefRec, by decide⟩, ⟨[15, 0] ++ zeros 6 ++ coefRec, by decide⟩,
    ⟨[15, 0] ++ zeros 6 ++ coefRec, by decide⟩, ⟨[15, 1, 0, 0], by decide⟩, ⟨pay 12 [0, 0x80, 1], by decide⟩,
    ⟨pay 12 ([0, 0x80, 0, 0] ++ le 4 1 ++ le 4 1), by decide⟩, ⟨pay 12 ([0, 0x80, 0, 0] ++ le 4 0xFFFFFFFF), by decide⟩,
    ⟨pay 16 [15, 1], by decide⟩, ⟨{ withAxis (fun x => { x with validA := true }) id with now := tuMs }, by decide⟩⟩

/-- Axis 15 in HEEL, with a valid bank, 100 ms after its last invalid feedback. -/
def inHeel : State := { withAxis (fun x => { x with state := 2, validA := true }) id with now := 100 * tuMs }

theorem wit_axisIo :
    ((∃ p : Rec, p.length = 48 ∧ byteAt p 0 = 15 ∧ ioOk p = true) ∧ (at_ rdy.axes 15).state = 0) ∧
    (∃ p : Rec, p.length = 32 ∧ byteAt p 0 = 15 ∧ u16 p 2 = 400 ∧ exStepMin p = 4000000) ∧
    (∃ p : Rec, p.length = 32 ∧ u16 p 0x10 = 10000 ∧ u16 p 0x12 = 100 ∧ 0x7F &&& dtMask p = 0x7F ∧
      dtMask (((at_ rdy.ios (byteAt p 0)).detWait.map Prod.snd).getD (at_ rdy.ios (byteAt p 0)).det) % 128 = 0x7F) ∧
    (∃ p : Rec, p.length = 32 ∧ dtMask p = 0 ∧ u16 p 0x10 = 1 ∧ u16 p 0x12 = 1 ∧ inSession.unlocked hp = true) ∧
    (∃ p : Rec, p.length = 32 ∧ u64 p 8 ≠ 0 ∧ u64 p 0x10 ≠ 0 ∧ u64 p 0x18 ≠ 0) ∧
    (∃ p : Rec, ∃ s : State, p.length = 16 ∧ byteAt p 0 = 15 ∧ byteAt p 1 = 1 ∧ byteAt p 2 = 7 ∧
      ioSoftLo (at_ s.ios 15).record ≤ i40 p 8 ∧ i40 p 8 = ioSoftHi (at_ s.ios 15).record ∧ (at_ s.axes 15).state = 1 ∧
      ioSource (at_ s.ios 15).record = 0 ∧ s.headAxis 15 = false) ∧
    (∃ p : Rec, p.length = 4 ∧ byteAt p 0 = 15 ∧ byteAt p 1 = 2 ∧ (at_ rdy.axes 15).state ≠ 1 ∧ rdy.headAxis 15 = false) ∧
    ((at_ inHeel.axes 15).state = 2 ∧ inHeel.heelHolds 15 = false ∧ inHeel.fbValid 15 = 100 ∧
      (at_ inHeel.axes 15).bankValid = true) ∧
    (∃ p : Rec, p.length = 36 ∧ ∀ i < 8, 40 ≤ u16 p (4 * i + 2) ∧ u16 p (4 * i + 2) ≤ 40000) :=
  ⟨⟨⟨overlay (AxisIo.defaultRecord 15) 0x20 (le 4 16), by decide⟩, by decide⟩, ⟨pay 32 ([15, 0] ++ le 2 400 ++ zeros 12 ++ le 4 4000000), by decide⟩,
    ⟨pay 32 ([15, 0x7F] ++ zeros 14 ++ le 2 10000 ++ le 2 100), by decide⟩, ⟨pay 32 ([15, 0] ++ zeros 14 ++ le 2 1 ++ le 2 1), by decide⟩,
    ⟨pay 32 ([15] ++ zeros 7 ++ le 8 1 ++ le 8 1 ++ le 8 1), by decide⟩,
    ⟨[15, 1, 7, 0, 0, 0, 0, 0] ++ le 8 (0x7FFF * 2 ^ 24), withAxis (fun x => { x with state := 1 }) id, by decide⟩,
    ⟨[15, 2, 0, 0], by decide⟩, by decide, ⟨ShowIo.reset.cfg, by decide⟩⟩

/-- LOCKOUT, all zones cool, `n` tags of transfers of the host held. -/
def lockedOut (n : Nat) : State :=
  { rdy with
    mbx := { Mailbox.reset with fwState := 4 }, th := { Thermal.reset with state := 3 },
    fetch := { FetchUnit.reset with held := [n, 0, 0, 0] } }

theorem wit_thermal :
    (∃ s : State, ∃ c, s.inForceContent 1 = .calib c ∧ c.model = some (zeros 40) ∧ s.mbx = rdy.mbx) ∧
    (∃ p : Rec, p.length = 40 ∧ modelOk p = true) ∧ (∃ p : Rec, p.length = 80 ∧ compOk p = true) ∧
    (inSession.unlocked hp = true ∧ inSession.kennelWait 2 = none ∧ inSession.pendingCount < 16) ∧
    (∃ p : Rec, ∃ s : State, p.length = 4 ∧ bit (u16 p 0) 15 = true ∧ bit (u16 p 0) 14 = false ∧
      (at_ s.th.zones 15).suspect = true ∧ s.mbx = rdy.mbx) :=
  ⟨⟨{ rdy with ken := { Kennel.reset with slots := upd Kennel.reset.slots 2 fun k => { k with
      state := 1, seq := 1, content := .calib ⟨none, some (zeros 40), [], [], [], [], []⟩ } } }, _, rfl, rfl, rfl⟩,
    ⟨zeros 36 ++ le 4 (crc32 (zeros 36)).toNat, by decide⟩, ⟨zeros 76 ++ le 4 (crc32 (zeros 76)).toNat, by decide⟩, by decide,
    ⟨[0, 0x80, 0, 0], { rdy with th := { Thermal.reset with
      zones := upd Thermal.reset.zones 15 fun x => { x with suspect := true } } }, by decide, by decide, by decide, by decide, rfl⟩⟩

theorem wit_restartInterval :
    ((lockedOut 0).mbx.fwState = 4 ∧ (lockedOut 0).isHere hp = true ∧ (lockedOut 0).slotFree = true) ∧
    ((lockedOut 0).th.state = 3 ∧ (lockedOut 0).allCool = true ∧ (lockedOut 0).noTags = true) ∧
    ((lockedOut 1).th.state = 3 ∧ (lockedOut 1).allCool = true ∧ (lockedOut 1).noTags = false) ∧
    (∃ s : State, s.mbx.fwState = 3 ∧ s.isHere hp = true ∧ s.slotFree = true ∧ s.th.state ≠ 3) ∧
    (∃ s : State, s.mbx.fwState = 4 ∧ s.th.state = 3 ∧ s.allCool = false) ∧
    (∃ p : Rec, p.length = 4 ∧ byteAt p 0 = 14) :=
  ⟨by decide, by decide, by decide, ⟨{ rdy with mbx := { Mailbox.reset with fwState := 3 } }, by decide⟩,
    ⟨{ lockedOut 0 with th := { Thermal.reset with
      state := 3, zones := Thermal.reset.zones.map fun z => { z with effective := 800 } } }, by decide⟩,
    ⟨[14, 0, 0, 0], by decide⟩⟩

theorem wit_kennel :
    (∃ p : Rec, p.length = 8 ∧ calCfgOk p = true) ∧
    (∃ p : Rec, p.length = 4 ∧ byteAt p 1 < calUnits (byteAt p 0) ∧ byteAt p 0 = 3 ∧ byteAt p 1 = 15 ∧ byteAt p 2 = 1) ∧
    (∃ s : State, (at_ s.cal.units (calIndex 3 15)).suspended = true ∧ s.mbx = rdy.mbx) ∧
    (∃ p : Rec, p.length = 4 ∧
      spanOk (if byteAt p 0 = 1 then 192 else calUnits (byteAt p 0)) 14 (byteAt p 1) (byteAt p 2) = true ∧
      byteAt p 0 = 1 ∧ byteAt p 1 = 178 ∧ byteAt p 2 = 14) ∧
    (∃ p : Rec, p.length = 4 ∧ byteAt p 0 = 7 ∧ rdy.pendingCount < 16 ∧ rdy.kennelWait 7 = none ∧
      inSession.unlocked hp = true ∧ inSession.pendingCount < 16) ∧
    (∃ p : Rec, p.length = 8 ∧ u32 p 0 = 600 ∧ u32 p 4 = 86400) ∧
    (∃ p : Rec, p.length = 10 ∧ byteAt p 0 = 2 ∧ byteAt p 1 = 1 ∧ u16 p 8 = 240 ∧ u32 p 4 + u16 p 8 = 65536) :=
  ⟨⟨Calib.reset.cfg, by decide⟩, ⟨[3, 15, 1, 0], by decide⟩,
    ⟨{ rdy with cal := { Calib.reset with units := Calib.reset.units.map fun u => { u with suspended := true } } }, by decide, rfl⟩,
    ⟨[1, 178, 14, 0], by decide⟩, ⟨[7, 0, 0, 0], by decide⟩, ⟨le 4 600 ++ le 4 86400, by decide⟩,
    ⟨[2, 1, 0, 0] ++ le 4 65296 ++ le 2 240, by decide⟩⟩

/-! ## Witnesses: Cumaslink, content, effects, security, patina, firmware -/

/-- The root of a tree, all ports up. -/
def root : State :=
  { ticking with cl := { Cumaslink.reset with
    cfg := overlay Cumaslink.reset.cfg 0 [0x0D], addr := some 0, ports := List.replicate 3 { ClPort.reset with state := 2 } } }

/-- A node with address 7, all ports up. -/
def node : State := { root with cl := { root.cl with cfg := Cumaslink.reset.cfg, addr := some 7 } }

/-- CL_BROADCAST of a STATUS entry. -/
def bcastPay : Rec := pay 32 ([1] ++ zeros 15 ++ le 2 0x0100)

theorem wit_cumaslink :
    (root.accepts hp ∧ Cumaslink.reset.cfg.length = 16 ∧ clDepthSet Cumaslink.reset.cfg = 0xFFFF ∧
      1 ≤ u16 Cumaslink.reset.cfg 6 ∧ rdy.cl.enumRunning = false) ∧
    (∃ p : Rec, p.length = 16 ∧ clDepthSet p = 4095 ∧ clRootBit p = true ∧ u16 p 6 = 600) ∧
    (root.isRoot = true ∧ root.cl.enumRunning = false) ∧
    (32 ≤ bcastPay.length ∧ bcastPay.length = 32 + u16 bcastPay 0x12 ∧ bcastPay.length ≤ 240 ∧ root.pendingCount < 16 ∧
      byteAt bcastPay 0 = 1 ∧ u16 (bcastPay.drop 16) 0 ≠ 0x0D03) ∧
    (∃ p : Rec, p.length = 240 ∧ p.length = 32 + u16 p 0x12 ∧ byteAt p 0 = 0) ∧
    (∃ p : Rec, p.length = 12 ∧ root.tickKind (u32 p 0) = 1) ∧ (∃ p : Rec, p.length = 12 ∧ root.tickKind (u32 p 0) ≠ 1) ∧
    (∃ p : Rec, p.length = 4 ∧ u16 p 2 = 960 ∧ u16 p 0 + u16 p 2 = 65536) :=
  ⟨⟨accepts_of rfl, by decide⟩, ⟨[1, 0, 0, 0] ++ le 2 4095 ++ le 2 600 ++ zeros 8, by decide⟩, by decide, by decide,
    ⟨pay 240 (zeros 18 ++ le 2 208), by decide⟩, ⟨pay 12 [1], by decide⟩, ⟨pay 12 [], by decide⟩,
    ⟨le 2 64576 ++ le 2 960, by decide⟩⟩

theorem first_free : ((List.range 4096).find? fun i => (ticking.clipAt i).isNone) = some 0 := by
  rw [List.range_eq_range', List.range'_succ]; rfl

/-- A mounted store without clips. -/
def emptyStore : State := { ticking with cs := { ContentStore.reset with state := 3, blocks := 5, poolBytes := 0x100000 } }

/-- The store with a play on layer 7. -/
def playing : State :=
  { stored with cs := { stored.cs with plays := upd stored.cs.plays 7 fun _ => some ⟨1, 0, 0, false, 0, false, 2, [], [], 8192⟩ } }

theorem wit_content :
    (stored.accepts hp ∧ playing.accepts hp ∧ emptyStore.accepts hp) ∧
    (∃ p : Rec, p.length = 20 ∧ u64 p 0 % 4096 = 0 ∧ u32 p 0x10 = 8000 ∧ stored.mounted = true ∧
      stored.playBytes + stored.cs.rings.sum = 0) ∧
    (∃ p : Rec, p.length = 4 ∧ stored.pendingCount < 16 ∧ u16 p 0 = 0x7196 ∧ stored.cs.state = 3 ∧
      ∀ x ∈ stored.cs.table, stored.clipBusy (clId x.2) = false) ∧
    (∃ p : Rec, p.length = 80 ∧ emptyStore.pendingCount < 16 ∧ u32 p 0 = 0xFFFFFFFE ∧
      infoOk (byteAt p 4) (slice p 0x10 64) = true ∧ emptyStore.mounted = true ∧ emptyStore.clip (u32 p 0) = none ∧
      allocate (freeRuns emptyStore.cs.blocks emptyStore.usedExtents) (ceilDiv (u64 p 8) 1048576) = some [(0, 5)]) ∧
    ((List.range 4096).find? fun i => (emptyStore.clipAt i).isNone) = some 0 ∧
    (∃ (p : Rec) (r : Rec), p.length = 24 ∧ stored.clip (u32 p 0) = some (5, r) ∧ u64 p 8 % 4096 = 0 ∧ u32 p 4 = 4096 ∧
      u64 p 8 + u32 p 4 = clBytes r ∧ clSealed r = false) ∧
    (∃ (p : Rec) (r : Rec), p.length = 8 ∧ stored.clip (u32 p 0) = some (5, r)) ∧
    (∃ (p : Rec) (r : Rec), p.length = 4 ∧ stored.clip (u32 p 0) = some (4, r) ∧ stored.clipBusy (u32 p 0) = false) ∧
    (∃ p : Rec, p.length = 2 ∧ u16 p 0 = 4095) ∧
    (∃ p : Rec, p.length = 16 ∧ byteAt p 0 = 7 ∧ byteAt p 1 = 2 ∧
      (∀ x, playing.cs.plays.getD (byteAt p 0) none = some x → playing.clipNamed x.clip = false) ∧
      (∀ x, playing.cs.playWait.getD (byteAt p 0) none = some x → playing.clipNamed x.clip = false)) ∧
    (∃ (p : Rec) (r : Rec), p.length = 16 ∧ byteAt p 0 = 7 ∧ byteAt p 1 = 1 ∧ byteAt p 2 = 16 ∧
      stored.clip (u32 p 4) = some (1, r) ∧ clType r = 1 ∧ u32 p 0x0C < inFrames (clInfo r) ∧ clSealed r = true ∧
      byteAt p 2 * inFrameBytes (clInfo r) ≤ stored.poolFree ∧ stored.cs.plays.getD (byteAt p 0) none = none) ∧
    (playing.cs.plays.getD 7 none ≠ none ∧ playing.mounted = true ∧
      ∃ r, playing.clip 1 = some (1, r) ∧ clType r = 1 ∧ 2 * inFrameBytes (clInfo r) ≤ playing.poolFree) ∧
    (∃ p : Rec, p.length = 12 ∧ byteAt p 0 = 3 ∧ byteAt p 1 = 0) ∧
    (∃ (p : Rec) (r : Rec), p.length = 12 ∧ byteAt p 0 = 3 ∧ byteAt p 1 = 1 ∧ stored.clip (u32 p 4) = some (4, r) ∧
      clType r = 4 ∧ clSealed r = true ∧ stored.cs.players.getD (byteAt p 0) none = none) :=
  ⟨⟨accepts_of rfl, accepts_of rfl, accepts_of rfl⟩, ⟨zeros 16 ++ le 4 8000, by decide⟩, ⟨[0x96, 0x71, 0, 0], by decide⟩,
    ⟨le 4 0xFFFFFFFE ++ [3, 0, 0, 0] ++ le 8 0x500000 ++ zeros 64, by decide⟩, by
      rw [List.range_eq_range', List.range'_succ]; rfl,
    ⟨pay 24 (le 4 5 ++ le 4 4096), (clipRecord 5 2 4096 [(5, 1)] (zeros 64)), by decide⟩,
    ⟨pay 8 [5], (clipRecord 5 2 4096 [(5, 1)] (zeros 64)), by decide⟩, ⟨[4, 0, 0, 0], (clipOf 4 4 64 (zeros 64)).2, by decide⟩,
    ⟨[0xFF, 0x0F], by decide⟩, ⟨pay 16 [7, 2], by decide, by decide, by decide, by
      intro x hx; rw [show playing.cs.plays.getD (byteAt (pay 16 [7, 2]) 0) none = some ⟨1, 0, 0, false, 0, false, 2, [], [], 8192⟩
        by decide] at hx; injection hx with hx; subst hx; decide, by
      intro x hx; rw [show playing.cs.playWait.getD (byteAt (pay 16 [7, 2]) 0) none = none by decide] at hx; cases hx⟩,
    ⟨pay 16 ([7, 1, 16, 0] ++ le 4 1 ++ zeros 4 ++ le 4 1), (clipOf 1 1 8192 picInfo).2, by decide⟩,
    ⟨by decide, by decide, (clipOf 1 1 8192 picInfo).2, by decide⟩, ⟨pay 12 [3], by decide⟩,
    ⟨pay 12 ([3, 1, 0, 0] ++ le 4 4), (clipOf 4 4 64 (zeros 64)).2, by decide⟩⟩

theorem wit_effect :
    ((EffectOut.defaultRecord 3).length = 16 ∧ epRecordOk (EffectOut.defaultRecord 3) = true) ∧
    (∃ p : Rec, p.length = 8 + 4 * u16 p 4 ∧ byteAt p 0 = 3 ∧ u16 p 4 = 58 ∧ u16 p 2 + u16 p 4 = 2048) ∧
    (∃ p : Rec, p.length = 4 ∧ bit (byteAt p 0) 3 = true ∧ bit (byteAt p 0) 2 = false) ∧
    (∃ p : Rec, p.length = 32 ∧ patternOk (p.drop 8) = true ∧ byteAt p 0 = 0) ∧
    (∃ p : Rec, p.length = 32 ∧ patternOk (p.drop 8) = true ∧ byteAt p 0 = 1 ∧ byteAt p 9 = 2) ∧
    (∃ p : Rec, p.length = 32 ∧ patternOk (p.drop 8) = true ∧ byteAt p 0 = 2 ∧ byteAt p 9 = 1) :=
  ⟨by decide, ⟨pay 240 ([3, 0] ++ le 2 1990 ++ le 2 58), by decide⟩, ⟨[8, 0, 0, 0], by decide⟩, ⟨zeros 32, by decide⟩,
    ⟨pay 32 ([1] ++ zeros 7 ++ [3, 2] ++ zeros 14 ++ le 2 1024 ++ le 2 10000), by decide⟩,
    ⟨pay 32 ([2] ++ zeros 7 ++ [3, 1] ++ zeros 10 ++ le 2 60000 ++ [255, 255]), by decide⟩⟩

/-- The generator of P-256. -/
def generator : Rec := le 32 0x6b17d1f2e12c4247f8bce6e563a440f277037d812deb33a0f4a13945d898c296 ++
  le 32 0x4fe342e2fe1a7f9b8ee7eb4a7c0f9e162bce33576b315ececbb6406837bf51f5

/-- A challenge drawn, keys 0 and 1 enrolled, no session. -/
def challenged : State := { inSession with sec := { inSession.sec with session := none, nonce := some (zeros 32, 0) }, now := 60 * tuS }

theorem wit_security :
    (inSession.accepts hp ∧ challenged.accepts hp) ∧ (∃ p : Rec, p.length = 4 ∧ u16 p 2 = 232) ∧
    (rdy.pendingCount < 16 ∧ (∀ c ∈ rdy.mbx.parked, c.opcode ≠ 0x1002) ∧ rdy.sec.lockUntil = none) ∧
    (∃ p : Rec, p.length = 72 ∧ byteAt p 0 = 1 ∧ byteAt p 1 = 3 ∧ u32 p 4 = 86400 ∧
      challenged.sec.nonce = some (zeros 32, 0) ∧ challenged.now = 0 + 60 * tuS ∧ challenged.sec.session = none ∧
      (at_ challenged.sec.owners (byteAt p 0)).enrolled = true ∧ (at_ challenged.sec.owners (byteAt p 0)).revoked = false) ∧
    (∃ x, inSession.sec.session = some x ∧ x.cl = viaCl hp) ∧
    (∃ p : Rec, p.length = 68 ∧ byteAt p 0 = 3 ∧ onCurve (p.drop 4) = true ∧ (∀ o ∈ rdy.sec.owners, o.enrolled = false)) ∧
    (∃ p : Rec, p.length = 68 ∧ byteAt p 0 = 2 ∧ onCurve (p.drop 4) = true ∧ inSession.unlocked hp = true ∧
      (at_ inSession.sec.owners 2).enrolled = false) ∧
    (∃ p : Rec, p.length = 4 ∧ byteAt p 0 = 0 ∧ (at_ inSession.sec.owners 0).enrolled = true ∧
      (at_ inSession.sec.owners 0).revoked = false ∧ (1 : Nat) ≠ 0 ∧ 1 < inSession.sec.owners.length ∧
      (at_ inSession.sec.owners 1).enrolled = true ∧ (at_ inSession.sec.owners 1).revoked = false) ∧
    (∃ p : Rec, p.length = 4 ∧ bit (byteAt p 1) (leAt (inSession.imageField 0x11 1) 0 1 % 4) = false) :=
  ⟨⟨accepts_of rfl, accepts_of rfl⟩, ⟨[0, 0, 232, 0], by decide⟩, by decide, ⟨pay 72 ([1, 3, 0, 0] ++ le 4 86400), by decide⟩,
    ⟨⟨1, false, 0, 3, 1000⟩, by decide⟩, ⟨[3, 0, 0, 0] ++ generator, by decide⟩, ⟨[2, 0, 0, 0] ++ generator, by decide⟩,
    ⟨[0, 0, 0, 0], by decide⟩, ⟨[0, 0, 0, 0], by decide⟩⟩

theorem wit_patina :
    (∃ p : Rec, p.length = 12 ∧ u16 p 2 = 2560 ∧ paReset p = 100) ∧ (∃ p : Rec, p.length = 12 ∧ u16 p 2 = 256 ∧ paReset p = 50) ∧
    (∃ p : Rec, p.length = 4 ∧ spanOk 192 14 (byteAt p 0) (byteAt p 1) = true ∧ byteAt p 0 = 178) ∧
    (∃ p : Rec, p.length = 4 ∧ spanOk 24 4 (byteAt p 0) (byteAt p 1) = true ∧ byteAt p 0 = 20) ∧
    (∃ p : Rec, p.length = 28 ∧ inSession.unlocked hp = true ∧ byteAt p 0 = 1 ∧ chanMask p 4 191 = true) :=
  ⟨⟨zeros 2 ++ le 2 2560 ++ zeros 4 ++ [100, 0, 0, 0], by decide⟩, ⟨zeros 2 ++ le 2 256 ++ zeros 4 ++ [50, 0, 0, 0], by decide⟩,
    ⟨[178, 14, 0, 0], by decide⟩, ⟨[20, 4, 0, 0], by decide⟩, ⟨[1] ++ zeros 26 ++ [0x80], by decide⟩⟩

/-- A boot record with SEQ 1, PREFERRED 1 and TRIAL 1, in copy 0. -/
def bootRecTrial : Rec :=
  let r := [0x46, 0x4A, 0x42, 0x52] ++ le 4 1 ++ [1, 1, 1] ++ zeros 17
  r ++ le 4 (crc32 r).toNat

/-- A trial boot of image B, the flash otherwise erased. -/
def onTrial : State := { inSession with boot := { inSession.boot with slot := some 1, flash := spPut 0xFF [] 0 bootRecTrial } }

theorem wit_firmware :
    (onTrial.accepts hp ∧ onTrial.unlocked hp = true ∧ onTrial.pendingCount < 16 ∧ onTrial.boot.slot ≠ some 2 ∧
      onTrial.boot.slot ≠ some 0) ∧
    (∃ p : Rec, p.length = 16 + u16 p 8 ∧ byteAt p 0 = 2 ∧ u16 p 8 = 224 ∧ u32 p 4 + u16 p 8 = 0x1000000) ∧
    (∃ p : Rec, p.length = 4 ∧ byteAt p 0 = 1) ∧ (onTrial.trialSet = true ∧ onTrial.boot.slot = some onTrial.preferred) :=
  ⟨⟨accepts_of rfl, by decide⟩, ⟨pay 240 ([2, 0, 0, 0] ++ le 4 0xFFFF20 ++ le 2 224), by decide⟩, ⟨[1, 0, 0, 0], by decide⟩, by decide⟩

/-! ## Witnesses: the host's side, start-up, faults, whole-device statements -/

/-- The host has written one command and rung. -/
def rung : State := { rdy with mbx := { rdy.mbx with
  cmdProd := 1, visible := [0], bar2 := spPut 0 [] 0 (entryBytes 0x0200 hp [0x49]) } }

/-- Both heads wait. -/
def contestedState (token : Bool) : State := { rung with mbx := { rung.mbx with
  tokenCl := token, clBox := [⟨.node 9, entryBytes 0x0100 hp [], none, 0⟩] } }

/-- No reply slot is free. -/
def ringFull : State := { rung with mbx := { rung.mbx with rplProd := 64 } }

theorem wit_indexWrites :
    (rung.mbx.linkUp = true ∧ ∃ v : W32, (v.setWidth 16 - rung.mbx.cmdCons).toNat = 64 ∧
      (v.setWidth 16 - rung.mbx.cmdProd).toNat = (rung.mbx.cmdCons + 64 - rung.mbx.cmdProd).toNat) ∧
    (∃ v : W32, ¬((v.setWidth 16 - rung.mbx.cmdCons).toNat ≤ 64 ∧
      (v.setWidth 16 - rung.mbx.cmdProd).toNat ≤ (rung.mbx.cmdCons + 64 - rung.mbx.cmdProd).toNat)) ∧
    (∃ v : W32, v.setWidth 16 = rung.mbx.cmdProd ∧ (rung.mbx.cmdProd - rung.mbx.cmdCons).toNat ≤ 64) ∧
    (∃ v : W32, (v.setWidth 16 - ringFull.mbx.rplCons).toNat = (ringFull.mbx.rplProd - ringFull.mbx.rplCons).toNat) ∧
    (∃ v : W32, ¬(v.setWidth 16 - ringFull.mbx.rplCons).toNat ≤ (ringFull.mbx.rplProd - ringFull.mbx.rplCons).toNat) :=
  ⟨⟨by decide, 64, by decide⟩, ⟨65, by decide⟩, ⟨1, by decide⟩, ⟨64, by decide⟩, ⟨65, by decide⟩⟩

theorem wit_takes :
    (rung.ringReady = true ∧ rung.clReady = false ∧ rung.waits rung.ringHead .pcie = true) ∧
    ((contestedState false).ringReady = true ∧ (contestedState false).clReady = true ∧ (contestedState true).ringReady = true ∧
      (contestedState true).clReady = true ∧ (contestedState true).mbx.tokenCl = true) ∧
    (∃ w rest, ({ contestedState false with mbx := { (contestedState false).mbx with visible := [] } } : State).mbx.clBox = w :: rest ∧
      ({ contestedState false with mbx := { (contestedState false).mbx with visible := [] } } : State).ringReady = false) ∧
    ringFull.slotFree = false :=
  ⟨by decide, by decide, ⟨_, _, rfl, by decide⟩, by decide⟩

theorem wit_replyFills : hp.origin = .pcie ∧ ∃ r : Reply, r.payload.length = 240 :=
  ⟨rfl, ⟨{ op := 0x0100, tag := 0, code := 0, payload := zeros 240 }, by decide⟩⟩

/-- Commands parked on outside work, one of each kind, and one forwarded. -/
def parkedState (op : Nat) : State := { rdy with mbx := { rdy.mbx with
  parked := [⟨op, hp, zeros 32, 0, 0, none, false⟩], remotes := [⟨0x0100, hp, 50 * tuMs, false⟩] } }

theorem wit_outsideCompletions :
    (∃ c, (parkedState 0x1002).mbx.parked[0]? = some c ∧ c.mute = false ∧ c.opcode = 0x1002) ∧
    (∃ c, (parkedState 0x0182).mbx.parked[0]? = some c ∧ c.mute = false ∧ c.opcode = 0x0182) ∧
    (∃ c, (parkedState 0x0183).mbx.parked[0]? = some c ∧ c.mute = false ∧ c.opcode = 0x0183) ∧
    (∃ r, (parkedState 0x1002).mbx.remotes[0]? = some r ∧ r.mute = false) ∧
    (inSession.pendingCount < 16 ∧ inSession.unlocked hp = true ∧ inSession.boot.slot ≠ some 2) ∧
    (∃ p : Rec, p.length = 4 ∧ byteAt p 0 = 2) ∧ (∃ p : Rec, p.length = 4 ∧ byteAt p 0 = 1) ∧
    (∃ p : Rec, p.length = 16 + u16 p 8 ∧ byteAt p 0 = 2 ∧ u16 p 8 = 224 ∧ u32 p 4 + u16 p 8 = 0x1000000) :=
  ⟨⟨_, rfl, by decide⟩, ⟨_, rfl, by decide⟩, ⟨_, rfl, by decide⟩, ⟨_, rfl, rfl⟩, by decide, ⟨[2, 0, 0, 0], by decide⟩,
    ⟨[1, 0, 0, 0], by decide⟩, ⟨pay 240 ([2, 0, 0, 0] ++ le 4 (0x1000000 - 224) ++ [224]), by decide⟩⟩

theorem wit_hostLink : rdy.mbx.linkUp = true ∧ (∃ s : State, s.mbx.linkUp = false) ∧
    (∃ s : State, s.mbx.linkUp = true ∧ s.mbx.ltrEnable = true) :=
  ⟨rfl, ⟨{ rdy with mbx := { rdy.mbx with linkUp := false } }, rfl⟩,
    ⟨{ rdy with mbx := { rdy.mbx with ltrEnable := true } }, by decide⟩⟩

theorem wit_startUp :
    State.reset.boot.porstLow = true ∧
    (∃ s : State, s.boot.porstLow = false ∧ s.mbx.fwState = 0 ∧ s.boot.cause = 0 ∧ s.diag.deferredEvents = []) ∧
    (∃ s : State, s.boot.porstLow = false ∧ s.mbx.fwState = 2 ∧ s.boot.cause ≠ 0 ∧ s.diag.deferredEvents = []) ∧
    (∃ s : State, s.th.state = 1 ∧ s.mbx.fwState ≠ 5 ∧ s.noTags = true ∧ s.th.released = false ∧ s.th.coolSince = some 0) :=
  ⟨rfl, ⟨{ rdy with mbx := Mailbox.reset }, by decide⟩,
    ⟨{ rdy with mbx := { Mailbox.reset with fwState := 2 }, boot := { rdy.boot with cause := 1 } }, by decide⟩,
    ⟨{ rdy with th := { Thermal.reset with state := 1, coolSince := some 0 } }, by decide⟩⟩

theorem wit_faults : (rdy.boot.porstLow = false ∧ rdy.axes.length = 16 ∧ rdy.mbx.fwState = 1 ∧ rdy.sec.halted = false) ∧
    (∃ s : State, s.boot.porstLow = false ∧ s.axes.length = 16 ∧
      3 ≤ ((s.now :: s.th.tripTimes).filter fun x => decide (s.now - x ≤ 600 * tuS)).length) :=
  ⟨by decide, ⟨{ rdy with th := { Thermal.reset with tripTimes := [0, 0] } }, by decide⟩⟩

theorem wit_bridge : (rdy.show_.bridgeLost = false ∧ rdy.axes.length = 16) ∧
    (∃ s : State, s.show_.bridgeLost = true) ∧ (∃ s : State, (at_ s.axes 7).state ≠ 0 ∧ (at_ s.axes 8).state = 0) :=
  ⟨by decide, ⟨{ rdy with show_ := { rdy.show_ with bridgeLost := true } }, rfl⟩,
    ⟨{ rdy with axes := upd rdy.axes 7 fun x => { x with state := 1 } }, by decide⟩⟩

/-- A command for node 7, and a full waiting list. -/
def toNode : Hdr := ⟨.pcie, 2, false, 7⟩
def busyWith (n : Nat) : State := { rdy with mbx := { rdy.mbx with parked := List.replicate n ⟨0x0183, hp, [], 0, 0, none, false⟩ } }

theorem wit_commandsAreChecked :
    (State.reset.mbx.fwState = 0 ∧ State.reset.slotFree = true ∧ (lockedOut 0).mbx.fwState = 4 ∧ (lockedOut 0).slotFree = true ∧
      hwOpcode 0x0200 = false) ∧
    (rdy.mbx.fwState = 1 ∧ rdy.slotFree = true ∧ rdy.isHere hp = true ∧ ∃ c, commandOf 0x0200 = some c ∧ c.op ≠ 0x0100 ∧
      c.len [] = false) ∧
    ((busyWith 16).slotFree = true ∧ (busyWith 16).isHere hp = true ∧ 16 ≤ (busyWith 16).pendingCount ∧
      ∃ c, commandOf 0x0183 = some c ∧ c.len [1, 0, 0, 0] = true ∧ c.parks [1, 0, 0, 0] = true) ∧
    (rdy.isHere toNode = false ∧ rdy.cl.addr = none ∧ rdy.pendingCount < 16) ∧
    (node.isHere { toNode with target := 8 } = false ∧ node.cl.addr ≠ none ∧ node.pendingCount < 16 ∧ node.mbx.fwState = 1) ∧
    commandOf 0xFFFF = none :=
  ⟨by decide, ⟨rfl, by decide, by decide, _, rfl, by decide, by decide⟩,
    ⟨by decide, by decide, by decide, _, rfl, by decide, by decide⟩, by decide, by decide, rfl⟩

theorem wit_refused : ∃ c code payload t, commandOf 0x0200 = some c ∧
    c.run hp [0, 0, 0, 0] rdy = (.reply code payload, t) ∧ code ≠ cOk ∧ code ≠ cLate :=
  ⟨_, cBadParam, [], _, rfl, rfl, by decide⟩

/-- An event queue of 1,024 records with one lost. -/
def fullQueue : EventQueue :=
  { recs := List.replicate 1024 (mkEvent 0x0101 0 0 0 0), seq := 1024, lost := [(0x0101, 1), (0x0201, 0xFFFFFFFF)] }

theorem wit_eventQueueKeeps :
    (rdy.evq.recs.length < 1024 ∧ rdy.evq.lost.Pairwise (fun (a b : W16 × Nat) => a.1.toNat < b.1.toNat) ∧
      ∀ a ∈ rdy.evq.lost, 0 < a.2) ∧
    (1024 ≤ fullQueue.recs.length ∧ fullQueue.lost.Pairwise (fun (a b : W16 × Nat) => a.1.toNat < b.1.toNat) ∧
      ∀ a ∈ fullQueue.lost, 0 < a.2) :=
  ⟨by decide, by simp [fullQueue], by decide, by decide⟩

theorem wit_sparse : spWf (0 : Byte) State.reset.mbx.bar2 = true ∧ spWf (0xFF : Byte) State.reset.boot.flash = true ∧
    spWf (0 : Byte) (spPut 0 [] 5 [1, 0, 2]) = true := by decide

theorem wit_tickLengths : modeOk 0x49 = true ∧ ((60, 0x17D783E8) : Nat × Nat).1 + (5 : W32).toNat ≤ 2 ^ 32 := by decide

theorem wit_longTick : (sumOk State.reset.com.live = true ∧ State.reset.com.live.lastDump = some 0 ∧
      State.reset.tk.len = baseTick State.reset.com.live.mode.toNat) ∧
    (∃ s : State, sumOk s.com.live = true ∧ s.com.live.lastDump = some 1 ∧ s.tk.len = baseTick s.com.live.mode.toNat + 1) :=
  ⟨by decide, ⟨{ rdy with
    com := { rdy.com with live := { Cfg.reset with armature := picArmature } }, tk := { rdy.tk with len := 6666667 } }, by decide⟩⟩

theorem wit_coefficientBanks :
    (∃ p : Rec, p.length = 112 ∧ byteAt p 0 = 15 ∧ byteAt p 1 = 1 ∧ coefOk (slice p 8 104) = true ∧
      (at_ rdy.axes 15).active = false ∧ (at_ rdy.axes 15).swapAt = none) ∧
    (∃ p : Rec, p.length = 112 ∧ byteAt p 1 = 0 ∧ coefOk (slice p 8 104) = true ∧ (at_ rdy.axes (byteAt p 0)).active = false) ∧
    (∃ s : State, (at_ s.axes 15).active = true ∧ (at_ s.axes 15).swapAt = none ∧ s.mbx = rdy.mbx) ∧
    (∃ s : State, (at_ s.axes 15).active = true ∧ (at_ s.axes 15).swapAt.isSome = true ∧ s.mbx = rdy.mbx) :=
  ⟨⟨[15, 1] ++ zeros 6 ++ coefRec, by decide⟩, ⟨[15, 0] ++ zeros 6 ++ coefRec, by decide⟩,
    ⟨withAxis (fun x => { x with active := true }) id, by decide, by decide, rfl⟩,
    ⟨withAxis (fun x => { x with active := true, swapAt := some 5 }) id, by decide, by decide, rfl⟩⟩

theorem wit_resetMode : State.reset.com.live = State.reset.com.maq := rfl

theorem wit_gates : State.reset.gatesHold ∧ ∃ s', Sys2Proof.Machine.step State.reset = .next s' :=
  ⟨⟨fun _ => by decide, fun _ => rfl, fun h => by cases h⟩, ⟨_, rfl⟩⟩

/-! ## Witnesses: events between commands -/

/-- Tick 0 of the armature with a PIC slot of array 0, the sequencer playing, array 0 in service on lane 0, cast 0 in
force and showing it. -/
def sequencing : State :=
  { ticking with
    com := { CommitUnit.reset with live := { Cfg.reset with armature := picArmature } },
    pl := (withArray 5 goodLane).pl,
    chi := { ChiselUnit.reset with
      sequencing := true, inForce := 0, slots := upd ChiselUnit.reset.slots 0 fun _ => spPut 0 [] 0 (overlay castBytes 3 [1]),
      runs := upd ChiselUnit.reset.runs 0 fun r => { r with group := some 0 } } }

theorem wit_instants :
    (sequencing.tk.open_ = true ∧ sequencing.tk.renumberDue = false ∧ sequencing.tk.slot = none ∧
      sequencing.chi.sequencing = true ∧ sequencing.chi.runs.length = 4 ∧ 0 < sequencing.com.live.slots.length) ∧
    (∃ s : State, s.tk.open_ = true ∧ s.tk.slot = some 0 ∧ s.chi.sequencing = true ∧ s.chi.runs.length = 4 ∧
      1 + 1 = s.com.live.slots.length) ∧
    ((at_ sequencing.chi.runs 0).group = some 0 ∧ sequencing.plays 0 = true) ∧
    ((sequencing.array 0).state = 5 ∧ sequencing.mapSet 0 ≠ [] ∧ sequencing.com.live.picIndex 0 ≠ [] ∧
      sequencing.dueCfg.picIndex 0 ≠ []) ∧
    (∃ (s : State) (q : Pending) (set : SourceSet), s.tk.open_ = true ∧ s.tk.renumberDue = false ∧ s.chi.plinth = false ∧
      s.inTrip = false ∧ s.com.next = some q ∧ q.bound = some set ∧ s.src.apply = none) ∧
    (∃ (s : State) (set : SourceSet), s.tk.open_ = true ∧ s.tk.renumberDue = false ∧ s.chi.plinth = true ∧ s.inTrip = true ∧
      s.com.next = none ∧ s.src.apply = some set ∧ s.chi.switch_.isSome = true) :=
  ⟨by decide, ⟨{ sequencing with tk := { sequencing.tk with slot := some 0 } }, by decide⟩, by decide, by decide,
    ⟨{ ticking with com := { CommitUnit.reset with next := some ⟨1, Cfg.reset, some SourceUnit.reset.live, 0⟩ } }, _, _,
      rfl, rfl, rfl, rfl, rfl, rfl, rfl⟩,
    ⟨{ ticking with
        mbx := { Mailbox.reset with fwState := 3 }
        chi := { ChiselUnit.reset with plinth := true, switch_ := some 1 }
        src := { SourceUnit.reset with apply := some SourceUnit.reset.live } }, _, rfl, rfl, rfl, rfl, rfl, rfl, rfl⟩⟩

/-- A read of points of head 3 by the host, a fence read of layer 7 under way. -/
def fetching : State :=
  { ticking with
    fetch := { FetchUnit.reset with inflight := [⟨.points 3, 0, 2, 0, true, default, 0, 0⟩] },
    com := { CommitUnit.reset with fences := [{ (default : Fence) with layer := 7, startSt := 1 }] } }

theorem wit_fetch :
    (ticking.tk.open_ = true ∧ ticking.inTrip = false ∧ ticking.fetch.line < vTotal ticking.liveMode ∧
      ticking.chi.plinth = false ∧ ticking.fetch.done = false) ∧
    (∃ s : State, s.tk.open_ = true ∧ s.inTrip = false ∧ s.fetch.line + 1 = vTotal s.liveMode) ∧
    fetching.fetch.inflight.findIdx? (fun e => e.user == .points 3 && decide (0 < e.tags)) = some 0 ∧
    fetching.com.fences.findIdx? (fun f => f.layer == 7 && f.startSt == 1) = some 0 ∧
    (∃ s : State, s.fetch.selfRefresh = false ∧ s.ddrBusy = false ∧ s.chi.plinth = true) ∧
    (∃ s : State, s.fetch.selfRefresh = false ∧ s.ddrBusy = false ∧ s.chi.plinth = false ∧
      bit (byteAt s.com.live.fetchCfg 4) 1 = true ∧ 100 * u16 s.com.live.fetchCfg 2 = s.ltDdrNow) ∧
    (∃ s : State, s.fetch.selfRefresh = true ∧ s.ddrBusy = true) ∧
    (∃ s : State, s.fetch.selfRefresh = true ∧ s.ddrBusy = false ∧ s.chi.plinth = false) ∧
    (∃ e, fetching.fetch.inflight.find? (fun e => e.user == .points 3 && decide (0 < e.tags)) = some e ∧ e.host = true) ∧
    (∀ e ∈ ticking.fetch.inflight, e.user = .points 3 → 0 < e.tags → e.host = false) ∧
    (ticking.fetch.inflight = [] ∧ ticking.com.fences = [] ∧ ticking.cs.ops = []) :=
  ⟨by decide, ⟨{ ticking with fetch := { FetchUnit.reset with line := vTotal 0x49 - 1 } }, by decide⟩, by decide, by decide,
    ⟨{ ticking with chi := { ChiselUnit.reset with plinth := true } }, by decide⟩,
    ⟨{ ticking with fetch := { FetchUnit.reset with ltDdr := 6000 } }, by decide⟩,
    ⟨{ fetching with fetch := { fetching.fetch with selfRefresh := true, inflight := [⟨.points 3, 0, 2, 0, false, default, 0, 0⟩] } }, by decide⟩,
    ⟨{ ticking with fetch := { FetchUnit.reset with selfRefresh := true } }, by decide⟩, ⟨_, rfl, by decide⟩, by decide, by decide⟩

/-- An array record that passes every check. -/
def goodRec : Rec :=
  let r := overlay arrayRec 0x0A ([8, 1] ++ le 2 16 ++ le 2 40 ++ le 2 8000 ++ le 2 400 ++ le 2 0 ++ le 2 1000 ++ le 2 500 ++
    le 2 600 ++ le 2 700 ++ le 2 200)
  overlay r 0x3C (le 4 (crc32 (r.take 0x3C)).toNat)

/-- Array 0 of the split in a training state, with lane 0's answers, the record accepted and `n` resets acknowledged. -/
def training (st n : Nat) (cmds : List ArrayCmd) : State :=
  { rdy with pl := { PlaneLink.reset with
    lanes := upd PlaneLink.reset.lanes 0 fun _ => goodLane,
    arrays := upd PlaneLink.reset.arrays 0 fun x => { x with
      state := st, record := some arrayRec, accepted := true, acked := n, lock := 1, deskew := 1, cmds := cmds, resets := 0 } } }

theorem wit_arrayMessages :
    (0 < (training 1 0 []).pl.count ∧ 0 < (training 1 0 []).pl.arrays.length ∧ (training 1 0 []).inTrip = false ∧
      (at_ (training 1 0 []).pl.arrays 0).state = 1) ∧
    ((at_ (training 2 0 []).pl.arrays 0).state = 2 ∧ ∃ lock, (training 2 0 []).shareMask 0 lock = (training 2 0 []).shareFull 0) ∧
    ((at_ (training 3 0 []).pl.arrays 0).state = 3 ∧ ∃ lock deskew, (training 3 0 []).shareMask 0 lock ≠ 0 ∧
      (training 3 0 []).shareMask 0 lock &&& (training 3 0 []).shareMask 0 deskew = (training 3 0 []).shareMask 0 lock) ∧
    ((at_ (training 3 0 []).pl.arrays 0).state = 3 ∧ (training 3 0 []).shareMask 0 0 = 0) ∧
    (rdy.laneArray 0 = some 0 ∧ (training 5 0 []).laneArray 95 = some 0 ∧
      (at_ (training 5 0 []).pl.arrays 0).state = 5) ∧
    (∃ n, (at_ (training 4 n []).pl.arrays 0).state = 4 ∧ (at_ (training 4 n []).pl.arrays 0).accepted = true ∧
      byteAt ((at_ (training 4 n []).pl.arrays 0).record.getD []) 0x0B + 1 ≤ (at_ (training 4 n []).pl.arrays 0).acked + 0) ∧
    (recordFault 1 goodRec = none ∧ recordFault 1 (zeros 64) = some 4 ∧ recordFault 2 goodRec = some 6) ∧
    ((training 4 0 []).pl.lanes.length = 96 ∧ (List.replicate 48 (0 : Nat)).length = 48) ∧
    (∃ c, (at_ (training 5 0 [⟨1, 500, 7, 0⟩]).pl.arrays 0).cmds.find? (fun c => c.cmd == 1 && c.seq == 7) = some c) ∧
    ((training 5 0 []).pat.arrayAlert.getD 0 false = false ∧ arRating arrayRec = 0) :=
  ⟨by decide, ⟨by decide, BitVec.allOnes 96, by decide⟩, ⟨by decide, 1, 1, by decide⟩, by decide, by decide,
    ⟨byteAt arrayRec 0x0B + 1, by decide⟩, by decide, by decide, ⟨_, rfl⟩, by decide⟩

theorem wit_arrayTimers :
    ((training 1 0 []).array 0).state = 1 ∧ ((training 7 0 []).array 0).state = 7 ∧ bit (training 7 0 []).pl.ctl.toNat 0 = true ∧
    (∃ c rest, ((training 5 0 [⟨1, 500, 7, 0⟩]).array 0).cmds = c :: rest) ∧
    ((training 5 0 []).laneArray 0 = some 0 ∧ 0 < (training 5 0 []).pl.lanes.length ∧ (training 5 0 []).trained 0 = true ∧
      (training 5 0 []).laneUsable 0 = true) ∧
    (∃ (s : State) (l : Lane), l = at_ s.pl.lanes 0 ∧ s.laneArray 0 = some 0 ∧ l.trying = some 0 ∧ l.ok = false ∧
      l.held = false ∧ l.ready = false ∧ l.lockedAt = none ∧ (s.array 0).state = 5 ∧ bit s.pl.ctl.toNat 1 = true) ∧
    (∃ s : State, (at_ s.pl.lanes 95).lockedAt = some 0) :=
  ⟨by decide, by decide, by decide, ⟨_, _, rfl⟩, by decide,
    ⟨withArray 5 { (default : Lane) with trying := some 0 }, { (default : Lane) with trying := some 0 }, by decide⟩,
    ⟨{ rdy with pl := { PlaneLink.reset with lanes := upd PlaneLink.reset.lanes 95 fun l => { l with lockedAt := some 0 } } }, by decide⟩⟩

/-- Channel 191 an effect channel that may light, the sinks allowed. -/
def lit : State :=
  { rdy with
    now := 20000000
    src := { SourceUnit.reset with effectSet := [191], banksAt := some 0, live := { SourceUnit.reset.live with
      banks := upd SourceUnit.reset.live.banks 23 fun _ => [0, 255, 0, 0, 0, 0, 0, 0]
      chans := upd SourceUnit.reset.live.chans 191 fun _ => [3, 0, 0, 0, 0xFF, 0x0F, 0, 0x80] } },
    chi := { ChiselUnit.reset with castLive := true }, tk := { rdy.tk with open_ := true } }

theorem wit_sources :
    (rdy.src.sinks.length = 192 ∧ rdy.diag.chans.length = 192 ∧ rdy.src.effectSet = []) ∧
    (lit.src.effectSet = [191] ∧ (at_ lit.src.sinks 191).widen = false ∧ (at_ lit.src.sinks 191).runsPast 20000000 = false ∧
      onTimeOf (chDuty (lit.chan 191)) ≠ 0 ∧ lit.effectCode 191 ≠ 0) ∧
    (lit.cellOpens = some 20000000 ∧ lit.sinksHeld = false ∧ lit.enabled 191 = true ∧
      ({ lit with now := 20000600 } : State).chanDead 191 = false) ∧
    (rdy.diag.running = false ∧ rdy.diag.roundWait = false ∧
      ({ rdy with diag := { DiagUnit.reset with running := true } } : State).roundNext = none ∧
      ({ lit with diag := { DiagUnit.reset with running := true } } : State).roundNext ≠ none) ∧
    (at_ rdy.diag.chans 191).otOff = false ∧
    (∃ s : State, (at_ s.diag.chans 191).otOff = true ∧ s.diag.chans.length = 192) ∧
    (∃ s : State, (at_ s.con.inputs 7).fault ≠ some 0 ∧ (at_ s.con.inputs 7).rejRun < 7 ∧ s.con.inputs.length = 8 ∧
      s.darkNow 7 = true) ∧
    (∃ s : State, ccMode s.con.cfg ≠ 0 ∧ s.mbx.fwState = 1 ∧ s.con.runAt + u16 s.con.cfg 8 * tuMs ≤ s.tk.start) :=
  ⟨by decide, by decide, by decide, by decide,
    by decide, ⟨{ rdy with diag := { DiagUnit.reset with chans := DiagUnit.reset.chans.map fun d => { d with otOff := true } } }, by decide⟩,
    ⟨{ rdy with
        now := 200
        chi := { ChiselUnit.reset with sequencing := true }
        tk := { rdy.tk with inSlot := some ⟨6666666, 2, 0, 0⟩, slotAt := 0 } }, by decide⟩,
    ⟨{ rdy with tk := { rdy.tk with start := 100 * tuS }, con := { Constancy.reset with cfg := overlay Constancy.defaultCfg 0 [1] } }, by decide⟩⟩

/-! ## Witnesses: heads and axes, triggers, clocks, zones, the kennel, links, the store and effects between commands -/

/-- Head 3 in ARMED with a segment of 2 points queued. -/
def beaming : State := withHead fun x => { x with
  record := headRec, state := 1, segs := [⟨0, 8000, 2, 4000, none, 0, true, 0, false⟩] }

theorem wit_beamEvents :
    ((beaming.heads).length = 4 ∧ (at_ beaming.heads 3).state = 1 ∧ (at_ beaming.heads 3).stalled = none ∧
      ∃ g, ((at_ beaming.heads 3).trim beaming.now).front = some g ∧ g.has g.next = true) ∧
    (∃ s : State, s.heads.length = 4 ∧ (at_ s.heads 3).stalled = some 0 ∧ (at_ s.heads 3).nextIn = true) ∧
    (∃ (s : State) (g : Segment), s.heads.length = 4 ∧ (at_ s.heads 3).state = 1 ∧ (at_ s.heads 3).stalled = none ∧
      ((at_ s.heads 3).trim s.now).front = some g ∧ g.has g.next = false) ∧
    (∃ s : State, s.heads.length = 4 ∧ (at_ s.heads 3).state = 2 ∧ (at_ s.heads 3).queued = 0 ∧
      ∀ c ∈ s.headChans 3, (at_ s.src.sinks c).plan = []) ∧
    (∃ s : State, s.heads.length = 4 ∧ (at_ s.heads 3).state = 3 ∧ s.atPark 3 = true) ∧
    ((at_ (headIn 1).heads 3).state ≠ 2) :=
  ⟨⟨by decide, by decide, by decide, _, rfl, rfl⟩,
    ⟨withHead fun x => { x with segs := [⟨0, 8000, 2, 4000, none, 0, true, 0, false⟩], stalled := some 0 }, by decide⟩,
    ⟨withHead fun x => { x with record := headRec, state := 1, segs := [⟨0, 8000, 2, 4000, some (4, 5), 0, true, 0, false⟩] }, _,
      by decide, rfl, rfl, rfl, rfl⟩,
    ⟨headIn 2, by decide⟩, ⟨headIn 3, by decide⟩, by decide⟩

/-- Axis `a` changed. -/
def axisIs (a : Nat) (f : Axis → Axis) (g : AxisIo → AxisIo) : State :=
  { rdy with axes := upd rdy.axes a f, ios := upd rdy.ios a g }

theorem wit_axisEvents :
    ((at_ rdy.axes 7).state ≠ 1 ∧ (at_ rdy.axes 7).closeAt = none ∧ (at_ rdy.axes 7).swapAt = none ∧
      ioKind (at_ rdy.ios 7).record = 0 ∧ rdy.axes.length = 16 ∧ rdy.ios.length = 16) ∧
    (∃ x, x = at_ (axisIs 7 (fun x => { x with state := 1 }) id).axes 7 ∧ x.state = 1 ∧ x.closeAt = none ∧ x.openAt = none ∧
      x.swapAt = none) ∧
    (∃ x, x = at_ (axisIs 7 (fun x => { x with closeAt := some (0, some 5) }) id).axes 7 ∧ x.state = 0 ∧
      x.closeAt = some (0, some 5) ∧ x.swapAt = none) ∧
    0 < max rdy.now (rdy.nextSample 7) ∧
    (at_ (axisIs 7 id fun o => { o with rampStep := some 999 }).ios 7).rampStep = some 999 ∧
    (∃ s : State, (at_ s.axes 15).state = 1 ∧ ioSource (at_ s.ios 15).record = 2 ∧ (at_ s.ios 15).stepAt = none) ∧
    (∃ s : State, (at_ s.axes 15).state = 1 ∧ ioSource (at_ s.ios 15).record = 2 ∧ (at_ s.ios 15).stepAt = some 0 ∧
      s.now + 1 = 0 + exStepMin (at_ s.ios 15).ext) ∧
    (ioKind (at_ rdy.ios 15).record = 1 ∧ (at_ rdy.ios 15).encA = false ∧ (at_ rdy.ios 15).encB ≠ true) ∧
    (∃ s : State, (at_ s.axes 15).state = 1 ∧ ioKind (at_ s.ios 15).record = 1 ∧ (at_ s.ios 15).encA ≠ true ∧
      (at_ s.ios 15).encB ≠ true ∧ dtArmed (at_ s.ios 15).det 4 = true) ∧
    (u16 (at_ rdy.ios 15).det 4 ≤ 6554 ∧ 6554 ≤ u16 (at_ rdy.ios 15).det 6) :=
  ⟨by decide, ⟨_, rfl, by decide⟩, ⟨_, rfl, by decide⟩, by decide, by decide,
    ⟨axisIs 15 (fun x => { x with state := 1 }) fun o => { o with record := overlay o.record 3 [2] }, by decide⟩,
    ⟨{ axisIs 15 (fun x => { x with state := 1 }) fun o => { o with record := overlay o.record 3 [2], stepAt := some 0 } with now := 79 },
      by decide⟩,
    by decide, ⟨axisIs 15 (fun x => { x with state := 1 }) id, by decide⟩, by decide⟩

/-- Trigger 7 enabled and in a given state. -/
def trig (t : Trigger) : State :=
  { ticking with
    now := 400, show_ := { ticking.show_ with
      cfg := overlay ShowIo.reset.cfg 28 [1], trigs := upd ShowIo.reset.trigs 7 fun _ => t } }

theorem wit_triggers :
    ((trig ⟨false, false, 0, 0, 0, false, none⟩).trigEnabled 7 = true ∧
      (at_ (trig ⟨false, false, 0, 0, 0, false, none⟩).show_.trigs 7).stuck = false ∧
      (trig ⟨false, false, 0, 0, 0, false, none⟩).show_.trigs.length = 8) ∧
    ((trig ⟨false, false, 0, 0, 0, false, some 0⟩).dateOf (400 - (trig ⟨false, false, 0, 0, 0, false, some 0⟩).trigFilt 7) = (0, 0) ∧
      (at_ (trig ⟨false, false, 0, 0, 0, false, some 0⟩).show_.trigs 7).lastTick = some 0) ∧
    (at_ (trig ⟨true, true, 0, 0, 0, false, none⟩).show_.trigs 7).active = true ∧
    (rdy.show_.ilkOff = false ∧ rdy.heads.length = 4 ∧ rdy.axes.length = 16) ∧
    (∃ s : State, s.show_.ilkOff = false ∧ 3 < s.epb.outs.length ∧ epIlkBlank (at_ s.epb.outs 3).record = true ∧
      epEnable (at_ s.epb.outs 3).record = true ∧ (at_ s.epb.outs 3).sending = none ∧ (at_ s.epb.outs 3).zeroSent = false ∧
      s.mbx.fwState = 1) ∧
    (∃ s : State, s.show_.ilkOff = true ∧ s.boot.porstLow = false) :=
  ⟨by decide, by decide, by decide, by decide,
    ⟨{ rdy with epb := { rdy.epb with outs := upd rdy.epb.outs 3 fun o => { o with record := overlay o.record 1 [3] } } }, by decide⟩, ⟨{ rdy with show_ := ShowIo.reset }, by decide⟩⟩

/-- Clocks with REFCLK valid and PLL 1 as given. -/
def clocked (f : Pll → Pll) : State :=
  { rdy with
    ck := { Clocks.reset with
      refValid := true, plls := upd Clocks.reset.plls 1 f, goal := some 6000, hkCrystal := true, hkComp := true },
    tk := { rdy.tk with refs := upd rdy.tk.refs 1 fun _ => ⟨true, [0], 7, 1, [0]⟩, active := 2 } }

theorem wit_clocks :
    ((clocked id).ck.plls.length = 4 ∧ (clocked id).tk.refs.length = 3 ∧
      ∃ last rest, (at_ (clocked id).tk.refs 1).refs = last :: rest) ∧
    (inWindow (clocked id).liveMode 0 6666667 = true ∧ inWindow (clocked id).liveMode 0 1 = false) ∧
    ((at_ rdy.tk.refs 1).refs = [] ∧ rdy.ck.plls.length = 4) ∧
    ((at_ (clocked id).tk.refs (2 - 1)).valid = true ∧ 1 ≤ (at_ (clocked id).tk.refs (2 - 1)).misses ∧ (clocked id).tk.active = 2) ∧
    ((clocked id).ck.goal = some 6000 ∧ (at_ (clocked id).ck.plls 1).coast = false ∧ (at_ (clocked id).ck.plls 1).offset ≠ 6000) ∧
    (∃ r : Ramp, (at_ (clocked fun q => { q with ramp := some r }).ck.plls 1).ramp = some r ∧
      (rampStepTo (100 * tuUs) r).1.isSome = true) ∧
    (∃ r : Ramp, (rampStepTo (100 * tuUs) r).1 = none) ∧
    ((clocked id).ck.refValid = true ∧ bit (byteAt (clocked id).ck.cfg 6) 0 = true ∧ (clocked id).ck.hkCrystal = true ∧
      (clocked id).ck.hkDistrust = false) ∧
    rdy.ck.refValid = false ∧
    ((at_ (clocked fun q => { q with locked := true }).ck.plls 1).locked = true ∧
      (at_ (clocked fun q => { q with coast := true }).ck.plls 1).coast = true ∧
      (at_ (clocked fun q => { q with coast := true, cause := 1 }).ck.plls 1).cause ≠ 0) ∧
    (∃ s : State, (at_ s.ck.plls 0).locked = true) :=
  ⟨⟨by decide, by decide, _, _, rfl⟩, by decide, by decide, by decide, by decide,
    ⟨⟨[(5000, 100000)], false, 0, 0, 0⟩, by decide⟩, ⟨⟨[(100, 1)], false, 0, 0, 0⟩, by decide⟩, by decide, by decide, by decide,
    ⟨{ rdy with ck := { Clocks.reset with plls := Clocks.reset.plls.map fun q => { q with locked := true } } }, by decide⟩⟩

/-- A kennel with a write of store 1 under way. -/
def writing (retried : Bool) : State :=
  { rdy with ken := { Kennel.reset with writing := some ⟨1, 1, false, false, retried, 0, 0, .none⟩ } }

theorem wit_thermalEvents :
    (rdy.boot.porstLow = false ∧ rdy.th.zones.length = 16 ∧ (at_ rdy.th.zones 15).suspect = false ∧
      (at_ rdy.th.zones 15).devRun < 15 ∧ badReading 800 = false ∧ badReading 32767 = true) ∧
    (∃ s : State, (at_ s.th.zones 15).suspect = false ∧ (at_ s.th.zones 15).hotRun = 1 ∧ s.boot.porstLow = false) ∧
    (∃ s : State, s.inTrip = true) ∧
    (15 < calUnits 3 ∧ (at_ rdy.cal.units (calIndex 3 15)).due = none ∧ (at_ rdy.cal.units (calIndex 3 15)).suspended = false ∧
      calEnabled rdy.cal.cfg 3 = true) ∧
    (∃ s : State, s.storeDirty 1 = true ∧ s.mbx.fwState = 1 ∧ s.ken.queue = [] ∧ s.ken.writing = none ∧ s.ken.slots.length = 6 ∧
      s.ken.dirty.length = 3 ∧ s.ken.lastWrite.length = 3) ∧
    (∃ w, (writing false).ken.writing = some w ∧ w.erase = false ∧ w.commanded = false ∧ w.store < 3 ∧ w.slot < 2 ∧
      w.retried = false) ∧
    (∃ w, (writing true).ken.writing = some w ∧ w.retried = true) ∧
    ((writing true).ken.queue = [] ∧ (writing true).ken.slots.length = 6 ∧ (writing true).ken.dirty.length = 3) :=
  ⟨by decide, ⟨{ rdy with th := { Thermal.reset with zones := Thermal.reset.zones.map fun z => { z with hotRun := 1 } } }, by decide⟩,
    ⟨lockedOut 0, by decide⟩, by decide,
    ⟨{ rdy with ken := { Kennel.reset with dirty := [false, true, false] } }, by decide⟩, ⟨_, rfl, by decide⟩, ⟨_, rfl, rfl⟩, by decide⟩

/-- Port `p` in a state, its PORT_ID run given. -/
def portIn (p n run : Nat) : State :=
  { rdy with cl := { Cumaslink.reset with ports := upd Cumaslink.reset.ports p fun q => { q with state := n, idRun := run } } }

theorem wit_cumaslinkLinks :
    ((portIn 2 0 0).cl.ports.length = 3 ∧ (at_ (portIn 2 0 0).cl.ports 2).state = 0 ∧ clEnabled (portIn 2 0 0).cl.cfg 2 = true) ∧
    ((at_ (portIn 2 1 7).cl.ports 2).state = 1 ∧ (at_ (portIn 2 1 7).cl.ports 2).idRun = 7 ∧
      (at_ (portIn 0 1 6).cl.ports 0).idRun < 7) ∧
    ((at_ (portIn 2 3 0).cl.ports 2).state = 3 ∧ clEnabled (portIn 2 3 0).cl.cfg 2 = true) ∧
    ((at_ node.cl.ports 2).state = 2 ∧ (at_ node.cl.ports 2).queue = [] ∧
      (node.mbx.parked.filter fun c => c.opcode == 0x0D03) = [] ∧ (2 : Nat) ≠ 0) ∧
    ((at_ node.cl.ports 0).state = 2 ∧ node.isRoot = false ∧ node.cl.exchanges.length < 16) ∧
    (∃ s : State, (at_ s.cl.ports 0).state = 2 ∧ s.isRoot = false ∧ s.cl.exchanges.length = 16 ∧ s.tk.refs.length = 3 ∧
      s.cl.ports.length = 3) :=
  ⟨by decide, by decide, by decide, by decide, by decide,
    ⟨{ node with cl := { node.cl with exchanges := List.replicate 16 0 } }, by decide⟩⟩

/-- The root while it enumerates. -/
def enumerating : State := { root with cl := { root.cl with enumRunning := true } }
/-- A leaf of the tree. -/
def leaf : State := { node with cl := { node.cl with ports := upd Cumaslink.reset.ports 0 fun q => { q with state := 2 } } }

theorem wit_frames :
    (node.cl.ports.length = 3 ∧ node.cl.addr = some (⟨true, 9, 7⟩ : ClHdr).dest ∧ node.mbx.clWait = [] ∧ node.mbx.clBox.length < 16) ∧
    (root.cl.addr ≠ some (⟨true, 0, 0xFFFE⟩ : ClHdr).dest ∧ spGet 0 root.cl.routes (0xFFFE : W16).toNat = 0 ∧ root.isRoot = true) ∧
    (∃ (s : State) (r : Remote), s.cl.addr = some 7 ∧ s.mbx.remotes.find? (fun r => r.opcode == u16 (entryBytes 0x0100 hp []) 0 &&
        r.hdr.tag == BitVec.ofNat 16 (u16 (le 2 0x0100 ++ le 2 2) 2) && r.hdr.target == 9) = some r ∧ r.mute = false ∧
      r.hdr.origin = .pcie ∧ s.cl.ports.length = 3) ∧
    (∀ r ∈ node.mbx.remotes, r.opcode ≠ 0x0100) ∧
    (enumerating.isRoot = true ∧ enumerating.cl.enumRunning = true ∧ (at_ enumerating.cl.ports 2).state = 2 ∧
      ((enumerating.cl.holders.filter fun x => x.2 != 3).any fun x => x.1 == 5) = false) ∧
    ((at_ leaf.cl.ports 0).state = 2 ∧ leaf.isRoot = false ∧ leaf.childPorts = [] ∧ leaf.cl.ports.length = 3 ∧
      leaf.cl.index ≠ 0xFFFFFFFF ∧ leaf.cl.denied = false) ∧
    (∃ s : State, s.isRoot = false ∧ s.childPorts = [] ∧ (at_ s.cl.ports 0).state = 2 ∧ clPersist s.cl.cfg = true ∧
      s.cl.denied = false ∧ s.cl.ports.length = 3) ∧
    (∃ s : State, s.cl.tokenPort = some 2 ∧ s.isRoot = false ∧ s.nextChild 2 = none ∧ (at_ s.cl.ports 2).state = 2) :=
  ⟨by decide, by decide,
    ⟨{ node with mbx := { node.mbx with remotes := [⟨0x0100, ⟨.pcie, 2, false, 9⟩, 0, false⟩] } }, _, rfl, rfl, by decide⟩,
    by decide, by decide, by decide,
    ⟨{ leaf with cl := { leaf.cl with cfg := overlay Cumaslink.reset.cfg 0 [0x0E] } }, by decide⟩,
    ⟨{ node with cl := { node.cl with tokenPort := some 2 } }, by decide⟩⟩

/-- The superblock of a store, SEQ 1. -/
def superRec : Rec :=
  let r := overlay (zeros 64) 0 ([0x43, 0x4A, 0x53, 0x46] ++ le 2 1 ++ zeros 2 ++ le 4 1)
  overlay r 60 (le 4 (crc32 (r.take 60)).toNat)

theorem wit_contentEvents :
    (∃ d : DriveImage, d.linkOk = false) ∧ (∃ d : DriveImage, d.linkOk = true ∧ d.controllerOk = false) ∧
    (∃ d : DriveImage, d.linkOk = true ∧ d.controllerOk = true ∧ d.namespaceOk = true ∧ d.lbas = 2 ^ 32 + 1) ∧
    (∃ d : DriveImage, d.linkOk = true ∧ d.controllerOk = true ∧ d.namespaceOk = true ∧ d.lbas = 2 ^ 32 ∧
      pickSuper (d.superA.take 64) (d.superB.take 64) = none) ∧
    (∃ d : DriveImage, d.linkOk = true ∧ d.controllerOk = true ∧ d.namespaceOk = true ∧ d.lbas ≤ 2 ^ 32 ∧
      pickSuper (d.superA.take 64) (d.superB.take 64) = some superRec) ∧
    (∃ (s : State) (o : NvmeOp) (p : Play), s.cs.ops = [o] ∧ o.tags = 1 ∧ o.todo = [] ∧ o.status = 0 ∧
      o.use = .clipFrame 7 p.clip 0 ∧ s.cs.plays.getD 7 none = some p ∧ 7 < s.cs.plays.length) ∧
    (∃ (s : State) (o : NvmeOp), s.cs.ops = [o] ∧ 1 < o.tags ∧ o.status = 0 ∧ o.use = .clipFrame 7 9 0 ∧
      ∀ q, some q ∈ s.cs.plays → q.clip ≠ 9) ∧
    (∃ (s : State) (o : NvmeOp) (g : Segment), s.cs.ops = [o] ∧ o.tags = 1 ∧ o.todo = [] ∧ o.status = 0 ∧ o.use = .points 3 0 5 ∧
      3 < s.heads.length ∧ (at_ s.heads 3).segs = [g] ∧ g.no.toNat = 0 ∧ g.clip.isSome = true ∧ g.first + g.staged = 5) ∧
    (stored.cs.ops = [] ∧ stored.cs.state ≠ 0) ∧
    (∃ (s : State) (pl : Player), s.cs.players.getD 3 none = some pl ∧ pl.entries[pl.next]? = some (0, [0]) ∧ pl.started = true ∧
      0 ≤ pl.ticks ∧ ((s.cs.players.getD 3 none).bind Player.dueFor).isSome = true ∧ (3 : Nat) < 4 ∧
      (∀ i < 4, i ≠ 3 → (s.cs.players.getD i none).bind Player.dueFor = none) ∧
      s.mbx.clWait = [] ∧ s.mbx.clBox.length < 16) ∧
    (∃ s : State, (at_ s.epb.outs 3).sending = some 5 ∧ 3 < s.epb.outs.length ∧
      (epEnable (at_ s.epb.outs 3).record && s.epbIlk 3 && !(at_ s.epb.outs 3).zeroSent && s.mbx.fwState == 1) = false) ∧
    (∃ s : State, (at_ s.epb.outs 3).sending = some 5 ∧ 3 < s.epb.outs.length ∧
      (epEnable (at_ s.epb.outs 3).record && s.epbIlk 3 && !(at_ s.epb.outs 3).zeroSent && s.mbx.fwState == 1) = true) ∧
    (∃ s : State, epFallback (at_ s.epb.outs 3).record = true ∧ byteAt (at_ s.epb.outs 3).pattern 1 ≠ 0 ∧
      (at_ s.epb.outs 3).running = false ∧ s.mbx.fwState = 1) :=
  ⟨⟨⟨false, true, true, 0, 0, 0, 0, [], [], []⟩, rfl⟩, ⟨⟨true, false, true, 0, 0, 0, 0, [], [], []⟩, by decide⟩,
    ⟨⟨true, true, true, 2 ^ 32 + 1, 0, 0, 0, [], [], []⟩, by decide⟩, ⟨⟨true, true, true, 2 ^ 32, 0, 0, 0, [], [], []⟩, by decide⟩,
    ⟨⟨true, true, true, 4096, 0, 1, 0, superRec, [], []⟩, by decide⟩,
    ⟨{ playing with cs := { playing.cs with ops := [⟨.clipFrame 7 1 0, [], 1, false, 0, 0⟩] } }, _, _, rfl, rfl, rfl, rfl, rfl, rfl, by decide⟩,
    ⟨{ stored with cs := { stored.cs with ops := [⟨.clipFrame 7 9 0, [.flush], 2, false, 0, 0⟩] } }, _, rfl, by decide, rfl, rfl, by
      intro q hq; exact absurd (List.eq_of_mem_replicate (n := 8) (a := none) hq) (by simp)⟩,
    ⟨{ withHead fun x => { x with segs := [⟨0, 8000, 9, 4000, some (4, 5), 0, true, 0, false⟩] } with
        cs := { stored.cs with ops := [⟨.points 3 0 5, [], 1, false, 0, 0⟩] } }, _, _, rfl, rfl, rfl, rfl, rfl, by decide, rfl, rfl, rfl, rfl⟩,
    by decide,
    ⟨{ stored with cs := { stored.cs with players := upd stored.cs.players 3 fun _ => some ⟨4, [(0, [0])], 0, 0, false, 0, true⟩ } }, _,
      rfl, rfl, rfl, by decide⟩,
    ⟨{ rdy with epb := { rdy.epb with outs := upd rdy.epb.outs 3 fun o => { o with sending := some 5 } } }, by decide⟩,
    ⟨{ rdy with
      show_ := ShowIo.reset,
      epb := { rdy.epb with outs := upd rdy.epb.outs 3 fun o => { o with sending := some 5, record := overlay o.record 1 [7] } } },
      by decide⟩,
    ⟨{ rdy with epb := { rdy.epb with outs := upd rdy.epb.outs 3 fun o => { o with pattern := overlay o.pattern 1 [1] } } }, by decide⟩⟩

theorem wit_sessions : (∃ x, inSession.sec.session = some x) ∧ challenged.sec.nonce = some (zeros 32, 0) ∧
    (∃ s : State, s.sec.lockUntil = some 60) ∧ inSession.jtagOpen = true ∧ rdy.jtagOpen = false :=
  ⟨⟨_, rfl⟩, rfl, ⟨{ rdy with sec := { Security.reset with lockUntil := some 60 } }, rfl⟩, by decide, by decide⟩

/-! ## One step, expected values from the spec -/

/-- What a command leaves. -/
def after (i : Instr) (s : State) : State := nextOf (Sys2Proof.Machine.exec i s)
/-- The status word, the reply code and the payload of the reply in slot 0 of the ring. -/
def replyOf (s : State) : Rec := spRead 0 s.mbx.bar2 0x4000 32

/-- The check value of CRC-32/ISO-HDLC (04 R96). -/
theorem test_crc32 : crc32 [0x31, 0x32, 0x33, 0x34, 0x35, 0x36, 0x37, 0x38, 0x39] = 0xCBF43926 := by decide

/-- 02 R28: three ticks at 60 Hz last 20,000,000 tu, the long one in its place. -/
theorem test_cadence60 : ((List.range 3).map fun (k : Nat) => tickLen 0x49 (BitVec.ofNat 32 k)).sum = 20000000 := by decide

/-- 17 R361: a reply carries opcode and tag, and moves RPL_PROD. -/
theorem test_replyHeader : (replyOf (after (.modeSet hp [0x49]) rdy)).take 4 = [0, 2, 1, 0] ∧
    (after (.modeSet hp [0x49]) rdy).mbx.rplProd = 1 := by decide

/-- 02 R50: MODE_SET edits the maquette, not the live mode. -/
theorem test_modeSet : (after (.modeSet hp [0x5D]) rdy).com.maq.mode = 0x5D ∧
    (after (.modeSet hp [0x5D]) rdy).com.live.mode = 0x49 := by decide

/-- 17 R362: 65 commands ahead of CMD_CONS is an invalid doorbell. -/
theorem test_doorbellInvalid : (after (.doorbellWrite 65 []) rdy).mbx.flagDbInvalid = true ∧
    (after (.doorbellWrite 65 []) rdy).mbx.cmdProd = 0 := by decide

/-- 17 R358: a write of 1 clears a flag. -/
theorem test_flagsClear : (after .mbxFlagsClearDbInvalid
    { rdy with mbx := { rdy.mbx with flagDbInvalid := true, flagRestarted := true } }).mbx.flagDbInvalid = false := by decide

/-- 17 R366: before the firmware is ready a command is answered BUSY. -/
theorem test_busyBeforeReady : (after (.modeSet hp [0x5D]) { rdy with mbx := Mailbox.reset }).com.maq.mode = 0x49 ∧
    (after (.modeSet hp [0x5D]) { rdy with mbx := Mailbox.reset }).mbx.busyCount = 1 := by decide

/-- 17 R380: an event takes the sequence number of the queue. -/
theorem test_raise : (rdy.raise 0x0110 0 5).evq.recs.length = 1 ∧ (rdy.raise 0x0110 0 5).evq.seq = 1 := by decide

/-- 04 R81: MAQUETTE_RESYNC takes the live configuration. -/
theorem test_resync : (after (.maquetteResync hp [])
    { rdy with com := { rdy.com with maq := { Cfg.reset with mode := 0x10 } } }).com.maq.mode = 0x49 := by decide

/-- 13 R290: HEEL_CONTROL ENTER puts an axis into HEEL with cause 9, its brake set. -/
theorem test_heel : (at_ (after (.heelControl hp [15, 0, 0, 0]) rdy).axes 15).state = 2 ∧
    (at_ (after (.heelControl hp [15, 0, 0, 0]) rdy).ios 15).causes = 2 ^ 9 ∧
    (at_ (after (.heelControl hp [15, 0, 0, 0]) rdy).ios 15).brake = true := by decide

/-- 12 R268: COEF_WRITE refuses the active bank. -/
theorem test_coefActive : (at_ (after (.coefWrite hp ([15, 0] ++ zeros 6 ++ coefRec)) rdy).axes 15).validA = false := by decide

/-- 13 R286: the edge 00 to 10 of A counts one, and an edge back takes it away. -/
theorem test_encoder :
    (at_ (after (.encoderEdge 15 true false false 100) rdy).ios 15).count =
      -(at_ (after (.encoderEdge 15 false true false 100) rdy).ios 15).count ∧
    (at_ (after (.encoderEdge 15 true false false 100) rdy).ios 15).count.natAbs = 1 := by decide

/-- 15 R326: a trip puts the device into a thermal interval, every sink off. -/
theorem test_trip : (after (.tripComparatorFire 15) rdy).mbx.fwState = 3 ∧ (after (.tripComparatorFire 15) rdy).th.tripMask = 32768 := by
  decide

/-- 16 R353: KENNEL_CONFIG's periods. -/
theorem test_kennelConfig : (after (.kennelConfig hp (le 4 600 ++ le 4 86400)) rdy).ken.period = [0, 600, 86400] ∧
    (after (.kennelConfig hp (le 4 599 ++ le 4 86400)) rdy).ken.period = [0, 600, 600] := by decide

/-- 20 R435: EPB_WRITE writes four bytes a pixel. -/
theorem test_epbWrite : spRead 0 (at_ (after (.epbWrite hp ([3, 0, 1, 0, 1, 0, 0, 0, 9, 8, 7, 6])) rdy).epb.outs 3).staging 4 4 =
    [9, 8, 7, 6] := by decide

/-- 18 R407: eight good PORT_IDs in a row bring a port up. -/
theorem test_portUp : (at_ (after (.portId 2 0 0 0 true) (portIn 2 1 7)).cl.ports 2).state = 2 ∧
    (at_ (after (.portId 2 0 0 0 true) (portIn 2 1 6)).cl.ports 2).state = 1 := by decide

/-- 19 R417: CLIP_CREATE of 5 MiB takes the first free blocks. -/
theorem test_allocate : allocate (freeRuns 9 [(0, 2), (3, 1)]) 5 = some [(4, 5)] ∧
    allocate (freeRuns 9 [(0, 2), (3, 1)]) 6 = some [(2, 1), (4, 5)] ∧ allocate (freeRuns 9 [(0, 2), (3, 1)]) 7 = none := by decide

/-- 21 R445: SERVICE_CLOSE ends the session. -/
theorem test_serviceClose : (after (.serviceClose hp []) inSession).sec.session = none := by decide

/-- 22 R456: power-on reset leaves the firmware not ready. -/
theorem test_powerOn : (after .powerOnReset rdy).mbx.fwState = 0 ∧ (after .powerOnReset rdy).boot.porstLow = true := by decide

/-- The queue is served first in, first out; an idle step lets one tu pass. -/
theorem test_queue : (nextOf (Sys2Proof.Machine.step { rdy with pending := [.hkCrystalStart, .powerOnReset] })).pending = [.powerOnReset] ∧
    (nextOf (Sys2Proof.Machine.step rdy)).now = 1 := by decide


/-! ## What leaves the device -/

/-- 07 R149, R150: LOAD_COMMIT of load 3 on 2,160 rows after a packet without data blocks. -/
theorem test_load_commit_header : packetStream 0xFFFF [⟨2, 2 ^ 32 * 2160 + 2 ^ 44 * 3, []⟩] = [⟨true, 0x3870FFFF0278⟩] := by
  decide

/-- 07 R155: a load of 16 rows of 64 columns fills one stripe of 96 lanes. -/
theorem test_small_load_is_one_stripe :
    (stripes 96 10 (packetStream 0xFFFF (PlOut.packets (.load 1 16 64 0 0 none [])))).length = 1 := by decide

/-- 07 R147: LANE_MAP of epoch 2 without lane 40. -/
theorem test_lane_map_block : (blkLaneMap 0 2 (~~~(1 <<< 40))).payload = 0x1FDFFFFFFFFFE455 := by decide

/-- 20 R426, R427, R433: a pixel (0, 0, 10, 2) in the default order G, R, B, W, and the 16,000 tu it takes. -/
theorem test_effect_pixel : epbFrame (EffectOut.defaultRecord 0) [(2, 10), (3, 2)] = [0, 0, 10, 2] ∧
    ((epbCode [0, 0, 10, 2]).map fun x => x.1 + x.2).sum = 16000 := by decide
/-! ## The cryptography, the fixed-point functions, pins and line codes -/

/-- 21 R438: the SHA-256 of "abc" (FIPS 180-4). -/
theorem test_sha256 : sha256 [0x61, 0x62, 0x63] =
    be 32 0xba7816bf8f01cfea414140de5dae2223b00361a396177a9cb410ff61f20015ad := by
  unfold sha256; decide

/-- 21 R438: the base point of P-256 lies on the curve, and its order takes it to infinity with the point before. -/
theorem test_basePoint : onCurve (le 32 p256G.1 ++ le 32 p256G.2) = true ∧ onCurve (le 32 p256G.1 ++ le 32 (p256G.2 + 1)) = false := by
  decide

/-- 21 R449: ln 5,120 as the chapter's table has it, 8.540910. -/
theorem test_ln : 8540909 * fixOne < 1000000 * (lnUnit (5 * 2 ^ 158) + 12 * fixLn2) ∧
    1000000 * (lnUnit (5 * 2 ^ 158) + 12 * fixLn2) < 8540911 * fixOne := by decide

/-- 18 R386: K28.5 from each running disparity. -/
theorem test_comma : (code10 (kChar 28 5) false).1 = codeBits "0011111010" ∧ (code10 (kChar 28 5) true).1 = codeBits "1100000101" := by
  decide

/-- 24 R486: while PORST_N is low the SSI clock is high, the lanes and links idle, the drive's reset low, the flash and TDO open. -/
theorem test_pins : State.reset.pinLevel (.ssiClk 15) = .high ∧ State.reset.pinLevel (.planeLink 95) = .idle ∧
    State.reset.pinLevel .hostLink = .idle ∧ State.reset.pinLevel .drivePerst = .low ∧ State.reset.pinLevel .flash = .highZ ∧
    State.reset.pinLevel .tdo = .highZ := by decide
end Sys2Proof.Tests
end

section
/-! PROOFS. Where the slots of a tick start, base or long (02 R30). -/
namespace Sys2Proof.Machine

/-! ## Positions where a predicate holds -/

@[simp] theorem mem_indices {α : Type} [Inhabited α] (l : List α) (p : α → Bool) (i : Nat) :
    i ∈ indices l p ↔ i < l.length ∧ p (at_ l i) = true := by
  rw [indices, List.mem_filter, List.mem_range]
  refine and_congr_right fun hi => ?_
  simp [at_, hi]

theorem indices_pairwise_lt {α : Type} (l : List α) (p : α → Bool) : (indices l p).Pairwise (· < ·) :=
  List.pairwise_lt_range.filter _

theorem le_of_mem_indices_of_getLast? {α : Type} {l : List α} {p : α → Bool} {d j : Nat}
    (hd : (indices l p).getLast? = some d) (hj : j ∈ indices l p) : j ≤ d := by
  obtain ⟨_, rfl⟩ := List.mem_getLast?_eq_getLast hd
  exact ((indices_pairwise_lt l p).imp Nat.le_of_lt).rel_getLast hj

/-! ## The last DUMP slot and the offsets of the slots -/

/-- 02 R30: the slot that takes the long-tick tu is a DUMP slot, and no later slot is one. -/
theorem Cfg.lastDump_spec {c : Cfg} {d : Nat} (h : c.lastDump = some d) :
    d < c.slots.length ∧ (at_ c.slots d).type = 2 ∧ ∀ j, d < j → j < c.slots.length → (at_ c.slots j).type ≠ 2 := by
  have hmem : d ∈ indices c.slots fun k => k.type == 2 := List.mem_of_getLast? h
  obtain ⟨hlt, htype⟩ := (mem_indices ..).mp hmem
  refine ⟨hlt, by simpa using htype, fun j hdj hj hdump => ?_⟩
  have hle : j ≤ d := le_of_mem_indices_of_getLast? h ((mem_indices ..).mpr ⟨hj, by simp [hdump]⟩)
  omega

/-- The durations that the armature records for the slots before slot `i`. -/
def Cfg.recordedBefore (c : Cfg) (i : Nat) : Nat := ((c.slots.take i).map Slot.dur).sum

@[simp] theorem Cfg.recordedBefore_zero (c : Cfg) : c.recordedBefore 0 = 0 := by simp [recordedBefore]

@[simp] theorem Cfg.recordedBefore_length (c : Cfg) : c.recordedBefore c.slots.length = c.slotSum := by
  simp [recordedBefore, slotSum]

theorem Cfg.recordedBefore_succ {c : Cfg} {i : Nat} (hi : i < c.slots.length) :
    c.recordedBefore (i + 1) = c.recordedBefore i + (at_ c.slots i).dur := by
  simp [recordedBefore, at_, hi, List.map_take, List.sum_take_succ]

/-- The offset of a slot: the recorded durations before it, and past the last DUMP slot what the tick lasts beyond their
sum. -/
theorem Cfg.slotOffset_eq {c : Cfg} {d : Nat} (h : c.lastDump = some d) (len i : Nat) :
    c.slotOffset len i = c.recordedBefore i + (if d < i then len - c.slotSum else 0) := by
  simp only [slotOffset, h, recordedBefore]

theorem slotSum_eq_baseTick {c : Cfg} (h : sumOk c = true) : c.slotSum = baseTick c.mode.toNat := by
  simp only [sumOk, Bool.and_eq_true, beq_iff_eq] at h
  obtain ⟨⟨_, hsum⟩, hbase⟩ := h
  exact hsum.trans hbase

/-- From one slot to the next pass its recorded duration and, in the last DUMP slot, what the tick lasts beyond the sum. -/
theorem Cfg.slotOffset_succ {c : Cfg} {d i : Nat} (h : c.lastDump = some d) (hi : i < c.slots.length) (len : Nat) :
    c.slotOffset len (i + 1) =
      c.slotOffset len i + (at_ c.slots i).dur + (if i = d then len - c.slotSum else 0) := by
  rw [slotOffset_eq h, slotOffset_eq h, recordedBefore_succ hi]
  split_ifs <;> omega

/-- The slots fill any tick that lasts at least the sum of their recorded durations. -/
theorem Cfg.slotOffset_length {c : Cfg} {d len : Nat} (h : c.lastDump = some d) (hlen : c.slotSum ≤ len) :
    c.slotOffset len c.slots.length = len := by
  rw [slotOffset_eq h, if_pos (lastDump_spec h).1, recordedBefore_length]
  omega

/-! ## The statement -/

/-- Settles O42: the offsets advance by the recorded durations, and the last DUMP slot alone takes what the tick lasts
beyond their sum, which SUM makes the base tick. -/
theorem longTickTuLiesInTheLastDumpSlot : Obligations.LongTickTuLiesInTheLastDumpSlot := by
  unfold Obligations.LongTickTuLiesInTheLastDumpSlot
  rintro s c d rfl hsum hdump hlen
  have hbase := slotSum_eq_baseTick hsum
  refine ⟨Cfg.lastDump_spec hdump, ?_, fun i hi => ?_, ?_⟩
  · simp [State.slotOffset, Cfg.slotOffset_eq hdump]
  · rw [State.slotOffset, State.slotOffset, Cfg.slotOffset_succ hdump hi, hbase]
    rcases hlen with hlen | hlen <;> simp [hlen]
  · exact Cfg.slotOffset_length hdump (by omega)

end Sys2Proof.Machine
end

section
/-! PROOFS. MAQUETTE_RESYNC takes the live configuration into the maquette (04 R81). -/
namespace Sys2Proof.Machine

/-- An answer leaves the configurations and the commits that wait as they are. -/
@[simp] theorem State.answer_com (s : State) (h : Hdr) (r : Reply) : (s.answer h r).com = s.com := by
  obtain ⟨-, -, -, -, hcom, -⟩ := State.core_units (s.answer_core h r)
  exact hcom

@[simp] theorem State.okReply_com (s : State) (h : Hdr) (op : Nat) (payload : Rec) :
    (s.okReply h op payload).com = s.com := by
  simp only [State.okReply, State.settle_com, State.answer_com]

/-- The effect of MAQUETTE_RESYNC on the state that has taken it. -/
def State.resynced (s : State) (h : Hdr) : State :=
  { s.taken h with com := { s.com with maq := s.com.live }, col := s.col.resync }

@[simp] theorem State.resynced_com (s : State) (h : Hdr) :
    (s.resynced h).com = { s.com with maq := s.com.live } := rfl

theorem cmdMaquetteResync_run (s : State) (h : Hdr) (p : Rec) :
    cmdMaquetteResync.run h p (s.taken h) = (.reply cOk [], s.resynced h) := rfl

/-- An accepted MAQUETTE_RESYNC has its effect and is answered OK. -/
theorem exec_maquetteResync {s : State} {h : Hdr} (a : s.accepts h) :
    exec (.maquetteResync h []) s = .next ((s.resynced h).okReply h 0x0381 []) := by
  have hcmd : s.command cmdMaquetteResync h [] =
      (s.resynced h).answer h { op := 0x0381, tag := h.tag, code := cOk, payload := [] } :=
    State.command_reply a (by decide) rfl (Nat.zero_le _) (fun hparks => Bool.noConfusion hparks)
      (cmdMaquetteResync_run s h [])
  calc exec (.maquetteResync h []) s = done (s.command cmdMaquetteResync h []) := rfl
    _ = .next ((s.resynced h).okReply h 0x0381 []) := by rw [hcmd, done_eq, State.okReply]

/-- Settles O41: the command copies the live configuration into the maquette before its answer, and the answer leaves
that unit alone. -/
theorem maquetteResyncCopiesTheLiveConfiguration : Obligations.MaquetteResyncCopiesTheLiveConfiguration := by
  unfold Obligations.MaquetteResyncCopiesTheLiveConfiguration
  intro s h a
  have hcom : ((s.resynced h).okReply h 0x0381 []).com = { s.com with maq := s.com.live } := by
    rw [State.okReply_com, State.resynced_com]
  refine ⟨_, exec_maquetteResync a, ?_, hcom, ?_, ?_, rfl⟩ <;> rw [hcom]

end Sys2Proof.Machine
end

section
/-! PROOFS. The coefficient banks of the axes: what COEF_WRITE answers and writes, and that COMMIT, MAQUETTE_RESYNC and a tick
boundary leave every axis as it is (12 R268). -/
namespace Sys2Proof.Machine

/-! ## A tick boundary leaves the axes as they are -/

theorem State.axes_eq_of_ticks_eq {s t : State} (h : s.ticks = t.ticks) : s.axes = t.axes :=
  congrArg (fun x => x.2.2.2.2.2.1) h

@[simp] theorem State.openTick_axes (s : State) (t : Nat) (no : W32) (renumbered : Bool) :
    (s.openTick t no renumbered).axes = s.axes := rfl

@[simp] theorem State.ltrTo_axes (s : State) (t : Nat) : (s.ltrTo t).axes = s.axes := by rw [State.ltrTo_eq]

/-- Whatever number the tick that opens takes, also at a renumbering (18 R399), the rest of the boundary keeps what its
opening has set. -/
theorem State.boundary_ticks_eq_openTick {s : State} {no : W32} {renumbered : Bool} (h : s.tk.open_ = true)
    (hn : ((s.ltrTo (s.tk.start + s.tk.len)).forward (s.tk.start + s.tk.len)).nextNumber (s.tk.start + s.tk.len) =
      (no, renumbered)) :
    s.boundary.ticks = (((s.ltrTo (s.tk.start + s.tk.len)).forward (s.tk.start + s.tk.len)).openTick
      (s.tk.start + s.tk.len) no renumbered).ticks := by
  simp [State.boundary, h, hn, apply_ite State.ticks]

@[simp] theorem State.boundary_axes (s : State) : s.boundary.axes = s.axes := by
  by_cases h : s.tk.open_ = true
  · have hticks := State.boundary_ticks_eq_openTick h rfl
    rw [State.axes_eq_of_ticks_eq hticks, State.openTick_axes, State.forward_axes, State.ltrTo_axes]
  · simp [State.boundary, h]

/-! ## A mailbox command changes the axes only by its own rules -/

@[simp] theorem State.answer_axes (s : State) (h : Hdr) (r : Reply) : (s.answer h r).axes = s.axes := by
  obtain ⟨-, -, -, -, -, -, -, haxes, -⟩ := State.core_units (s.answer_core h r)
  exact haxes

@[simp] theorem State.clSendTo_axes (s : State) (dest : W16) (queue type : Nat) (payload : Rec) :
    (s.clSendTo dest queue type payload).axes = s.axes := by
  obtain ⟨-, -, -, -, -, -, -, haxes, -⟩ := State.core_units (s.clSendTo_core dest queue type payload)
  exact haxes

@[simp] theorem State.reject_axes (s : State) (op : Nat) (h : Hdr) (code : Nat) (hw : Bool) :
    (s.reject op h code hw).axes = s.axes := State.answer_axes ..

@[simp] theorem State.statusReply_axes (s : State) (h : Hdr) (length : Nat) :
    (s.statusReply h length).axes = s.axes := by
  rw [State.statusReply]
  split <;> exact State.answer_axes ..

@[simp] theorem State.retryPending_axes (s : State) : s.retryPending.2.axes = s.axes := by
  rw [State.retryPending]
  split <;> rfl

@[simp] theorem State.busy_axes (s : State) (h : Hdr) (op cause : Nat) : (s.busy h op cause).axes = s.axes := by
  unfold State.busy
  rw [State.answer_axes]
  split
  · rfl
  · rfl
  · exact s.retryPending_axes
  · rfl

@[simp] theorem State.forwardCmd_axes (s : State) (op : Nat) (h : Hdr) (p : Rec) :
    (s.forwardCmd op h p).axes = s.axes := by
  rw [State.forwardCmd]
  split
  · exact State.answer_axes ..
  · exact State.clSendTo_axes ..

@[simp] theorem State.stirs_axes (s : State) (op : Nat) : (s.stirs op).axes = s.axes := by
  rw [State.stirs]
  split <;> rfl

@[simp] theorem State.countTake_axes (s : State) (h : Hdr) : (s.countTake h).axes = s.axes := rfl

/-- The rules of a command leave every axis as it is. -/
def Cmd.KeepsAxes (c : Cmd) : Prop := ∀ (h : Hdr) (p : Rec) (s : State), (c.run h p s).2.axes = s.axes

section
variable {c : Cmd} (hc : c.KeepsAxes)
include hc

theorem Cmd.KeepsAxes.runHere_axes (s : State) (h : Hdr) (p : Rec) (hw : Bool) :
    (s.runHere c h p hw).axes = s.axes := by
  have hrun := hc h p s
  rw [State.runHere]
  split
  next heq => rw [State.answer_axes]; rwa [heq] at hrun
  next heq => rw [State.park_axes]; rwa [heq] at hrun

theorem Cmd.KeepsAxes.begin_axes (s : State) (op : Nat) (h : Hdr) (p : Rec) (length : Nat) :
    (s.begin op (some c) h p length).axes = s.axes := by
  simp only [State.begin, apply_ite State.axes, State.reject_axes, State.busy_axes, State.forwardCmd_axes,
    hc.runHere_axes, ite_self]

theorem Cmd.KeepsAxes.dispatch_axes (s : State) (op : Nat) (h : Hdr) (p : Rec) (length : Nat) :
    (s.dispatch op (some c) h p length).axes = s.axes := by
  simp only [State.dispatch, apply_ite State.axes, State.statusReply_axes, State.reject_axes, State.busy_axes,
    State.forwardCmd_axes, State.stirs_axes, hc.runHere_axes, hc.begin_axes, ite_self]

/-- Taken, refused, forwarded or run, such a command leaves every axis as it is. -/
theorem Cmd.KeepsAxes.command_axes (s : State) (h : Hdr) (p : Rec) : (s.command c h p).axes = s.axes := by
  simp only [State.command, apply_ite State.axes, hc.dispatch_axes, State.countTake_axes, ite_self]

end

/-! ## COMMIT and MAQUETTE_RESYNC -/

@[simp] theorem State.raiseIf_axes (s : State) (b : Bool) (code src payload : Nat) :
    (s.raiseIf b code src payload).axes = s.axes := by
  rw [State.raiseIf]
  split
  · exact State.raise_axes ..
  · rfl

@[simp] theorem State.commitTake_axes (s : State) : s.commitTake.axes = s.axes := by
  simp only [State.commitTake]
  split <;> rfl

@[simp] theorem State.acceptCommit_axes (s : State) : s.acceptCommit.axes = s.axes := State.raiseIf_axes ..

theorem cmdCommit_keepsAxes : cmdCommit.KeepsAxes := by
  intro h p s
  simp only [cmdCommit]
  split
  · simp only [State.acceptCommit_axes, State.commitTake_axes]
  · exact s.commitTake_axes

theorem cmdMaquetteResync_keepsAxes : cmdMaquetteResync.KeepsAxes := fun _ _ _ => rfl

theorem axes_of_exec_commit {s t : State} {h : Hdr} {p : Rec} (he : exec (.commit h p) s = .next t) :
    t.axes = s.axes := by
  obtain rfl : (s.command cmdCommit h p).settle = t := Host.Outcome.next.inj he
  rw [State.settle_axes, cmdCommit_keepsAxes.command_axes]

theorem axes_of_exec_maquetteResync {s t : State} {h : Hdr} {p : Rec}
    (he : exec (.maquetteResync h p) s = .next t) : t.axes = s.axes := by
  obtain rfl : (s.command cmdMaquetteResync h p).settle = t := Host.Outcome.next.inj he
  rw [State.settle_axes, cmdMaquetteResync_keepsAxes.command_axes]

theorem axes_of_exec_tickBoundary {s t : State} (he : exec .tickBoundary s = .next t) : t.axes = s.axes := by
  obtain rfl : s.boundary.settle = t := Host.Outcome.next.inj he
  rw [State.settle_axes, State.boundary_axes]

/-! ## COEF_WRITE -/

/-- The axis with a record written into bank B or A, which is valid from then on. -/
def Axis.withBank (x : Axis) (toB : Bool) (r : Rec) : Axis :=
  if toB then { x with bankB := r, validB := true } else { x with bankA := r, validA := true }

/-- COEF_WRITE may not write this bank of the axis: it is the active one, or a swap is pending, whose target is the other. -/
abbrev Axis.bankHeld (x : Axis) (bankB : Bool) : Prop := bankB = x.active ∨ x.swapAt.isSome = true

/-- What COEF_WRITE with a valid payload answers turns on the bank that it names alone. -/
theorem cmdCoefWrite_run {p : Rec} (h : Hdr) (s : State) (ha : byteAt p 0 ≤ 15) (hb : byteAt p 1 ≤ 1)
    (hr : coefOk (slice p 8 104) = true) :
    cmdCoefWrite.run h p s =
      if (at_ s.axes (byteAt p 0)).bankHeld (byteAt p 1 == 1) then refuse cState s
      else ok (s.axis (byteAt p 0) fun y => y.withBank (byteAt p 1 == 1) (slice p 8 104)) := by
  have hvalid : ¬(15 < byteAt p 0 ∨ 1 < byteAt p 1 ∨ coefOk (slice p 8 104) = false) := by simp [hr]; omega
  simp only [cmdCoefWrite, Axis.withBank, beq_iff_eq]
  rw [if_neg hvalid]

section
variable {s : State} {h : Hdr} {p : Rec} (acc : s.accepts h) (hlen : p.length = 112) (ha : byteAt p 0 ≤ 15)
  (hb : byteAt p 1 ≤ 1) (hr : coefOk (slice p 8 104) = true)
include acc hlen ha hb hr

/-- COEF_WRITE is refused with STATE for the active bank and while a swap is pending. -/
theorem exec_coefWrite_of_held (hheld : (at_ s.axes (byteAt p 0)).bankHeld (byteAt p 1 == 1)) :
    exec (.coefWrite h p) s = .next ((s.taken h).codeReply h 0x0902 cState) := by
  have hcmd := State.command_reply (c := cmdCoefWrite) acc (by decide) (by simp [cmdCoefWrite, lenIs, hlen]) (by omega)
    (fun hparks => Bool.noConfusion hparks) ((cmdCoefWrite_run h (s.taken h) ha hb hr).trans (if_pos hheld))
  calc exec (.coefWrite h p) s = done (s.command cmdCoefWrite h p) := rfl
    _ = .next ((s.taken h).codeReply h 0x0902 cState) := by rw [hcmd, done_eq, State.codeReply]; rfl

/-- Else it writes the bank that it names, and no other. -/
theorem exec_coefWrite_of_free (hfree : ¬(at_ s.axes (byteAt p 0)).bankHeld (byteAt p 1 == 1)) :
    exec (.coefWrite h p) s = .next (((s.taken h).axis (byteAt p 0) fun y =>
      y.withBank (byteAt p 1 == 1) (slice p 8 104)).okReply h 0x0902 []) := by
  have hcmd := State.command_reply (c := cmdCoefWrite) acc (by decide) (by simp [cmdCoefWrite, lenIs, hlen]) (by omega)
    (fun hparks => Bool.noConfusion hparks) ((cmdCoefWrite_run h (s.taken h) ha hb hr).trans (if_neg hfree))
  calc exec (.coefWrite h p) s = done (s.command cmdCoefWrite h p) := rfl
    _ = _ := by rw [hcmd, done_eq, State.okReply]; rfl

end

/-! ## The statement -/

/-- Settles O43: the bank that COEF_WRITE names decides between its refusal and its write, and neither the rules of COMMIT and
MAQUETTE_RESYNC nor any part of the boundary changes an axis. -/
theorem coefficientBanksChangeOnlyWhileInactive : Obligations.CoefficientBanksChangeOnlyWhileInactive := by
  unfold Obligations.CoefficientBanksChangeOnlyWhileInactive
  intro s
  refine ⟨?_, ?_⟩
  · rintro h p x acc hlen ha hb hr rfl
    refine ⟨fun hheld => ?_, fun hB hactive hswap => ?_, fun hA hactive hswap => ?_⟩
    · refine exec_coefWrite_of_held acc hlen ha hb hr ?_
      obtain ⟨hB, hactive⟩ | ⟨hA, hactive⟩ | hswap := hheld
      · exact .inl (by simp [hB, hactive])
      · exact .inl (by simp [hA, hactive])
      · exact .inr hswap
    · have hfree : ¬(at_ s.axes (byteAt p 0)).bankHeld (byteAt p 1 == 1) := by simp [Axis.bankHeld, hB, hactive, hswap]
      simpa [Axis.withBank, hB] using exec_coefWrite_of_free acc hlen ha hb hr hfree
    · have hfree : ¬(at_ s.axes (byteAt p 0)).bankHeld (byteAt p 1 == 1) := by simp [Axis.bankHeld, hA, hactive, hswap]
      simpa [Axis.withBank, hA] using exec_coefWrite_of_free acc hlen ha hb hr hfree
  · intro h p t he i
    have haxes : t.axes = s.axes := by
      obtain hcommit | hresync | hboundary := he
      · exact axes_of_exec_commit hcommit
      · exact axes_of_exec_maquetteResync hresync
      · exact axes_of_exec_tickBoundary hboundary
    simp only [haxes, and_self]

end Sys2Proof.Machine
end

section
/-! PROOFS. The index registers: which writes of DOORBELL and RPL_CONS are accepted, and what an accepted and an ignored
one does (17 R362). -/
namespace Sys2Proof.Machine

/-! ## What the host has written to the ring -/

@[simp] theorem State.hostBytes_nil (s : State) : s.hostBytes [] = s := rfl

/-! ## Ignored writes -/

/-- The mailbox after an ignored DOORBELL write. -/
def Mailbox.doorbellIgnored (m : Mailbox) : Mailbox :=
  { m with flagDbInvalid := true, ctr := { m.ctr with ringErrors := m.ctr.ringErrors + 1 } }

/-- The mailbox after an ignored write of RPL_CONS. -/
def Mailbox.rplConsIgnored (m : Mailbox) : Mailbox :=
  { m with flagRconsInvalid := true, ctr := { m.ctr with ringErrors := m.ctr.ringErrors + 1 } }

theorem State.ringError_doorbell (s : State) (n : W16) :
    s.ringError 0 n = { s with mbx := s.mbx.doorbellIgnored }.raise 0x0101 0 (65536 * n.toNat) := by
  simp [State.ringError, Mailbox.doorbellIgnored]

theorem State.ringError_rplCons (s : State) (n : W16) :
    s.ringError 1 n = { s with mbx := s.mbx.rplConsIgnored }.raise 0x0101 0 (1 + 65536 * n.toNat) := by
  simp [State.ringError, Mailbox.rplConsIgnored]

/-! ## Writes of DOORBELL and RPL_CONS -/

/-- The producer index moves to `n`, and the commands up to it become visible now. -/
def State.showCommands (s : State) (n : W16) : State :=
  { s with mbx := { s.mbx with
    cmdProd := n, visible := s.mbx.visible ++ List.replicate (n - s.mbx.cmdProd).toNat s.now } }

/-- A DOORBELL write of CP makes no command visible. -/
@[simp] theorem State.showCommands_cmdProd (s : State) : s.showCommands s.mbx.cmdProd = s := by
  simp [State.showCommands]

/-- The rule of a DOORBELL write of `n`: at most 64 commands then stand in the ring, and the producer index moves on by no
more than the room that the ring has left. -/
def Mailbox.doorbellOk (m : Mailbox) (n : W16) : Prop :=
  (n - m.cmdCons).toNat ≤ 64 ∧ (n - m.cmdProd).toNat ≤ (m.cmdCons + 64 - m.cmdProd).toNat

/-- The rule of a write of `n` to RPL_CONS: the consumer index does not pass the replies that are written. -/
def Mailbox.rplConsOk (m : Mailbox) (n : W16) : Prop := (n - m.rplCons).toNat ≤ (m.rplProd - m.rplCons).toNat

/-- A write of CP itself keeps the rule as soon as the ring holds no more than 64 commands. -/
theorem Mailbox.doorbellOk_cmdProd {m : Mailbox} (h : (m.cmdProd - m.cmdCons).toNat ≤ 64) :
    m.doorbellOk m.cmdProd := ⟨h, by simp⟩

section
variable {s : State} (hlink : s.mbx.linkUp = true) {v : W32}
include hlink

theorem exec_doorbellWrite_of_ok {bytes : List (Nat × Byte)} (hok : s.mbx.doorbellOk (v.setWidth 16)) :
    exec (.doorbellWrite v bytes) s = .next ((s.hostBytes bytes).showCommands (v.setWidth 16)).settle := by
  have hdoorbell : s.doorbell v bytes = (s.hostBytes bytes).showCommands (v.setWidth 16) := by
    rw [State.doorbell, if_neg (by simp [hlink])]
    exact if_pos hok
  calc exec (.doorbellWrite v bytes) s = done (s.doorbell v bytes) := rfl
    _ = _ := by rw [hdoorbell, done_eq]

theorem exec_doorbellWrite_of_not_ok {bytes : List (Nat × Byte)} (hbad : ¬s.mbx.doorbellOk (v.setWidth 16)) :
    exec (.doorbellWrite v bytes) s = .next ({ s with mbx := (s.hostBytes bytes).mbx.doorbellIgnored }.raise 0x0101 0
      (65536 * (v.setWidth 16 : W16).toNat)).settle := by
  have hdoorbell : s.doorbell v bytes = (s.hostBytes bytes).ringError 0 (v.setWidth 16) := by
    rw [State.doorbell, if_neg (by simp [hlink])]
    exact if_neg hbad
  calc exec (.doorbellWrite v bytes) s = done (s.doorbell v bytes) := rfl
    _ = _ := by rw [hdoorbell, State.ringError_doorbell, done_eq]; rfl

theorem exec_rplConsWrite_of_ok (hok : s.mbx.rplConsOk (v.setWidth 16)) :
    exec (.rplConsWrite v) s = .next ({ s with mbx := { s.mbx with rplCons := v.setWidth 16 } }).settle := by
  have hwrite : s.rplConsWrite v = { s with mbx := { s.mbx with rplCons := v.setWidth 16 } } := by
    rw [State.rplConsWrite, if_neg (by simp [hlink])]
    exact if_pos hok
  calc exec (.rplConsWrite v) s = done (s.rplConsWrite v) := rfl
    _ = _ := by rw [hwrite, done_eq]

theorem exec_rplConsWrite_of_not_ok (hbad : ¬s.mbx.rplConsOk (v.setWidth 16)) :
    exec (.rplConsWrite v) s = .next ({ s with mbx := s.mbx.rplConsIgnored }.raise 0x0101 0
      (1 + 65536 * (v.setWidth 16 : W16).toNat)).settle := by
  have hwrite : s.rplConsWrite v = s.ringError 1 (v.setWidth 16) := by
    rw [State.rplConsWrite, if_neg (by simp [hlink])]
    exact if_neg hbad
  calc exec (.rplConsWrite v) s = done (s.rplConsWrite v) := rfl
    _ = _ := by rw [hwrite, State.ringError_rplCons, done_eq]

/-- A DOORBELL write of CP, with nothing written to the ring, does nothing. -/
theorem exec_doorbellWrite_of_eq_cmdProd (hn : v.setWidth 16 = s.mbx.cmdProd)
    (hring : (s.mbx.cmdProd - s.mbx.cmdCons).toNat ≤ 64) : exec (.doorbellWrite v []) s = .next s.settle := by
  have hok : s.mbx.doorbellOk (v.setWidth 16) := hn ▸ Mailbox.doorbellOk_cmdProd hring
  rw [exec_doorbellWrite_of_ok hlink hok, State.hostBytes_nil, hn, State.showCommands_cmdProd]

end

/-! ## The slot of a reply -/

@[simp] theorem State.ringReply_rplProd (s : State) (entry : Rec) :
    (s.ringReply entry).mbx.rplProd = s.mbx.rplProd + 1 := rfl

@[simp] theorem State.ringReply_bar2 (s : State) (entry : Rec) : (s.ringReply entry).mbx.bar2 =
    spPut 0 s.mbx.bar2 (0x4000 + 256 * (s.mbx.rplProd.toNat % 64)) entry := rfl

/-! ## The statement -/

/-- Settles O28: the rule of each register decides between its accepted and its ignored write, and a DOORBELL write of CP is the
accepted one that makes no command visible. -/
theorem indexWritesFollowTheirRule : Obligations.IndexWritesFollowTheirRule := by
  unfold Obligations.IndexWritesFollowTheirRule
  intro s v bytes hlink n cp cc rc m
  refine ⟨fun hcc hcp => ?_, fun hbad => ⟨_, rfl, ?_⟩, ?_, rfl, fun entry => ⟨?_, ?_⟩, ?_, ?_⟩
  · exact exec_doorbellWrite_of_ok hlink ⟨hcc, hcp⟩
  · exact exec_doorbellWrite_of_not_ok hlink hbad
  · exact exec_doorbellWrite_of_eq_cmdProd hlink
  · exact State.ringReply_rplProd s entry
  · exact State.ringReply_bar2 s entry
  · exact exec_rplConsWrite_of_ok hlink
  · exact exec_rplConsWrite_of_not_ok hlink

end Sys2Proof.Machine
end

section
/-! PROOFS. The mode and the armature after power-on reset (22 R467), and admission of an armature whose one slot is a DUMP
slot (02 R47). -/
namespace Sys2Proof.Machine

/-! ## The first three checks of admission -/

/-- The first three checks of 02 R47 are SUM, RESERVE and DUMP_SLOT; they look at the configuration alone. -/
theorem State.admission_take_three (s : State) (c : Cfg) (set : SourceSet) :
    (s.admission c set).take 3 = [!sumOk c, decide (c.dumpSum < c.reserve),
      !c.slots.any fun k => k.type == 2 && decide (3200 ≤ k.dur)] := rfl

/-- The calibration reserve is long enough for a test pulse in each mode: its floor exceeds what DUMP_SLOT asks for. -/
theorem Cfg.testPulse_le_reserve (c : Cfg) : 3200 ≤ c.reserve := by
  have hfloor : 8000 ≤ c.reserve := Nat.le_max_left ..
  omega

section
variable {c : Cfg} {d : Nat} (hslots : c.slots = [Slot.mk d 2 0 0])
include hslots

theorem Cfg.dumpSum_of_oneDump : c.dumpSum = d := by simp [Cfg.dumpSum, hslots]

/-- One DUMP slot that holds the reserve also meets DUMP_SLOT, so beside SUM nothing else remains to check. -/
theorem State.admission_take_three_of_oneDump (hsum : sumOk c = true) (hreserve : c.reserve ≤ d) (s : State)
    (set : SourceSet) : (s.admission c set).take 3 = [false, false, false] := by
  have hpulse : 3200 ≤ d := c.testPulse_le_reserve.trans hreserve
  rw [State.admission_take_three, Cfg.dumpSum_of_oneDump hslots, hslots]
  simp [hsum, hreserve, hpulse]

end

/-! ## The default configuration -/

/-- 22 R467: live and in the maquette, reset holds the one default configuration. -/
theorem State.reset_com_cfg {c : Cfg} (h : c = State.reset.com.live ∨ c = State.reset.com.maq) : c = Cfg.reset :=
  h.elim id id

@[simp] theorem Cfg.reset_mode : Cfg.reset.mode = 0x49 := rfl

theorem Cfg.reset_slots : Cfg.reset.slots = [Slot.mk 6666666 2 0 0] := by decide

/-- The one slot lasts the base tick of mode 0x49. -/
theorem Cfg.reset_sumOk : sumOk Cfg.reset = true := by decide

theorem Cfg.reset_reserve : Cfg.reset.reserve = 13334 := by decide

/-! ## The statement -/

/-- Settles O44: both configurations are the default one, whose one DUMP slot fills the base tick of its mode and so exceeds the
reserve. -/
theorem resetHoldsTheDefaultMode : Obligations.ResetHoldsTheDefaultMode := by
  unfold Obligations.ResetHoldsTheDefaultMode
  intro c hc
  obtain rfl := State.reset_com_cfg hc
  have hreserve : Cfg.reset.reserve ≤ 6666666 := by simp [Cfg.reset_reserve]
  exact ⟨Cfg.reset_mode, rfl, rfl, rfl, rfl, Cfg.reset_slots, rfl,
    State.admission_take_three_of_oneDump Cfg.reset_slots Cfg.reset_sumOk hreserve _ _⟩

end Sys2Proof.Machine
end

section
/-! PROOFS. The families "other": one theorem is elaborated after another, which keeps the one text within the memory of a check. -/
set_option Elab.async false

section
/-! PROOFS. What a step does to the queue (17 R365), and the gates of 08 R191 and 24 R485 at reset and after every step. -/
namespace Sys2Proof.Machine

/-- Settles O1: `step` looks at the front of the queue alone. -/
theorem stepExecutesFrontCommand : Obligations.StepExecutesFrontCommand := by
  unfold Obligations.StepExecutesFrontCommand
  intro s c rest hq
  simp only [step, hq]

/-- Settles O2: nothing waits, so `step` moves the time alone. -/
theorem idleStepPassesOneTu : Obligations.IdleStepPassesOneTu := by
  unfold Obligations.IdleStepPassesOneTu
  intro s hq
  simp only [step, hq]

/-! ## The gates -/

/-- The gates do not look at the time. -/
theorem State.gatesHold_idle {s : State} (hs : s.gatesHold) : ({ s with now := s.now + 1 } : State).gatesHold := hs

/-- Settles O45: at reset no sink conducts, the tick does not qualify, and no bridge loss is seen. -/
theorem gatesHoldAtReset : Obligations.GatesHoldAtReset := by
  unfold Obligations.GatesHoldAtReset
  refine ⟨fun _ k hk => ?_, fun _ => rfl, fun hheel => Bool.noConfusion hheel⟩
  rw [show k = Sink.reset from List.eq_of_mem_replicate hk]
  rfl

/-- Settles O46: every command ends with the gates, and time alone does not touch what they hold. -/
theorem gatesHoldAfterEveryStep : Obligations.GatesHoldAfterEveryStep := by
  unfold Obligations.GatesHoldAfterEveryStep
  intro s s' hs hstep
  cases hq : s.pending with
  | nil =>
    rw [idleStepPassesOneTu s hq] at hstep
    cases hstep
    exact s.gatesHold_idle hs
  | cons c rest =>
    rw [stepExecutesFrontCommand s c rest hq] at hstep
    obtain ⟨t, ht⟩ := exec_done c { s with pending := rest }
    rw [ht, done_eq] at hstep
    cases hstep
    exact t.settle_gatesHold

/-! ## The reset record (22 R466, R467) -/

theorem State.reset_banks {b : Rec} (hb : b ∈ State.reset.src.live.banks) : byteAt b 0 = 1 ∧ byteAt b 1 = 0 := by
  rw [List.eq_of_mem_replicate hb]
  decide

theorem State.reset_chans {c : Rec} (hc : c ∈ State.reset.src.live.chans) : chRole c = 0 := by
  obtain ⟨i, -, rfl⟩ := List.mem_map.mp hc
  simp [chRole, byteAt, bits]

theorem State.reset_axes {x : Axis} (hx : x ∈ State.reset.axes) : x.state = 0 := by
  obtain ⟨i, -, rfl⟩ := List.mem_map.mp hx
  rfl

theorem State.reset_heads {x : Head} (hx : x ∈ State.reset.heads) : x.state = 0 := by
  obtain ⟨i, -, rfl⟩ := List.mem_map.mp hx
  rfl

theorem State.reset_outs {o : EffectOut} (ho : o ∈ State.reset.epb.outs) : bit (byteAt o.record 1) 0 = false := by
  obtain ⟨i, -, rfl⟩ := List.mem_map.mp ho
  simp [EffectOut.reset, EffectOut.defaultRecord, byteAt, bit]

/-- Settles O3: each value that R466 and R467 name is the one of the reset record. -/
theorem resetLeavesTheStatedDefaults : Obligations.ResetLeavesTheStatedDefaults := by
  unfold Obligations.ResetLeavesTheStatedDefaults
  have hlayers : ∀ d ∈ State.reset.com.live.layers, lyEnable d = false := fun d hd => by
    rw [List.eq_of_mem_replicate hd]
    rfl
  have hslots : ∀ c ∈ State.reset.chi.slots, c = [] := fun c => List.eq_of_mem_replicate
  have harrays : ∀ a ∈ State.reset.pl.arrays, a.state = 0 := fun a ha => by
    rw [List.eq_of_mem_replicate ha]
    rfl
  exact ⟨hlayers, hslots, harrays, fun _ => State.reset_banks, fun _ => State.reset_chans, fun _ => State.reset_axes,
    fun _ => State.reset_heads, rfl, rfl, rfl, fun _ => State.reset_outs, rfl, rfl, rfl, rfl, rfl, rfl, rfl, rfl, rfl, rfl,
    rfl, rfl, rfl, by decide, by decide, rfl, rfl⟩

end Sys2Proof.Machine
end

section
/-! PROOFS. A command that its own rules refuse changes nothing (17 R375). -/
namespace Sys2Proof.Machine

/-! ## Answers that refuse -/

/-- An answer to a command in `s` that, where its code is neither OK nor LATE, changes nothing but the count of free values. -/
def Refuses (s : State) (r : Ans × State) : Prop :=
  ∀ code payload t, r = (.reply code payload, t) → code ≠ cOk → code ≠ cLate → t = { s with free := t.free }

/-- Every refusal of the command changes nothing. -/
def Cmd.RefusesCleanly (c : Cmd) : Prop := ∀ h p s, Refuses s (c.run h p s)

@[simp] theorem refuses_reply_same (s : State) (code : Nat) (payload : Rec) : Refuses s (.reply code payload, s) := by
  rintro _ _ _ ⟨⟩ - -
  rfl

@[simp] theorem refuses_refuse (s : State) (code : Nat) : Refuses s (refuse code s) := refuses_reply_same s code []

@[simp] theorem refuses_reply_takeFree (s : State) (code : Nat) (payload : Rec) :
    Refuses s (.reply code payload, s.takeFree.2) := by
  rintro _ _ _ ⟨⟩ - -
  rfl

@[simp] theorem refuses_okWith (s t : State) (payload : Rec) : Refuses s (okWith payload t) := by
  rintro _ _ _ ⟨⟩ hok -
  exact absurd rfl hok

@[simp] theorem refuses_ok (s t : State) : Refuses s (ok t) := refuses_okWith s t []

@[simp] theorem refuses_late (s t : State) (payload : Rec) : Refuses s (.reply cLate payload, t) := by
  rintro _ _ _ ⟨⟩ - hlate
  exact absurd rfl hlate

/-- Answers that are OK or LATE, whichever it is. -/
@[simp] theorem refuses_late_or_ok (s t : State) (late : Prop) [Decidable late] (payload : Rec) :
    Refuses s (.reply (if late then cLate else cOk) payload, t) := by
  split
  · exact refuses_late s t payload
  · exact refuses_okWith s t payload

@[simp] theorem refuses_park (s t : State) (key : Nat) : Refuses s (.park key, t) := by
  rintro _ _ _ ⟨⟩

/-- A case split of a command's rules is clean when both of its cases are. -/
@[simp] theorem refuses_ite (s : State) (q : Prop) [Decidable q] (a b : Ans × State) :
    Refuses s (if q then a else b) ↔ (q → Refuses s a) ∧ (¬q → Refuses s b) := by
  split <;> simp [*]

/-! ## Forms that commands share -/

@[simp] theorem refuses_needMount (s : State) (r : Ans × State) : Refuses s (s.needMount r) ↔ (s.mounted = true → Refuses s r) := by
  simp [State.needMount]

@[simp] theorem refuses_driveWait (s t : State) (op base m : Nat) (steps : List DriveStep) :
    Refuses s (t.driveWait op base m steps) := refuses_park s _ _

@[simp] theorem refuses_axisRead (f : State → Nat → Rec) (p : Rec) (s : State) : Refuses s (axisRead f p s) := by
  simp [axisRead]

@[simp] theorem refuses_kennelCommand (s : State) (mask : Nat) (content : State → Nat → Content) :
    Refuses s (s.kennelCommand mask content) := by
  simp only [State.kennelCommand]
  split <;> simp

/-! ## Commands whose rules look into an operand or a record -/

@[simp] theorem refuses_cmdFwErase (h : Hdr) (p : Rec) (s : State) : Refuses s (cmdFwErase.run h p s) := by
  simp only [cmdFwErase]
  repeat' split
  all_goals simp

@[simp] theorem refuses_cmdFwWrite (h : Hdr) (p : Rec) (s : State) : Refuses s (cmdFwWrite.run h p s) := by
  simp only [cmdFwWrite]
  repeat' split
  all_goals simp

@[simp] theorem refuses_cmdCastLoadClip (h : Hdr) (p : Rec) (s : State) : Refuses s (cmdCastLoadClip.run h p s) := by
  simp only [cmdCastLoadClip]
  repeat' split
  all_goals simp

@[simp] theorem refuses_cmdArrayRecordRead (h : Hdr) (p : Rec) (s : State) : Refuses s (cmdArrayRecordRead.run h p s) := by
  simp only [cmdArrayRecordRead]
  repeat' split
  all_goals simp

@[simp] theorem refuses_cmdSourceApply (h : Hdr) (p : Rec) (s : State) : Refuses s (cmdSourceApply.run h p s) := by
  simp only [cmdSourceApply]
  repeat' split
  all_goals simp

@[simp] theorem refuses_cmdSourceRead (h : Hdr) (p : Rec) (s : State) : Refuses s (cmdSourceRead.run h p s) := by
  simp only [cmdSourceRead]
  repeat' split
  all_goals simp

@[simp] theorem refuses_cmdHeadControl (h : Hdr) (p : Rec) (s : State) : Refuses s (cmdHeadControl.run h p s) := by
  simp only [cmdHeadControl]
  repeat' split
  all_goals simp

@[simp] theorem refuses_cmdHeelControl (h : Hdr) (p : Rec) (s : State) : Refuses s (cmdHeelControl.run h p s) := by
  simp only [cmdHeelControl]
  repeat' split
  all_goals simp

@[simp] theorem refuses_cmdHkCompRead (h : Hdr) (p : Rec) (s : State) : Refuses s (cmdHkCompRead.run h p s) := by
  simp only [cmdHkCompRead]
  repeat' split
  all_goals simp

@[simp] theorem refuses_cmdThermalModelRead (h : Hdr) (p : Rec) (s : State) : Refuses s (cmdThermalModelRead.run h p s) := by
  simp only [cmdThermalModelRead]
  repeat' split
  all_goals simp

@[simp] theorem refuses_cmdClipCreate (h : Hdr) (p : Rec) (s : State) : Refuses s (cmdClipCreate.run h p s) := by
  simp only [cmdClipCreate]
  repeat' split
  all_goals simp

@[simp] theorem refuses_cmdClipWrite (h : Hdr) (p : Rec) (s : State) : Refuses s (cmdClipWrite.run h p s) := by
  simp only [cmdClipWrite]
  repeat' split
  all_goals simp

@[simp] theorem refuses_cmdClipSeal (h : Hdr) (p : Rec) (s : State) : Refuses s (cmdClipSeal.run h p s) := by
  simp only [cmdClipSeal]
  repeat' split
  all_goals simp

@[simp] theorem refuses_cmdClipDelete (h : Hdr) (p : Rec) (s : State) : Refuses s (cmdClipDelete.run h p s) := by
  simp only [cmdClipDelete]
  repeat' split
  all_goals simp

@[simp] theorem refuses_cmdClipPlay (h : Hdr) (p : Rec) (s : State) : Refuses s (cmdClipPlay.run h p s) := by
  simp only [cmdClipPlay]
  repeat' split
  all_goals simp

@[simp] theorem refuses_cmdCueControl (h : Hdr) (p : Rec) (s : State) : Refuses s (cmdCueControl.run h p s) := by
  simp only [cmdCueControl]
  repeat' split
  all_goals simp

@[simp] theorem refuses_cmdServiceChallenge (h : Hdr) (p : Rec) (s : State) : Refuses s (cmdServiceChallenge.run h p s) := by
  simp only [cmdServiceChallenge]
  repeat' split
  all_goals simp

@[simp] theorem refuses_cmdPatinaUnitRead (h : Hdr) (p : Rec) (s : State) : Refuses s (cmdPatinaUnitRead.run h p s) := by
  simp only [cmdPatinaUnitRead]
  repeat' split
  all_goals simp

/-! ## The commands by chapter -/

theorem cmds01_refuse_cleanly : ∀ c ∈ cmds01, c.RefusesCleanly := by
  simp [cmds01, Cmd.RefusesCleanly, cmdStatus, cmdMailboxConfig, cmdWhistleAck, cmdMailboxCounters, cmdFwInfo,
    cmdFwActivate, cmdFwConfirm]

theorem cmds02_refuse_cleanly : ∀ c ∈ cmds02, c.RefusesCleanly := by
  simp [cmds02, Cmd.RefusesCleanly, cmdModeSet, cmdArmatureWrite, cmdArmatureRead, cmdTickSourceSet, cmdTickStatus,
    cmdTickStamp, cmdAdmissionQuery]

theorem cmds03_refuse_cleanly : ∀ c ∈ cmds03, c.op ≠ 0x0380 → c.RefusesCleanly := by
  simp [cmds03, Cmd.RefusesCleanly, cmdLayerWrite, cmdLayerRead, cmdFilterWrite, cmdBackgroundSet, cmdTagAllot,
    cmdFetchConfig, cmdFetchStatus, cmdCommit, cmdMaquetteResync, cmdCommitStatus, cmdRetireRead, cmdComposeEventSet,
    cmdFreezeConfig, cmdSignatureRead, cmdFenceRead]

theorem cmds04_refuse_cleanly : ∀ c ∈ cmds04, c.RefusesCleanly := by
  simp [cmds04, Cmd.RefusesCleanly, cmdColourConfig, cmdMatrixWrite, cmdMatrixRead, cmdTableWrite, cmdTableRead,
    cmdTableFill, cmdTableCrc, cmdDitherMaskWrite, cmdDitherMaskSelect, cmdDitherMaskRead, cmdColourStats,
    cmdPixelProbe, cmdCastWrite, cmdCastRead, cmdCastSelect, cmdCastSwitch, cmdCastCheck, cmdPlinthEnter,
    cmdChiselStatus]

theorem cmds05_refuse_cleanly : ∀ c ∈ cmds05, c.RefusesCleanly := by
  simp [cmds05, Cmd.RefusesCleanly, cmdPlConfig, cmdPlTrain, cmdPlStatus, cmdArrayCmd, cmdLaneControl,
    cmdLaneCounters]

theorem cmds06_refuse_cleanly : ∀ c ∈ cmds06, c.RefusesCleanly := by
  simp [cmds06, Cmd.RefusesCleanly, cmdBankWrite, cmdChannelWrite, cmdLevelWrite, cmdLevelFill, cmdChargeRead,
    cmdChargeSave, cmdChargeClear, cmdSinkStatus, cmdDiagConfig, cmdDiagStatus, cmdDiagClear, cmdDiagRoundNow,
    cmdNeighbourRead]

theorem cmds07_refuse_cleanly : ∀ c ∈ cmds07, c.RefusesCleanly := by
  simp [cmds07, Cmd.RefusesCleanly, cmdConstancyConfig, cmdSenseConfig, cmdTargetSet, cmdTargetCapture, cmdScaleSet,
    cmdConstancyStatus, cmdEmitterRead, cmdSenseRead]

theorem cmds08_refuse_cleanly : ∀ c ∈ cmds08, c.op ≠ 0x0803 → c.RefusesCleanly := by
  simp [cmds08, Cmd.RefusesCleanly, cmdHeadConfig, cmdHeadRead, cmdPointAppend, cmdHeadStatus]

theorem cmds09_refuse_cleanly : ∀ c ∈ cmds09, c.RefusesCleanly := by
  simp [cmds09, Cmd.RefusesCleanly, cmdAxisConfig, cmdAxisConfigRead, cmdCoefWrite, cmdCoefRead, cmdBankSelect,
    cmdAxisLoop, cmdAxisStatus, cmdAxisIoConfig, cmdAxisIoRead, cmdExtConfig, cmdDetectConfig, cmdProfileLimits,
    cmdProfileMove, cmdSetpointSource, cmdAxisIoStatus, cmdTriggerConfig, cmdTriggerStatus]

theorem cmds0A_refuse_cleanly : ∀ c ∈ cmds0A, c.RefusesCleanly := by
  simp [cmds0A, Cmd.RefusesCleanly, cmdClockConfig, cmdClockStep, cmdClockRamp, cmdClockRampStop, cmdClockStatus,
    cmdHkCompWrite]

theorem cmds0B_refuse_cleanly : ∀ c ∈ cmds0B, c.RefusesCleanly := by
  simp [cmds0B, Cmd.RefusesCleanly, cmdThermalStatus, cmdThermalRelease, cmdThermalModelWrite, cmdZoneSuspectClear]

theorem cmds0C_refuse_cleanly : ∀ c ∈ cmds0C, c.RefusesCleanly := by
  simp [cmds0C, Cmd.RefusesCleanly, cmdCalConfig, cmdCalStatus, cmdCalControl, cmdCalValuesRead, cmdKennelSave,
    cmdKennelConfig, cmdKennelStatus, cmdKennelRead, cmdKennelErase]

theorem cmds0D_refuse_cleanly : ∀ c ∈ cmds0D, c.RefusesCleanly := by
  simp [cmds0D, Cmd.RefusesCleanly, cmdClConfig, cmdClStatus, cmdClEnumerate, cmdClBroadcast, cmdClTimeSet,
    cmdClRouteRead]

theorem cmds0E_refuse_cleanly : ∀ c ∈ cmds0E, c.RefusesCleanly := by
  simp [cmds0E, Cmd.RefusesCleanly, cmdCsConfig, cmdCsStatus, cmdCsFormat, cmdClipInfo]

theorem cmds0F_refuse_cleanly : ∀ c ∈ cmds0F, c.RefusesCleanly := by
  simp [cmds0F, Cmd.RefusesCleanly, cmdEpbConfig, cmdEpbWrite, cmdEpbUpdate, cmdEpbPattern, cmdEpbStatus]

theorem cmds10_refuse_cleanly : ∀ c ∈ cmds10, c.op ≠ 0x1004 → c.RefusesCleanly := by
  simp [cmds10, Cmd.RefusesCleanly, cmdIdentityRead, cmdCertRead, cmdAttest, cmdServiceOpen, cmdServiceClose,
    cmdServiceKeyEnroll, cmdServiceKeyRevoke, cmdSecurityCommit]

theorem cmds11_refuse_cleanly : ∀ c ∈ cmds11, c.RefusesCleanly := by
  simp [cmds11, Cmd.RefusesCleanly, cmdPatinaConfig, cmdPatinaEmitterRead, cmdPatinaHoursRead,
    cmdPatinaReset]

theorem cmds12_refuse_cleanly : ∀ c ∈ cmds12, c.RefusesCleanly := by
  simp [cmds12, Cmd.RefusesCleanly, cmdEventRead, cmdEventOverflowRead]

/-- Every command of the device but COMMIT, SERVICE_OPEN and POINT_APPEND. -/
theorem allCmds_refuse_cleanly :
    ∀ c ∈ allCmds, c.op ≠ 0x0380 → c.op ≠ 0x1004 → c.op ≠ 0x0803 → c.RefusesCleanly := by
  intro c hc hcommit hopen happend
  simp only [allCmds, List.mem_append] at hc
  obtain (((((((((((((((((hc | hc) | hc) | hc) | hc) | hc) | hc) | hc) | hc) | hc) | hc) | hc) | hc) | hc) | hc) | hc) | hc) | hc) := hc
  · exact cmds01_refuse_cleanly c hc
  · exact cmds02_refuse_cleanly c hc
  · exact cmds03_refuse_cleanly c hc hcommit
  · exact cmds04_refuse_cleanly c hc
  · exact cmds05_refuse_cleanly c hc
  · exact cmds06_refuse_cleanly c hc
  · exact cmds07_refuse_cleanly c hc
  · exact cmds08_refuse_cleanly c hc happend
  · exact cmds09_refuse_cleanly c hc
  · exact cmds0A_refuse_cleanly c hc
  · exact cmds0B_refuse_cleanly c hc
  · exact cmds0C_refuse_cleanly c hc
  · exact cmds0D_refuse_cleanly c hc
  · exact cmds0E_refuse_cleanly c hc
  · exact cmds0F_refuse_cleanly c hc
  · exact cmds10_refuse_cleanly c hc hopen
  · exact cmds11_refuse_cleanly c hc
  · exact cmds12_refuse_cleanly c hc

/-! ## The statement -/

theorem op_of_commandOf {op : Nat} {c : Cmd} (hc : commandOf op = some c) : c ∈ allCmds ∧ c.op = op :=
  ⟨List.mem_of_find?_eq_some hc, by simpa using List.find?_some hc⟩

/-- Settles O37: an opcode names one command of the table, and each of those refuses before it changes anything. -/
theorem refusedCommandsHaveNoEffect : Obligations.RefusedCommandsHaveNoEffect := by
  unfold Obligations.RefusedCommandsHaveNoEffect
  intro op c hc hcommit hopen happend h p s code payload t hrun hok hlate
  obtain ⟨hmem, rfl⟩ := op_of_commandOf hc
  exact allCmds_refuse_cleanly c hmem hcommit hopen happend h p s code payload t hrun hok hlate

end Sys2Proof.Machine
end

section
/-! PROOFS. Commands that are begun at once: from what a command's own rules answer to what its row does (17 R366). -/
namespace Sys2Proof.Machine

theorem ok_eq_okWith (s : State) : ok s = okWith [] s := rfl

section
variable {s t : State} {c : Cmd} {h : Hdr} {p pay : Rec}

/-- A command that its rules answer with a code, as its row ends. -/
theorem State.command_ends {code : Nat} (acc : s.accepts h) (hlen : c.len p = true) (hmax : p.length ≤ 240)
    (hrun : c.run h p (s.taken h) = (.reply code pay, t))
    (hroom : c.parks p = true → s.pendingCount < 16) (hop : c.op ≠ 0x0100 := by decide) :
    done (s.command c h p) = .next (t.answer h { op := c.op, tag := h.tag, code := code, payload := pay }).settle := by
  rw [State.command_reply acc hop hlen hmax hroom hrun, done_eq]

/-- A command that never parks and whose rules answer OK. -/
theorem State.command_oks (acc : s.accepts h) (hlen : c.len p = true) (hmax : p.length ≤ 240)
    (hrun : c.run h p (s.taken h) = okWith pay t) (hparks : c.parks p = false := by rfl)
    (hop : c.op ≠ 0x0100 := by decide) : done (s.command c h p) = .next (t.okReply h c.op pay) :=
  State.command_ends acc hlen hmax hrun (fun hp => Bool.noConfusion (hparks.symm.trans hp)) hop

/-- The same for a command whose payload has one size. -/
theorem State.command_oks_fixed {n : Nat} (acc : s.accepts h) (hn : p.length = n)
    (hrun : c.run h p (s.taken h) = okWith pay t) (hlen : c.len = lenIs n := by rfl) (hmax : n ≤ 240 := by decide)
    (hparks : c.parks p = false := by rfl) (hop : c.op ≠ 0x0100 := by decide) :
    done (s.command c h p) = .next (t.okReply h c.op pay) :=
  State.command_oks acc (by simp [hlen, lenIs, hn]) (hn.trans_le hmax) hrun hparks hop

/-- A command that its rules park, as its row ends. -/
theorem State.command_parks {key : Nat} (acc : s.accepts h) (hlen : c.len p = true) (hmax : p.length ≤ 240)
    (hrun : c.run h p (s.taken h) = (.park key, t)) (hroom : s.pendingCount < 16) (hop : c.op ≠ 0x0100 := by decide) :
    done (s.command c h p) = .next (t.parkedAs s c.op h p key) := by
  rw [State.command_park acc hop hlen hmax (fun _ => hroom) hrun, done_eq]
  rfl

end

/-! ## Fields of the mailbox that a take leaves -/

@[simp] theorem State.taken_flagRestarted (s : State) (h : Hdr) : (s.taken h).mbx.flagRestarted = s.mbx.flagRestarted := by
  simp only [State.taken, State.countTake, Mailbox.countTake]
  split <;> rfl

@[simp] theorem State.taken_flagCpuFault (s : State) (h : Hdr) : (s.taken h).mbx.flagCpuFault = s.mbx.flagCpuFault := by
  simp only [State.taken, State.countTake, Mailbox.countTake]
  split <;> rfl

/-! ## The commands of chapter 17 -/

theorem inRange_eq_true {lo hi v : Nat} : inRange lo hi v = true ↔ lo ≤ v ∧ v ≤ hi := by simp [inRange]

/-- STATUS is answered by the hardware path in every state. -/
theorem State.command_status {s : State} {h : Hdr} {p : Rec} (hlen : p.length = 0) (hhere : s.isHere h = true)
    (hslot : h.origin = .pcie → s.slotFree = true) :
    s.command cmdStatus h p = (s.countTake h).statusReply h 0 := by
  have hfree : ¬(h.origin = .pcie ∧ s.slotFree = false) := fun ⟨ho, hn⟩ => Bool.noConfusion (hn.symm.trans (hslot ho))
  have hhere' : (s.countTake h).isHere h = true := hhere
  rw [State.command, if_neg hfree, hlen]
  simp [State.dispatch, State.stirs, cmdStatus, hhere']

/-- Settles O4: STATUS goes its own way, and the three others answer OK. -/
theorem mailboxCommandsComplete : Obligations.MailboxCommandsComplete := by
  unfold Obligations.MailboxCommandsComplete
  refine fun h p s => ⟨?_, fun acc => ⟨?_, ?_, ?_⟩⟩
  · rintro hlen hhere hslot t rfl
    exact congrArg (fun t : State => Host.Outcome.next t.settle) (State.command_status hlen hhere hslot)
  · intro hlen hwait hremote
    refine State.command_oks_fixed (c := cmdMailboxConfig) acc hlen ?_
    simp [cmdMailboxConfig, inRange_eq_true, hwait, hremote, ok_eq_okWith]
  · intro hlen
    refine State.command_oks_fixed (c := cmdWhistleAck) acc hlen ?_
    simp [cmdWhistleAck, ok_eq_okWith]
  · rintro hlen t rfl
    exact State.command_oks_fixed (c := cmdMailboxCounters) acc hlen rfl

/-- Settles O5. -/
theorem eventQueueCommandsComplete : Obligations.EventQueueCommandsComplete := by
  unfold Obligations.EventQueueCommandsComplete
  refine fun h p s acc hlen => ⟨?_, fun out pay => ?_⟩
  · rintro hmax out rfl
    refine State.command_oks_fixed (c := cmdEventRead) acc hlen ?_
    simp [cmdEventRead, inRange_eq_true, hmax]
  · rintro rfl rfl
    refine ⟨fun hclear => ?_, fun hclear => ?_⟩
    · refine State.command_oks_fixed (c := cmdEventOverflowRead) acc hlen ?_
      simp only [cmdEventOverflowRead, hclear, if_true]
      rfl
    · refine State.command_oks_fixed (c := cmdEventOverflowRead) acc hlen ?_
      simp only [cmdEventOverflowRead, hclear, Bool.false_eq_true, if_false]
      rfl

end Sys2Proof.Machine
end

section
/-! PROOFS. The commands of the clocks, the tick and the armature, and the layers (14 R315, 02 R50, 03 R78). -/
namespace Sys2Proof.Machine

/-! ## Payload lengths (17 R500) -/

theorem lenByField_of_eq {fixed off : Nat} {p : Rec} (hlen : p.length = fixed + u16 p off) : lenByField fixed off p = true := by
  simp [lenByField, hlen]

theorem lenByCount8_of_eq {fixed off unit : Nat} {p : Rec} (hlen : p.length = fixed + unit * byteAt p off) :
    lenByCount8 fixed off unit p = true := by
  simp [lenByCount8, hlen]

theorem lenByCount16_of_eq {fixed off unit : Nat} {p : Rec} (hlen : p.length = fixed + unit * u16 p off) :
    lenByCount16 fixed off unit p = true := by
  simp [lenByCount16, hlen]

/-! ## Clocks -/

/-- Settles O6: each command's checks pass under its clause, and its rules then answer OK. -/
theorem clockCommandsComplete : Obligations.ClockCommandsComplete := by
  unfold Obligations.ClockCommandsComplete
  intro h p s acc n q
  refine ⟨?_, ?_, ?_, ?_, ?_, ?_⟩
  · intro hlen hsys hlnk hseq hbg hssc
    refine State.command_oks_fixed (c := cmdClockConfig) acc hlen ?_
    have hheld : ¬(byteAt p 1 ≠ byteAt s.ck.cfg 1 ∧ s.allDisabled = false) := fun ⟨hne, hdis⟩ =>
      hssc.elim hne fun hall => Bool.noConfusion (hdis.symm.trans hall)
    exact (if_neg (by simp [inRange, n, hsys, hlnk, hseq, hbg])).trans <| (if_neg hheld).trans rfl
  · intro hlen hn hstep hofs hfree hspaced
    refine State.command_oks_fixed (c := cmdClockStep) acc hlen ?_
    have hvalid : ¬(1 < n ∨ 5000 < (i32 p 4).natAbs ∨ pllLimit n < (q.offset + i32 p 4).natAbs) := by omega
    exact (if_neg hvalid).trans <| (if_neg (ne_false_of_eq_true hfree)).trans <|
      (if_neg (ne_false_of_eq_true hspaced)).trans rfl
  · intro hlen hn hcount hramp hloop hfree
    refine State.command_oks (c := cmdClockRamp) acc (lenByCount8_of_eq hlen) (by omega) ?_
    have hvalid : ¬(1 < n ∨ inRange 1 16 (byteAt p 1) = false ∨ rampOk (pllLimit n) q.offset (rampSegs p (byteAt p 1)) = false ∨
        (bit (byteAt p 2) 0 = true ∧
          rampOk (pllLimit n) ((rampSegs p (byteAt p 1)).getLastD (0, 0)).1 ((rampSegs p (byteAt p 1)).take 1) = false)) := by
      simp [inRange, hcount, hramp, hloop, hn]
    exact (if_neg hvalid).trans <| (if_neg (ne_false_of_eq_true hfree)).trans (by rw [hloop]; rfl)
  · intro hlen hn hramp
    refine State.command_oks_fixed (c := cmdClockRampStop) acc hlen ?_
    have hrunning : ¬(q.ramp.isNone = true) := by simpa [Option.isSome_iff_ne_none] using hramp
    have hends : (s.taken h).endRamp n 1 = ((s.taken h).pll n fun x => { x with ramp := none }).raise 0x0A03 n
        (1 + 65536 * pattern 16 q.offset) := if_pos hramp
    exact (if_neg (Nat.not_lt.mpr hn)).trans <| (if_neg hrunning).trans (congrArg _ hends)
  · rintro hlen t rfl
    exact State.command_oks_fixed (c := cmdClockStatus) acc hlen rfl
  · intro r hlen hcomp
    refine State.command_oks_fixed (c := cmdHkCompRead) acc hlen ?_
    simp [cmdHkCompRead, hcomp]

/-! ## Tick and armature -/

/-- The PRIO and the other settings of TICK_SOURCE_SET pass its check. -/
theorem tickSourceSet_check {p : Rec} {s : State} (hprio : prioOk ((p.take 4).map BitVec.toNat) = true)
    (hkind : byteAt p 4 ≤ 1) (hwidth : 1 ≤ u16 p 6) (hdelay : u32 p 8 < baseTick s.liveMode) :
    (prioOk ((p.take 4).map BitVec.toNat) && inRange 0 1 (byteAt p 4) && inRange 1 65535 (u16 p 6) &&
      decide (u32 p 8 < baseTick s.liveMode)) = true := by
  have hmax : u16 p 6 ≤ 65535 := by
    have hlo := (p.getD 6 0).isLt
    have hhi := (p.getD 7 0).isLt
    simp only [u16, leAt, byteAt]
    omega
  rw [hprio]
  simp [inRange, hkind, hwidth, hdelay, hmax]

/-- `t` is `s` but for what a TICK_STAMP may change (the tick unit, the clocks and the event queue), with a fresh stamp. -/
def State.Stamped (s t : State) (last : Option (W32 × Int × Int)) : Prop :=
  t = { s with tk := t.tk, ck := t.ck, evq := t.evq } ∧ t.tk.stampAge = 0 ∧ t.tk.stampLast = last

section
variable {s t : State} {last : Option (W32 × Int × Int)}

theorem State.Stamped.ite {t' : State} (ht : s.Stamped t last) (ht' : s.Stamped t' last) (q : Prop) [Decidable q] :
    s.Stamped (if q then t else t') last := by
  split
  · exact ht
  · exact ht'

theorem State.Stamped.tref (ht : s.Stamped t last) (id : Nat) (f : TickRef → TickRef) : s.Stamped (t.tref id f) last := by
  obtain ⟨heq, hage, hlast⟩ := ht
  exact ⟨by rw [heq]; rfl, hage, hlast⟩

theorem State.Stamped.loseSource (ht : s.Stamped t last) (id reason : Nat) : s.Stamped (t.loseSource id reason) last := by
  have hlost := ht.tref id fun r => { r with valid := false }
  simp only [State.loseSource]
  split
  · split
    · obtain ⟨heq, hage, hlast⟩ := hlost
      exact ⟨by rw [heq]; rfl, hage, hlast⟩
    · exact hlost
  · exact ht

end

/-- A TICK_STAMP for a coming tick is taken as the last one. -/
theorem State.tickStamp_stamped (s : State) (p : Rec) : s.Stamped (s.tickStamp p)
    (if s.tickKind (u32 p 0) = 1 then some (BitVec.ofNat 32 (u32 p 0),
      stampInstant (s.mbx.doorbell.getD s.now) (u64 p 4) (u64 p 12),
      s.ofsAt (stampInstant (s.mbx.doorbell.getD s.now) (u64 p 4) (u64 p 12))) else s.tk.stampLast) := by
  let u : State := { s with tk := { s.tk with stampAge := 0 } }
  by_cases hkind : s.tickKind (u32 p 0) = 1
  · rw [if_pos hkind]
    have hlast : s.Stamped { u with tk := { u.tk with stampLast := some (BitVec.ofNat 32 (u32 p 0),
        stampInstant (s.mbx.doorbell.getD s.now) (u64 p 4) (u64 p 12),
        s.ofsAt (stampInstant (s.mbx.doorbell.getD s.now) (u64 p 4) (u64 p 12))) } } _ := ⟨rfl, rfl, rfl⟩
    have hphase := State.Stamped.ite (t := { u with tk := { u.tk with
      stampLast := some (BitVec.ofNat 32 (u32 p 0), stampInstant (s.mbx.doorbell.getD s.now) (u64 p 4) (u64 p 12),
        s.ofsAt (stampInstant (s.mbx.doorbell.getD s.now) (u64 p 4) (u64 p 12)))
      phaseErr := stampInstant (s.mbx.doorbell.getD s.now) (u64 p 4) (u64 p 12) - u.boundaryAt (u.tickDist (u32 p 0)) } })
      ⟨rfl, rfl, rfl⟩ hlast (s.tk.active = 3)
    unfold State.tickStamp
    refine (congrArg (fun t => s.Stamped t _) (if_neg (not_not.mpr hkind))).mpr ?_
    dsimp only
    split
    · exact hphase
    · exact hphase.ite (.ite ((hphase.tref ..).loseSource ..) (.ite ((hphase.tref ..).loseSource ..)
        (.ite ((hphase.tref ..).tref ..) (hphase.tref ..) _) _) _) _
  · rw [if_neg hkind]
    have hu : s.Stamped u s.tk.stampLast := ⟨rfl, rfl, rfl⟩
    have hrun : s.tickStamp p = if u.sourceMeets 3 then u.tref 3 fun r => { r with valid := true } else u := if_pos hkind
    rw [hrun]
    split
    · exact hu.tref ..
    · exact hu
/-- Settles O7. -/
theorem tickCommandsComplete : Obligations.TickCommandsComplete := by
  unfold Obligations.TickCommandsComplete
  refine fun h p s acc => ⟨?_, ?_, ?_, ?_, ?_, ?_, ?_, ?_⟩
  · intro hlen hmode
    refine State.command_oks_fixed (c := cmdModeSet) acc hlen ?_
    exact (if_pos hmode).trans rfl
  · intro hlen hn hfits
    refine State.command_oks (c := cmdArmatureWrite) acc (lenByField_of_eq hlen) (by omega) ?_
    have hofs : u16 p 0 ≤ 527 := by omega
    exact (if_pos (by simp [inRange, hofs, hn, hfits])).trans rfl
  · intro hlen hsel hn hfits
    refine State.command_oks_fixed (c := cmdArmatureRead) acc hlen ?_
    have hofs : u16 p 2 ≤ 527 := by omega
    exact (if_pos (by simp [inRange, hsel, hofs, hn, hfits])).trans rfl
  · intro hlen hprio hkind hwidth hdelay u v hu hv
    refine State.command_oks_fixed (c := cmdTickSourceSet) acc hlen ?_
    have hrun : cmdTickSourceSet.run h p (s.taken h) = ok { v with tk := { v.tk with reason :=
        if v.bestSource = s.bestSource then v.tk.reason else if v.bestSource = v.tk.active then 0 else 2 } } := by
      subst hv hu
      exact (if_pos (tickSourceSet_check (s := s) hprio hkind hwidth hdelay)).trans rfl
    have hkept : v.tk.reason = s.tk.reason ∧ v.tk.active = s.tk.active := by
      have hv' : v.tk.reason = u.tk.reason ∧ v.tk.active = u.tk.active := by
        rw [hv]
        split <;> exact ⟨rfl, rfl⟩
      rwa [hu] at hv'
    rw [hrun, hkept.1, hkept.2, ok_eq_okWith]
  · rintro hlen t rfl
    exact State.command_oks_fixed (c := cmdTickStatus) acc hlen rfl
  · rintro hlen hpast u rfl
    refine State.command_oks_fixed (c := cmdTickStamp) acc hlen ?_
    exact congrArg (okWith []) ((if_pos hpast).trans rfl)
  · intro hlen
    obtain ⟨heq, hage, hlast⟩ := State.tickStamp_stamped (s.taken h) p
    refine ⟨_, _, _, _, heq, hage, fun hkind => hlast.trans (if_pos hkind), ?_⟩
    exact State.command_oks_fixed (c := cmdTickStamp) acc hlen rfl
  · intro hlen hadm
    refine State.command_oks_fixed (c := cmdAdmissionQuery) acc hlen ?_
    exact congrArg (fun code => (Ans.reply code _, s.taken h)) (if_pos hadm)

/-! ## Layers -/

/-- Settles O8. -/
theorem layerCommandsComplete : Obligations.LayerCommandsComplete := by
  unfold Obligations.LayerCommandsComplete
  refine fun h p s acc => ⟨?_, ?_, ?_, ?_, ?_, ?_, ?_⟩
  · intro hlen hl hok
    refine State.command_oks_fixed (c := cmdLayerWrite) acc hlen ?_
    exact (if_pos (by simp [hl, hok])).trans rfl
  · intro hlen hsel hl
    refine State.command_oks_fixed (c := cmdLayerRead) acc hlen ?_
    exact (if_pos (by simp [hsel, hl])).trans rfl
  · rintro hlen hset hfirst hcount hlast hsum m rfl
    refine State.command_oks (c := cmdFilterWrite) acc (lenByCount8_of_eq hlen) (by omega) ?_
    have hvalid : (inRange 8 15 (byteAt p 0) && decide (byteAt p 1 ≤ 63) && inRange 1 14 (byteAt p 2) &&
        decide (byteAt p 1 + byteAt p 2 ≤ 64) && (filterRows p (byteAt p 2)).all fun r => r.sum == 16384) = true := by
      rw [hsum]
      simp [inRange, hset, hfirst, hcount, hlast]
    exact (if_pos hvalid).trans rfl
  · intro hlen
    exact State.command_oks_fixed (c := cmdBackgroundSet) acc hlen rfl
  · intro hlen hallot
    refine State.command_oks_fixed (c := cmdTagAllot) acc hlen ?_
    exact (if_pos hallot).trans rfl
  · intro hlen hearly hlate
    refine State.command_oks_fixed (c := cmdFetchConfig) acc hlen ?_
    exact (if_pos (by simp [inRange, hearly, hlate])).trans rfl
  · rintro hlen u rfl t rfl
    exact State.command_oks_fixed (c := cmdFetchStatus) acc hlen rfl

end Sys2Proof.Machine
end

section
/-! PROOFS. The commands of the maquette and the commits, and of the colour pipeline (04 R100, 05 R122). -/
namespace Sys2Proof.Machine

/-! ## COMMIT (04 R81 to R85) -/

/-- The take of a COMMIT moves its own instant alone. -/
theorem State.commitTake_eq (s : State) : ∃ n, s.commitTake = { s with now := n, com := { s.com with takenAt := some n } } ∧
    ∀ t, s.com.takenAt = some t → n = max s.now (t + 1) := by
  unfold State.commitTake
  cases htaken : s.com.takenAt with
  | none => exact ⟨s.now, rfl, fun t ht => by cases ht⟩
  | some t => exact ⟨max s.now (t + 1), rfl, fun t' ht => by cases ht; rfl⟩

section
variable {s : State}

/-- An accepted commit before the latch line waits for the next boundary. -/
theorem State.acceptCommit_of_onTime (hlate : s.isLate = false) : s.acceptCommit = { s with
    com := { s.com with
      commitNext := nextCommitNo s.com.commitNext, accepted := s.com.accepted + 1,
      replaced := if s.com.next.isSome then s.com.replaced + 1 else s.com.replaced,
      next := some ⟨s.com.commitNext, s.com.maq, s.src.bound, s.src.bindNo⟩ }
    col := { s.col with
      marks := (s.col.marks.filter fun (m : Mark) => m.copy != 0) ++
        (s.col.marksIn 2 true).map fun (w : Nat × Nat) => Mark.mk 0 true w.1 w.2
      corrected := s.col.corrected + BitVec.ofNat 32 (s.col.marksIn 2 false).length } } := by
  simp only [State.acceptCommit, hlate]
  rfl

/-- One past it waits for the boundary after the next and raises its event. -/
theorem State.acceptCommit_of_late (hlate : s.isLate = true) : s.acceptCommit = ({ s with
    com := { s.com with
      commitNext := nextCommitNo s.com.commitNext, accepted := s.com.accepted + 1, lateCount := s.com.lateCount + 1,
      replaced := if s.com.later.isSome then s.com.replaced + 1 else s.com.replaced,
      later := some ⟨s.com.commitNext, s.com.maq, s.src.bound, s.src.bindNo⟩ }
    col := { s.col with
      marks := (s.col.marks.filter fun (m : Mark) => m.copy != 1) ++
        (s.col.marksIn 2 true).map fun (w : Nat × Nat) => Mark.mk 1 true w.1 w.2
      corrected := s.col.corrected + BitVec.ofNat 32 (s.col.marksIn 2 false).length } } : State).raise 0x0305 0
        (s.com.commitNext.toNat % 65536 + 65536 * (s.lineAt s.offset % 65536)) := by
  simp only [State.acceptCommit, hlate]
  rfl

end

/-- An admitted COMMIT answers OK or LATE by its take instant. -/
theorem cmdCommit_run_of_admitted {s u : State} {h : Hdr} {p : Rec} (hu : u = s.commitTake)
    (hadm : u.admitted u.com.maq u.commitSet = true) :
    cmdCommit.run h p s = (.reply (if u.isLate then cLate else cOk)
      (u.budgetReport u.com.maq u.commitSet ++ le 4 u.com.commitNext.toNat ++ le 4 u.tk.tick.toNat ++ le 4 u.offset ++
        le 4 (u.tk.tick + if u.isLate then 2 else 1).toNat), u.acceptCommit) := by
  subst hu
  exact if_pos hadm

/-- Settles O9: COMMIT splits at the latch line; the other commands' checks pass under their clauses. -/
theorem commitCommandsComplete : Obligations.CommitCommandsComplete := by
  unfold Obligations.CommitCommandsComplete
  refine fun h p s acc => ⟨?_, ?_, ?_, ?_, ?_, ?_, ?_, ?_⟩
  · intro hlen u hu
    obtain ⟨n, heq, hnow⟩ := (s.taken h).commitTake_eq
    have hu' := hu.trans heq
    refine ⟨fun t ht => by rw [hu', hnow t ht], by rw [hu']; rfl, fun hadm hlate => ?_, fun hadm hlate => ?_⟩
    · refine State.command_oks_fixed (c := cmdCommit) acc hlen ?_
      have hrun := cmdCommit_run_of_admitted (h := h) (p := p) hu (by rw [hu'] at hadm ⊢; exact hadm)
      rw [hrun, State.acceptCommit_of_onTime hlate, hlate, hu']
      rfl
    · refine State.command_ends (c := cmdCommit) acc (by simp [cmdCommit, lenIs, hlen]) (by omega) ?_ (fun hp => Bool.noConfusion hp)
      have hrun := cmdCommit_run_of_admitted (h := h) (p := p) hu (by rw [hu'] at hadm ⊢; exact hadm)
      rw [hrun, State.acceptCommit_of_late hlate, hlate, hu']
      rfl
  · intro hlen
    exact State.command_oks_fixed (c := cmdMaquetteResync) acc hlen rfl
  · rintro hlen t rfl
    refine State.command_oks_fixed (c := cmdCommitStatus) acc hlen ?_
    simp only [cmdCommitStatus, State.taken_com]
    cases s.com.next <;> cases s.com.later <;> rfl
  · rintro hlen hn hd t rfl
    refine State.command_oks_fixed (c := cmdRetireRead) acc hlen ?_
    exact (if_neg (by simp [inRange, hn])).trans <| (if_neg (Nat.not_lt.mpr hd.le)).trans rfl
  · intro hlen
    exact State.command_oks_fixed (c := cmdComposeEventSet) acc hlen rfl
  · intro hlen hmode
    refine State.command_oks_fixed (c := cmdFreezeConfig) acc hlen ?_
    exact (if_neg (Nat.not_lt.mpr hmode)).trans rfl
  · rintro hlen t rfl
    exact State.command_oks_fixed (c := cmdSignatureRead) acc hlen rfl
  · rintro hlen t rfl
    exact State.command_oks_fixed (c := cmdFenceRead) acc hlen rfl

/-! ## Colour -/

/-- Settles O10. -/
theorem colourCommandsComplete : Obligations.ColourCommandsComplete := by
  unfold Obligations.ColourCommandsComplete
  refine fun h p s acc => ⟨?_, ?_, ?_, ?_, ?_, ?_, ?_, ?_, ?_, ?_, ?_, ?_⟩
  · intro hlen hok
    refine State.command_oks_fixed (c := cmdColourConfig) acc hlen ?_
    exact (if_pos hok).trans rfl
  · intro hlen hn hfits
    refine State.command_oks (c := cmdMatrixWrite) acc (lenByCount8_of_eq hlen) (by omega) ?_
    have hfirst : byteAt p 0 ≤ 7 := by omega
    have hmax : byteAt p 1 ≤ 8 := by omega
    exact (if_pos (by simp [inRange, hfirst, hn, hmax, hfits])).trans rfl
  · rintro hlen hsel t rfl
    refine State.command_oks_fixed (c := cmdMatrixRead) acc hlen ?_
    exact (if_pos (by simp [hsel])).trans rfl
  · intro hlen hi hn hfits
    refine State.command_oks (c := cmdTableWrite) acc (lenByCount16_of_eq hlen) (by omega) ?_
    have hfirst : u16 p 2 ≤ 4095 := by omega
    exact (if_pos (by simp [inRange, hi, hfirst, hn, hfits])).trans rfl
  · rintro hlen hsel hi hn hfits t rfl
    refine State.command_oks_fixed (c := cmdTableRead) acc hlen ?_
    exact (if_pos (by simp [inRange, hsel, hi, hn, hfits])).trans rfl
  · intro hlen
    exact State.command_oks_fixed (c := cmdTableFill) acc hlen rfl
  · intro hlen hsel hi
    refine State.command_oks_fixed (c := cmdTableCrc) acc hlen ?_
    exact (if_pos (by simp [hsel, hi])).trans rfl
  · intro hlen hi hn hfits hwait
    refine State.command_oks (c := cmdDitherMaskWrite) acc (lenByCount16_of_eq hlen) (by omega) ?_
    have hfirst : u16 p 2 ≤ 4095 := by omega
    exact (if_pos (by simp [inRange, hi, hfirst, hn, hfits])).trans <| (if_neg (by simp [hwait])).trans rfl
  · intro hlen hset
    refine State.command_oks_fixed (c := cmdDitherMaskSelect) acc hlen ?_
    exact (if_pos (by simp [hset])).trans rfl
  · rintro hlen hset hi hn hfits t rfl
    refine State.command_oks_fixed (c := cmdDitherMaskRead) acc hlen ?_
    exact (if_pos (by simp [inRange, hset, hi, hn, hfits])).trans rfl
  · rintro hlen t rfl
    exact State.command_oks_fixed (c := cmdColourStats) acc hlen rfl
  · intro hlen hx hy
    refine State.command_oks_fixed (c := cmdPixelProbe) acc hlen ?_
    have hraster : u16 p 0 < activeW (s.taken h).liveMode ∧ u16 p 2 < activeH (s.taken h).liveMode := ⟨hx, hy⟩
    exact (if_pos (by simp [hraster])).trans rfl

end Sys2Proof.Machine
end

section
/-! PROOFS. The commands of the chisel and of the plane link (06 R141, 07 R170). -/
namespace Sys2Proof.Machine

/-! ## Chisel -/

@[simp] theorem State.taken_driveKey (s : State) (h : Hdr) (op base m : Nat) :
    (s.taken h).driveKey op base m = s.driveKey op base m := by simp [State.driveKey]

/-- A command that waits for the drive is parked on its key, with its operation behind those that wait. -/
theorem State.command_driveWaits {s t : State} {c : Cmd} {h : Hdr} {p : Rec} {base m : Nat} {steps : List DriveStep}
    (acc : s.accepts h) (hlen : c.len p = true) (hmax : p.length ≤ 240)
    (hrun : c.run h p (s.taken h) = t.driveWait c.op base m steps) (hkey : t.driveKey c.op base m = s.driveKey c.op base m)
    (hroom : s.pendingCount < 16) (hop : c.op ≠ 0x0100 := by decide) :
    done (s.command c h p) = .next ((t.addOp (.command c.op (s.driveKey c.op base m)) steps).parkedAs s c.op h p
      (s.driveKey c.op base m)) :=
  State.command_parks acc hlen hmax (by rw [hrun, State.driveWait, hkey]) hroom hop

/-- Settles O11: each command's checks pass under its clause; CAST_LOAD_CLIP waits for its read. -/
theorem chiselCommandsComplete : Obligations.ChiselCommandsComplete := by
  unfold Obligations.ChiselCommandsComplete
  intro h p s acc k
  refine ⟨?_, ?_, ?_, ?_, ?_, ?_, ?_, ?_⟩
  · intro hlen hk hn hfits hfree
    refine State.command_oks (c := cmdCastWrite) acc (lenByField_of_eq hlen) (by omega) ?_
    have hvalid : ¬(15 < k ∨ inRange 1 232 (u16 p 4) = false ∨ slotBytes < u16 p 2 + u16 p 4) := by
      simp [inRange, hk, hn, hfits]
    exact (if_neg hvalid).trans <| (if_neg (ne_true_of_eq_false hfree)).trans rfl
  · intro hlen hk hn hfits
    refine State.command_oks_fixed (c := cmdCastRead) acc hlen ?_
    have hvalid : ¬(15 < k ∨ inRange 1 240 (u16 p 4) = false ∨ slotBytes < u16 p 2 + u16 p 4) := by
      simp [inRange, hk, hn, hfits]
    exact (if_neg hvalid).trans rfl
  · intro hlen hk hfallback hne
    refine State.command_oks_fixed (c := cmdCastSelect) acc hlen ?_
    have hvalid : ¬(15 < k ∨ (15 < byteAt p 1 ∧ byteAt p 1 ≠ 0xFF) ∨ k = byteAt p 1) := by omega
    exact (if_neg hvalid).trans rfl
  · intro hlen hk hcommit hswitch hne hfails hdepth
    refine State.command_oks_fixed (c := cmdCastSwitch) acc hlen ?_
    have hfree : ¬(s.commitPending = true ∨ s.chi.switch_.isSome = true ∨ k = s.com.live.fallbackCast) := by
      simp [hcommit, hswitch, hne]
    have hdeep : ¬(s.chi.plinth = true ∧ s.depthOk k = false) := fun ⟨hp, hd⟩ =>
      Bool.noConfusion (hd.symm.trans (hdepth hp))
    refine (if_neg (Nat.not_lt.mpr hk)).trans <| (if_neg hfree).trans <| (if_neg (not_not.mpr hfails)).trans <|
      (if_neg hdeep).trans ?_
    rw [show (s.taken h).switchFails (byteAt p 0) = [] from hfails]
    rfl
  · rintro hlen hk hrole hfails t rfl
    refine State.command_oks_fixed (c := cmdCastCheck) acc hlen ?_
    have hvalid : ¬(15 < k ∨ 1 < byteAt p 1) := by omega
    refine (if_neg hvalid).trans ?_
    have hfails' : castFails ((s.taken h).castEnv (s.taken h).com.maq (s.taken h).commitSet) ((s.taken h).cast (byteAt p 0))
        (if byteAt p 1 = 1 then some (s.taken h).com.maq.activeCast else none) = [] := hfails
    rw [hfails']
    rfl
  · intro i r hlen hroom hk hmounted hclip htype hbytes hsealed hfree
    refine State.command_driveWaits (c := cmdCastLoadClip) (base := k) (m := 16) acc (by simp [cmdCastLoadClip, lenIs, hlen])
      (by omega) ?_ (State.taken_driveKey ..) hroom
    have hvalid : ¬(clType r ≠ 3 ∨ slotBytes < clBytes r) := by simp [htype, hbytes]
    have hopen : ¬(clSealed r = false ∨ s.slotInUse k = true) := by simp [hsealed, hfree]
    refine (if_neg (Nat.not_lt.mpr hk)).trans <| (if_pos hmounted).trans ?_
    rw [show (s.taken h).clip (u32 p 4) = some (i, r) from hclip]
    exact (if_neg hvalid).trans <| (if_neg hopen).trans rfl
  · intro hlen hcommit hplinth hdark
    refine State.command_oks_fixed (c := cmdPlinthEnter) acc hlen ?_
    have hfree : ¬(s.commitPending = true ∨ s.chi.plinth = true ∨ s.chi.darkTick = true) := by simp [hcommit, hplinth, hdark]
    exact (if_neg hfree).trans rfl
  · rintro hlen t rfl
    exact State.command_oks_fixed (c := cmdChiselStatus) acc hlen rfl

/-! ## Lanes of arrays (07 R161, R165) -/

/-- `t` holds out the same lanes as `s`, and no lane of it is ready that was not. -/
structure State.LanesFall (s t : State) : Prop where
  length : t.pl.lanes.length = s.pl.lanes.length
  held : ∀ n, (at_ t.pl.lanes n).held = (at_ s.pl.lanes n).held
  ready : ∀ n, (at_ s.pl.lanes n).ready = false → (at_ t.pl.lanes n).ready = false

theorem State.LanesFall.trans {s t u : State} (hst : s.LanesFall t) (htu : t.LanesFall u) : s.LanesFall u :=
  ⟨htu.length.trans hst.length, fun n => (htu.held n).trans (hst.held n), fun n hr => htu.ready n (hst.ready n hr)⟩

theorem State.LanesFall.of_eq {s t : State} (heq : t.pl.lanes = s.pl.lanes) : s.LanesFall t := by
  constructor <;> simp [heq]

theorem at_lane (s : State) (n m : Nat) (f : Lane → Lane) :
    at_ (s.lane n f).pl.lanes m = if n = m ∧ m < s.pl.lanes.length then f (at_ s.pl.lanes m) else at_ s.pl.lanes m :=
  at_upd ..

/-- A lane that falls keeps its hold. -/
theorem State.LanesFall.lane {s : State} (n : Nat) {f : Lane → Lane} (hheld : ∀ l, (f l).held = l.held)
    (hready : ∀ l, (f l).ready = false) : s.LanesFall (s.lane n f) := by
  refine ⟨upd_length .., fun m => ?_, fun m hr => ?_⟩ <;> rw [at_lane] <;> split <;> simp [*]

@[simp] theorem State.enterArray_lanes (s : State) (a st reason : Nat) : (s.enterArray a st reason).pl.lanes = s.pl.lanes := by
  simp only [State.enterArray, State.raiseIf]
  split <;> rfl

theorem State.dropLanes_lanesFall (s : State) (a : Nat) : s.LanesFall (s.dropLanes a) := by
  unfold State.dropLanes
  induction s.lanesOf a generalizing s with
  | nil => exact .of_eq rfl
  | cons n ns ih =>
    rw [List.foldl_cons]
    refine .trans (.lane n ?_ ?_) (ih _) <;> exact fun _ => rfl

theorem State.stopArray_lanesFall (s : State) (a st reason : Nat) : s.LanesFall (s.stopArray a st reason) := by
  let u : State := { s with chi := { s.chi with laneLost := s.chi.laneLost || (s.array a).state == 5 } }
  have hdrop : s.LanesFall ((u.enterArray a st reason).dropLanes a) :=
    (State.LanesFall.of_eq (s := s) (u.enterArray_lanes a st reason)).trans (State.dropLanes_lanesFall _ a)
  unfold State.stopArray
  dsimp only
  split
  · exact hdrop
  · exact ⟨hdrop.length, hdrop.held, hdrop.ready⟩

theorem State.checkLanes_lanesFall (s : State) (a : Nat) : s.LanesFall (s.checkLanes a) := by
  unfold State.checkLanes
  split
  · exact s.stopArray_lanesFall a 7 2
  · exact .of_eq rfl

/-- A loss of one lane leaves the holds of the others. -/
theorem State.loseLane_keeps (s : State) (n reason : Nat) : (s.loseLane n reason).pl.lanes.length = s.pl.lanes.length ∧
    ∀ m, m ≠ n → (at_ (s.loseLane n reason).pl.lanes m).held = (at_ s.pl.lanes m).held := by
  have hother (u : State) (f : Lane → Lane) : (u.lane n f).pl.lanes.length = u.pl.lanes.length ∧
      ∀ m, m ≠ n → (at_ (u.lane n f).pl.lanes m).held = (at_ u.pl.lanes m).held :=
    ⟨upd_length .., fun m hne => by rw [at_lane, if_neg fun hc => hne hc.1.symm]⟩
  unfold State.loseLane
  split
  · exact ⟨rfl, fun _ _ => rfl⟩
  · split
    · exact ⟨rfl, fun _ _ => rfl⟩
    · split
      · split
        · exact ⟨rfl, fun _ _ => rfl⟩
        · exact hother ..
      · split
        · exact hother ..
        · have hcheck := State.checkLanes_lanesFall
          exact ⟨(hcheck _ _).length.trans (hother s _).1, fun m hne => ((hcheck _ _).held m).trans ((hother s _).2 m hne)⟩

/-! ## Plane link -/

@[simp] theorem State.dropLanes_arrays (s : State) (a : Nat) : (s.dropLanes a).pl.arrays = s.pl.arrays := by
  unfold State.dropLanes
  induction s.lanesOf a generalizing s with
  | nil => rfl
  | cons n ns ih => exact ih _

theorem State.enterArray_arrays (s : State) (a st reason : Nat) : (s.enterArray a st reason).pl.arrays =
    upd s.pl.arrays a fun x => { x with state := st, since := s.now, reason := if st = 7 then reason else x.reason } := by
  simp only [State.enterArray, State.raiseIf]
  split <;> rfl

/-- An array that starts is in DETECT. -/
theorem State.startArray_array_state (s : State) {a : Nat} (ha : a < s.pl.arrays.length) :
    ((s.startArray a).array a).state = 1 := by
  have harrays := (s.startGroups a).enterArray_arrays a 1 0
  simp only [State.startArray, State.array, State.arr, State.dropLanes_arrays, harrays]
  simp [at_upd, State.startGroups, ha]

/-- Settles O12. -/
theorem planeLinkCommandsComplete : Obligations.PlaneLinkCommandsComplete := by
  unfold Obligations.PlaneLinkCommandsComplete
  intro h p s acc a
  refine ⟨?_, ?_, ?_, ?_, ?_, ?_, ?_, ?_, ?_⟩
  · intro hlen ha hdis
    refine State.command_oks_fixed (c := cmdPlConfig) acc hlen ?_
    exact (if_neg (by simp [inRange, a, ha])).trans <| (if_neg (ne_false_of_eq_true hdis)).trans rfl
  · intro hlen ha hall hact hstate
    refine ⟨State.command_oks_fixed (c := cmdPlTrain) acc hlen ?_, fun hex => State.startArray_array_state _ hex⟩
    have hvalid : ¬(1 < byteAt p 1 ∨ (a ≠ 0xFF ∧ s.pl.count ≤ a)) := by omega
    refine (if_neg hvalid).trans (congrArg ok ?_)
    rw [show (s.taken h).trainArrays (byteAt p 0) = [a] from if_neg hall]
    exact (if_neg (by omega)).trans (if_pos hstate)
  · intro hlen ha hall hact hstate
    refine State.command_oks_fixed (c := cmdPlTrain) acc hlen ?_
    have hvalid : ¬(1 < byteAt p 1 ∨ (a ≠ 0xFF ∧ s.pl.count ≤ a)) := by omega
    refine (if_neg hvalid).trans (congrArg ok ?_)
    rw [show (s.taken h).trainArrays (byteAt p 0) = [a] from if_neg hall]
    exact (if_pos hact).trans (if_neg hstate)
  · rintro hlen t rfl
    exact State.command_oks_fixed (c := cmdPlStatus) acc hlen rfl
  · intro r hlen ha hrec
    refine State.command_oks_fixed (c := cmdArrayRecordRead) acc hlen ?_
    refine (if_neg (Nat.not_lt.mpr ha)).trans ?_
    rw [show ((s.taken h).array (byteAt p 0)).record = some r from hrec]
  · intro hlen hroom ha htrained hbias hshows
    refine State.command_parks (c := cmdArrayCmd) acc (by simp [cmdArrayCmd, lenIs, hlen]) (by omega) ?_ hroom
    have hbiasOk : ¬(byteAt p 1 = 1 ∧ inRange (arBiasMin ((s.array a).record.getD [])) (arBiasMax ((s.array a).record.getD []))
        (u64 p 4 % 65536) = false) := by
      rintro ⟨hcmd, hbad⟩
      simp [inRange, hbias hcmd] at hbad
    have hshowsOk : ¬(byteAt p 1 = 2 ∧ s.showsInForce a = true) := by
      rintro ⟨hcmd, hshown⟩
      exact Bool.noConfusion (hshown.symm.trans (hshows hcmd))
    exact (if_neg (Nat.not_lt.mpr ha)).trans <| (if_neg (ne_false_of_eq_true htrained)).trans <| (if_neg hbiasOk).trans <|
      (if_neg hshowsOk).trans rfl
  · intro hlen ha hact
    refine State.command_oks_fixed (c := cmdLaneControl) acc hlen ?_
    have hvalid : ¬(95 < a ∨ 1 < byteAt p 1) := by omega
    exact (if_neg hvalid).trans <| (if_neg (by omega)).trans rfl
  · intro hlen ha hex hact u v hu hv
    have hvalid : ¬(95 < a ∨ 1 < byteAt p 1) := by omega
    have hfall : u.LanesFall v := by
      rw [hv]
      split
      · exact u.checkLanes_lanesFall _
      · exact .of_eq rfl
    obtain ⟨hlength, hothers⟩ := (s.taken h).loseLane_keeps a 4
    have hheld : at_ u.pl.lanes a =
        { at_ ((s.taken h).loseLane a 4).pl.lanes a with held := true, ready := false, lockedAt := none, attempt := false } := by
      rw [hu, at_lane, if_pos ⟨rfl, hlength ▸ hex⟩]
    refine ⟨State.command_oks_fixed (c := cmdLaneControl) acc hlen ?_, ?_, ?_, ?_⟩
    · refine (if_neg hvalid).trans <| (if_pos hact).trans (congrArg ok ?_)
      subst hu
      exact hv.symm
    · rw [hfall.held, hheld]
    · exact hfall.ready a (by rw [hheld])
    · intro n hne
      rw [hfall.held, hu, at_lane, if_neg fun hc => hne hc.1.symm]
      exact hothers n hne
  · intro hlen hn hfits
    refine State.command_oks_fixed (c := cmdLaneCounters) acc hlen ?_
    have hfirst : a ≤ 95 := by omega
    exact (if_pos (by simp [inRange, hn, show byteAt p 0 ≤ 95 from hfirst, show byteAt p 0 + byteAt p 1 ≤ 96 from hfits])).trans rfl

end Sys2Proof.Machine
end

section
/-! PROOFS. The commands of the sources, the diagnostics and colour constancy (08 R196, 09 R214, 10 R236). -/
namespace Sys2Proof.Machine

/-! ## Commands that write a store of the kennel (16 R349, R350) -/

/-- A command that writes one store is parked on its mask, with the write queued. -/
theorem State.command_kennelWaits {s : State} {c : Cmd} {h : Hdr} {p : Rec} {mask k : Nat} {content : State → Nat → Content}
    (acc : s.accepts h) (hlen : c.len p = true) (hmax : p.length ≤ 240)
    (hrun : c.run h p (s.taken h) = (s.taken h).kennelCommand mask content) (hwait : s.kennelWait mask = none)
    (hroom : s.pendingCount < 16) (hmask : [0, 1, 2].filter (fun k => bit mask k) = [k] := by decide)
    (hop : c.op ≠ 0x0100 := by decide) :
    done (s.command c h p) = .next
      (((s.taken h).kennelQueue k true false (content (s.taken h) k)).kennelStart.parkedAs s c.op h p mask) := by
  refine State.command_parks acc hlen hmax (hrun.trans ?_) hroom hop
  simp only [State.kennelCommand, show (s.taken h).kennelWait mask = none from hwait, hmask]
  rfl

/-! ## Sources -/

/-- Settles O13: a write reaches the staged set, SOURCE_APPLY the set that waits; CHARGE_SAVE and CHARGE_CLEAR wait for the
kennel. -/
theorem sourceCommandsComplete : Obligations.SourceCommandsComplete := by
  unfold Obligations.SourceCommandsComplete
  intro h p s acc first n
  have hcount {total maxCount first count : Nat} (hspan : spanOk total maxCount first count = true) : count ≤ maxCount := by
    simp only [spanOk, inRange, Bool.and_eq_true, decide_eq_true_eq] at hspan
    omega
  refine ⟨?_, ?_, ?_, ?_, ?_, ?_, ?_, ?_, ?_, ?_, ?_, ?_⟩
  · intro hlen hspan hok
    have hmax := hcount hspan
    refine State.command_oks (c := cmdBankWrite) acc (lenByCount8_of_eq hlen) (by omega) ?_
    exact (if_pos (by rw [hspan, hok]; rfl)).trans rfl
  · intro hlen hspan hok
    have hmax := hcount hspan
    refine State.command_oks (c := cmdChannelWrite) acc (lenByCount8_of_eq hlen) (by omega) ?_
    exact (if_pos (by rw [hspan, hok]; rfl)).trans rfl
  · rintro ts rfl hlen hspan hok
    have hmax := hcount hspan
    refine State.command_oks (c := cmdLevelWrite) acc (lenByCount8_of_eq hlen) (by omega) ?_
    exact (if_pos (by rw [hspan, hok]; rfl)).trans rfl
  · intro hlen hok
    refine State.command_oks_fixed (c := cmdLevelFill) acc hlen ?_
    exact (if_pos hok).trans rfl
  · intro hlen hwhen hcommit happly hbound hrange hreports
    refine State.command_oks_fixed (c := cmdSourceApply) acc hlen ?_
    have hfree : ¬((s.commitPending || s.src.apply.isSome || s.src.bound.isSome ||
        !rangeRule s.src.live s.src.staged) = true) := by simp [hcommit, happly, hbound, hrange]
    have hheld : ¬((s.castsLive && !(s.applyReports s.src.staged).1) = true) := by
      cases hlive : s.castsLive <;> simp [hreports, hlive]
    simp only [cmdSourceApply, show byteAt p 0 = 0 from hwhen]
    exact (if_neg hfree).trans <| (if_neg hheld).trans rfl
  · intro hlen hwhen happly hbound hrange
    refine State.command_oks_fixed (c := cmdSourceApply) acc hlen ?_
    have hfree : ¬((s.src.apply.isSome || s.src.bound.isSome || !s.rangeOk s.src.staged) = true) := by
      simp [happly, hbound, hrange]
    simp only [cmdSourceApply, show byteAt p 0 = 1 from hwhen]
    exact (if_neg hfree).trans rfl
  · intro hlen hwhen hbound
    refine State.command_oks_fixed (c := cmdSourceApply) acc hlen ?_
    have hset : ¬(s.src.bound.isNone = true) := by simpa [Option.isSome_iff_ne_none] using hbound
    simp only [cmdSourceApply, show byteAt p 0 = 2 from hwhen]
    exact (if_neg hset).trans rfl
  · rintro set rfl hlen hset
    refine ⟨fun hkind hspan => ?_, fun hkind hspan => ?_, fun hkind hspan => ?_⟩ <;>
    · refine State.command_oks_fixed (c := cmdSourceRead) acc hlen ?_
      simp only [cmdSourceRead, show byteAt p 1 = _ from hkind]
      exact (if_neg (Nat.not_lt.mpr hset)).trans <| (if_pos hspan).trans rfl
  · rintro hlen hspan t rfl
    refine State.command_oks_fixed (c := cmdChargeRead) acc hlen ?_
    refine (if_pos hspan).trans ?_
    simp only [decide_eq_true_eq]
    rfl
  · intro hlen hroom hwait
    exact State.command_kennelWaits (c := cmdChargeSave) (mask := 4) acc (by simp [cmdChargeSave, lenIs, hlen]) (by omega) rfl
      hwait hroom
  · intro hlen hroom hunlocked hwait
    exact State.command_kennelWaits (c := cmdChargeClear) (mask := 4) acc (by simp [cmdChargeClear, lenIs, hlen]) (by omega)
      (if_neg (ne_false_of_eq_true hunlocked)) hwait hroom
  · rintro hlen hspan t rfl
    refine State.command_oks_fixed (c := cmdSinkStatus) acc hlen ?_
    exact (if_pos hspan).trans rfl

/-! ## Diagnostics -/

/-- What DIAG_CLEAR leaves of a channel that it returns to PENDING (09 R212). -/
def DiagChan.cleared (d : DiagChan) (pending : Bool) : DiagChan :=
  { DiagChan.reset with pending := pending, otOff := d.otOff, otSince := d.otSince, otTimes := d.otTimes }

/-- One channel's part of DIAG_CLEAR. -/
def State.clearDiag (s : State) (p : Rec) (c : Nat) : State :=
  if chanMask p 0 c ∧ (at_ s.diag.chans c).kind ≠ 0 then s.dchan c fun d => d.cleared (s.enabled c) else s

theorem State.clearDiag_eq (s : State) (p : Rec) (c : Nat) :
    s.clearDiag p c = { s with diag := { s.diag with chans := (s.clearDiag p c).diag.chans } } := by
  unfold State.clearDiag
  split <;> rfl

/-- It reaches the channel if that is named and latched, and no other. -/
theorem State.at_clearDiag (s : State) (p : Rec) (c i : Nat) : at_ (s.clearDiag p c).diag.chans i =
    if i = c ∧ chanMask p 0 c = true ∧ (at_ s.diag.chans c).kind ≠ 0 then (at_ s.diag.chans i).cleared (s.enabled i)
    else at_ s.diag.chans i := by
  unfold State.clearDiag
  by_cases hc : chanMask p 0 c = true ∧ (at_ s.diag.chans c).kind ≠ 0
  · have hlen : c < s.diag.chans.length := by
      by_contra hout
      have hnone : at_ s.diag.chans c = default := List.getD_eq_default _ _ (Nat.not_lt.mp hout)
      exact hc.2 (by rw [hnone]; rfl)
    rw [if_pos hc, State.dchan, at_upd]
    by_cases hi : c = i
    · subst hi
      rw [if_pos ⟨rfl, hlen⟩, if_pos ⟨rfl, hc⟩]
    · rw [if_neg fun h => hi h.1, if_neg fun h => hi h.1.symm]
  · rw [if_neg hc, if_neg fun h => hc h.2]

/-- DIAG_CLEAR over channels that are all different returns those latched and named, and changes no other. -/
theorem State.foldl_clearDiag (p : Rec) (l : List Nat) (hl : l.Nodup) (s : State) :
    ∃ chans, l.foldl (fun s c => s.clearDiag p c) s = { s with diag := { s.diag with chans := chans } } ∧
      ∀ c, at_ chans c = if c ∈ l ∧ chanMask p 0 c = true ∧ (at_ s.diag.chans c).kind ≠ 0 then
        (at_ s.diag.chans c).cleared (s.enabled c) else at_ s.diag.chans c := by
  induction l generalizing s with
  | nil => exact ⟨s.diag.chans, rfl, fun c => by simp⟩
  | cons a l ih =>
    obtain ⟨ha, hl⟩ := List.nodup_cons.mp hl
    obtain ⟨chans, hfold, hchans⟩ := ih hl (s.clearDiag p a)
    refine ⟨chans, ?_, fun c => ?_⟩
    · rw [List.foldl_cons, hfold, s.clearDiag_eq p a]
    · have henabled : (s.clearDiag p a).enabled c = s.enabled c := by rw [s.clearDiag_eq p a]; rfl
      rw [hchans c, henabled, s.at_clearDiag p a c]
      by_cases hca : c = a
      · subst hca
        simp [ha]
      · simp [hca]

/-- An array's SGND is cleared once no channel that lights it is latched with kind 2 (09 R212). -/
def State.judgeSgnd (s : State) : State :=
  { s with pl := { s.pl with arrays := s.pl.arrays.mapIdx fun a (x : ArrayUnit) => { x with
    sgnd := x.sgnd && channels.any fun c => chLights a (s.chan c) && (at_ s.diag.chans c).kind == 2 } } }

/-- Settles O14. -/
theorem diagnosticCommandsComplete : Obligations.DiagnosticCommandsComplete := by
  unfold Obligations.DiagnosticCommandsComplete
  refine fun h p s acc => ⟨?_, ?_, ?_, ?_, ?_⟩
  · intro hlen hlevel hperiod
    refine State.command_oks_fixed (c := cmdDiagConfig) acc hlen ?_
    exact (if_pos (by simp [inRange, hlevel, hperiod])).trans rfl
  · rintro hlen hspan t rfl
    refine State.command_oks_fixed (c := cmdDiagStatus) acc hlen ?_
    exact (if_pos hspan).trans rfl
  · intro hlen
    obtain ⟨chans, hfold, hchans⟩ := State.foldl_clearDiag p channels List.nodup_range (s.taken h)
    refine ⟨chans, State.command_oks_fixed (c := cmdDiagClear) acc hlen ?_, fun c hc hmask hkind => ?_, fun c hc hnot => ?_⟩
    · have hrun : cmdDiagClear.run h p (s.taken h) = ok ((channels.foldl (fun s c => s.clearDiag p c) (s.taken h)).judgeSgnd) := rfl
      rw [hrun, hfold]
      rfl
    · exact (hchans c).trans (if_pos ⟨List.mem_range.mpr hc, hmask, hkind⟩)
    · refine (hchans c).trans (if_neg ?_)
      rintro ⟨-, hmask, hkind⟩
      exact hnot.elim (fun hno => Bool.noConfusion (hno.symm.trans hmask)) hkind
  · intro hlen
    exact State.command_oks_fixed (c := cmdDiagRoundNow) acc hlen rfl
  · rintro hlen hspan t rfl
    refine State.command_oks_fixed (c := cmdNeighbourRead) acc hlen ?_
    exact (if_pos hspan).trans rfl

/-! ## Colour constancy -/

/-- Settles O15. -/
theorem constancyCommandsComplete : Obligations.ConstancyCommandsComplete := by
  unfold Obligations.ConstancyCommandsComplete
  refine fun h p s acc => ⟨?_, ?_, ?_, ?_, ?_, ?_, ?_, ?_⟩
  · intro hlen hok
    refine State.command_oks_fixed (c := cmdConstancyConfig) acc hlen ?_
    exact (if_pos hok).trans rfl
  · intro hlen hok
    refine State.command_oks_fixed (c := cmdSenseConfig) acc hlen ?_
    exact (if_pos hok).trans rfl
  · intro hlen
    exact State.command_oks_fixed (c := cmdTargetSet) acc hlen rfl
  · intro hlen hconf hmeas
    refine State.command_oks_fixed (c := cmdTargetCapture) acc hlen ?_
    have hready : ((prims8.all fun p => (s.constArrays p).isEmpty || decide ((1 / 2 : Rat) ≤ s.confOf p)) &&
        prims8.all fun p => (s.servedArrays p).all fun a =>
          (s.liveChans a p).all fun c => (at_ s.con.emitters c).vals.length == 8) = true := by
      simp only [one_div] at hconf
      simpa [prims8] using ⟨hconf, hmeas⟩
    exact (if_pos hready).trans rfl
  · intro hlen hscales hmode
    refine State.command_oks_fixed (c := cmdScaleSet) acc hlen ?_
    have hvalid : ¬((prims8.map fun i => u16 p (2 * i)).any (fun x => decide (32768 < x)) = true) := by
      simpa [prims8] using hscales
    exact (if_neg hvalid).trans <| (if_neg (not_not.mpr hmode)).trans rfl
  · rintro hlen t rfl
    exact State.command_oks_fixed (c := cmdConstancyStatus) acc hlen rfl
  · rintro hlen hspan t rfl
    refine State.command_oks_fixed (c := cmdEmitterRead) acc hlen ?_
    exact (if_pos hspan).trans rfl
  · rintro hlen hi t rfl
    refine State.command_oks_fixed (c := cmdSenseRead) acc hlen ?_
    exact (if_pos hi).trans rfl

end Sys2Proof.Machine
end

section
/-! PROOFS. The commands of the beam heads (11 R257). -/
namespace Sys2Proof.Machine

/-! ## Requests to the memories leave the heads -/

theorem foldl_heads {α : Type} (l : List α) (f : State → α → State) (h : ∀ s a, (f s a).heads = s.heads) (s : State) :
    (l.foldl f s).heads = s.heads := by
  induction l generalizing s with
  | nil => rfl
  | cons a l ih => exact (ih _).trans (h _ _)

@[simp] theorem State.takeTags_heads (s : State) (cls n : Nat) : (s.takeTags cls n).heads = s.heads := rfl
@[simp] theorem State.wake_heads (s : State) : s.wake.heads = s.heads := rfl
@[simp] theorem State.setRing_heads (s : State) (n bytes : Nat) : (s.setRing n bytes).heads = s.heads := rfl

@[simp] theorem State.refuseAt_heads (s : State) (i : Nat) : (s.refuseAt i).heads = s.heads := by
  unfold State.refuseAt; split <;> rfl

@[simp] theorem State.issueAt_heads (s : State) (cls i : Nat) : (s.issueAt cls i).heads = s.heads := by
  unfold State.issueAt; simp [apply_ite State.heads]

@[simp] theorem State.issueFence_heads (s : State) (i : Nat) : (s.issueFence i).heads = s.heads := by
  unfold State.issueFence; simp [apply_ite State.heads]

@[simp] theorem State.pumpReads_heads (s : State) (cls : Nat) : (s.pumpReads cls).heads = s.heads :=
  foldl_heads (s.waiting cls) _ (fun s x => by split <;> simp) s

@[simp] theorem State.addReads_heads (s : State) (u : ReadUser) (cls n : Nat) (host : Bool) (buf : Buffer) (key : Nat) :
    (s.addReads u cls n host buf key).heads = s.heads := by
  unfold State.addReads
  split
  · rfl
  · exact State.pumpReads_heads _ cls

@[simp] theorem State.readPoints_heads (s : State) (n k : Nat) (g : Segment) : (s.readPoints n k g).heads = s.heads :=
  State.addReads_heads ..

@[simp] theorem State.pumpOps_heads (n : Nat) (s : State) : (s.pumpOps n).heads = s.heads := by
  induction n generalizing s with
  | zero => rfl
  | succ n ih =>
    unfold State.pumpOps
    split
    · rfl
    · dsimp only
      split
      · rfl
      · refine (ih _).trans ?_
        split <;> rfl

@[simp] theorem State.addOp_heads (s : State) (u : NvmeUse) (steps : List DriveStep) : (s.addOp u steps).heads = s.heads :=
  State.pumpOps_heads ..

@[simp] theorem State.stageHead_heads (s : State) (n : Nat) : (s.stageHead n).heads = s.heads := by
  simp only [State.stageHead]
  split
  · split
    · rfl
    · exact State.addOp_heads ..
  · rfl

/-! ## Heads -/

/-- A change of one head reaches it, and no other. -/
theorem at_head (s : State) (n m : Nat) (f : Head → Head) :
    at_ (s.head n f).heads m = if n = m ∧ m < s.heads.length then f (at_ s.heads m) else at_ s.heads m := at_upd ..

theorem State.taken_causeHolds {h : Hdr} (s : State) : (s.taken h).causeHolds = s.causeHolds := by
  funext n cause
  unfold State.causeHolds
  split <;> simp
  rfl

/-- A head that is OFF and is parked. -/
theorem State.enterHead_of_off {s : State} {n : Nat} (hoff : (at_ s.heads n).state = 0) :
    s.enterHead n 1 = (s.head n fun x => { x with state := 1, dwell := none }).raise 0x0801 n 1 := by
  simp [State.enterHead, hoff]

/-! ## POINT_APPEND (11 R243) -/

/-- The instant that an append asks for can be met: it lies after the queue and 20 µs ahead. -/
def State.appendMeets (s : State) (n : Nat) (p : Rec) : Bool :=
  let q := match (at_ s.heads n).segs.getLast? with
    | none => s.now
    | some g => g.ends
  match s.instantOf (u32 p 0x0C) (u32 p 0x10) with
  | some t => decide (q ≤ t) && decide (s.now + 8000 ≤ t)
  | none => false

/-- The first instant of the appended segment. -/
def State.appendStart (s : State) (n : Nat) (p : Rec) : Nat :=
  let q := match (at_ s.heads n).segs.getLast? with
    | none => s.now
    | some g => g.ends
  if bit (byteAt p 2) 0 = true ∨ s.appendMeets n p = false then max q (s.now + 8000)
  else (s.instantOf (u32 p 0x0C) (u32 p 0x10)).getD 0

theorem State.appendStart_ge (s : State) (n : Nat) (p : Rec) : s.now + 8000 ≤ s.appendStart n p := by
  simp only [State.appendStart]
  split
  · exact Nat.le_max_right ..
  · rename_i hmeets
    simp only [State.appendMeets] at hmeets
    cases hwant : s.instantOf (u32 p 0x0C) (u32 p 0x10) with
    | none => simp [hwant] at hmeets
    | some t =>
      simp only [hwant, not_or, Bool.not_eq_false, Bool.and_eq_true, decide_eq_true_eq] at hmeets
      exact hmeets.2.2

/-- The segment that an append queues. -/
def State.appendSegment (s : State) (n : Nat) (p : Rec) : Segment :=
  ⟨(at_ s.heads n).segNo, s.appendStart n p, u32 p 4, s.appendPeriod p,
    if byteAt p 1 == 0 then none else some (u32 p 0x14, u32 p 0x18), 0, !bit (byteAt p 2) 0, 0, false⟩

/-- The head with one more segment. -/
def Head.withSegment (y : Head) (g : Segment) (ring : Bool) : Head :=
  { y with
    segs := y.segs ++ [g], segNo := y.segNo + 1, appended := y.appended + BitVec.ofNat 64 g.count,
    producer := if ring then (y.producer + g.count) % max 1 (hdRing y.record) else y.producer }

/-- An append that is not refused queues its segment on its head and changes no other head; it is LATE only where it asked for
an instant. -/
theorem State.appendSeg_spec (s : State) (n : Nat) (p : Rec) : ∃ pay t,
    s.appendSeg n p = (.reply (if bit (byteAt p 2) 0 || s.appendMeets n p then cOk else cLate) pay, t) ∧
    t.heads = upd s.heads n fun y => y.withSegment (s.appendSegment n p) (byteAt p 1 == 0) := by
  refine ⟨_, _, rfl, ?_⟩
  refine (apply_ite State.heads _ _ _).trans ?_
  rw [State.readPoints_heads, State.stageHead_heads, State.setRing_heads, ite_self]
  rfl

/-- POINT_APPEND on a head that may take the segment. -/
theorem cmdPointAppend_run {s : State} {h : Hdr} {p : Rec} {y : Head} (hn : byteAt p 0 ≤ 3)
    (hex : byteAt p 0 < s.heads.length)
    (hy : y = (at_ s.heads (byteAt p 0)).trim s.now) (hsrc : byteAt p 1 ≤ 1) (hcount : u32 p 4 ≠ 0)
    (hper : (4000 ≤ u32 p 8 ∧ u32 p 8 ≤ 4000000) ∨ (byteAt p 1 = 1 ∧ u32 p 8 = 0))
    (hofs : bit (byteAt p 2) 0 = true ∨ s.offsetOk (u32 p 0x0C) (u32 p 0x10) = true) (hstate : y.state = 1 ∨ y.state = 2)
    (hclip : byteAt p 1 = 1 → (s.head (byteAt p 0) fun x => x.trim s.now).clipFault (byteAt p 0) p = none)
    (hroom : byteAt p 1 = 0 → u32 p 4 ≤ y.ringFree) (hsegs : y.segs.length < 64) :
    cmdPointAppend.run h p s = (s.head (byteAt p 0) fun x => x.trim s.now).appendSeg (byteAt p 0) p := by
  have hhead : at_ (s.head (byteAt p 0) fun x => x.trim s.now).heads (byteAt p 0) = y := by
    rw [at_head, if_pos ⟨rfl, hex⟩, hy]
  have hvalid : ¬(3 < byteAt p 0 ∨ 1 < byteAt p 1 ∨ u32 p 4 = 0 ∨
      (inRange 4000 4000000 (u32 p 8) = false ∧ ¬(byteAt p 1 = 1 ∧ u32 p 8 = 0)) ∨
      (bit (byteAt p 2) 0 = false ∧ s.offsetOk (u32 p 0x0C) (u32 p 0x10) = false)) := by
    rintro (hbad | hbad | hbad | ⟨hbad, hno⟩ | ⟨hbad, hno⟩)
    · omega
    · omega
    · exact hcount hbad
    · exact hper.elim (fun hin => by simp [inRange, hin] at hbad) hno
    · exact hofs.elim (fun hfollow => by simp [hfollow] at hbad) fun hok => by simp [hok] at hno
  have hready : ¬(y.state ≠ 1 ∧ y.state ≠ 2) := fun ⟨hparked, hrunning⟩ => hstate.elim hparked hrunning
  have hfits : ¬((byteAt p 1 = 0 ∧ y.ringFree < u32 p 4) ∨ 64 ≤ y.segs.length) := by
    rintro (⟨hring, hfull⟩ | hfull)
    · exact absurd (hroom hring) (by omega)
    · omega
  have hfault : (if byteAt p 1 = 1 then (s.head (byteAt p 0) fun x => x.trim s.now).clipFault (byteAt p 0) p else none) =
      none := by
    split
    · exact hclip ‹_›
    · rfl
  simp only [cmdPointAppend, if_pos hn, hhead]
  refine (if_neg hvalid).trans <| (if_neg hready).trans ?_
  rw [hfault]
  exact if_neg hfits

/-! ## The statement -/

/-- Settles O16: each command's checks pass under its clause; an append goes to its head alone. -/
theorem beamCommandsComplete : Obligations.BeamCommandsComplete := by
  unfold Obligations.BeamCommandsComplete
  intro h p s acc n x y
  refine ⟨?_, ?_, ?_, ?_, ?_, ?_, ?_, ?_, ?_, ?_⟩
  · intro hlen hok hmonitor hoff hnamed
    refine State.command_oks_fixed (c := cmdHeadConfig) acc hlen ?_
    have hopen : ¬(hdMonitor x.record = true ∧ hdMonitor p = false ∧ s.unlocked h = false) := by
      rintro ⟨hold, hnew, hlocked⟩
      exact (hmonitor hold).elim (fun hon => by simp [hnew] at hon) fun hun => by simp [hlocked] at hun
    have hfree : ¬(x.state ≠ 0 ∨ s.headNamed n = true) := by simp [hoff, hnamed]
    exact (if_neg (ne_false_of_eq_true hok)).trans <| (if_neg hopen).trans <| (if_neg hfree).trans rfl
  · intro hlen hn
    refine State.command_oks_fixed (c := cmdHeadRead) acc hlen ?_
    exact (if_neg (Nat.not_lt.mpr hn)).trans rfl
  · intro hlen hn hact hoff
    refine State.command_oks_fixed (c := cmdHeadControl) acc hlen ?_
    simp only [cmdHeadControl, hact]
    exact (if_neg (Nat.not_lt.mpr hn)).trans <| (if_pos hoff).trans rfl
  · intro hlen hn hact hon
    refine State.command_oks_fixed (c := cmdHeadControl) acc hlen ?_
    simp only [cmdHeadControl, hact]
    exact (if_neg (Nat.not_lt.mpr hn)).trans <| (if_neg hon).trans rfl
  · intro hlen hn hact hoff hready
    refine State.command_oks_fixed (c := cmdHeadControl) acc hlen ?_
    have hmay : ¬(x.state ≠ 0 ∨ s.axesReady n = false) := by simp [hoff, hready]
    simp only [cmdHeadControl, hact]
    refine (if_neg (Nat.not_lt.mpr hn)).trans <| (if_neg hmay).trans (congrArg ok ?_)
    exact State.enterHead_of_off (s := s.taken h) hoff
  · intro hlen hn hact hblanked hcauses
    refine State.command_oks_fixed (c := cmdHeadControl) acc hlen ?_
    have hmay : ¬(x.state ≠ 3 ∨ ((List.range 7).any fun c => bit x.causes c && s.causeHolds n c) = true) := by
      simpa [hblanked] using hcauses
    rw [← State.taken_causeHolds (h := h)] at hmay
    simp only [cmdHeadControl, hact]
    exact (if_neg (Nat.not_lt.mpr hn)).trans <| (if_neg hmay).trans rfl
  · intro hlen hn hact
    refine State.command_oks_fixed (c := cmdHeadControl) acc hlen ?_
    simp only [cmdHeadControl, hact]
    exact (if_neg (Nat.not_lt.mpr hn)).trans rfl
  · intro hlen hn hact hon
    refine State.command_oks_fixed (c := cmdHeadControl) acc hlen ?_
    simp only [cmdHeadControl, hact]
    exact (if_neg (Nat.not_lt.mpr hn)).trans <| (if_neg hon).trans rfl
  · intro hlen hn hex hsrc hcount hper hofs hstate hclip hroom hsegs
    let u := (s.taken h).head n fun x => x.trim s.now
    have hy : at_ u.heads n = y := (at_head ..).trans (if_pos ⟨rfl, hex⟩)
    have hclip' : byteAt p 1 = 1 → u.clipFault n p = none := fun hone => by
      have hrec : (at_ u.heads n).record = x.record := by rw [hy]; rfl
      have hsame := hclip hone
      unfold State.clipFault at hsame ⊢
      rwa [hrec]
    have hrun := cmdPointAppend_run (s := s.taken h) (h := h) hn hex (y := y) rfl hsrc hcount hper hofs hstate hclip' hroom hsegs
    obtain ⟨pay, t, hseg, hheads⟩ := u.appendSeg_spec n p
    have hat (m : Nat) : at_ t.heads m = if n = m ∧ m < s.heads.length then
        (at_ u.heads m).withSegment (u.appendSegment n p) (byteAt p 1 == 0) else at_ u.heads m := by
      rw [hheads, at_upd, show u.heads.length = s.heads.length from upd_length ..]
    have hatn : at_ t.heads n = y.withSegment (u.appendSegment n p) (byteAt p 1 == 0) := by
      rw [hat, if_pos ⟨rfl, hex⟩, hy]
    refine ⟨t, pay, _, u.appendStart n p, u.appendPeriod p,
      State.command_ends (c := cmdPointAppend) acc (by simp [cmdPointAppend, lenIs, hlen]) (by omega) (hrun.trans hseg)
        (fun hp => Bool.noConfusion hp), ?_, u.appendStart_ge n p, ?_, ?_, ?_, fun m hm => ?_⟩
    · cases hmeets : u.appendMeets n p <;> cases hfollow : bit (byteAt p 2) 0 <;> simp
    · intro hgiven
      exact if_neg fun hc => hgiven hc.1
    · rw [hatn]
      simp only [Head.withSegment, State.appendSegment, hy, beq_iff_eq]
      rfl
    · rw [hatn]
      rfl
    · rw [hat, if_neg fun hc => hm hc.1.symm]
      exact (at_head ..).trans (if_neg fun hc => hm hc.1.symm)
  · rintro hlen hn t y rfl rfl
    refine State.command_oks_fixed (c := cmdHeadStatus) acc hlen ?_
    exact (if_neg (Nat.not_lt.mpr hn)).trans rfl

end Sys2Proof.Machine
end

section
/-! PROOFS. The commands of the control engine, of the axis interfaces and of the show inputs (12 R274, 13 R296). -/
namespace Sys2Proof.Machine

/-! ## BANK_SELECT (12 R268) -/

/-- One change of several axes reaches them, and no other. -/
theorem State.foldl_axis (f : Axis → Axis) (l : List Nat) (hl : l.Nodup) (s : State) :
    ∃ axes, l.foldl (fun s a => s.axis a f) s = { s with axes := axes } ∧
      ∀ b, at_ axes b = if b ∈ l ∧ b < s.axes.length then f (at_ s.axes b) else at_ s.axes b := by
  induction l generalizing s with
  | nil => exact ⟨s.axes, rfl, fun b => by simp⟩
  | cons a l ih =>
    obtain ⟨ha, hl⟩ := List.nodup_cons.mp hl
    obtain ⟨axes, hfold, haxes⟩ := ih hl (s.axis a f)
    refine ⟨axes, hfold, fun b => ?_⟩
    rw [haxes b, State.axis]
    dsimp only
    rw [upd_length, at_upd]
    by_cases hb : b = a
    · subst hb
      simp [ha]
    · simp [hb, Ne.symm hb]

/-- The instant that BANK_SELECT asks for, if that can be named. -/
def State.swapWanted (s : State) (p : Rec) : Option Nat :=
  if bit (byteAt p 2) 0 then some (s.now + 1) else s.instantOf (u32 p 4) (u32 p 8)

/-- BANK_SELECT for axes whose other banks are valid and of which no swap is pending. -/
theorem cmdBankSelect_run {s : State} {h : Hdr} {p : Rec}
    (hofs : bit (byteAt p 2) 0 = true ∨ s.offsetOk (u32 p 4) (u32 p 8) = true)
    (hready : ∀ b < 16, bit (u16 p 0) b = true → (at_ s.axes b).swapAt = none ∧
      (if (at_ s.axes b).active then (at_ s.axes b).validA else (at_ s.axes b).validB) = true)
    {late : Bool} {at' : Nat}
    (hwant : (s.swapWanted p = some at' ∧ s.now ≤ at' ∧ at' ≤ s.now + 2 ^ 31 ∧ late = false) ∨
      ((∀ t, s.swapWanted p = some t → t < s.now) ∧ at' = s.now + 1 ∧ late = true)) :
    cmdBankSelect.run h p s = (.reply (if late then cLate else cOk) (le 2 (u16 p 0)),
      (allAxes.filter fun a => bit (u16 p 0) a).foldl (fun s a => s.axis a fun x => { x with swapAt := some at' }) s) := by
  have hvalid : ¬(bit (byteAt p 2) 0 = false ∧ s.offsetOk (u32 p 4) (u32 p 8) = false) := fun ⟨himm, hbad⟩ =>
    hofs.elim (fun hon => by simp [himm] at hon) fun hok => by simp [hbad] at hok
  have hfree : ¬(((allAxes.filter fun a => bit (u16 p 0) a).any fun a =>
      (at_ s.axes a).swapAt.isSome || !(if (at_ s.axes a).active then (at_ s.axes a).validA else (at_ s.axes a).validB)) = true ∨
      (s.swapWanted p).getD 0 > s.now + 2 ^ 31) := by
    rintro (hheld | hfar)
    · obtain ⟨a, ha, hbad⟩ := List.any_eq_true.mp hheld
      obtain ⟨hrange, hbit⟩ := List.mem_filter.mp ha
      obtain ⟨hswap, hbank⟩ := hready a (List.mem_range.mp hrange) hbit
      simp [hswap, hbank] at hbad
    · obtain ⟨hsome, -, hmax, -⟩ | ⟨hpast, -, -⟩ := hwant
      · simp only [hsome, Option.getD_some] at hfar
        omega
      · cases hw : s.swapWanted p with
        | none => simp [hw] at hfar
        | some t =>
          have := hpast t hw
          simp only [hw, Option.getD_some] at hfar
          omega
  refine (if_neg hvalid).trans <| (if_neg hfree).trans ?_
  obtain ⟨hsome, hmin, -, rfl⟩ | ⟨hpast, rfl, rfl⟩ := hwant
  · have hnot : ¬(at' < s.now) := by omega
    simp only [State.swapWanted] at hsome
    simp [hsome, hnot]
  · simp only [State.swapWanted] at hpast
    cases hw : (if bit (byteAt p 2) 0 then some (s.now + 1) else s.instantOf (u32 p 4) (u32 p 8)) with
    | none => simp
    | some t => simp [hpast t hw]

/-! ## The control engine -/

/-- Settles O17: each command's checks pass under its clause; BANK_SELECT reaches the axes it names alone. -/
theorem engineCommandsComplete : Obligations.EngineCommandsComplete := by
  unfold Obligations.EngineCommandsComplete
  intro h p s acc a x r
  refine ⟨?_, ?_, ?_, ?_, ?_, ?_, ?_, ?_, ?_⟩
  · intro hlen hok hopen
    refine State.command_oks_fixed (c := cmdAxisConfig) acc hlen ?_
    exact (if_neg (ne_false_of_eq_true hok)).trans <| (if_neg (not_not.mpr hopen)).trans rfl
  · intro hlen ha
    exact State.command_oks_fixed (c := cmdAxisConfigRead) acc hlen ((if_neg (Nat.not_lt.mpr ha)).trans rfl)
  · intro hlen ha hb hr hactive hswap
    have hfree : ¬x.bankHeld (byteAt p 1 == 1) := by simp [Axis.bankHeld, hb, hactive, hswap]
    simpa [Axis.withBank, hb] using exec_coefWrite_of_free acc hlen ha (by omega) hr hfree
  · intro hlen ha hb hr hactive hswap
    have hfree : ¬x.bankHeld (byteAt p 1 == 1) := by simp [Axis.bankHeld, hb, hactive, hswap]
    simpa [Axis.withBank, hb] using exec_coefWrite_of_free acc hlen ha (by omega) hr hfree
  · intro hlen ha hb
    refine State.command_oks_fixed (c := cmdCoefRead) acc hlen ?_
    have hvalid : ¬(15 < a ∨ 1 < byteAt p 1) := by omega
    exact (if_neg hvalid).trans rfl
  · intro at' code hlen hcase hready
    have hrun : ∃ late : Bool, code = (if late then cLate else cOk) ∧
        cmdBankSelect.run h p (s.taken h) = (.reply (if late then cLate else cOk) (le 2 (u16 p 0)),
          (allAxes.filter fun a => bit (u16 p 0) a).foldl (fun s a => s.axis a fun x => { x with swapAt := some at' })
            (s.taken h)) := by
      obtain ⟨himm, rfl, rfl⟩ | ⟨himm, hofs, ⟨hsome, hmin, hmax, rfl⟩ | ⟨hpast, rfl, rfl⟩⟩ := hcase
      · have hwant : (s.taken h).swapWanted p = some (s.now + 1) := if_pos himm
        exact ⟨false, rfl, cmdBankSelect_run (s := s.taken h) (.inl himm) hready (.inl ⟨hwant, Nat.le_succ _, by simp, rfl⟩)⟩
      · have hwant : (s.taken h).swapWanted p = some at' := (if_neg (ne_true_of_eq_false himm)).trans hsome
        exact ⟨false, rfl, cmdBankSelect_run (s := s.taken h) (.inr hofs) hready (.inl ⟨hwant, hmin, hmax, rfl⟩)⟩
      · have hwant : (s.taken h).swapWanted p = s.instantOf (u32 p 4) (u32 p 8) := if_neg (ne_true_of_eq_false himm)
        exact ⟨true, rfl, cmdBankSelect_run (s := s.taken h) (.inr hofs) hready (.inr ⟨fun t ht => hpast t (hwant.symm.trans ht), rfl, rfl⟩)⟩
    obtain ⟨late, hcode, hrun⟩ := hrun
    obtain ⟨axes, hfold, haxes⟩ := State.foldl_axis (fun x => { x with swapAt := some at' })
      (allAxes.filter fun a => bit (u16 p 0) a) (List.nodup_range.filter _) (s.taken h)
    refine ⟨axes, ?_, fun b hb hex hbit => ?_, fun b hbit => ?_⟩
    · rw [hfold] at hrun
      rw [hcode]
      exact State.command_ends (c := cmdBankSelect) acc (by simp [cmdBankSelect, lenIs, hlen]) (by omega) hrun
        (fun hp => Bool.noConfusion hp)
    · refine (haxes b).trans (if_pos ⟨List.mem_filter.mpr ⟨List.mem_range.mpr hb, hbit⟩, hex⟩)
    · exact (haxes b).trans (if_neg fun hmem => by simp [hbit] at hmem)
  · intro hlen ha hact hopen hbank hfb
    refine State.command_oks_fixed (c := cmdAxisLoop) acc hlen ?_
    have hvalid : ¬(15 < a ∨ 1 < byteAt p 1) := by omega
    have hmay : ¬(x.state ≠ 0 ∨ x.bankValid = false ∨ s.fbValid a < 1) := by
      rintro (hbad | hbad | hbad)
      · exact hbad hopen
      · exact ne_false_of_eq_true hbank hbad
      · exact Nat.not_lt.mpr hfb hbad
    exact (if_neg hvalid).trans <| (if_pos hact).trans <| (if_neg hmay).trans rfl
  · intro hlen ha hact hstate
    refine State.command_oks_fixed (c := cmdAxisLoop) acc hlen ?_
    have hvalid : ¬(15 < a ∨ 1 < byteAt p 1) := by omega
    exact (if_neg hvalid).trans <| (if_neg (by omega)).trans <| (if_neg hstate).trans rfl
  · rintro hlen ha t rfl
    exact State.command_oks_fixed (c := cmdAxisStatus) acc hlen ((if_neg (Nat.not_lt.mpr ha)).trans rfl)

/-! ## Axis interfaces and show inputs -/

theorem State.taken_heelHolds (s : State) (h : Hdr) (a : Nat) : (s.taken h).heelHolds a = s.heelHolds a := by
  simp [State.heelHolds]

/-- Two changes by place that agree on every entry are one. -/
theorem mapIdx_congr_at {α β : Type} [Inhabited α] {l : List α} {f g : Nat → α → β}
    (hfg : ∀ i, f i (at_ l i) = g i (at_ l i)) : l.mapIdx f = l.mapIdx g := by
  refine List.ext_getElem (by simp) fun i hf hg => ?_
  have hat : at_ l i = l[i]'(by simpa using hf) := List.getD_eq_getElem ..
  simpa [hat] using hfg i

/-- TRIGGER_CONFIG judges each input by its own level. -/
theorem State.setTriggers_eq (s : State) (p : Rec) :
    s.setTriggers p =
      (let act : Nat → Bool := fun i => bit (byteAt p (4 * i)) 0 && (at_ s.show_.trigs i).level == bit (byteAt p (4 * i)) 1
       ((List.range 8).filter fun i => (at_ s.show_.trigs i).stuck && !act i).foldl (fun (u : State) i => u.raise 0x0984 i 0)
        { s with show_ := { s.show_ with
          cfg := p,
          trigs := s.show_.trigs.mapIdx fun i t => { t with
            active := act i, since := if act i && !t.active then s.now else t.since, stuck := t.stuck && act i } } }) := by
  simp only [State.setTriggers]
  congr 3
  exact mapIdx_congr_at fun i => rfl

/-- Settles O18. -/
theorem axisIoCommandsComplete : Obligations.AxisIoCommandsComplete := by
  unfold Obligations.AxisIoCommandsComplete
  intro h p s acc a x y
  refine ⟨?_, ?_, ?_, ?_, ?_, ?_, ?_, ?_, ?_, ?_, ?_, ?_, ?_, ?_⟩
  · intro hlen hok hopen
    refine State.command_oks_fixed (c := cmdAxisIoConfig) acc hlen ?_
    exact (if_neg (ne_false_of_eq_true hok)).trans <| (if_neg (not_not.mpr hopen)).trans rfl
  · intro hlen ha
    exact State.command_oks_fixed (c := cmdAxisIoRead) acc hlen ((if_neg (Nat.not_lt.mpr ha)).trans rfl)
  · intro hlen ha hpulse hstep hopen
    refine State.command_oks_fixed (c := cmdExtConfig) acc hlen ?_
    have hvalid : ¬(15 < a ∨ inRange 4 400 (u16 p 2) = false ∨ inRange 80 4000000 (exStepMin p) = false) := by
      simp [inRange, ha, hpulse, hstep]
    exact (if_neg hvalid).trans <| (if_neg (not_not.mpr hopen)).trans rfl
  · rintro cur rfl hlen ha hfrz hsum hmask
    refine State.command_oks_fixed (c := cmdDetectConfig) acc hlen ?_
    have hvalid : ¬(15 < a ∨ inRange 1 10000 (u16 p 0x10) = false ∨ inRange 1 100 (u16 p 0x12) = false) := by
      simp [inRange, ha, hfrz, hsum]
    have hopen : ¬(dtMask ((y.detWait.map Prod.snd).getD y.det) % 128 &&& dtMask p ≠
        dtMask ((y.detWait.map Prod.snd).getD y.det) % 128 ∧ s.unlocked h = false) := fun ⟨hless, hlocked⟩ =>
      hmask.elim hless fun hun => by simp [hlocked] at hun
    exact (if_neg hvalid).trans <| (if_neg hopen).trans rfl
  · intro hlen ha hv hacc hj
    refine State.command_oks_fixed (c := cmdProfileLimits) acc hlen ?_
    have hvalid : ¬(15 < a ∨ u64 p 8 = 0 ∨ u64 p 0x10 = 0 ∨ u64 p 0x18 = 0) := by omega
    exact (if_neg hvalid).trans rfl
  · intro hlen ha hmode htrig hlo hhi hclosed hsource hhead
    have hvalid : ¬(15 < a ∨ 1 < byteAt p 1 ∨ 7 < byteAt p 2 ∨ i40 p 8 < ioSoftLo y.record ∨ ioSoftHi y.record < i40 p 8) := by
      omega
    have hmay : ¬(x.state ≠ 1 ∨ ioSource y.record ≠ 0 ∨ s.headAxis a = true) := by simp [hclosed, hsource, hhead]
    refine ⟨fun hnow => ?_, fun harm => ?_⟩ <;> refine State.command_oks_fixed (c := cmdProfileMove) acc hlen ?_
    · exact (if_neg hvalid).trans <| (if_neg hmay).trans <| (if_pos hnow).trans rfl
    · exact (if_neg hvalid).trans <| (if_neg hmay).trans <| (if_neg (by omega)).trans rfl
  · intro hlen ha hsource hopen hhead
    refine State.command_oks_fixed (c := cmdSetpointSource) acc hlen ?_
    have hvalid : ¬(15 < a ∨ 2 < byteAt p 1) := by omega
    have hmay : ¬(x.state = 1 ∨ s.headAxis a = true) := by simp [hopen, hhead]
    exact (if_neg hvalid).trans <| (if_neg hmay).trans rfl
  · intro hlen ha hact hheel
    refine State.command_oks_fixed (c := cmdHeelControl) acc hlen ?_
    simp only [cmdHeelControl, hact]
    exact (if_neg (Nat.not_lt.mpr ha)).trans <| (if_pos hheel).trans rfl
  · intro hlen ha hact hheel
    refine State.command_oks_fixed (c := cmdHeelControl) acc hlen ?_
    simp only [cmdHeelControl, hact]
    exact (if_neg (Nat.not_lt.mpr ha)).trans <| (if_neg hheel).trans rfl
  · intro hlen ha hact hheel hover hfb hbank
    refine State.command_oks_fixed (c := cmdHeelControl) acc hlen ?_
    have hmay : ¬(x.state ≠ 2 ∨ (s.taken h).heelHolds a = true ∨ s.fbValid a < 100 ∨ x.bankValid = false) := by
      rintro (hbad | hbad | hbad | hbad)
      · exact hbad hheel
      · rw [State.taken_heelHolds] at hbad
        exact ne_true_of_eq_false hover hbad
      · exact Nat.not_lt.mpr hfb hbad
      · exact ne_false_of_eq_true hbank hbad
    simp only [cmdHeelControl, hact]
    exact (if_neg (Nat.not_lt.mpr ha)).trans <| (if_neg hmay).trans rfl
  · intro hlen ha hact hheel hover
    refine State.command_oks_fixed (c := cmdHeelControl) acc hlen ?_
    have hmay : ¬(x.state ≠ 2 ∨ (s.taken h).heelHolds a = true) := by simp [State.taken_heelHolds, hheel, hover]
    simp only [cmdHeelControl, hact]
    exact (if_neg (Nat.not_lt.mpr ha)).trans <| (if_neg hmay).trans rfl
  · rintro hlen ha t rfl
    exact State.command_oks_fixed (c := cmdAxisIoStatus) acc hlen ((if_neg (Nat.not_lt.mpr ha)).trans rfl)
  · rintro hlen hmin act rfl
    refine State.command_oks_fixed (c := cmdTriggerConfig) acc hlen ?_
    have hvalid : ((List.range 8).all fun i => inRange 40 40000 (u16 p (4 * i + 2))) = true := by
      simpa [inRange] using hmin
    refine (if_pos hvalid).trans (congrArg ok ?_)
    rw [State.setTriggers_eq]
    rfl
  · rintro hlen t rfl
    exact State.command_oks_fixed (c := cmdTriggerStatus) acc hlen rfl

end Sys2Proof.Machine
end

section
/-! PROOFS. The commands of thermal management, of the restart interval, of calibration and of the kennel (15 R332, 16 R353). -/
namespace Sys2Proof.Machine

/-! ## ZONE_SUSPECT_CLEAR (15 R322) -/

/-- A zone as the end of its suspicion leaves it. -/
def Zone.trusted (x : Zone) : Zone :=
  { x with suspect := false, devRun := 0, okRun := 0, effective := x.reading, base := x.reading }

/-- Only zones and the event queue change, and each zone by `R`. -/
def State.ZonesMove (s t : State) (R : Nat → Zone → Zone → Prop) : Prop :=
  ∃ th evq, t = { s with th := th, evq := evq } ∧ ∀ z, R z (at_ s.th.zones z) (at_ th.zones z)

/-- The suspicion stays, and so does the effective reading of a zone that is not suspect. -/
def Zone.Keeps (x y : Zone) : Prop := y.suspect = x.suspect ∧ (x.suspect = false → y.effective = x.effective)

theorem State.ZonesMove.trans {s t u : State} {R Q : Nat → Zone → Zone → Prop} (hst : s.ZonesMove t R) (htu : t.ZonesMove u Q) :
    s.ZonesMove u fun z x w => ∃ y, R z x y ∧ Q z y w := by
  obtain ⟨th, evq, rfl, hR⟩ := hst
  obtain ⟨th', evq', rfl, hQ⟩ := htu
  exact ⟨th', evq', rfl, fun z => ⟨_, hR z, hQ z⟩⟩

theorem Zone.Keeps.trans {x y w : Zone} (hxy : x.Keeps y) (hyw : y.Keeps w) : x.Keeps w :=
  ⟨hyw.1.trans hxy.1, fun h => (hyw.2 (hxy.1.trans h)).trans (hxy.2 h)⟩

theorem State.ZonesMove.keeps {s t u : State} (hst : s.ZonesMove t fun _ => Zone.Keeps) (htu : t.ZonesMove u fun _ => Zone.Keeps) :
    s.ZonesMove u fun _ => Zone.Keeps := by
  obtain ⟨th, evq, hu, hmove⟩ := hst.trans htu
  exact ⟨th, evq, hu, fun z => let ⟨_, hxy, hyw⟩ := hmove z; hxy.trans hyw⟩

theorem State.ZonesMove.refl (s : State) : s.ZonesMove s fun _ => Zone.Keeps :=
  ⟨s.th, s.evq, rfl, fun _ => ⟨rfl, fun _ => rfl⟩⟩

/-- Steps that each keep what `Keeps` says do so together. -/
theorem State.foldl_zonesMove {g : State → Nat → State} (hg : ∀ (s : State) z, s.ZonesMove (g s z) fun _ => Zone.Keeps) (l : List Nat)
    (s : State) : s.ZonesMove (l.foldl g s) fun _ => Zone.Keeps := by
  induction l generalizing s with
  | nil => exact .refl s
  | cons z l ih => exact (hg s z).keeps (ih (g s z))

theorem State.zone_zonesMove (s : State) (z : Nat) (f : Zone → Zone) (hf : (at_ s.th.zones z).Keeps (f (at_ s.th.zones z))) :
    s.ZonesMove (s.zone z f) fun _ => Zone.Keeps := by
  refine ⟨_, s.evq, rfl, fun i => ?_⟩
  dsimp only
  rw [at_upd]
  split
  · next hz => exact hz.1 ▸ hf
  · exact ⟨rfl, fun _ => rfl⟩

theorem State.raiseIf_evq (s : State) (c : Bool) (code src payload : Nat) :
    ∃ evq, s.raiseIf c code src payload = { s with evq := evq } := by
  unfold State.raiseIf
  split
  · exact ⟨_, rfl⟩
  · exact ⟨s.evq, rfl⟩

theorem State.judgeWarn_zonesMove (s : State) (z : Nat) : s.ZonesMove (s.judgeWarn z) fun _ => Zone.Keeps := by
  obtain ⟨th, evq, hzone, hkeeps⟩ := s.zone_zonesMove z (fun x => { x with
    warn := if 800 ≤ (at_ s.th.zones z).effective then true else if (at_ s.th.zones z).effective < 760 then false
      else (at_ s.th.zones z).warn }) ⟨rfl, fun _ => rfl⟩
  obtain ⟨evq', hraise⟩ := (s.zone z fun x => { x with
    warn := if 800 ≤ (at_ s.th.zones z).effective then true else if (at_ s.th.zones z).effective < 760 then false
      else (at_ s.th.zones z).warn }).raiseIf_evq _ _ _ _
  exact ⟨th, evq', hraise.trans (by rw [hzone]), hkeeps⟩

theorem State.refreshZones_zonesMove (s : State) : s.ZonesMove s.refreshZones fun _ => Zone.Keeps := by
  refine State.foldl_zonesMove (fun s z => ?_) _ s
  dsimp only
  split
  · next hsus => exact s.zone_zonesMove z _ ⟨rfl, fun hno => Bool.noConfusion (hno.symm.trans hsus)⟩
  · exact .refl s

/-- The first step of ZONE_SUSPECT_CLEAR: every named zone that is suspect is trusted again. -/
theorem State.clearSuspects_zonesMove (mask : Nat) (l : List Nat) (s : State) :
    s.ZonesMove (l.foldl (fun s z => if bit mask z ∧ (at_ s.th.zones z).suspect then
        s.setSuspect z false 0 (at_ s.th.zones z).estimate else s) s)
      fun z x y => y = if z ∈ l ∧ bit mask z = true ∧ x.suspect = true then x.trusted else x := by
  induction l generalizing s with
  | nil => exact ⟨s.th, s.evq, rfl, fun z => by simp⟩
  | cons k l ih =>
    have hstep : s.ZonesMove (if bit mask k ∧ (at_ s.th.zones k).suspect then
        s.setSuspect k false 0 (at_ s.th.zones k).estimate else s)
        fun z x y => y = if z = k ∧ bit mask z = true ∧ x.suspect = true then x.trusted else x := by
      split
      · next hk =>
        refine ⟨_, _, rfl, fun z => ?_⟩
        dsimp only [State.zone]
        rw [at_upd]
        by_cases hz : k = z
        · subst hz
          by_cases hlen : k < s.th.zones.length
          · simp [hlen, hk, Zone.trusted]
          · have hout := hk.2
            simp [at_, hlen] at hout
            cases hout
        · simp [hz, Ne.symm hz]
      · next hk =>
        refine ⟨s.th, s.evq, rfl, fun z => (if_neg ?_).symm⟩
        rintro ⟨rfl, hz⟩
        exact hk hz
    obtain ⟨th, evq, hfold, hmove⟩ := hstep.trans (ih _)
    refine ⟨th, evq, hfold, fun z => ?_⟩
    obtain ⟨y, rfl, hw⟩ := hmove z
    rw [hw]
    by_cases hz : z = k
    · subst hz
      by_cases hc : bit mask z = true ∧ (at_ s.th.zones z).suspect = true
      · simp [hc, Zone.trusted]
      · simp [hc]
    · simp [hz]

/-- Settles O19: the writes wait for the kennel; ZONE_SUSPECT_CLEAR trusts the named zones, and what follows keeps that. -/
theorem thermalCommandsComplete : Obligations.ThermalCommandsComplete := by
  unfold Obligations.ThermalCommandsComplete
  refine fun h p s acc => ⟨?_, ?_, ?_, ?_, ?_⟩
  · rintro hlen t rfl
    exact State.command_oks_fixed (c := cmdThermalStatus) acc hlen rfl
  · intro c r hlen hc hr
    refine State.command_oks_fixed (c := cmdThermalModelRead) acc hlen ?_
    simp only [cmdThermalModelRead, show (s.taken h).inForceContent 1 = .calib c from hc, hr]
  · intro hlen hroom hok hunlocked hwait
    exact State.command_kennelWaits (c := cmdThermalModelWrite) (mask := 2) acc (by simp [cmdThermalModelWrite, lenIs, hlen])
      (by omega) ((if_neg (ne_false_of_eq_true hunlocked)).trans (if_neg (ne_false_of_eq_true hok))) hwait hroom
  · intro hlen hroom hok hunlocked hwait
    exact State.command_kennelWaits (c := cmdHkCompWrite) (mask := 2) acc (by simp [cmdHkCompWrite, lenIs, hlen])
      (by omega) ((if_neg (ne_false_of_eq_true hunlocked)).trans (if_neg (ne_false_of_eq_true hok))) hwait hroom
  · intro hlen
    obtain ⟨th, evq, hrun, hmove⟩ := ((State.clearSuspects_zonesMove (u16 p 0) (List.range 16) (s.taken h)).trans
      (State.refreshZones_zonesMove _)).trans (State.foldl_zonesMove State.judgeWarn_zonesMove (List.range 16) _)
    refine ⟨_, evq, State.command_oks_fixed (c := cmdZoneSuspectClear) acc hlen
      ((congrArg (fun t : State => ok t.judgeCool) hrun).trans rfl), ?_⟩
    have hmove (z : Nat) (hz : z < 16) : (if bit (u16 p 0) z = true ∧ (at_ s.th.zones z).suspect = true
        then (at_ s.th.zones z).trusted else at_ s.th.zones z).Keeps (at_ th.zones z) := by
      obtain ⟨y, ⟨x, hx, hxy⟩, hyz⟩ := hmove z
      simp only [List.mem_range, hz, true_and] at hx
      exact (hx ▸ hxy).trans hyz
    refine ⟨fun z hz hbit => ?_, fun z hz hbit hsus => ?_, fun z hz hbit => ?_⟩
    · refine (hmove z hz).1.trans ?_
      split
      · rfl
      · next hno => exact Bool.eq_false_iff.mpr fun hsus => hno ⟨hbit, hsus⟩
    · have hz := hmove z hz
      rw [if_pos ⟨hbit, hsus⟩] at hz
      exact hz.2 rfl
    · refine (hmove z hz).1.trans ?_
      rw [if_neg fun hon => Bool.noConfusion (hbit.symm.trans hon.1)]

/-! ## The restart interval (15 R329, 17 R366) -/

section
variable {s t : State} {h : Hdr} {p pay : Rec} {c : Cmd}

theorem State.command_eq_dispatch (hslot : h.origin = .pcie → s.slotFree = true) (hop : c.op ≠ 0x0100) :
    s.command c h p = if s.mbx.fwState = 3 ∨ s.mbx.fwState = 4 then
        if hwOpcode c.op ∧ s.isHere h then
          if 240 < p.length ∨ c.len p = false ∨ p.length ≠ p.length then (s.taken h).reject c.op h cBadParam true
          else (s.taken h).runHere c h p true
        else (s.taken h).busy h c.op 5
      else if s.mbx.fwState ≠ 1 then (s.taken h).busy h c.op 1
      else (s.taken h).begin c.op (some c) h p p.length := by
  have hfree : ¬(h.origin = .pcie ∧ s.slotFree = false) := fun ⟨ho, hn⟩ => Bool.noConfusion (hn.symm.trans (hslot ho))
  have htaken : (s.countTake h).stirs c.op = s.taken h := by rw [State.stirs, if_neg hop]; rfl
  rw [State.command, if_neg hfree, State.dispatch, if_neg hop, htaken, State.taken_fwState]
  rfl

/-- A command of the mailbox hardware in a restart interval, as its row ends. -/
theorem State.command_hwEnds {code n : Nat} (hint : s.mbx.fwState = 3 ∨ s.mbx.fwState = 4) (hhere : s.isHere h = true)
    (hslot : h.origin = .pcie → s.slotFree = true) (hn : p.length = n)
    (hrun : c.run h p (s.taken h) = (.reply code pay, t)) (hlen : c.len = lenIs n := by rfl)
    (hmax : n ≤ 240 := by decide) (hhw : hwOpcode c.op = true := by decide) (hop : c.op ≠ 0x0100 := by decide) :
    done (s.command c h p) =
      .next (t.answer h { op := c.op, tag := h.tag, code := code, payload := pay, hw := true }).settle := by
  have hvalid : ¬(240 < p.length ∨ c.len p = false ∨ p.length ≠ p.length) := by
    rw [hlen]
    simp [lenIs, hn, hmax]
  rw [State.command_eq_dispatch hslot hop, if_pos hint, if_pos ⟨hhw, hhere⟩, if_neg hvalid, State.runHere, hrun, done_eq]

end

/-- Settles O20. -/
theorem restartIntervalCommandsComplete : Obligations.RestartIntervalCommandsComplete := by
  unfold Obligations.RestartIntervalCommandsComplete
  refine fun h p s hint hhere hslot => ⟨?_, ?_, ?_, ?_, ?_, ?_⟩
  · intro hlen
    exact State.command_hwEnds (c := cmdThermalStatus) hint hhere hslot hlen rfl
  · intro hlen hstate hcool htags
    have hvalid : ¬((s.taken h).th.state ≠ 3 ∨ (s.taken h).allCool = false) :=
      not_or.mpr ⟨not_not.mpr hstate, ne_false_of_eq_true hcool⟩
    exact State.command_hwEnds (c := cmdThermalRelease) hint hhere hslot hlen
      ((if_neg hvalid).trans <| (if_pos htags).trans rfl)
  · intro hlen hstate hcool htags
    have hvalid : ¬((s.taken h).th.state ≠ 3 ∨ (s.taken h).allCool = false) :=
      not_or.mpr ⟨not_not.mpr hstate, ne_false_of_eq_true hcool⟩
    exact ⟨_, rfl, State.command_hwEnds (c := cmdThermalRelease) hint hhere hslot hlen
      ((if_neg hvalid).trans <| (if_neg (ne_true_of_eq_false htags)).trans rfl)⟩
  · intro hlen hno
    exact State.command_hwEnds (c := cmdThermalRelease) hint hhere hslot hlen ((if_pos hno).trans rfl)
  · rintro hlen hmax out rfl
    refine State.command_hwEnds (c := cmdEventRead) hint hhere hslot hlen ?_
    simp [cmdEventRead, inRange_eq_true, hmax, okWith]
  · refine (congrArg done ((State.command_eq_dispatch (c := cmdModeSet) hslot (by decide)).trans (if_pos hint))).trans ?_
    exact congrArg done (if_neg fun hhw => Bool.noConfusion hhw.1)

/-! ## Calibration and the kennel -/

/-- Settles O21: a command that writes stores is parked on its mask, the others answer OK. -/
theorem kennelCommandsComplete : Obligations.KennelCommandsComplete := by
  unfold Obligations.KennelCommandsComplete
  refine fun h p s acc => ⟨?_, ?_, ?_, ?_, ?_, ?_, ?_, ?_, ?_, ?_, ?_⟩
  · intro hlen hok
    exact State.command_oks_fixed (c := cmdCalConfig) acc hlen ((if_pos hok).trans rfl)
  · rintro hlen t rfl
    exact State.command_oks_fixed (c := cmdCalStatus) acc hlen rfl
  · rintro j rfl hlen hunit
    refine ⟨fun hact => ?_, fun hact hsus => ?_⟩
    · have hvalid : ¬(calUnits (byteAt p 0) ≤ byteAt p 1 ∨ 1 < byteAt p 2) := by omega
      exact State.command_oks_fixed (c := cmdCalControl) acc hlen ((if_neg hvalid).trans <| (if_pos hact).trans rfl)
    · have hvalid : ¬(calUnits (byteAt p 0) ≤ byteAt p 1 ∨ 1 < byteAt p 2) := by omega
      exact State.command_oks_fixed (c := cmdCalControl) acc hlen
        ((if_neg hvalid).trans <| (if_neg (by omega)).trans <| (if_pos hsus).trans rfl)
  · rintro hlen hspan t rfl
    exact State.command_oks_fixed (c := cmdCalValuesRead) acc hlen ((if_pos hspan).trans rfl)
  · intro hlen hroom hnone
    exact State.command_ends (c := cmdKennelSave) acc (by simp [cmdKennelSave, lenIs, hlen]) (by omega)
      ((if_pos hnone).trans rfl) fun _ => hroom
  · intro hlen hroom hnone hunlocked
    exact State.command_ends (c := cmdKennelErase) acc (by simp [cmdKennelErase, lenIs, hlen]) (by omega)
      ((if_neg (ne_false_of_eq_true hunlocked)).trans <| (if_pos hnone).trans rfl) fun _ => hroom
  · rintro m rfl hlen hsome hroom hwait
    refine ⟨_, rfl, State.command_parks (c := cmdKennelSave) acc (by simp [cmdKennelSave, lenIs, hlen]) (by omega)
      ((if_neg hsome).trans ?_) hroom⟩
    rw [State.kennelCommand, show (s.taken h).kennelWait (byteAt p 0 % 8) = none from hwait]
  · intro hlen hcfg hcal
    refine State.command_oks_fixed (c := cmdKennelConfig) acc hlen ((if_pos ?_).trans rfl)
    simp [inRange, hcfg, hcal]
  · rintro hlen t rfl
    exact State.command_oks_fixed (c := cmdKennelStatus) acc hlen rfl
  · rintro hlen hstore hslot hn hofs t rfl
    exact State.command_oks_fixed (c := cmdKennelRead) acc hlen
      ((if_pos ⟨hstore, hslot, inRange_eq_true.mpr hn, hofs⟩).trans rfl)
  · rintro m rfl hlen hsome hroom hunlocked
    exact ⟨_, rfl, State.command_parks (c := cmdKennelErase) acc (by simp [cmdKennelErase, lenIs, hlen]) (by omega)
      ((if_neg (ne_false_of_eq_true hunlocked)).trans <| (if_neg hsome).trans rfl) hroom⟩

end Sys2Proof.Machine
end

section
/-! PROOFS. What a frame that is sent changes (18 R390 to R395), and the commands of Cumaslink (18 R408). -/
namespace Sys2Proof.Machine

/-! ## Sending changes the ports and counts discards -/

/-- The link state of a port is the same. -/
def ClPort.SameLink (x y : ClPort) : Prop := y.state = x.state ∧ y.reason = x.reason ∧ y.since = x.since

/-- Only ports, none of them in its link state, and the count of discarded frames differ. -/
def State.Sends (s t : State) : Prop :=
  ∃ ports discards, t = { s with cl := { s.cl with ports := ports, discards := discards } } ∧
    ports.length = s.cl.ports.length ∧ ∀ p, (at_ s.cl.ports p).SameLink (at_ ports p)

section
variable {s t u : State}

theorem State.Sends.refl (s : State) : s.Sends s := ⟨s.cl.ports, s.cl.discards, rfl, rfl, fun _ => ⟨rfl, rfl, rfl⟩⟩

theorem State.Sends.trans (hst : s.Sends t) (htu : t.Sends u) : s.Sends u := by
  obtain ⟨ports, discards, rfl, hlen, hlink⟩ := hst
  obtain ⟨ports', discards', rfl, hlen', hlink'⟩ := htu
  refine ⟨ports', discards', rfl, hlen'.trans hlen, fun p => ?_⟩
  obtain ⟨hstate, hreason, hsince⟩ := hlink p
  obtain ⟨hstate', hreason', hsince'⟩ := hlink' p
  exact ⟨hstate'.trans hstate, hreason'.trans hreason, hsince'.trans hsince⟩

theorem State.foldl_sends {α : Type} {g : State → α → State} (hg : ∀ (s : State) a, s.Sends (g s a)) (l : List α) (s : State) :
    s.Sends (l.foldl g s) := by
  induction l generalizing s with
  | nil => exact .refl s
  | cons a l ih => exact (hg s a).trans (ih (g s a))

end

theorem State.port_sends (s : State) (p : Nat) {f : ClPort → ClPort} (hf : ∀ q : ClPort, q.SameLink (f q)) :
    s.Sends (s.port p f) := by
  refine ⟨upd s.cl.ports p f, s.cl.discards, rfl, upd_length .., fun k => ?_⟩
  rw [at_upd]
  split
  · exact hf _
  · exact ⟨rfl, rfl, rfl⟩

theorem State.clDiscard_sends (s : State) : s.Sends s.clDiscard :=
  ⟨s.cl.ports, s.cl.discards + 1, rfl, rfl, fun _ => ⟨rfl, rfl, rfl⟩⟩

theorem ClPort.free_sameLink (q : ClPort) (now : Nat) (rsp : Bool) : q.SameLink (q.free now rsp) := by
  cases rsp <;> exact ⟨rfl, rfl, rfl⟩

theorem State.clFree_sends (s : State) (h : Hold) : s.Sends (s.clFree h) :=
  s.port_sends h.port fun q => q.free_sameLink s.now h.rsp

theorem State.release_sends (s : State) (h : Option Hold) : s.Sends (s.release h) := by
  cases h with
  | none => exact .refl s
  | some h =>
    rw [State.release]
    split
    · exact .refl s
    · exact s.clFree_sends h

theorem State.sendOne_sends (s : State) (p : Nat) : s.Sends (s.sendOne p) := by
  unfold State.sendOne
  dsimp only
  split
  · exact .refl s
  split
  · exact .refl s
  split
  · exact .refl s
  · exact (s.port_sends p fun _ => by exact ⟨rfl, rfl, rfl⟩).trans (State.release_sends ..)

theorem State.pump_sends (s : State) (p : Nat) : s.Sends (s.pump p) :=
  State.foldl_sends (fun s _ => s.sendOne_sends p) _ s

theorem State.clSend_sends (s : State) (p : Nat) (f : ClFrame) : s.Sends (s.clSend p f) := by
  unfold State.clSend
  split
  · exact (s.port_sends p fun _ => by exact ⟨rfl, rfl, rfl⟩).trans (State.pump_sends ..)
  · exact s.clDiscard_sends

theorem State.clSendTo_sends (s : State) (dest : W16) (queue type : Nat) (payload : Rec) :
    s.Sends (s.clSendTo dest queue type payload) := by
  unfold State.clSendTo
  split
  · exact State.clSend_sends ..
  · exact s.clDiscard_sends

theorem State.clForward_sends (s : State) (p queue : Nat) (o : ClOut) (h : Hold) : s.Sends (s.clForward p queue o h) := by
  unfold State.clForward
  split
  · exact State.clSend_sends ..
  · exact s.clDiscard_sends.trans (State.release_sends ..)

theorem State.clFlood_sends (s : State) (queue : Nat) (o : ClOut) (h : Option Hold) : s.Sends (s.clFlood queue o h) := by
  unfold State.clFlood
  dsimp only
  refine (State.foldl_sends (g := fun s p => s.port p fun q => { q with queue := q.queue ++ [⟨queue, o, h⟩] })
    (fun s p => s.port_sends p fun _ => ⟨rfl, rfl, rfl⟩) s.childPorts s).trans ?_
  split
  · exact State.release_sends ..
  · exact State.foldl_sends State.pump_sends ..

theorem State.clUpward_sends (s : State) (queue type : Nat) (payload : Rec) : s.Sends (s.clUpward queue type payload) :=
  State.clSend_sends ..

/-! ## CL_CONFIG is changed by its own command alone -/

theorem State.Sends.cfg {s t : State} (h : s.Sends t) : t.cl.cfg = s.cl.cfg := by
  obtain ⟨ports, discards, rfl, -⟩ := h
  rfl

theorem foldl_clCfg {α : Type} {g : State → α → State} (hg : ∀ s a, (g s a).cl.cfg = s.cl.cfg) (l : List α) (s : State) :
    (l.foldl g s).cl.cfg = s.cl.cfg := by
  induction l generalizing s with
  | nil => rfl
  | cons a l ih => exact (ih _).trans (hg s a)

theorem State.raiseIf_cl (s : State) (c : Bool) (code src payload : Nat) : (s.raiseIf c code src payload).cl = s.cl := by
  obtain ⟨evq, h⟩ := s.raiseIf_evq c code src payload
  rw [h]

theorem State.answer_clCfg (s : State) (h : Hdr) (r : Reply) : (s.answer h r).cl.cfg = s.cl.cfg := by
  unfold State.answer
  split
  · rfl
  · exact (State.clSendTo_sends ..).cfg
  · rfl
  · exact congrArg Cumaslink.cfg (State.raiseIf_cl ..)

theorem State.finish_clCfg (s : State) (c : Parked) (code : Nat) (payload : Rec) : (s.finish c code payload).cl.cfg = s.cl.cfg := by
  unfold State.finish
  dsimp only
  split
  · rfl
  · exact State.answer_clCfg ..

theorem State.endSessionOf_cl (s : State) (cl : Bool) (reason : Nat) : (s.endSessionOf cl reason).cl = s.cl := by
  unfold State.endSessionOf
  split
  · split
    · unfold State.endSession
      split <;> rfl
    · rfl
  · rfl

theorem State.portLost_clCfg (s : State) (p : Nat) : (s.portLost p).cl.cfg = s.cl.cfg := by
  have hlost (l : List ClFrame) (t : State) :
      ((l.foldl (fun s f => (s.clDiscard).release f.hold) t).bcastDone).cl.cfg = t.cl.cfg :=
    (foldl_clCfg (fun s c => s.finish_clCfg c cOk []) _ _).trans
      (State.foldl_sends (fun s (f : ClFrame) => s.clDiscard_sends.trans (s.clDiscard.release_sends f.hold)) l t).cfg
  unfold State.portLost
  dsimp only
  split
  · exact (congrArg Cumaslink.cfg (State.endSessionOf_cl ..)).trans (hlost ..)
  · exact hlost ..

theorem State.linkState_clCfg (s : State) (p st reason : Nat) : (s.linkState p st reason).cl.cfg = s.cl.cfg := by
  have hids : (s.sendIds p).cl.cfg = s.cl.cfg := by
    unfold State.sendIds
    dsimp only
    split <;> rfl
  unfold State.linkState
  dsimp only
  split
  · rfl
  · rw [State.raise_cl, State.port]
    dsimp only
    split
    · exact (State.portLost_clCfg ..).trans hids
    · exact hids

theorem State.loseSource_cl (s : State) (id reason : Nat) : (s.loseSource id reason).cl = s.cl := by
  unfold State.loseSource
  split
  · dsimp only
    split <;> rfl
  · rfl

theorem State.setAddr_clCfg (s : State) (a : Option W16) (persistent lost : Bool) :
    (s.setAddr a persistent lost).cl.cfg = s.cl.cfg :=
  (congrArg Cumaslink.cfg (State.raiseIf_cl ..)).trans rfl

theorem State.conflictHere_clCfg (s : State) (index : W32) (serial : W64) : (s.conflictHere index serial).cl.cfg = s.cl.cfg := by
  unfold State.conflictHere
  split
  · exact State.setAddr_clCfg ..
  · rfl

theorem State.rootAnnounce_clCfg (s : State) (a : W16) (held : Bool) (serial : W64) :
    (s.rootAnnounce a held serial).cl.cfg = s.cl.cfg := by
  unfold State.rootAnnounce
  dsimp only
  split
  · split
    · exact (State.conflictHere_clCfg ..).trans (State.clFlood_sends ..).cfg
    · rfl
  · rfl

theorem State.announce_clCfg (s : State) (held persistent : Bool) (a : W16) : (s.announce held persistent a).cl.cfg = s.cl.cfg := by
  unfold State.announce
  split
  · exact State.rootAnnounce_clCfg ..
  · split
    · exact (State.clUpward_sends ..).cfg
    · rfl

theorem State.clTree_clCfg (s : State) (p : Rec) : (s.clTree p).cl.cfg = p := by
  have hports : ([0, 1, 2].foldl (fun (s : State) q => if clEnabled p q then s else s.linkState q 0 4)
      { s with cl := { s.cl with cfg := p } }).cl.cfg = p :=
    foldl_clCfg (g := fun (s : State) q => if clEnabled p q then s else s.linkState q 0 4) (fun s q => by
      split
      · rfl
      · exact State.linkState_clCfg ..) _ _
  unfold State.clTree
  dsimp only
  split
  · exact hports
  · split
    · exact (congrArg Cumaslink.cfg (State.loseSource_cl ..)).trans hports
    · exact hports

theorem State.clConfigure_clCfg (s : State) (p : Rec) : (s.clConfigure p).cl.cfg = p := by
  unfold State.clConfigure
  dsimp only
  split
  · exact s.clTree_clCfg p
  · refine (State.announce_clCfg ..).trans ?_
    split <;> exact (State.setAddr_clCfg ..).trans (s.clTree_clCfg p)

/-! ## The commands -/

/-- A CL_BROADCAST that its checks pass waits while a port holds the frame. -/
theorem cmdClBroadcast_run {s t : State} {h : Hdr} {p : Rec} {o : ClOut}
    (hvalid : ¬(1 < byteAt p 0 ∨ u16 (p.drop 16) 0 = 0x0D03))
    (ho : o = .frame 0x03 (s.ownHdr 0) (byteAt p 0) (p.drop 16))
    (ht : t = if byteAt p 0 = 1 ∨ s.isRoot = true then (s.clFlood 3 o none).clEnter .bcast (p.drop 16) none
      else s.clSend 0 ⟨3, o, none⟩) :
    cmdClBroadcast.run h p s =
      if (t.cl.ports.any fun q => q.queue.any fun f => f.queue == 3 && f.out == o) = true then (.park 0, t) else ok t := by
  subst ho ht
  exact if_neg hvalid

/-- Settles O22: each command's checks pass under its clause; CL_BROADCAST waits while a port holds its frame. -/
theorem cumaslinkCommandsComplete : Obligations.CumaslinkCommandsComplete := by
  unfold Obligations.CumaslinkCommandsComplete
  refine fun h p s acc => ⟨?_, ?_, ?_, ?_, ?_, ?_, ?_⟩
  · intro hlen hdepth htimeout hclosed
    have hvalid : ¬((4095 < clDepthSet p ∧ clDepthSet p ≠ 0xFFFF) ∨ inRange 1 600 (u16 p 6) = false) := by
      simp only [inRange_eq_true.mpr htimeout, Bool.true_eq_false, or_false]
      omega
    have hfree : ¬((s.taken h).enumOpen = true ∨ (clDepthSet p ≠ 0xFFFF ∧ clRootBit p = false)) := by
      rintro (hopen | ⟨hset, hroot⟩)
      · exact Bool.noConfusion (hclosed.symm.trans hopen)
      · obtain ⟨-, hon⟩ | hauto := hdepth
        · exact Bool.noConfusion (hroot.symm.trans hon)
        · exact hset hauto
    exact ⟨_, State.command_oks_fixed (c := cmdClConfig) acc hlen
      ((if_neg hvalid).trans <| (if_neg hfree).trans rfl), rfl, State.clConfigure_clCfg ..⟩
  · rintro hlen t rfl
    exact State.command_oks_fixed (c := cmdClStatus) acc hlen rfl
  · intro hlen hroot hidle
    have hvalid : ¬((s.taken h).isRoot = false ∨ (s.taken h).cl.enumRunning = true) :=
      not_or.mpr ⟨ne_false_of_eq_true hroot, ne_true_of_eq_false hidle⟩
    exact State.command_oks_fixed (c := cmdClEnumerate) acc hlen ((if_neg hvalid).trans rfl)
  · intro o t ho ht hmin hlen hmax hroom hflag hop
    have hvalid : ¬(1 < byteAt p 0 ∨ u16 (p.drop 16) 0 = 0x0D03) := by omega
    have hok : cmdClBroadcast.len p = true := by simp [cmdClBroadcast, hmin, hlen.symm]
    have hrun := cmdClBroadcast_run (h := h) hvalid ho ht
    split
    · next hwaits => exact State.command_parks (c := cmdClBroadcast) acc hok hmax (hrun.trans (if_pos hwaits)) hroom
    · next hleft =>
      exact State.command_ends (c := cmdClBroadcast) acc hok hmax (hrun.trans (if_neg hleft)) fun _ => hroom
  · intro hlen hroot hnext
    exact State.command_oks_fixed (c := cmdClTimeSet) acc hlen
      ((if_neg (ne_false_of_eq_true hroot)).trans <| (if_pos hnext).trans rfl)
  · rintro hlen hroot hpast half rfl
    exact State.command_ends (c := cmdClTimeSet) acc (by simp [cmdClTimeSet, lenIs, hlen]) (by omega)
      ((if_neg (ne_false_of_eq_true hroot)).trans <| (if_neg hpast).trans rfl) fun hp => Bool.noConfusion hp
  · rintro hlen hn hfits t rfl
    refine State.command_oks_fixed (c := cmdClRouteRead) acc hlen ((if_pos ⟨inRange_eq_true.mpr hn, hfits⟩).trans ?_)
    refine congrArg (okWith · _) (List.map_congr_left fun k _ => congrArg (BitVec.ofNat 8) ?_)
    simp [List.range_succ]
    ring

end Sys2Proof.Machine
end

section
/-! PROOFS. The commands of the content store and of the effect bus (19 R424, 20 R435). -/
namespace Sys2Proof.Machine

/-! ## The content store -/

@[simp] theorem State.taken_clipBusy (s : State) (h : Hdr) (id : Nat) : (s.taken h).clipBusy id = s.clipBusy id := by
  rw [State.clipBusy, State.taken_parked]
  rfl

/-- What CLIP_PLAY checks of the clip that a layer is to play. -/
theorem cmdClipPlay_run_of_playable {s : State} {h : Hdr} {p : Rec} {i : Nat} {r : Rec} {new : Play} (hl : byteAt p 0 ≤ 7)
    (hmode : byteAt p 1 ≤ 1) (hstage : 2 ≤ byteAt p 2 ∧ byteAt p 2 ≤ 16) (hmounted : s.mounted = true)
    (hclip : s.clip (u32 p 4) = some (i, r)) (htype : clType r = 1) (hfirst : u32 p 0x0C < inFrames (clInfo r))
    (hsealed : clSealed r = true) (hpool : byteAt p 2 * inFrameBytes (clInfo r) ≤ s.poolFree)
    (hnew : new = s.playStart (u32 p 8) ⟨u32 p 4, 0, 0, false, u32 p 0x0C, byteAt p 1 == 1, byteAt p 2, [], [],
      byteAt p 2 * inFrameBytes (clInfo r)⟩) :
    cmdClipPlay.run h p s = if (s.cs.plays.getD (byteAt p 0) none).isSome = true then
        ok { s with cs := { s.cs with playWait := upd s.cs.playWait (byteAt p 0) fun _ => some new } }
      else ok (({ s with cs := { s.cs with plays := upd s.cs.plays (byteAt p 0) fun _ => some new } } : State).stageLayer
        (byteAt p 0)) := by
  have hvalid : ¬(7 < byteAt p 0 ∨ 2 < byteAt p 1 ∨ (byteAt p 1 ≠ 2 ∧ inRange 2 16 (byteAt p 2) = false)) := by
    simp only [inRange_eq_true.mpr hstage, Bool.true_eq_false, and_false, or_false]
    omega
  have hframe : ¬(clType r ≠ 1 ∨ inFrames (clInfo r) ≤ u32 p 0x0C) := by omega
  subst hnew
  refine (if_neg hvalid).trans <| (if_pos hmounted).trans <| (if_neg (by omega)).trans ?_
  rw [hclip]
  exact (if_neg hframe).trans <| (if_neg (ne_false_of_eq_true hsealed)).trans <| if_neg (Nat.not_lt.mpr hpool)

/-- Settles O23: each command's checks pass under its clause; those that need the drive wait for one operation of it. -/
theorem contentCommandsComplete : Obligations.ContentCommandsComplete := by
  unfold Obligations.ContentCommandsComplete
  refine fun h p s acc => ⟨?_, ?_, ?_, ?_, ?_, ?_, ?_, ?_, ?_, ?_⟩
  · intro hlen haddr hbudget hmounted hfree
    have hvalid : ¬(u64 p 0 % 4096 ≠ 0 ∨ inRange 100 8000 (u32 p 0x10) = false) := by simp [inRange, haddr, hbudget]
    have hidle : ¬((s.taken h).mounted = false ∨ (s.taken h).playBytes + (s.taken h).cs.rings.sum ≠ 0) :=
      not_or.mpr ⟨ne_false_of_eq_true hmounted, not_not.mpr hfree⟩
    refine State.command_oks_fixed (c := cmdCsConfig) acc hlen ?_
    simp only [cmdCsConfig]
    rw [if_neg hvalid, if_neg hidle]
    rfl
  · rintro hlen t rfl
    exact State.command_oks_fixed (c := cmdCsStatus) acc hlen rfl
  · intro hlen hroom hmagic hstate hunused
    have hidle : ¬((s.cs.state ≠ 2 ∧ s.cs.state ≠ 3) ∨ ((s.taken h).cs.table.any fun x => (s.taken h).clipBusy (clId x.2)) = true) := by
      simp only [State.taken_clipBusy]
      rintro (hbad | hused)
      · omega
      · obtain ⟨x, hx, hbusy⟩ := List.any_eq_true.mp hused
        exact Bool.noConfusion ((hunused x hx).symm.trans hbusy)
    exact State.command_driveWaits (c := cmdCsFormat) (base := 0) (m := 1) acc (by simp [cmdCsFormat, lenIs, hlen]) (by omega)
      ((if_neg (not_not.mpr hmagic)).trans <| (if_neg hidle).trans rfl) (State.taken_driveKey ..) hroom
  · intro i ext hlen hroom hzero hmax hinfo hmounted hnew hplace halloc
    have hvalid : ¬(u32 p 0 = 0 ∨ u32 p 0 = 0xFFFFFFFF ∨ infoOk (byteAt p 4) (slice p 0x10 64) = false) := by
      simp [hzero, hmax, hinfo]
    refine State.command_driveWaits (c := cmdClipCreate) (base := i) (m := 4096) acc (by simp [cmdClipCreate, lenIs, hlen])
      (by omega) ?_ (State.taken_driveKey ..) hroom
    refine (if_neg hvalid).trans <| (if_neg (ne_false_of_eq_true hmounted)).trans ?_
    rw [show (s.taken h).clip (u32 p 0) = none from hnew]
    dsimp only [Option.isSome]
    rw [show ((List.range 4096).find? fun i => ((s.taken h).clipAt i).isNone) = some i from hplace,
      show allocate (freeRuns (s.taken h).cs.blocks (s.taken h).usedExtents) (ceilDiv (u64 p 8) blockBytes) = some ext from halloc]
    rfl
  · intro i r hmounted hroom hclip
    refine ⟨?_, ?_, ?_⟩
    · intro hlen haddr hmax hwhole hfits hopen
      have hvalid : ¬(u64 p 8 % 4096 ≠ 0 ∨ 4194304 < u32 p 4 ∨ (u32 p 4 % 4096 ≠ 0 ∧ u64 p 8 + u32 p 4 ≠ clBytes r) ∨
        clBytes r < u64 p 8 + u32 p 4) := by omega
      refine State.command_driveWaits (c := cmdClipWrite) (base := i) (m := 4096) acc (by simp [cmdClipWrite, lenIs, hlen])
        (by omega) ((if_pos hmounted).trans ?_) (State.taken_driveKey ..) hroom
      rw [show (s.taken h).clip (u32 p 0) = some (i, r) from hclip]
      exact (if_neg hvalid).trans <| (if_neg (ne_true_of_eq_false hopen)).trans rfl
    · intro hlen
      refine State.command_driveWaits (c := cmdClipSeal) (base := i) (m := 4096) acc (by simp [cmdClipSeal, lenIs, hlen])
        (by omega) ((if_pos hmounted).trans ?_) (State.taken_driveKey ..) hroom
      rw [show (s.taken h).clip (u32 p 0) = some (i, r) from hclip]
      rfl
    · intro hlen hunused
      refine State.command_driveWaits (c := cmdClipDelete) (base := i) (m := 4096) acc (by simp [cmdClipDelete, lenIs, hlen])
        (by omega) ((if_pos hmounted).trans ?_) (State.taken_driveKey ..) hroom
      rw [show (s.taken h).clip (u32 p 0) = some (i, r) from hclip]
      exact (if_neg (ne_true_of_eq_false ((State.taken_clipBusy ..).trans hunused))).trans rfl
  · intro hlen hmax hmounted
    exact State.command_oks_fixed (c := cmdClipInfo) acc hlen
      ((if_neg (Nat.not_lt.mpr hmax)).trans <| (if_pos hmounted).trans rfl)
  · intro hlen hl hmode hmounted hclip hplay hwait
    have hvalid : ¬(7 < byteAt p 0 ∨ 2 < byteAt p 1 ∨ (byteAt p 1 ≠ 2 ∧ inRange 2 16 (byteAt p 2) = false)) := by omega
    have hknown : ¬((s.clip (u32 p 4)).isNone = true) := by simpa using Option.isSome_iff_ne_none.mp hclip
    have hunnamed : ¬(([s.cs.plays.getD (byteAt p 0) none, s.cs.playWait.getD (byteAt p 0) none].any fun q => match q with
        | some x => s.clipNamed x.clip
        | none => false) = true) := by
      rw [List.any_eq_true]
      rintro ⟨q, hq, hnamed⟩
      cases q with
      | none => cases hnamed
      | some x =>
        obtain hq | hq : some x = s.cs.plays.getD (byteAt p 0) none ∨ some x = s.cs.playWait.getD (byteAt p 0) none := by
          simpa using hq
        · exact Bool.noConfusion ((hplay x hq.symm).symm.trans hnamed)
        · exact Bool.noConfusion ((hwait x hq.symm).symm.trans hnamed)
    exact State.command_oks_fixed (c := cmdClipPlay) acc hlen ((if_neg hvalid).trans <| (if_pos hmounted).trans <|
      (if_pos hmode).trans <| (if_neg hknown).trans <| (if_neg hunnamed).trans rfl)
  · intro i r hlen hl hmode hstage hmounted hclip htype hfirst hsealed hpool
    have hrun := cmdClipPlay_run_of_playable (s := s.taken h) (h := h) hl hmode hstage hmounted hclip htype hfirst hsealed hpool rfl
    refine ⟨(s.taken h).playStart (u32 p 8) ⟨u32 p 4, 0, 0, false, u32 p 0x0C, byteAt p 1 == 1, byteAt p 2, [], [],
      byteAt p 2 * inFrameBytes (clInfo r)⟩, ?_, ?_, ?_, ?_, fun hsome => ?_, fun hnone => ?_⟩
    · unfold State.playStart
      split <;> rfl
    · unfold State.playStart
      split <;> rfl
    · unfold State.playStart
      split <;> rfl
    · unfold State.playStart
      split <;> rfl
    · exact State.command_oks_fixed (c := cmdClipPlay) acc hlen
        (hrun.trans <| (if_pos (Option.isSome_iff_ne_none.mpr hsome)).trans rfl)
    · exact State.command_oks_fixed (c := cmdClipPlay) acc hlen
        (hrun.trans <| (if_neg fun hsome => Option.isSome_iff_ne_none.mp hsome hnone).trans rfl)
  · intro hlen hk hact hmounted hclip
    have hvalid : ¬(3 < byteAt p 0 ∨ 1 < byteAt p 1) := by omega
    have hknown : ¬(byteAt p 1 = 0 ∧ (s.clip (u32 p 4)).isNone = true) := fun ⟨_, hnone⟩ =>
      Option.isSome_iff_ne_none.mp hclip (Option.isNone_iff_eq_none.mp hnone)
    exact State.command_ends (c := cmdCueControl) acc (by simp [cmdCueControl, lenIs, hlen]) (by omega)
      ((if_neg hvalid).trans <| (if_pos hmounted).trans <| (if_neg hknown).trans <| (if_pos hact).trans rfl)
      fun hparks => by simp [cmdCueControl, hact] at hparks
  · intro i r hlen hk hact hroom hmounted hclip htype hsealed hnone
    have hvalid : ¬(3 < byteAt p 0 ∨ 1 < byteAt p 1) := by omega
    have hidle : ¬(clSealed r = false ∨ (s.cs.players.getD (byteAt p 0) none).isSome = true) :=
      not_or.mpr ⟨ne_false_of_eq_true hsealed, by rw [hnone]; decide⟩
    refine ⟨⟨u32 p 4, [], 0, if s.tickKind (u32 p 8) != 1 then 0 else s.tickDist (u32 p 8), s.tickKind (u32 p 8) != 1, 0, false⟩,
      rfl, rfl, rfl, rfl, rfl, ?_⟩
    refine State.command_driveWaits (c := cmdCueControl) (base := byteAt p 0) (m := 4) acc
      (by simp [cmdCueControl, lenIs, hlen]) (by omega) ?_ (State.taken_driveKey ..) hroom
    refine (if_neg hvalid).trans <| (if_pos hmounted).trans <| (if_neg (by omega)).trans <| (if_neg (by omega)).trans ?_
    rw [show (s.taken h).clip (u32 p 4) = some (i, r) from hclip]
    exact (if_neg (not_not.mpr htype)).trans <| (if_neg hidle).trans rfl

/-! ## The effect bus -/

theorem byteAt_drop (p : Rec) (k o : Nat) : byteAt (p.drop k) o = byteAt p (k + o) := by simp [byteAt, List.getD_eq_getElem?_getD]

/-- One change of several outputs reaches them, and no other. -/
theorem State.foldl_epbSet (f : EffectOut → EffectOut) (l : List Nat) (hl : l.Nodup) (s : State) :
    ∃ outs, l.foldl (fun s n => s.epbSet n f) s = { s with epb := { s.epb with outs := outs } } ∧
      ∀ k, at_ outs k = if k ∈ l ∧ k < s.epb.outs.length then f (at_ s.epb.outs k) else at_ s.epb.outs k := by
  induction l generalizing s with
  | nil => exact ⟨s.epb.outs, rfl, fun k => by simp⟩
  | cons n l ih =>
    obtain ⟨hn, hl⟩ := List.nodup_cons.mp hl
    obtain ⟨outs, hfold, houts⟩ := ih hl (s.epbSet n f)
    refine ⟨outs, hfold, fun k => ?_⟩
    rw [houts k, State.epbSet]
    dsimp only
    rw [upd_length, at_upd]
    by_cases hk : k = n
    · subst hk
      simp [hn]
    · simp [hk, Ne.symm hk]

/-- Settles O24: EPB_UPDATE fills the outputs it names, the others reach one output. -/
theorem effectCommandsComplete : Obligations.EffectCommandsComplete := by
  unfold Obligations.EffectCommandsComplete
  intro h p s acc n
  refine ⟨?_, ?_, ?_, ?_, ?_⟩
  · intro hlen hok
    exact State.command_oks_fixed (c := cmdEpbConfig) acc hlen ((if_pos hok).trans rfl)
  · intro hlen hout hn hfits
    exact State.command_oks (c := cmdEpbWrite) acc (lenByCount16_of_eq hlen) (by omega)
      ((if_pos ⟨hout, inRange_eq_true.mpr hn, hfits⟩).trans rfl)
  · intro hlen
    have hnodup : ([0, 1, 2, 3].filter fun k => bit (byteAt p 0) k).Nodup := List.Nodup.filter _ (by decide)
    obtain ⟨outs, hfold, houts⟩ := (s.taken h).foldl_epbSet (fun o => { o with
      pending := o.staging, full := true, skipped := if o.full then o.skipped + 1 else o.skipped,
      stopWait := if o.running then some 2 else none, startWait := none }) _ hnodup
    have hmem (k : Nat) : k ∈ [0, 1, 2, 3].filter (fun k => bit (byteAt p 0) k) ↔ k < 4 ∧ bit (byteAt p 0) k = true := by
      rw [List.mem_filter, show [0, 1, 2, 3] = List.range 4 from rfl, List.mem_range]
    refine ⟨outs, State.command_oks_fixed (c := cmdEpbUpdate) acc hlen (congrArg ok hfold), fun k hk hlt => ?_, fun k hk => ?_⟩
    · rw [houts k, if_pos ⟨(hmem k).mpr hk, hlt⟩]
      exact ⟨rfl, rfl⟩
    · exact (houts k).trans (if_neg fun hon => hk ((hmem k).mp hon.1))
  · intro hlen hok
    have hout : byteAt (p.drop 8) 0 = n := byteAt_drop ..
    refine ⟨fun hact => ?_, fun hact hkind => ?_, fun hact => ?_⟩
    · have hvalid : ¬(2 < byteAt p 0 ∨ patternOk (p.drop 8) = false) := by simp [hact, hok]
      refine State.command_oks_fixed (c := cmdEpbPattern) acc hlen ((if_neg hvalid).trans <| (if_neg (by omega)).trans ?_)
      rw [hact, hout]
      rfl
    · have hvalid : ¬(2 < byteAt p 0 ∨ patternOk (p.drop 8) = false) := by simp [hact, hok]
      have hpattern : ¬(byteAt p 0 = 1 ∧ byteAt (p.drop 8) 1 = 0) := fun hnone => hkind ((byteAt_drop ..).symm.trans hnone.2)
      refine State.command_oks_fixed (c := cmdEpbPattern) acc hlen ((if_neg hvalid).trans <| (if_neg hpattern).trans ?_)
      rw [hact, hout]
      rfl
    · have hvalid : ¬(2 < byteAt p 0 ∨ patternOk (p.drop 8) = false) := by simp [hact, hok]
      refine State.command_oks_fixed (c := cmdEpbPattern) acc hlen ((if_neg hvalid).trans <| (if_neg (by omega)).trans ?_)
      rw [hact, hout]
      rfl
  · rintro hlen t rfl
    exact State.command_oks_fixed (c := cmdEpbStatus) acc hlen rfl

end Sys2Proof.Machine
end

section
/-! PROOFS. The commands of identity and service access, of patina and of the firmware flash (21 R453, R454, 22 R469). -/
namespace Sys2Proof.Machine

/-! ## Identity and service access -/

@[simp] theorem State.taken_ownersAhead (s : State) (h : Hdr) (opcode : Nat) :
    (s.taken h).ownersAhead opcode = s.ownersAhead opcode := by
  rw [State.ownersAhead, State.taken_parked, State.ownersAhead]

/-- Some owner stays enrolled besides slot `k`. -/
theorem ownersLeft_ne_nil {s : State} {j k : Nat} (hj : j ≠ k) (hlt : j < s.sec.owners.length)
    (henrolled : (at_ s.sec.owners j).enrolled = true) (hrevoked : (at_ s.sec.owners j).revoked = false)
    (hfree : j ∉ s.ownersAhead 0x1007) :
    ((indices s.sec.owners fun x => x.enrolled && !x.revoked).filter fun i =>
      i != k && !(s.ownersAhead 0x1007).contains i) ≠ [] := by
  refine List.ne_nil_of_mem (a := j) (List.mem_filter.mpr ⟨?_, by simp [hj, hfree]⟩)
  simp only [at_, List.getD_eq_getElem _ _ hlt] at henrolled hrevoked
  simp [indices, hlt, henrolled, hrevoked]

/-- Settles O25: each command's checks pass under its clause; SERVICE_OPEN splits at the signature. -/
theorem securityCommandsComplete : Obligations.SecurityCommandsComplete := by
  unfold Obligations.SecurityCommandsComplete
  intro h p s acc k
  refine ⟨?_, ?_, ?_, ?_, ?_, ?_, ?_, ?_, ?_⟩
  · rintro hlen t rfl
    refine State.command_oks_fixed (c := cmdIdentityRead) acc hlen ?_
    simp only [cmdIdentityRead]
    cases (s.taken h).sec.session <;> rfl
  · intro hlen hn
    split
    · next hfits =>
      exact State.command_oks_fixed (c := cmdCertRead) acc hlen ((if_pos ⟨inRange_eq_true.mpr hn, hfits⟩).trans rfl)
    · next hfits =>
      exact State.command_ends (c := cmdCertRead) acc (by simp [cmdCertRead, lenIs, hlen]) (by omega)
        ((if_neg fun hok => hfits hok.2).trans rfl) fun hp => Bool.noConfusion hp
  · intro hlen hroom hnone
    have hidle : ¬(((s.taken h).mbx.parked.any fun c => c.opcode == 0x1002) = true) := by
      rw [State.taken_parked]
      simpa using hnone
    exact State.command_parks (c := cmdAttest) acc (by simp [cmdAttest, lenIs, hlen]) (by omega)
      ((if_neg hidle).trans rfl) hroom
  · intro hlen hfree
    refine State.command_oks_fixed (c := cmdServiceChallenge) acc hlen ?_
    simp only [cmdServiceChallenge]
    rw [show (s.taken h).sec.lockUntil = none from hfree]
    rfl
  · intro nonce t hlen hk hdur hnonce ht hsession henrolled hrevoked
    have hvalid : ¬(3 < byteAt p 0 ∨ inRange 60 86400 (u32 p 4) = false) := by
      simp only [inRange_eq_true.mpr hdur, Bool.true_eq_false, or_false]
      omega
    have hidle : ¬((s.taken h).sec.session.isSome = true ∨ t + 60 * tuS < s.now) := by
      rw [show (s.taken h).sec.session = none from hsession]
      rintro (hopen | hlate)
      · cases hopen
      · omega
    split
    · next hok =>
      refine State.command_oks_fixed (c := cmdServiceOpen) acc hlen ((if_neg hvalid).trans ?_)
      rw [show (s.taken h).sec.nonce = some (nonce, t) from hnonce]
      exact (if_neg hidle).trans <| (if_pos ⟨henrolled, hrevoked, hok⟩).trans rfl
    · next hbad =>
      refine State.command_ends (c := cmdServiceOpen) acc (by simp [cmdServiceOpen, lenIs, hlen]) (by omega)
        ((if_neg hvalid).trans ?_) fun hp => Bool.noConfusion hp
      rw [show (s.taken h).sec.nonce = some (nonce, t) from hnonce]
      exact (if_neg hidle).trans <| (if_neg fun hok => hbad hok.2.2).trans rfl
  · intro x hlen hsession hcl
    refine State.command_oks_fixed (c := cmdServiceClose) acc hlen ?_
    have hhere : (s.taken h).sessionHere h = true := by
      rw [State.sessionHere, show (s.taken h).sec.session = some x from hsession]
      simp [hcl]
    refine (if_pos hhere).trans ?_
    rw [State.endSession, show (s.taken h).sec.session = some x from hsession]
    rfl
  · intro hlen hroom hk hcurve hopen hfree henrolled
    have hvalid : ¬(3 < byteAt p 0 ∨ onCurve (p.drop 4) = false) := by
      rw [hcurve]
      simpa using hk
    have hallowed : ¬(((s.taken h).sec.owners.any (fun o => o.enrolled) = true ∨ (s.taken h).ownersAhead 0x1006 ≠ []) ∧
        (s.taken h).unlocked h = false) := by
      rw [State.taken_ownersAhead]
      rintro ⟨hothers, hlocked⟩
      obtain ⟨hnone, hahead⟩ | hunlocked := hopen
      · obtain hany | hsome := hothers
        · obtain ⟨o, ho, hon⟩ := List.any_eq_true.mp hany
          exact Bool.noConfusion ((hnone o ho).symm.trans hon)
        · exact hsome hahead
      · exact Bool.noConfusion (hlocked.symm.trans hunlocked)
    have hempty : ¬((at_ (s.taken h).sec.owners (byteAt p 0)).enrolled = true ∨
        byteAt p 0 ∈ (s.taken h).ownersAhead 0x1006) := by
      rw [State.taken_ownersAhead]
      exact not_or.mpr ⟨ne_true_of_eq_false henrolled, hfree⟩
    exact State.command_parks (c := cmdServiceKeyEnroll) acc (by simp [cmdServiceKeyEnroll, lenIs, hlen]) (by omega)
      ((if_neg hvalid).trans <| (if_neg hallowed).trans <| (if_neg hempty).trans rfl) hroom
  · intro j hlen hroom hk hunlocked henrolled hrevoked hj hlt hjenrolled hjrevoked hkfree hjfree
    have hleft := ownersLeft_ne_nil (s := s.taken h) hj hlt hjenrolled hjrevoked ((State.taken_ownersAhead ..).symm ▸ hjfree)
    have hvalid : ¬((at_ (s.taken h).sec.owners (byteAt p 0)).enrolled = false ∨
        (at_ (s.taken h).sec.owners (byteAt p 0)).revoked = true ∨ byteAt p 0 ∈ (s.taken h).ownersAhead 0x1007 ∨
        ((indices (s.taken h).sec.owners fun x => x.enrolled && !x.revoked).filter fun i =>
          i != byteAt p 0 && !((s.taken h).ownersAhead 0x1007).contains i) = []) :=
      not_or.mpr ⟨ne_false_of_eq_true henrolled, not_or.mpr ⟨ne_true_of_eq_false hrevoked,
        not_or.mpr ⟨(State.taken_ownersAhead ..).symm ▸ hkfree, hleft⟩⟩⟩
    exact State.command_parks (c := cmdServiceKeyRevoke) acc (by simp [cmdServiceKeyRevoke, lenIs, hlen]) (by omega)
      ((if_neg (Nat.not_lt.mpr hk)).trans <| (if_neg (ne_false_of_eq_true hunlocked)).trans <| (if_neg hvalid).trans rfl) hroom
  · intro hlen hroom hunlocked hbit
    exact State.command_parks (c := cmdSecurityCommit) acc (by simp [cmdSecurityCommit, lenIs, hlen]) (by omega)
      ((if_neg (ne_false_of_eq_true hunlocked)).trans <| (if_neg (ne_true_of_eq_false hbit)).trans rfl) hroom

/-! ## Patina -/

/-- Settles O26. -/
theorem patinaCommandsComplete : Obligations.PatinaCommandsComplete := by
  unfold Obligations.PatinaCommandsComplete
  refine fun h p s acc => ⟨?_, ?_, ?_, ?_, ?_⟩
  · intro hlen hfactor hreset
    have hok : patinaOk p = true := by simp [patinaOk, inRange, hfactor, hreset]
    exact State.command_oks_fixed (c := cmdPatinaConfig) acc hlen ((if_pos hok).trans rfl)
  · rintro hlen hspan t rfl
    exact State.command_oks_fixed (c := cmdPatinaEmitterRead) acc hlen ((if_pos hspan).trans rfl)
  · rintro hlen hkind t rfl
    refine State.command_oks_fixed (c := cmdPatinaUnitRead) acc hlen ?_
    obtain hk | hk | hk : byteAt p 0 = 0 ∨ byteAt p 0 = 1 ∨ byteAt p 0 = 2 := by omega
    · simp only [cmdPatinaUnitRead, hk]
      rfl
    · simp only [cmdPatinaUnitRead, hk]
      refine Eq.trans ?_ (congrArg (okWith · _) ((if_neg (by decide)).trans (if_pos trivial)).symm)
      refine congrArg (okWith · _) (congrArg List.flatten (List.map_congr_left fun x _ => ?_))
      cases x.fInit <;> cases x.f <;> rfl
    · simp only [cmdPatinaUnitRead, hk]
      rfl
  · rintro hlen hspan t rfl
    exact State.command_oks_fixed (c := cmdPatinaHoursRead) acc hlen ((if_pos hspan).trans rfl)
  · intro hlen hunlocked
    refine ⟨fun hkind => ?_, fun hkind => ?_⟩
    · exact State.command_oks_fixed (c := cmdPatinaReset) acc hlen ((if_neg (by omega)).trans <|
        (if_neg (ne_false_of_eq_true hunlocked)).trans <| (if_pos hkind).trans rfl)
    · exact State.command_oks_fixed (c := cmdPatinaReset) acc hlen ((if_neg (by omega)).trans <|
        (if_neg (ne_false_of_eq_true hunlocked)).trans <| (if_neg (by omega)).trans rfl)

/-! ## The firmware flash -/

/-- A slot that is not running, and for the recovery slot an unlocked session, bar nothing. -/
theorem State.slotBar_eq_none {s : State} {h : Hdr} {k : Nat} (hlock : k = 2 → s.unlocked h = true) (hslot : s.boot.slot ≠ some k) :
    s.slotBar h k = none := by
  have hopen : ¬(k = 2 ∧ s.unlocked h = false) := fun ⟨hk, hlocked⟩ => Bool.noConfusion (hlocked.symm.trans (hlock hk))
  rw [State.slotBar, if_neg hopen, if_neg hslot]

/-- Settles O27: the writes of the flash wait for it; FW_CONFIRM writes the boot record at once. -/
theorem firmwareCommandsComplete : Obligations.FirmwareCommandsComplete := by
  unfold Obligations.FirmwareCommandsComplete
  intro h p s acc k
  refine ⟨?_, ?_, ?_, ?_, ?_⟩
  · rintro hlen t rfl
    exact State.command_oks_fixed (c := cmdFwInfo) acc hlen rfl
  · intro hlen hroom hk hlock hslot
    refine State.command_parks (c := cmdFwErase) acc (by simp [cmdFwErase, lenIs, hlen]) (by omega)
      ((if_neg (Nat.not_lt.mpr hk)).trans ?_) hroom
    rw [State.slotBar_eq_none (s := s.taken h) hlock hslot]
  · intro hlen hroom hk hn hfits hlock hslot
    have hvalid : ¬(2 < byteAt p 0 ∨ inRange 1 224 (u16 p 8) = false ∨ 0x1000000 < u32 p 4 + u16 p 8) := by
      simp only [inRange_eq_true.mpr hn, Bool.true_eq_false, false_or]
      omega
    refine State.command_parks (c := cmdFwWrite) acc (by simp [cmdFwWrite, hlen]) (by omega) ((if_neg hvalid).trans ?_) hroom
    rw [State.slotBar_eq_none (s := s.taken h) hlock hslot]
  · intro hlen hroom hk
    exact State.command_parks (c := cmdFwActivate) acc (by simp [cmdFwActivate, lenIs, hlen]) (by omega)
      (if_neg (Nat.not_lt.mpr hk)) hroom
  · rintro hlen htrial hslot u rfl
    exact State.command_oks_fixed (c := cmdFwConfirm) acc hlen ((if_pos ⟨htrial, hslot⟩).trans rfl)

end Sys2Proof.Machine
end

section
/-! PROOFS. Sparse stores, the event queue, the cadence, and the mailbox: replies, takes and the checks of a command
(17 R359 to R381, 02 R28). -/
namespace Sys2Proof.Machine

/-! ## Sparse stores -/

section
variable {α : Type} [DecidableEq α] {d : α}

/-- A store in canonical form from `lo` on holds nothing below. -/
theorem spGet_of_lt {lo i : Nat} (hi : i < lo) (m : Sparse α) (w : spWfFrom d lo m = true) : spGet d m i = d := by
  induction m generalizing lo with
  | nil => rfl
  | cons y t ih =>
    obtain ⟨k, v⟩ := y
    simp only [spWfFrom, Bool.and_eq_true, decide_eq_true_eq] at w
    obtain ⟨⟨hk, -⟩, ht⟩ := w
    rw [spGet, if_neg (by omega), ih (by omega) ht]

theorem spGet_spSet_from (m : Sparse α) (lo i : Nat) (x : α) (w : spWfFrom d lo m = true) (j : Nat) :
    spGet d (spSet d m i x) j = if i = j then x else spGet d m j := by
  induction m generalizing lo with
  | nil =>
    by_cases hx : x = d
    · simp [spSet, spGet, hx]
    · simp [spSet, spGet, hx]
  | cons y t ih =>
    obtain ⟨k, v⟩ := y
    simp only [spWfFrom, Bool.and_eq_true, decide_eq_true_eq] at w
    obtain ⟨⟨-, -⟩, ht⟩ := w
    rcases Nat.lt_trichotomy k i with hlt | heq | hgt
    · rw [spSet, if_neg (by omega), if_neg (by omega), spGet, spGet, ih (k + 1) ht]
      by_cases hkj : k = j
      · rw [if_pos hkj, if_pos hkj, if_neg (by omega)]
      · rw [if_neg hkj, if_neg hkj]
    · subst heq
      rw [spSet, if_pos rfl]
      by_cases hx : x = d
      · by_cases hkj : k = j
        · subst hkj
          rw [if_pos hx, if_pos rfl, hx, spGet_of_lt (Nat.lt_succ_self k) t ht]
        · rw [if_pos hx, if_neg hkj, spGet, if_neg hkj]
      · by_cases hkj : k = j
        · rw [if_neg hx, spGet, if_pos hkj, if_pos hkj]
        · rw [if_neg hx, spGet, if_neg hkj, if_neg hkj, spGet, if_neg hkj]
    · rw [spSet, if_neg (by omega), if_pos hgt]
      by_cases hx : x = d
      · by_cases hij : i = j
        · rw [if_pos hx, if_pos hij, spGet, if_neg (by omega), hx, spGet_of_lt (by omega) t ht]
        · rw [if_pos hx, if_neg hij]
      · rw [if_neg hx, spGet]

/-- A write reaches its own address. -/
theorem spGet_spSet {m : Sparse α} (w : spWf d m = true) (i j : Nat) (x : α) :
    spGet d (spSet d m i x) j = if i = j then x else spGet d m j := spGet_spSet_from m 0 i x w j

/-- A block write leaves every address outside the block. -/
theorem spGet_spPut_of_outside {m : Sparse α} (w : spWf d m = true) (i : Nat) (xs : List α) {a : Nat}
    (ha : a < i ∨ i + xs.length ≤ a) : spGet d (spPut d m i xs) a = spGet d m a := by
  induction xs generalizing m i with
  | nil => rfl
  | cons x xs ih =>
    rw [List.length_cons] at ha
    rw [spPut, ih (spSet_wf d m i x w) (i + 1) (by omega), spGet_spSet w, if_neg (by omega)]

/-- A block write reads back. -/
theorem spGet_spPut {m : Sparse α} (w : spWf d m = true) (i : Nat) (xs : List α) {k : Nat} (hk : k < xs.length) :
    some (spGet d (spPut d m i xs) (i + k)) = xs[k]? := by
  induction xs generalizing m i k with
  | nil => cases hk
  | cons x xs ih =>
    have w' := spSet_wf d m i x w
    cases k with
    | zero => rw [Nat.add_zero, spPut, spGet_spPut_of_outside w' (i + 1) xs (by omega), spGet_spSet w, if_pos rfl]; rfl
    | succ k =>
      rw [List.length_cons] at hk
      rw [spPut, show i + (k + 1) = i + 1 + k by omega, ih w' (i + 1) (by omega)]
      rfl

/-- Two stores in canonical form that read the same are the same. -/
theorem spWfFrom_ext {lo : Nat} {m m' : Sparse α} (w : spWfFrom d lo m = true) (w' : spWfFrom d lo m' = true)
    (hread : ∀ a, spGet d m a = spGet d m' a) : m = m' := by
  induction m generalizing lo m' with
  | nil =>
    cases m' with
    | nil => rfl
    | cons y t =>
      obtain ⟨k, v⟩ := y
      simp only [spWfFrom, Bool.and_eq_true, decide_eq_true_eq] at w'
      have hk := hread k
      rw [spGet, spGet, if_pos rfl] at hk
      exact absurd hk.symm w'.1.2
  | cons y t ih =>
    obtain ⟨k, v⟩ := y
    simp only [spWfFrom, Bool.and_eq_true, decide_eq_true_eq] at w
    obtain ⟨⟨hlo, hv⟩, ht⟩ := w
    cases m' with
    | nil =>
      have hk := hread k
      rw [spGet, spGet, if_pos rfl] at hk
      exact absurd hk hv
    | cons y' t' =>
      obtain ⟨k', v'⟩ := y'
      simp only [spWfFrom, Bool.and_eq_true, decide_eq_true_eq] at w'
      obtain ⟨⟨hlo', hv'⟩, ht'⟩ := w'
      have hkk : k = k' := by
        rcases Nat.lt_trichotomy k k' with hlt | heq | hgt
        · have hk := hread k
          rw [spGet, if_pos rfl, spGet, if_neg (by omega), spGet_of_lt (by omega) t' ht'] at hk
          exact absurd hk hv
        · exact heq
        · have hk := hread k'
          rw [spGet, if_neg (by omega), spGet_of_lt (by omega) t ht, spGet, if_pos rfl] at hk
          exact absurd hk.symm hv'
      subst hkk
      have hvv : v = v' := by
        have hk := hread k
        rwa [spGet, if_pos rfl, spGet, if_pos rfl] at hk
      subst hvv
      refine congrArg ((k, v) :: ·) (ih ht ht' fun a => ?_)
      by_cases ha : a = k
      · rw [ha, spGet_of_lt (Nat.lt_succ_self k) t ht, spGet_of_lt (Nat.lt_succ_self k) t' ht']
      · have hk := hread a
        rwa [spGet, if_neg (Ne.symm ha), spGet, if_neg (Ne.symm ha)] at hk

theorem spRead_spPut {m : Sparse α} (w : spWf d m = true) (i : Nat) (xs : List α) :
    spRead d (spPut d m i xs) i xs.length = xs := by
  refine List.ext_getElem (by simp [spRead]) fun k hk hk' => ?_
  have hget := spGet_spPut w i xs hk'
  rw [List.getElem?_eq_getElem hk', Option.some_inj] at hget
  simpa [spRead] using hget

end

/-- Settles O39. -/
theorem sparseStoresReadBackWhatIsWritten : Obligations.SparseStoresReadBackWhatIsWritten := by
  unfold Obligations.SparseStoresReadBackWhatIsWritten
  exact fun d m m' i xs w => ⟨fun k hk => spGet_spPut w i xs hk, fun a ha => spGet_spPut_of_outside w i xs ha,
    spRead_spPut w i xs, fun w' hread => spWfFrom_ext w w' hread⟩

/-! ## The overflow counters of the event queue -/

/-- The counter of a code; a code without a record counts 0. -/
def lostCount (l : List (W16 × Nat)) (k : W16) : Nat := ((l.find? fun a => a.1 == k).map Prod.snd).getD 0

theorem lostCount_cons (c k : W16) (n : Nat) (l : List (W16 × Nat)) :
    lostCount ((c, n) :: l) k = if c = k then n else lostCount l k := by
  by_cases hck : c = k
  · simp [lostCount, hck]
  · simp [lostCount, hck]

theorem lostCount_eq_zero {l : List (W16 × Nat)} {k : W16} (hl : ∀ a ∈ l, a.1 ≠ k) : lostCount l k = 0 := by
  rw [lostCount, List.find?_eq_none.mpr (by simpa using fun c n ha => hl (c, n) ha)]
  rfl

theorem mem_bumpLost {code : W16} {l : List (W16 × Nat)} {a : W16 × Nat} (ha : a ∈ bumpLost code l) :
    (a.1 = code ∧ 0 < a.2) ∨ a ∈ l := by
  induction l with
  | nil =>
    rw [bumpLost, List.mem_singleton] at ha
    exact .inl (ha ▸ ⟨rfl, Nat.one_pos⟩)
  | cons x t ih =>
    obtain ⟨c, n⟩ := x
    rw [bumpLost] at ha
    split at ha
    · next hc =>
      obtain rfl | ht := List.mem_cons.mp ha
      · exact .inl ⟨hc, by simp⟩
      · exact .inr (List.mem_cons_of_mem _ ht)
    · split at ha
      · obtain rfl | ht := List.mem_cons.mp ha
        · exact .inl ⟨rfl, Nat.one_pos⟩
        · exact .inr ht
      · obtain rfl | ht := List.mem_cons.mp ha
        · exact .inr List.mem_cons_self
        · exact (ih ht).imp_right (List.mem_cons_of_mem _)

theorem bumpLost_pairwise (code : W16) {l : List (W16 × Nat)}
    (hl : l.Pairwise fun (a b : W16 × Nat) => a.1.toNat < b.1.toNat) :
    (bumpLost code l).Pairwise fun (a b : W16 × Nat) => a.1.toNat < b.1.toNat := by
  induction l with
  | nil => exact List.pairwise_singleton ..
  | cons x t ih =>
    obtain ⟨c, n⟩ := x
    obtain ⟨hhead, ht⟩ := List.pairwise_cons.mp hl
    rw [bumpLost]
    split
    · exact List.pairwise_cons.mpr ⟨hhead, ht⟩
    · next hc =>
      split
      · next hlt =>
        refine List.pairwise_cons.mpr ⟨fun a ha => ?_, hl⟩
        obtain rfl | ha := List.mem_cons.mp ha
        · exact hlt
        · exact hlt.trans (hhead a ha)
      · next hge =>
        refine List.pairwise_cons.mpr ⟨fun a ha => ?_, ih ht⟩
        obtain ⟨hcode, -⟩ | ha := mem_bumpLost ha
        · have hne : c.toNat ≠ code.toNat := fun heq => hc (BitVec.eq_of_toNat_eq heq)
          rw [hcode]
          dsimp only
          omega
        · exact hhead a ha

theorem lostCount_bumpLost_same (code : W16) {l : List (W16 × Nat)}
    (hl : l.Pairwise fun (a b : W16 × Nat) => a.1.toNat < b.1.toNat) :
    lostCount (bumpLost code l) code = min (lostCount l code + 1) 0xFFFFFFFF := by
  induction l with
  | nil => simp [bumpLost, lostCount]
  | cons x t ih =>
    obtain ⟨c, n⟩ := x
    obtain ⟨hhead, ht⟩ := List.pairwise_cons.mp hl
    rw [bumpLost]
    split
    · next hc => rw [lostCount_cons, if_pos hc, lostCount_cons, if_pos hc]
    · next hc =>
      split
      · next hlt =>
        have hnone : lostCount ((c, n) :: t) code = 0 := lostCount_eq_zero fun a ha heq => by
          obtain rfl | ha := List.mem_cons.mp ha
          · exact hc heq
          · have hgt := hhead a ha
            rw [heq] at hgt
            dsimp only at hgt
            omega
        rw [lostCount_cons, if_pos rfl, hnone]
        rfl
      · rw [lostCount_cons, if_neg hc, lostCount_cons, if_neg hc, ih ht]

theorem lostCount_bumpLost_other {code k : W16} (hk : k ≠ code) (l : List (W16 × Nat)) :
    lostCount (bumpLost code l) k = lostCount l k := by
  induction l with
  | nil => rw [bumpLost, lostCount_cons, if_neg (Ne.symm hk)]
  | cons x t ih =>
    obtain ⟨c, n⟩ := x
    rw [bumpLost]
    split
    · next hc => rw [lostCount_cons, lostCount_cons, if_neg (hc ▸ Ne.symm hk), if_neg (hc ▸ Ne.symm hk)]
    · split
      · rw [lostCount_cons, if_neg (Ne.symm hk)]
      · rw [lostCount_cons, ih, lostCount_cons]

/-- Settles O38: the queue takes the record while it has room, else the code's counter rises. -/
theorem eventQueueKeepsEveryRecord : Obligations.EventQueueKeepsEveryRecord := by
  unfold Obligations.EventQueueKeepsEveryRecord
  rintro s code src payload q q' r rfl rfl rfl hsorted hpos count rfl
  by_cases hroom : s.evq.recs.length < 1024
  · have hpush : (s.raise code src payload).evq = { s.evq with
        recs := s.evq.recs ++ [mkEvent code src (if s.tk.open_ then s.tk.tick else 0) s.offset payload],
        seq := s.evq.seq + 1 } := if_pos hroom
    rw [hpush]
    refine ⟨hsorted, hpos, fun _ => ?_, fun _ => ⟨rfl, rfl, fun _ => rfl⟩, fun hfull => absurd hroom (Nat.not_lt.mpr hfull)⟩
    rw [List.length_append]
    exact hroom
  · have hpush : (s.raise code src payload).evq = { s.evq with lost := bumpLost (BitVec.ofNat 16 code) s.evq.lost } :=
      if_neg hroom
    rw [hpush]
    refine ⟨bumpLost_pairwise _ hsorted, fun a ha => ?_, id, fun h => absurd h hroom, fun _ =>
      ⟨rfl, rfl, lostCount_bumpLost_same _ hsorted, fun k hk => lostCount_bumpLost_other hk _⟩⟩
    obtain ⟨-, h⟩ | ha := mem_bumpLost ha
    · exact h
    · exact hpos a ha

/-! ## The cadence of the ticks (02 R28) -/

theorem cadence_pos (mode : Nat) : 0 < (cadence mode).1 := by
  unfold cadence
  split <;> decide

/-- The cadence position counts modulo the cadence. -/
theorem cadenceSpan_mod (mode j m : Nat) : cadenceSpan mode (j % (cadence mode).1) m = cadenceSpan mode j m := by
  have hpos := cadence_pos mode
  rcases hcad : cadence mode with ⟨c, n⟩
  rw [hcad] at hpos
  dsimp only at hpos
  have hshift (i : Nat) : (i + j / c * c) * n / c = i * n / c + j / c * n := by
    rw [show (i + j / c * c) * n = i * n + c * (j / c * n) by ring, Nat.add_mul_div_left _ _ hpos]
  have hj : j % c + j / c * c = j := by
    rw [Nat.mul_comm]
    exact Nat.mod_add_div j c
  have hm : j % c + m + j / c * c = j + m := by omega
  have h1 := hshift (j % c + m)
  have h2 := hshift (j % c)
  rw [hm] at h1
  rw [hj] at h2
  simp only [cadenceSpan, hcad]
  omega

theorem cadenceSpan_add (mode j m m' : Nat) :
    cadenceSpan mode j (m + m') = cadenceSpan mode j m + cadenceSpan mode (j + m) m' := by
  rcases hcad : cadence mode with ⟨c, n⟩
  have h1 : j * n / c ≤ (j + m) * n / c := Nat.div_le_div_right (Nat.mul_le_mul_right n (Nat.le_add_right ..))
  have h2 : (j + m) * n / c ≤ (j + m + m') * n / c := Nat.div_le_div_right (Nat.mul_le_mul_right n (Nat.le_add_right ..))
  simp only [cadenceSpan, hcad, ← Nat.add_assoc]
  omega

/-- One full cadence lasts N tu from any position. -/
theorem cadenceSpan_full (mode j : Nat) : cadenceSpan mode j (cadence mode).1 = (cadence mode).2 := by
  have hpos := cadence_pos mode
  rcases hcad : cadence mode with ⟨c, n⟩
  rw [hcad] at hpos
  have h : (j + c) * n / c = j * n / c + n := by
    rw [Nat.add_mul, Nat.add_mul_div_left _ _ hpos]
  simp only [cadenceSpan, hcad]
  omega

theorem cadenceSpan_one (mode j : Nat) : cadenceSpan mode j 1 = baseTick mode ∨ cadenceSpan mode j 1 = baseTick mode + 1 := by
  have hpos := cadence_pos mode
  rcases hcad : cadence mode with ⟨c, n⟩
  rw [hcad] at hpos
  have h : (j + 1) * n / c = j * n / c + n / c + if c ≤ j * n % c + n % c then 1 else 0 := by
    rw [Nat.add_mul, Nat.one_mul, Nat.add_div hpos]
  simp only [cadenceSpan, baseTick, hcad, h, Nat.add_assoc, Nat.add_sub_cancel_left]
  split
  · exact .inr rfl
  · exact .inl rfl

/-- The length of the `k`th tick from `t` on, short of the wrap of the counter. -/
theorem tickLen_add (mode : Nat) {t : W32} {k : Nat} (hk : t.toNat + k < 2 ^ 32) :
    tickLen mode (t + BitVec.ofNat 32 k) = cadenceSpan mode (t.toNat + k) 1 := by
  have hto : (t + BitVec.ofNat 32 k).toNat = t.toNat + k := by
    rw [BitVec.toNat_add, BitVec.toNat_ofNat, Nat.add_mod_mod, Nat.mod_eq_of_lt hk]
  rw [tickLen, hto, cadenceSpan_mod]

theorem sum_tickLen (mode : Nat) {t : W32} {m : Nat} (hm : t.toNat + m ≤ 2 ^ 32) :
    ((List.range m).map fun k => tickLen mode (t + BitVec.ofNat 32 k)).sum = cadenceSpan mode t.toNat m := by
  induction m with
  | zero => simp [cadenceSpan]
  | succ m ih =>
    rw [List.range_succ, List.map_append, List.sum_append, ih (by omega), cadenceSpan_add, List.map_singleton, List.sum_singleton,
      tickLen_add mode (by omega)]

theorem ticksSpan_of_le (mode : Nat) {t m : Nat} (hm : t + m ≤ 2 ^ 32) : ticksSpan mode t m = cadenceSpan mode t m := by
  rw [ticksSpan, if_pos (by omega), cadenceSpan_mod]

/-- Settles O40: the lengths are the differences of floor(k × P), which telescope. -/
theorem tickLengthsFollowTheCadence : Obligations.TickLengthsFollowTheCadence := by
  unfold Obligations.TickLengthsFollowTheCadence
  intro mode _ t c n hcad
  have hc : c = (cadence mode).1 := congrArg Prod.fst hcad
  have hn : n = (cadence mode).2 := congrArg Prod.snd hcad
  refine ⟨cadenceSpan_one .., fun hwrap => ⟨?_, fun k hk => ?_⟩⟩
  · rw [sum_tickLen mode hwrap, hc, cadenceSpan_full, hn]
  · rw [ticksSpan_of_le mode (by omega), ticksSpan_of_le mode (by omega), cadenceSpan_add, tickLen_add mode (by omega)]

/-! ## The order of the checks (17 R366) -/

@[simp] theorem State.taken_remotes (s : State) (h : Hdr) : (s.taken h).mbx.remotes = s.mbx.remotes := by
  simp only [State.taken, State.countTake, Mailbox.countTake]
  split <;> rfl

@[simp] theorem State.taken_remoteTimeout (s : State) (h : Hdr) : (s.taken h).mbx.remoteTimeout = s.mbx.remoteTimeout := by
  simp only [State.taken, State.countTake, Mailbox.countTake]
  split <;> rfl

/-- Settles O36: each clause is one way through R366. -/
theorem commandsAreCheckedInOrder : Obligations.CommandsAreCheckedInOrder := by
  unfold Obligations.CommandsAreCheckedInOrder
  rintro s c h p hslot hop u rfl
  rw [State.command_eq_dispatch hslot hop]
  refine ⟨fun hfw => ?_, fun hfw hno => ?_, fun hfw => ?_⟩
  · exact (if_neg (by omega)).trans <| (if_pos (by omega)).trans rfl
  · have hother : ¬(hwOpcode c.op = true ∧ s.isHere h = true) := fun ⟨hhw, hhere⟩ =>
      hno.elim (ne_false_of_eq_true hhw) (ne_false_of_eq_true hhere)
    exact (if_pos hfw).trans <| (if_neg hother).trans rfl
  · rw [if_neg (by omega), if_neg (by omega), State.begin]
    dsimp only
    refine ⟨?_, fun hhere hmax hlen hparks hfull => ?_, fun haway hmax hroom => ⟨fun hnone => ?_, fun hsome => ?_⟩,
      fun op n hop hunknown => ?_⟩
    · rintro (hmax | ⟨hhere, hlen⟩)
      · exact if_pos hmax
      · by_cases hmax : 240 < p.length
        · exact if_pos hmax
        · exact (if_neg hmax).trans <| (if_pos hhere).trans <| if_pos (.inl hlen)
    · have hok : ¬(c.len p = false ∨ p.length ≠ p.length) := by simp [hlen]
      exact (if_neg (Nat.not_lt.mpr hmax)).trans <| (if_pos hhere).trans <| (if_neg hok).trans <|
        if_pos ⟨hparks, (State.taken_pendingCount ..).symm ▸ hfull⟩
    · refine (if_neg (Nat.not_lt.mpr hmax)).trans <| (if_neg (ne_true_of_eq_false haway)).trans <|
        (if_neg (by rw [State.taken_pendingCount]; omega)).trans ?_
      rw [State.forwardCmd, show (s.taken h).cl.addr = none from hnone]
    · obtain ⟨a, ha⟩ := Option.ne_none_iff_exists'.mp hsome
      refine ⟨{ s.taken h with mbx := { (s.taken h).mbx with
          remotes := (s.taken h).mbx.remotes ++ [Remote.mk c.op h (s.now + (s.taken h).mbx.remoteTimeout * tuMs) false],
          ctr := { (s.taken h).mbx.ctr with remoteSent := (s.taken h).mbx.ctr.remoteSent + 1 } } },
        (if_neg (Nat.not_lt.mpr hmax)).trans <| (if_neg (ne_true_of_eq_false haway)).trans <|
        (if_neg (by rw [State.taken_pendingCount]; omega)).trans ?_, ?_, rfl⟩
      · rw [State.forwardCmd, show (s.taken h).cl.addr = some a from ha]
        rfl
      · simp
    · rw [hunknown, State.dispatch, State.stirs, if_neg hop, if_neg hop, if_neg (by dsimp only; omega), if_neg (not_not.mpr hfw)]
      rfl

/-! ## Takes (17 R365, R369, R378) -/

theorem State.ringReady_of_slotFree {s : State} (h : s.slotFree = false) : s.ringReady = false := by
  rw [State.ringReady, h, Bool.and_false]

theorem State.takeRing_of_ready {s : State} (h : s.ringReady = true) : s.takeRing =
    (let t := (s.popRing (s.mbx.visible.headD 0)).dispatch s.ringHead.op (commandOf s.ringHead.op)
      ⟨.pcie, s.ringHead.tag, s.ringHead.isLocal, s.ringHead.target⟩ s.ringHead.body s.ringHead.length
    { t with mbx := { t.mbx with doorbell := none } }) :=
  if_neg (ne_false_of_eq_true h)

theorem State.takeHead_of_uncontested {s : State} {cl contested : Bool}
    (h : (contested && s.ringReady && s.clReady) = false) : s.takeHead cl contested = if cl then s.takeCl else s.takeRing :=
  if_neg (ne_true_of_eq_false h)

theorem State.takeHead_of_contested {s : State} (cl : Bool) (hring : s.ringReady = true) (hcl : s.clReady = true) :
    s.takeHead cl true = if s.mbx.tokenCl then ({ s with mbx := { s.mbx with tokenCl := !s.mbx.tokenCl } } : State).takeCl
      else ({ s with mbx := { s.mbx with tokenCl := !s.mbx.tokenCl } } : State).takeRing :=
  if_pos (by rw [hring, hcl]; rfl)

/-- Settles O29. -/
theorem takesHandleTheHead : Obligations.TakesHandleTheHead := by
  unfold Obligations.TakesHandleTheHead
  refine fun s contested => ⟨?_, ?_, ?_, ?_, ?_⟩
  · rintro hring hcl e rfl
    have hown : (contested && s.ringReady && s.clReady) = false := by
      cases contested with
      | false => rfl
      | true => simp [hcl rfl]
    exact ⟨_, rfl, congrArg done ((State.takeHead_of_uncontested hown).trans (State.takeRing_of_ready hring))⟩
  · rintro w rest hbox hring e rfl
    have hown : (contested && s.ringReady && s.clReady) = false := by
      cases contested with
      | false => rfl
      | true => simp [hring rfl]
    refine congrArg done ((State.takeHead_of_uncontested hown).trans ?_)
    simp only [if_true, State.takeCl, State.popCl, hbox, List.tail_cons]
  · rintro hring hcl u rfl
    refine ⟨fun htoken => ?_, fun htoken => ?_⟩
    · have hturn (cl : Bool) : s.takeHead cl true = ({ s with mbx := { s.mbx with tokenCl := !s.mbx.tokenCl } } : State).takeRing :=
        (State.takeHead_of_contested cl hring hcl).trans (if_neg (ne_true_of_eq_false htoken))
      exact ⟨congrArg done (hturn false), congrArg done (hturn true)⟩
    · have hturn (cl : Bool) : s.takeHead cl true = ({ s with mbx := { s.mbx with tokenCl := !s.mbx.tokenCl } } : State).takeCl :=
        (State.takeHead_of_contested cl hring hcl).trans (if_pos htoken)
      exact ⟨congrArg done (hturn false), congrArg done (hturn true)⟩
  · rintro hring e rfl hwaits
    have hdue : ¬(s.ringReady = false ∨ s.waits s.ringHead .pcie = false) :=
      not_or.mpr ⟨ne_false_of_eq_true hring, ne_false_of_eq_true hwaits⟩
    exact ⟨_, rfl, congrArg done (if_neg hdue)⟩
  · intro hfull
    refine ⟨fun c h p hpcie => if_pos ⟨hpcie, hfull⟩, ?_⟩
    exact congrArg done (if_pos (State.ringReady_of_slotFree hfull))

/-! ## The reply ring (17 R361, R364) -/

/-- BAR2 in a form that no write of the device leaves: the first address of the reply ring stands in it twice. -/
def doubledBar2 : Sparse Byte := [(0x4000, 1), (0x4000, 5)]

/-- Refutes O30: the statement names no canonical form for BAR2. In a store that holds an address twice, a byte 0 written
there removes the first entry alone, and the other is read. -/
theorem not_replyFillsOneRingSlot : ¬ Obligations.ReplyFillsOneRingSlot := by
  unfold Obligations.ReplyFillsOneRingSlot
  intro h
  obtain ⟨-, hread, -⟩ := h { State.reset with mbx := { Mailbox.reset with bar2 := doubledBar2 } } ⟨.pcie, 0, true, 0⟩
    { op := 0, tag := 0, code := 0, payload := [] } 0x4000 rfl (by decide) rfl
  exact absurd (hread 0 (by decide)) (by decide)

end Sys2Proof.Machine
end

section
/-! PROOFS. Outside completions, the host link, start-up, and the faults of the device (17 R357 to R377, 22 R456 to R470, 01 R17,
R26, 15 R326). -/
namespace Sys2Proof.Machine

/-! ## Two statements that fail -/

/-- The reset state with its firmware ready: it accepts commands. -/
def readyState : State := { State.reset with mbx := { Mailbox.reset with fwState := 1 } }

/-- Refutes O31: its third part names one shape of a parked command for every opcode, and ARRAY_CMD (0x0504) is parked with a
completion bound of 10 ms (17 R368). -/
theorem not_outsideCompletionsAnswer : ¬ Obligations.OutsideCompletionsAnswer := by
  unfold Obligations.OutsideCompletionsAnswer
  intro h
  have hacc : readyState.accepts ⟨.pcie, 0, true, 0⟩ := by
    unfold State.accepts
    decide
  obtain ⟨-, -, hflash⟩ := h readyState 0 []
  obtain ⟨hparked, -, -⟩ := hflash ⟨.pcie, 0, true, 0⟩ [0] hacc 0 0x1000000 (by decide) (by decide)
  obtain ⟨hshape, -⟩ := hparked ⟨0x0504, ⟨.pcie, 0, true, 0⟩, [0], 0, 0, none, false⟩ 0x0504 rfl _ _ rfl rfl (by decide)
    (fun hk => Nat.noConfusion hk)
  exact absurd hshape (by decide)

/-- The reset state with one request of point-ring data that waits for host memory. -/
def waitingRead : State := { State.reset with fetch := { FetchUnit.reset with
  inflight := [⟨.points 0, 1, 0, 1, true, default, 0, 0⟩] } }

/-- Refutes O32: its clause of PCIE_CONFIG_WRITE names the mailbox alone, and a write that enables the function lets a read that
waits for host memory go on (17 R356). -/
theorem not_hostLinkFollowsItsRules : ¬ Obligations.HostLinkFollowsItsRules := by
  unfold Obligations.HostLinkFollowsItsRules
  intro h
  obtain ⟨-, -, hconfig, -⟩ := h waitingRead
  have hsame := hconfig rfl true true false false fun hon => Bool.noConfusion hon
  have hstate := Host.Outcome.next.inj hsame
  have hreads := congrArg (fun t : State => t.fetch.inflight) hstate
  simp only [State.settle_fetch] at hreads
  exact absurd hreads (by decide)

/-! ## Start-up (22 R456 to R470) -/

theorem State.writeBootRec_eq (s : State) (preferred trial tries : Nat) : ∃ flash, s.writeBootRec preferred trial tries =
    { s with boot := { s.boot with flash := flash } } := ⟨_, rfl⟩

theorem State.settleTrial_eq (s : State) : ∃ flash reverted, s.settleTrial =
    { s with boot := { s.boot with flash := flash, reverted := reverted } } := by
  obtain ⟨u, hu⟩ : ∃ u : State, u = { s with boot := { s.boot with reverted := false } } := ⟨_, rfl⟩
  have htrial : s.settleTrial = if u.trialSet = false then u
      else if byteAt u.bootRec 0x0A = 0 then u.writeBootRec u.preferred 1 1
      else { (u.writeBootRec (1 - u.preferred) 0 (byteAt u.bootRec 0x0A)) with
        boot := { (u.writeBootRec (1 - u.preferred) 0 (byteAt u.bootRec 0x0A)).boot with reverted := true } } := by
    subst hu
    rfl
  obtain ⟨flash, hagain⟩ := u.writeBootRec_eq u.preferred 1 1
  obtain ⟨flash', hback⟩ := u.writeBootRec_eq (1 - u.preferred) 0 (byteAt u.bootRec 0x0A)
  rw [htrial, hagain, hback, hu]
  split
  · exact ⟨s.boot.flash, false, rfl⟩
  · split
    · exact ⟨flash, false, rfl⟩
    · exact ⟨flash', true, rfl⟩

/-- The choice of an image keeps the time and the instant of the release. -/
theorem State.chooseImage_times (s : State) (power : Bool) :
    (s.chooseImage power).now = s.now ∧ (s.chooseImage power).boot.released = s.boot.released := by
  unfold State.chooseImage
  dsimp only
  split
  · exact ⟨rfl, rfl⟩
  · exact ⟨rfl, rfl⟩

theorem State.readyDue_of {s : State} (hporst : s.boot.porstLow = false) (hfw : s.mbx.fwState = 0 ∨ s.mbx.fwState = 2) :
    s.readyDue = true := by
  obtain hfw | hfw := hfw
  · simp [State.readyDue, hporst, hfw]
  · simp [State.readyDue, hporst, hfw]

theorem State.flushDeferred_of_none {s : State} (h : s.diag.deferredEvents = []) :
    s.flushDeferred = { s with diag := { s.diag with deferredEvents := [] } } := by
  rw [State.flushDeferred, h]
  rfl

theorem State.bootDone_evq (s : State) : ∃ e : Event, e.code = 0x0181 ∧ s.bootDone.evq = s.evq.push e := ⟨_, rfl, rfl⟩

/-- The firmware becomes ready after a boot: BOOT_DONE alone. -/
theorem State.becomeReady_of_boot {s u : State} (hporst : s.boot.porstLow = false) (hfw : s.mbx.fwState = 0) (hcause : s.boot.cause = 0)
    (hnone : s.diag.deferredEvents = []) (hu : u = s.forward s.unitsDone) :
    s.becomeReady = ({ u with
      mbx := { u.mbx with fwState := 1 }, epb := { u.epb with silentSince := u.now },
      diag := { u.diag with deferredEvents := [] } }).bootDone := by
  subst hu
  have hdue := State.readyDue_of hporst (.inl hfw)
  simp only [State.becomeReady, hdue, hfw, Bool.true_eq_false, if_false, Nat.reduceBEq, Bool.false_eq_true,
    OfNat.zero_ne_ofNat, State.forward_mbx]
  rw [State.flushDeferred_of_none (by exact hnone)]
  simp only [State.cpuEvent, State.forward_boot, hcause]
  rfl

/-- The firmware becomes ready after a processor restart: the maquette follows what is live, then CPU_RESTART and BOOT_DONE. -/
theorem State.becomeReady_of_restart {s : State} (hporst : s.boot.porstLow = false) (hfw : s.mbx.fwState = 2)
    (hcause : s.boot.cause ≠ 0) (hnone : s.diag.deferredEvents = []) :
    s.becomeReady = (({ s with
      com := { s.com with maq := s.com.live }, src := { s.src with staged := s.src.live },
      mbx := { s.mbx with fwState := 1, flagRestarted := true }, epb := { s.epb with silentSince := s.now },
      boot := { s.boot with cause := 0 }, diag := { s.diag with deferredEvents := [] } } : State).raise 0x0111 0
        s.boot.cause).bootDone := by
  have hdue := State.readyDue_of hporst (.inr hfw)
  simp only [State.becomeReady, hdue, hfw, Bool.true_eq_false, if_false, if_true, Nat.reduceBEq, Bool.false_eq_true]
  rw [State.flushDeferred_of_none (by exact hnone)]
  simp only [State.cpuEvent]
  rw [if_neg (by exact hcause)]
  rfl

/-- Settles O33. -/
theorem startUpFollowsItsOrder : Obligations.StartUpFollowsItsOrder := by
  unfold Obligations.StartUpFollowsItsOrder
  refine fun s => ⟨rfl, ?_, ?_, ?_, ?_⟩
  · intro hporst
    obtain ⟨flash, reverted, htrial⟩ := State.settleTrial_eq { s with boot := { s.boot with
      porstLow := false, released := s.now, startAt := s.now } }
    obtain ⟨hnow, hreleased⟩ := State.chooseImage_times (State.settleTrial { s with boot := { s.boot with
      porstLow := false, released := s.now, startAt := s.now } }) true
    rw [htrial] at hnow hreleased
    refine ⟨_, rfl, rfl, ?_, rfl, ?_, congrArg done (if_neg (ne_false_of_eq_true hporst))⟩
    · rw [htrial, State.openTick0, State.forward]
      dsimp only
      rw [hnow, hreleased]
      dsimp only
      omega
    · intro q hq
      obtain ⟨x, -, rfl⟩ := List.mem_map.mp hq
      rfl
  · rintro hporst hfw hcause hnone u rfl
    have hready := State.becomeReady_of_boot hporst hfw hcause hnone rfl
    refine ⟨_, congrArg done hready, ?_, ?_, ?_⟩
    · rw [State.settle_mbx]
      rfl
    · rw [State.settle_com]
      rfl
    · rw [State.settle_evq]
      rfl
  · intro hporst hfw hcause hnone
    have hready := State.becomeReady_of_restart hporst hfw hcause hnone
    have hstate : (exec .firmwareReady s) = .next s.becomeReady.settle := rfl
    rw [hready] at hstate
    obtain ⟨e, hcode, hevq⟩ := State.bootDone_evq _
    refine ⟨_, e, hstate, ?_, ?_, ?_, rfl, hcode, ?_⟩
    · rw [State.settle_mbx]
      rfl
    · rw [State.settle_mbx]
      rfl
    · rw [State.settle_com]
      rfl
    · rw [State.settle_evq, hevq]
      rfl
  · intro c hstate hfw htags hreleased hcool
    have hheld : ¬(s.th.state ≠ 1 ∨ s.mbx.fwState = 5 ∨ s.noTags = false) :=
      not_or.mpr ⟨not_not.mpr hstate, not_or.mpr ⟨hfw, ne_false_of_eq_true htags⟩⟩
    have hat : s.warmAt = some (max (c + 2 * tuS) (s.th.tripAt + 2 * tuS)) := by
      rw [State.warmAt, if_neg hheld, if_neg (ne_true_of_eq_false hreleased), hcool]
      rfl
    refine congrArg done ?_
    rw [State.warmRestart, hat]

end Sys2Proof.Machine
end

section
/-! PROOFS. The faults of the whole device: the processor fault and the thermal trip, the bridge and VDRV (01 R17, R26, R499,
15 R326, R329, 24 R485). -/
namespace Sys2Proof.Machine

/-! ## What a blanked head changes -/

/-- Only heads, sinks, reads and events differ. -/
def State.BeamMoves (s t : State) : Prop := ∃ heads sinks inflight evq,
  t = { s with heads := heads, src := { s.src with sinks := sinks }, fetch := { s.fetch with inflight := inflight }, evq := evq }

/-- Only these, axes and axis interfaces differ. -/
def State.AxisMoves (s t : State) : Prop := ∃ axes ios heads sinks inflight evq, t = { s with
  axes := axes, ios := ios, heads := heads, src := { s.src with sinks := sinks },
  fetch := { s.fetch with inflight := inflight }, evq := evq }

section
variable {s t u : State}

theorem State.BeamMoves.refl (s : State) : s.BeamMoves s := ⟨s.heads, s.src.sinks, s.fetch.inflight, s.evq, rfl⟩

theorem State.BeamMoves.trans (h : s.BeamMoves t) (k : t.BeamMoves u) : s.BeamMoves u := by
  obtain ⟨_, _, _, _, rfl⟩ := h
  obtain ⟨heads, sinks, inflight, evq, rfl⟩ := k
  exact ⟨heads, sinks, inflight, evq, rfl⟩

theorem State.BeamMoves.axisMoves (h : s.BeamMoves t) : s.AxisMoves t := by
  obtain ⟨heads, sinks, inflight, evq, rfl⟩ := h
  exact ⟨s.axes, s.ios, heads, sinks, inflight, evq, rfl⟩

theorem State.BeamMoves.axes (h : s.BeamMoves t) : t.axes = s.axes := by
  obtain ⟨_, _, _, _, rfl⟩ := h
  rfl

theorem State.AxisMoves.refl (s : State) : s.AxisMoves s := (State.BeamMoves.refl s).axisMoves

theorem State.AxisMoves.trans (h : s.AxisMoves t) (k : t.AxisMoves u) : s.AxisMoves u := by
  obtain ⟨_, _, _, _, _, _, rfl⟩ := h
  obtain ⟨axes, ios, heads, sinks, inflight, evq, rfl⟩ := k
  exact ⟨axes, ios, heads, sinks, inflight, evq, rfl⟩

end

theorem State.head_beamMoves (s : State) (n : Nat) (f : Head → Head) : s.BeamMoves (s.head n f) :=
  ⟨_, s.src.sinks, s.fetch.inflight, s.evq, rfl⟩

theorem State.raise_beamMoves (s : State) (code src payload : Nat) : s.BeamMoves (s.raise code src payload) :=
  ⟨s.heads, s.src.sinks, s.fetch.inflight, _, rfl⟩

theorem State.unplan_beamMoves (s : State) (cs : List Nat) : s.BeamMoves (s.unplan cs) := by
  unfold State.unplan
  induction cs generalizing s with
  | nil => exact .refl s
  | cons c cs ih => exact State.BeamMoves.trans ⟨s.heads, _, s.fetch.inflight, s.evq, rfl⟩ (ih _)

theorem State.headDark_beamMoves (s : State) (n : Nat) : s.BeamMoves (s.headDark n) :=
  (s.unplan_beamMoves _).trans (State.head_beamMoves ..)

theorem State.discardHead_beamMoves (s : State) (n : Nat) : s.BeamMoves (s.discardHead n) :=
  State.BeamMoves.trans ⟨s.heads, s.src.sinks, _, s.evq, rfl⟩ (State.head_beamMoves ..)

theorem State.enterHead_beamMoves (s : State) (n st : Nat) : s.BeamMoves (s.enterHead n st) := by
  unfold State.enterHead
  dsimp only
  split
  · exact .refl s
  · exact (s.head_beamMoves n _).trans (State.raise_beamMoves ..)

theorem State.offDump_beamMoves (s : State) (n cause : Nat) : s.BeamMoves (s.offDump n cause) := by
  unfold State.offDump
  split
  · exact s.head_beamMoves n _
  · exact .refl s

theorem State.blankHead_beamMoves (s : State) (n cause : Nat) : s.BeamMoves (s.blankHead n cause) := by
  unfold State.blankHead
  dsimp only
  refine (s.offDump_beamMoves n cause).trans ?_
  generalize s.offDump n cause = s
  split
  · exact .refl s
  · split
    · split
      · exact .refl s
      · exact (s.head_beamMoves n _).trans (State.raise_beamMoves ..)
    · exact ((((s.headDark_beamMoves n).trans (State.discardHead_beamMoves ..)).trans (State.head_beamMoves ..)).trans
        (State.enterHead_beamMoves ..)).trans (State.raise_beamMoves ..)

theorem State.blankHeads_beamMoves (s : State) (cause : Nat) : s.BeamMoves (s.blankHeads cause) :=
  (((s.blankHead_beamMoves 0 cause).trans (State.blankHead_beamMoves ..)).trans (State.blankHead_beamMoves ..)).trans
    (State.blankHead_beamMoves ..)

/-! ## What heel changes -/

theorem State.io_axisMoves (s : State) (a : Nat) (f : AxisIo → AxisIo) : s.AxisMoves (s.io a f) :=
  ⟨s.axes, _, s.heads, s.src.sinks, s.fetch.inflight, s.evq, rfl⟩

theorem State.axis_axisMoves (s : State) (a : Nat) (f : Axis → Axis) : s.AxisMoves (s.axis a f) :=
  ⟨_, s.ios, s.heads, s.src.sinks, s.fetch.inflight, s.evq, rfl⟩

theorem State.raiseIf_axisMoves (s : State) (c : Bool) (code src payload : Nat) : s.AxisMoves (s.raiseIf c code src payload) := by
  obtain ⟨evq, hraise⟩ := s.raiseIf_evq c code src payload
  exact ⟨s.axes, s.ios, s.heads, s.src.sinks, s.fetch.inflight, evq, hraise⟩

theorem State.endMove_axisMoves (s : State) (a result : Nat) : s.AxisMoves (s.endMove a result) :=
  (s.io_axisMoves a _).trans (State.raiseIf_axisMoves ..)

theorem State.endMove_axes (s : State) (a result : Nat) : (s.endMove a result).axes = s.axes := State.raiseIf_axes ..

theorem State.heel_axisMoves (s : State) (a cause : Nat) : s.AxisMoves (s.heel a cause) := by
  have hend (t : State) (h : s.AxisMoves t) :
      s.AxisMoves (if a < 8 then (t.endMove a 1).blankHead (a / 2) (2 + a % 2) else t.endMove a 1) := by
    split
    · exact (h.trans (State.endMove_axisMoves ..)).trans (State.blankHead_beamMoves ..).axisMoves
    · exact h.trans (State.endMove_axisMoves ..)
  unfold State.heel
  dsimp only
  split
  · refine (s.axis_axisMoves a fun x => { x with closeAt := none }).trans ?_
    split
    · exact .refl _
    · exact (State.io_axisMoves ..).trans (State.raise_beamMoves ..).axisMoves
  · exact hend _ (((State.axis_axisMoves ..).trans (State.io_axisMoves ..)).trans (State.raise_beamMoves ..).axisMoves)

/-- The axis named comes to heel, and no other axis changes. -/
theorem State.heel_axes (s : State) (a cause : Nat) : ∃ f : Axis → Axis, (s.heel a cause).axes = upd s.axes a f ∧
    (f (at_ s.axes a)).state = 2 := by
  unfold State.heel
  dsimp only
  split
  · next hheel =>
    refine ⟨fun x => { x with closeAt := none }, ?_, hheel⟩
    split <;> rfl
  · refine ⟨fun x => { x with state := 2, closeAt := none, openAt := none }, ?_, rfl⟩
    split
    · exact (State.blankHead_beamMoves ..).axes.trans (State.endMove_axes ..)
    · exact State.endMove_axes ..

theorem State.heel_state (s : State) (a cause b : Nat) : (at_ (s.heel a cause).axes b).state =
    if b = a ∧ b < s.axes.length then 2 else (at_ s.axes b).state := by
  obtain ⟨f, haxes, hheel⟩ := s.heel_axes a cause
  rw [haxes, at_upd]
  by_cases hb : b = a ∧ b < s.axes.length
  · rw [if_pos ⟨hb.1.symm, hb.2⟩, if_pos hb, hb.1, hheel]
  · rw [if_neg fun h => hb ⟨h.1.symm, h.2⟩, if_neg hb]

/-- Several axes come to heel, and the others stay as they are. -/
theorem State.foldl_heel (cause : Nat) (l : List Nat) (s : State) :
    s.AxisMoves (l.foldl (fun s a => s.heel a cause) s) ∧
    ∀ b, (at_ (l.foldl (fun s a => s.heel a cause) s).axes b).state =
      if b ∈ l ∧ b < s.axes.length then 2 else (at_ s.axes b).state := by
  induction l generalizing s with
  | nil => exact ⟨.refl s, fun b => by simp⟩
  | cons a l ih =>
    obtain ⟨hmoves, hstates⟩ := ih (s.heel a cause)
    obtain ⟨f, haxes, -⟩ := s.heel_axes a cause
    refine ⟨(s.heel_axisMoves a cause).trans hmoves, fun b => (hstates b).trans ?_⟩
    rw [s.heel_state a cause b, haxes, upd_length]
    by_cases hb : b = a
    · by_cases hlt : a < s.axes.length
      · simp [hb, hlt]
      · simp [hb, hlt]
    · simp [hb]

/-! ## The bridge and VDRV -/

theorem State.bridgeFb_eq (s : State) : ∃ ios, s.bridgeFb = { s with ios := ios } := by
  unfold State.bridgeFb
  induction allAxes generalizing s with
  | nil => exact ⟨s.ios, rfl⟩
  | cons a l ih =>
    rw [List.foldl_cons]
    split
    · obtain ⟨ios, h⟩ := ih (s.fbBad a)
      exact ⟨ios, h⟩
    · exact ih s

/-- Settles O35: a lost bridge holds every sink off, and the axes named in its list come to heel. -/
theorem bridgeAndSupplyActOnTheSinks : Obligations.BridgeAndSupplyActOnTheSinks := by
  unfold Obligations.BridgeAndSupplyActOnTheSinks
  refine fun s => ⟨fun word toCore => rfl, fun word toCore => rfl, ?_, ?_, fun low => rfl⟩
  · intro hup hlen
    obtain ⟨u, hu⟩ : ∃ u : State, u = { s with show_ := { s.show_ with bridgeLost := true, bridgeHeel := true } } := ⟨_, rfl⟩
    obtain ⟨ios, hfb⟩ := u.bridgeFb_eq
    obtain ⟨hmoves, hstates⟩ := State.foldl_heel 7 u.bridgeAxes u.bridgeFb
    have hloss : s.bridgeLoss = u.bridgeAxes.foldl (fun s a => s.heel a 7) u.bridgeFb :=
      (if_neg (ne_true_of_eq_false hup)).trans (by rw [hu])
    rw [← hloss] at hmoves hstates
    have hshow : s.bridgeLoss.show_ = u.show_ := by
      obtain ⟨_, _, _, _, _, _, h⟩ := hmoves
      rw [h, hfb]
    have hheld : s.bridgeLoss.sinksHeld = true := by
      simp [State.sinksHeld, State.allOff, State.bridgeHolds, hshow, hu]
    have haxes : u.bridgeFb.axes = s.axes := by
      rw [hfb, hu]
    have hlist : u.bridgeAxes = s.bridgeAxes := by
      rw [hu]
      rfl
    have hmem (a : Nat) (ha : a ∈ s.bridgeAxes) : (at_ s.axes a).state ≠ 0 := by
      have hbridge := (List.mem_filter.mp ha).2
      rw [Bool.and_eq_true] at hbridge
      simpa using hbridge.1
    rw [hlist] at hstates
    rw [haxes] at hstates
    refine ⟨_, rfl, ?_, State.settle_held _ hheld, fun a ha hstate => ?_, fun a ha hstate => ?_⟩
    · rw [State.settle_bridgeLost, hshow, hu]
    · have hin : a ∈ s.bridgeAxes := List.mem_filter.mpr ⟨List.mem_range.mpr (by omega), by simp [hstate, ha]⟩
      rw [State.settle_axes, hstates a, if_pos ⟨hin, by omega⟩]
    · rw [State.settle_axes, hstates a, if_neg fun h => hmem a h.1 hstate, hstate]
  · intro hlost
    obtain ⟨ios, hfb⟩ := State.bridgeFb_eq { s with show_ := { s.show_ with bridgeLost := false } }
    exact ⟨ios, congrArg done ((if_pos hlost).trans hfb)⟩

/-! ## What waits when a fault comes -/

/-- FW_STATE and CPU_FAULT, and the units a fault looks at. -/
structure State.SameVitals (s t : State) : Prop where
  fwState : t.mbx.fwState = s.mbx.fwState
  flagCpuFault : t.mbx.flagCpuFault = s.mbx.flagCpuFault
  boot : t.boot = s.boot
  th : t.th = s.th
  banksAt : t.src.banksAt = s.src.banksAt
  sequencing : t.chi.sequencing = s.chi.sequencing
  axes : t.axes.length = s.axes.length

section
variable {s t u : State}

theorem State.SameVitals.trans (h : s.SameVitals t) (k : t.SameVitals u) : s.SameVitals u where
  fwState := k.fwState.trans h.fwState
  flagCpuFault := k.flagCpuFault.trans h.flagCpuFault
  boot := k.boot.trans h.boot
  th := k.th.trans h.th
  banksAt := k.banksAt.trans h.banksAt
  sequencing := k.sequencing.trans h.sequencing
  axes := k.axes.trans h.axes

theorem State.SameVitals.refl (s : State) : s.SameVitals s := ⟨rfl, rfl, rfl, rfl, rfl, rfl, rfl⟩

theorem State.foldl_sameVitals {α : Type} {g : State → α → State} (hg : ∀ (s : State) a, s.SameVitals (g s a)) (l : List α)
    (s : State) : s.SameVitals (l.foldl g s) := by
  induction l generalizing s with
  | nil => exact .refl s
  | cons a l ih => exact (hg s a).trans (ih (g s a))

theorem State.BeamMoves.sameVitals (h : s.BeamMoves t) : s.SameVitals t := by
  obtain ⟨_, _, _, _, rfl⟩ := h
  exact ⟨rfl, rfl, rfl, rfl, rfl, rfl, rfl⟩

theorem State.Sends.sameVitals (h : s.Sends t) : s.SameVitals t := by
  obtain ⟨_, _, rfl, -⟩ := h
  exact ⟨rfl, rfl, rfl, rfl, rfl, rfl, rfl⟩

end

theorem State.raiseIf_sameVitals (s : State) (c : Bool) (code src payload : Nat) : s.SameVitals (s.raiseIf c code src payload) := by
  obtain ⟨evq, hraise⟩ := s.raiseIf_evq c code src payload
  rw [hraise]
  exact ⟨rfl, rfl, rfl, rfl, rfl, rfl, rfl⟩

theorem State.answer_sameVitals (s : State) (h : Hdr) (r : Reply) : s.SameVitals (s.answer h r) := by
  unfold State.answer
  split
  · exact ⟨rfl, rfl, rfl, rfl, rfl, rfl, rfl⟩
  · exact (State.clSendTo_sends ..).sameVitals
  · exact ⟨rfl, rfl, rfl, rfl, rfl, rfl, rfl⟩
  · exact State.raiseIf_sameVitals ..

theorem State.finish_sameVitals (s : State) (c : Parked) (code : Nat) (payload : Rec) :
    s.SameVitals (s.finish c code payload) := by
  have herase : s.SameVitals { s with mbx := { s.mbx with parked := s.mbx.parked.erase c } } := ⟨rfl, rfl, rfl, rfl, rfl, rfl, rfl⟩
  unfold State.finish
  dsimp only
  split
  · exact herase
  · exact herase.trans (State.answer_sameVitals ..)

theorem State.faultReplies_sameVitals (s : State) : s.SameVitals s.faultReplies := by
  have hparked := State.foldl_sameVitals (fun s c => State.finish_sameVitals s c cFault []) s.mbx.parked s
  have hremotes (t : State) : t.SameVitals { t with mbx := { t.mbx with remotes := [] } } := ⟨rfl, rfl, rfl, rfl, rfl, rfl, rfl⟩
  exact (hparked.trans (hremotes _)).trans (State.foldl_sameVitals (fun s r => by
    split
    · exact .refl s
    · exact State.answer_sameVitals ..) _ _)

theorem State.dropPending_sameVitals (s : State) : s.SameVitals s.dropPending := by
  have hdrop : s.SameVitals s.kennelDropQueue.dropOps := ⟨rfl, rfl, rfl, rfl, rfl, rfl, rfl⟩
  have hdiscard (t : State) : t.SameVitals t.discardPending := ⟨rfl, rfl, rfl, rfl, rfl, rfl, rfl⟩
  exact (hdrop.trans (State.faultReplies_sameVitals _)).trans (hdiscard _)

theorem State.endSession_sameVitals (s : State) (reason : Nat) : s.SameVitals (s.endSession reason) := by
  unfold State.endSession
  split
  · exact .refl s
  · exact ⟨rfl, rfl, rfl, rfl, rfl, rfl, rfl⟩

theorem State.epbHalt_sameVitals (s : State) : s.SameVitals s.epbHalt :=
  (State.foldl_sameVitals (g := State.epbCut) (fun _ _ => ⟨rfl, rfl, rfl, rfl, rfl, rfl, rfl⟩) [0, 1, 2, 3] s).trans
    ⟨rfl, rfl, rfl, rfl, rfl, rfl, rfl⟩

/-- All sixteen axes come to heel; the rest that a fault looks at stays. -/
theorem State.heelAll (s : State) (cause : Nat) (hlen : s.axes.length = 16) :
    s.SameVitals (allAxes.foldl (fun s a => s.heel a cause) s) ∧
      ∀ a < 16, (at_ (allAxes.foldl (fun s a => s.heel a cause) s).axes a).state = 2 := by
  have hone (s : State) (a : Nat) : s.SameVitals (s.heel a cause) := by
    obtain ⟨f, haxes, -⟩ := s.heel_axes a cause
    obtain ⟨_, _, _, _, _, _, h⟩ := s.heel_axisMoves a cause
    refine ⟨by rw [h], by rw [h], by rw [h], by rw [h], by rw [h], by rw [h], ?_⟩
    rw [haxes, upd_length]
  refine ⟨State.foldl_sameVitals hone _ s, fun a ha => ((State.foldl_heel cause allAxes s).2 a).trans (if_pos ⟨?_, by omega⟩)⟩
  exact List.mem_range.mpr ha

/-! ## The processor fault -/

theorem State.constancyRestart_sameVitals (s : State) : s.SameVitals s.constancyRestart := ⟨rfl, rfl, rfl, rfl, rfl, rfl, rfl⟩

/-- The part of a processor fault that comes before the image is chosen again. -/
def State.faultStop (s : State) : State :=
  (allAxes.foldl (fun s a => s.heel a 8) ((s.dropPending.blankHeads 5).epbHalt.endSession 2)).constancyRestart

theorem State.faultStop_spec (s : State) (hlen : s.axes.length = 16) :
    s.SameVitals s.faultStop ∧ ∀ a < 16, (at_ s.faultStop.axes a).state = 2 := by
  have hstop : s.SameVitals ((s.dropPending.blankHeads 5).epbHalt.endSession 2) :=
    ((s.dropPending_sameVitals.trans (State.blankHeads_beamMoves ..).sameVitals).trans (State.epbHalt_sameVitals _)).trans
      (State.endSession_sameVitals ..)
  obtain ⟨hkeep, hheel⟩ := State.heelAll _ 8 (hstop.axes.trans hlen)
  unfold State.faultStop
  generalize allAxes.foldl (fun s a => s.heel a 8) ((s.dropPending.blankHeads 5).epbHalt.endSession 2) = u at hkeep hheel
  exact ⟨(hstop.trans hkeep).trans u.constancyRestart_sameVitals, hheel⟩

theorem State.chooseImage_cases (s : State) (power : Bool) :
    (∃ k fallback trial, s.chooseImage power = { s with boot := { s.boot with slot := some k, fallback := fallback, trial := trial } }) ∨
      s.chooseImage power = s.recover := by
  unfold State.chooseImage
  dsimp only
  split
  · exact .inl ⟨_, _, _, rfl⟩
  · exact .inr rfl

/-- A fault of a running processor. -/
theorem State.cpuFault_running {s : State} (hporst : s.boot.porstLow = false) (hlen : s.axes.length = 16) (hfw : s.mbx.fwState = 1)
    (cause : Nat) : (s.cpuFault cause).mbx.flagCpuFault = true ∧ (s.cpuFault cause).boot.cause = cause ∧
      (s.cpuFault cause).boot.restart = 1 ∧
      (((s.cpuFault cause).mbx.fwState = 2 ∧ ∀ a < 16, (at_ (s.cpuFault cause).axes a).state = 2) ∨
        ((s.cpuFault cause).mbx.fwState = 5 ∧ (s.cpuFault cause).axes = State.reset.axes)) := by
  obtain ⟨u, hu⟩ : ∃ u : State, u = { s with
    mbx := { s.mbx with flagCpuFault := true, fwState := 2 },
    boot := { s.boot with cause := cause, restart := 1, startAt := s.now, reverted := false },
    chi := { s.chi with plinthWait := some 2 } } := ⟨_, rfl⟩
  have hidle : ¬(s.mbx.fwState = 4 ∨ s.mbx.fwState = 5 ∨ (s.mbx.fwState = 3 ∧ s.th.state ≠ 2) ∨ s.boot.porstLow = true) := by
    simp [hfw, hporst]
  have hfault : s.cpuFault cause = u.faultStop.chooseImage false := by
    unfold State.cpuFault State.faultStop
    dsimp only
    rw [if_neg hidle, if_pos (.inl hfw), hu]
  obtain ⟨hkeep, hheel⟩ := u.faultStop_spec (by rw [hu]; exact hlen)
  have hcause : u.faultStop.boot.cause = cause ∧ u.faultStop.boot.restart = 1 := by
    rw [hkeep.boot, hu]
    exact ⟨rfl, rfl⟩
  have hflag : u.faultStop.mbx.flagCpuFault = true ∧ u.faultStop.mbx.fwState = 2 := by
    rw [hkeep.flagCpuFault, hkeep.fwState, hu]
    exact ⟨rfl, rfl⟩
  rw [hfault]
  generalize u.faultStop = x at hheel hcause hflag
  obtain ⟨k, fallback, trial, himage⟩ | hrecover := x.chooseImage_cases false
  · rw [himage]
    exact ⟨hflag.1, hcause.1, hcause.2, .inl ⟨hflag.2, hheel⟩⟩
  · rw [hrecover]
    exact ⟨hflag.1, hcause.1, hcause.2, .inr ⟨rfl, rfl⟩⟩

/-! ## The thermal trip -/

/-- What a trip stops: outputs, what is pending, heads, the session, and the axes. -/
def State.tripStop (s : State) : State :=
  allAxes.foldl (fun s a => s.heel a 8) ((s.stopOutputs.dropPending.blankHeads 5).endSession 3)

theorem State.stopOutputs_eq (s : State) : ∃ u : State, s.stopOutputs = { u with
      src := { u.src with banksAt := none }, pl := { u.pl with groupsAt := List.replicate 12 none },
      tk := { u.tk with inSlot := none, wasSlot := none }, chi := { u.chi with sequencing := false, plinthWait := none } } ∧
    (State.dropReads (State.kennelCut s.stopDrives)).SameVitals u :=
  ⟨(State.dropReads (State.kennelCut s.stopDrives)).epbHalt, rfl, State.epbHalt_sameVitals _⟩

theorem State.stopOutputs_spec (s : State) : s.stopOutputs.mbx.fwState = s.mbx.fwState ∧
    s.stopOutputs.th = { s.th with lostWrite := s.stopOutputs.th.lostWrite } ∧ s.stopOutputs.src.banksAt = none ∧
    s.stopOutputs.chi.sequencing = false ∧ s.stopOutputs.axes.length = s.axes.length := by
  obtain ⟨u, hu, hkeep⟩ := s.stopOutputs_eq
  rw [hu]
  refine ⟨hkeep.fwState, ?_, rfl, rfl, hkeep.axes⟩
  dsimp only
  rw [hkeep.th]
  rfl

theorem State.tripStop_spec (s : State) (hlen : s.axes.length = 16) :
    s.tripStop.mbx.fwState = s.mbx.fwState ∧ s.tripStop.th = { s.th with lostWrite := s.tripStop.th.lostWrite } ∧
      s.tripStop.src.banksAt = none ∧ s.tripStop.chi.sequencing = false ∧ ∀ a < 16, (at_ s.tripStop.axes a).state = 2 := by
  obtain ⟨hfw, hth, hbanks, hseq, haxes⟩ := s.stopOutputs_spec
  have hstop : s.stopOutputs.SameVitals ((s.stopOutputs.dropPending.blankHeads 5).endSession 3) :=
    ((State.dropPending_sameVitals _).trans (State.blankHeads_beamMoves ..).sameVitals).trans (State.endSession_sameVitals ..)
  obtain ⟨hkeep, hheel⟩ := State.heelAll _ 8 ((hstop.axes.trans haxes).trans hlen)
  have hall : s.stopOutputs.SameVitals s.tripStop := hstop.trans hkeep
  refine ⟨hall.fwState.trans hfw, ?_, hall.banksAt.trans hbanks, hall.sequencing.trans hseq, hheel⟩
  rw [hall.th]
  exact hth

theorem State.settle_banksAt (s : State) : s.settle.src.banksAt = s.src.banksAt := rfl

/-- A trip, with what it sets and then what it stops. -/
theorem State.trip_eq (s : State) (z source : Nat) : ∃ (u : State) (lock : Bool), s.trip z source = u.tripStop ∧ u.axes = s.axes ∧
    u.mbx.fwState = (if s.mbx.fwState = 5 then 5 else if lock then 4 else 3) ∧ u.th.state = (if lock then 3 else 1) ∧
    u.th.trips = s.th.trips + 1 ∧ u.th.tripMask = 2 ^ z ∧ u.th.tripAt = s.now ∧
    (lock = true ↔ s.th.state = 3 ∨
      3 ≤ ((s.now :: s.th.tripTimes).filter fun x => decide (s.now - x ≤ 600 * tuS)).length) := by
  refine ⟨_, s.th.state == 3 || decide (3 ≤ ((s.now :: s.th.tripTimes).filter fun x => decide (s.now - x ≤ 600 * tuS)).length),
    rfl, rfl, rfl, rfl, rfl, rfl, rfl, ?_⟩
  simp only [Bool.or_eq_true, beq_iff_eq, decide_eq_true_eq]

/-- Settles O34. -/
theorem faultsSendEveryAxisToHeel : Obligations.FaultsSendEveryAxisToHeel := by
  unfold Obligations.FaultsSendEveryAxisToHeel
  refine fun s hporst hlen => ⟨fun hfw => ?_, fun hfw hhalted => ?_, fun z hz => ?_⟩
  · obtain ⟨hflag, hcause, hrestart, hend⟩ := State.cpuFault_running hporst hlen hfw 1
    refine ⟨_, rfl, ?_⟩
    rw [State.settle_mbx, State.settle_boot, State.settle_axes]
    exact ⟨hflag, hcause, hrestart, hend⟩
  · obtain ⟨hflag, hcause, -, hend⟩ := State.cpuFault_running hporst hlen hfw 2
    refine ⟨_, congrArg done (if_neg (ne_true_of_eq_false hhalted)), ?_⟩
    rw [State.settle_mbx, State.settle_boot, State.settle_axes]
    exact ⟨hflag, hcause, hend⟩
  · obtain ⟨u, lock, htrip, haxes, hstate, hth, htrips, hmask, hat, hlock⟩ := s.trip_eq z 0
    have hcomp : s.comparator z = s.trip z 0 := if_neg (by simp [hporst, hz])
    obtain ⟨hfw, hkeep, hbanks, hseq, hheel⟩ := u.tripStop_spec (haxes ▸ hlen)
    rw [← htrip] at hfw hkeep hbanks hseq hheel
    rw [hstate] at hfw
    replace hth : (s.trip z 0).th.state = if lock then 3 else 1 := by rw [hkeep, hth]
    have hheld : (s.trip z 0).sinksHeld = true := by
      have hon : (s.trip z 0).th.state ≠ 0 := by
        rw [hth]
        cases lock <;> decide
      simp [State.sinksHeld, State.allOff, hon]
    refine ⟨_, congrArg done hcomp, ?_⟩
    rw [State.settle_th, State.settle_mbx, State.settle_banksAt, State.settle_chi, State.settle_axes, hth, hfw]
    refine ⟨by rw [hkeep, htrips], by rw [hkeep, hmask], by rw [hkeep, hat], ?_, ?_, ?_, hbanks, hseq, State.settle_held _ hheld, hheel⟩
    · rw [← hlock]
      cases lock <;> simp
    · cases lock <;> simp
    · cases lock <;> simp

end Sys2Proof.Machine
end

section
/-! PROOFS. The timers of service sessions, the trigger inputs and the interlock (21 R444, R445, 13 R293 to R295, 20 R432). -/
namespace Sys2Proof.Machine

/-- Settles O60. -/
theorem sessionTimersRun : Obligations.SessionTimersRun := by
  unfold Obligations.SessionTimersRun
  refine fun s => ⟨fun x hx => ⟨_, rfl, congrArg done ?_⟩, fun v at' hv => congrArg done ?_, fun at' hat => congrArg done ?_,
    fun halted hopen => congrArg done (if_pos hopen), fun halted hclosed => congrArg done (if_neg (ne_true_of_eq_false hclosed))⟩
  · rw [State.sessionExpiry, hx]
    dsimp only
    rw [State.endSession, show (s.forward x.endsAt).sec.session = some x from hx]
    rfl
  · rw [State.nonceExpiry, hv]
    rfl
  · rw [State.lockExpiry, hat]
    rfl

/-! ## Triggers -/

/-- The moves armed on an input start, and nothing else changes. -/
theorem State.startArmed_eq (s : State) (i : Nat) : ∃ ios, s.startArmed i = { s with ios := ios } ∧
    ∀ a < 16, a < s.ios.length → ∀ v, (at_ s.ios a).armed = some (i, v) →
      (at_ ios a).newTarget = some (s.now, v) ∧ (at_ ios a).armed = none := by
  have hfold (l : List Nat) (hl : l.Nodup) (s : State) : ∃ ios,
      l.foldl (fun (s : State) a => s.io a fun x => match x.armed with
        | some (t, v) => if t = i then { x with armed := none, newTarget := some (s.now, v) } else x
        | none => x) s = { s with ios := ios } ∧
      (∀ a, a ∉ l → at_ ios a = at_ s.ios a) ∧
      ∀ a ∈ l, a < s.ios.length → ∀ v, (at_ s.ios a).armed = some (i, v) →
        (at_ ios a).newTarget = some (s.now, v) ∧ (at_ ios a).armed = none := by
    induction l generalizing s with
    | nil => exact ⟨s.ios, rfl, fun _ _ => rfl, fun _ ha => by cases ha⟩
    | cons b l ih =>
      obtain ⟨hb, hl⟩ := List.nodup_cons.mp hl
      obtain ⟨ios, hios, hout, hin⟩ := ih hl (s.io b fun x => match x.armed with
        | some (t, v) => if t = i then { x with armed := none, newTarget := some (s.now, v) } else x
        | none => x)
      refine ⟨ios, hios, fun a ha => ?_, fun a ha hlt v hv => ?_⟩
      · rw [hout a fun h => ha (List.mem_cons_of_mem _ h)]
        have hab : ¬(b = a ∧ a < s.ios.length) := fun h => ha (h.1 ▸ List.mem_cons_self)
        exact (at_upd ..).trans (if_neg hab)
      · by_cases hab : a = b
        · subst hab
          rw [hout a hb]
          have hset : at_ (upd s.ios a fun x => match x.armed with
              | some (t, v) => if t = i then { x with armed := none, newTarget := some (s.now, v) } else x
              | none => x) a = { at_ s.ios a with armed := none, newTarget := some (s.now, v) } := by
            rw [at_upd, if_pos ⟨rfl, hlt⟩]
            simp only [hv, if_true]
          exact ⟨congrArg AxisIo.newTarget hset, congrArg AxisIo.armed hset⟩
        · refine hin a ((List.mem_cons.mp ha).resolve_left hab) ?_ v ?_
          · exact hlt.trans_eq (upd_length ..).symm
          · refine (congrArg AxisIo.armed ((at_upd ..).trans (if_neg fun h => hab h.1.symm))).trans hv
  obtain ⟨ios, hios, -, hin⟩ := hfold allAxes List.nodup_range s
  exact ⟨ios, hios, fun a ha => hin a (List.mem_range.mpr ha)⟩

/-- A trigger of this tick that is not the first: counted apart. -/
theorem State.trigger_of_again {s : State} {i : Nat} {tick : W32} {ofs : Nat} (hon : s.trigEnabled i = true)
    (hfree : (at_ s.show_.trigs i).stuck = false) (hdate : (tick, ofs) = s.dateOf (s.now - s.trigFilt i))
    (hlast : (at_ s.show_.trigs i).lastTick = some tick) :
    s.trigger i = { s with show_ := { s.show_ with trigs := upd s.show_.trigs i fun x =>
      { x with level := s.trigHigh i, active := true, since := s.now, extra := x.extra + 1 } } } := by
  have hheld : ¬(s.trigEnabled i = false ∨ (at_ s.show_.trigs i).stuck = true) :=
    not_or.mpr ⟨ne_false_of_eq_true hon, ne_true_of_eq_false hfree⟩
  unfold State.trigger
  dsimp only
  rw [if_neg hheld, ← hdate]
  refine (if_pos hlast).trans ?_
  simp only [State.trig, upd_upd]

/-- The first trigger of a tick: its event, and the moves armed on it. -/
theorem State.trigger_of_first {s : State} {i : Nat} {tick : W32} {ofs : Nat} (hi : i < s.show_.trigs.length)
    (hon : s.trigEnabled i = true) (hfree : (at_ s.show_.trigs i).stuck = false)
    (hdate : (tick, ofs) = s.dateOf (s.now - s.trigFilt i)) (hlast : (at_ s.show_.trigs i).lastTick ≠ some tick) :
    s.trigger i = State.startArmed { s with
      evq := s.evq.push (mkEvent 0x0983 i tick ofs ((at_ s.show_.trigs i).count + 1).toNat),
      show_ := { s.show_ with trigs := upd s.show_.trigs i fun x =>
        { x with level := s.trigHigh i, active := true, since := s.now, lastTick := some tick, count := x.count + 1 } } } i := by
  have hheld : ¬(s.trigEnabled i = false ∨ (at_ s.show_.trigs i).stuck = true) :=
    not_or.mpr ⟨ne_false_of_eq_true hon, ne_true_of_eq_false hfree⟩
  unfold State.trigger
  dsimp only
  rw [if_neg hheld, ← hdate]
  refine (if_neg hlast).trans ?_
  simp only [State.trig, upd_upd, at_upd, hi, and_self, if_true]
  rfl

/-! ## The interlock -/

/-- The head is blanked, the interlock among its causes. -/
def Head.IlkBlanked (h : Head) : Prop := h.state = 3 ∧ bit h.causes 1 = true

/-- The state and the causes of a head. -/
def Head.stand (h : Head) : Nat × Nat := (h.state, h.causes)

theorem State.head_stand (s : State) (m : Nat) (f : Head → Head) (n : Nat) (hf : (f (at_ s.heads n)).stand = (at_ s.heads n).stand) :
    (at_ (s.head m f).heads n).stand = (at_ s.heads n).stand := by
  rw [State.head, at_upd]
  split
  · exact hf
  · rfl

theorem State.unplan_heads (s : State) (cs : List Nat) : (s.unplan cs).heads = s.heads := by
  unfold State.unplan
  induction cs generalizing s with
  | nil => rfl
  | cons c cs ih => exact (ih _).trans rfl

theorem State.enterHead_stand {s : State} {n : Nat} (hn : n < s.heads.length) (m st : Nat) :
    (at_ (s.enterHead m st).heads n).stand = (if m = n then st else (at_ s.heads n).state, (at_ s.heads n).causes) := by
  unfold State.enterHead
  dsimp only
  split
  · next hsame =>
    by_cases hm : m = n
    · rw [if_pos hm, ← hsame, hm]
      rfl
    · rw [if_neg hm]
      rfl
  · rw [State.raise_heads, State.head, at_upd]
    by_cases hm : m = n
    · rw [if_pos ⟨hm, hn⟩, if_pos hm]
      rfl
    · rw [if_neg fun h => hm h.1, if_neg hm]
      rfl

theorem State.offDump_stand (s : State) (m c n : Nat) : (at_ (s.offDump m c).heads n).stand = (at_ s.heads n).stand := by
  unfold State.offDump
  split
  · exact s.head_stand m _ n rfl
  · rfl

theorem State.offDump_length (s : State) (m c : Nat) : (s.offDump m c).heads.length = s.heads.length := by
  unfold State.offDump
  split
  · exact upd_length ..
  · rfl

theorem State.headDark_stand (s : State) (m n : Nat) : (at_ (s.headDark m).heads n).stand = (at_ s.heads n).stand := by
  unfold State.headDark State.headStill
  dsimp only
  rw [State.head_stand _ _ _ _ rfl, State.unplan_heads]

theorem State.headDark_length (s : State) (m : Nat) : (s.headDark m).heads.length = s.heads.length := by
  unfold State.headDark State.headStill
  exact (upd_length ..).trans (congrArg List.length (State.unplan_heads ..))

theorem State.discardHead_stand (s : State) (m n : Nat) : (at_ (s.discardHead m).heads n).stand = (at_ s.heads n).stand :=
  State.head_stand _ _ _ _ rfl

/-- The causes once `c` is among them. -/
def addCause (causes c : Nat) : Nat := if bit causes c then causes else causes + 2 ^ c

/-- Blanking adds its cause to a head that is not off, and the head is BLANKED. -/
theorem State.blankHead_stand {s : State} {n : Nat} (hn : n < s.heads.length) (m c : Nat) :
    (at_ (s.blankHead m c).heads n).stand =
      if m = n ∧ (at_ s.heads n).state ≠ 0 then (3, addCause (at_ s.heads n).causes c) else (at_ s.heads n).stand := by
  have hadd (t : State) (ht : n < t.heads.length) (f : Nat → Nat) :
      (at_ (t.head m fun h => { h with causes := f h.causes }).heads n).stand =
        ((at_ t.heads n).state, if m = n then f (at_ t.heads n).causes else (at_ t.heads n).causes) := by
    rw [State.head, at_upd]
    by_cases hm : m = n
    · rw [if_pos ⟨hm, ht⟩, if_pos hm]
      rfl
    · rw [if_neg fun h => hm h.1, if_neg hm]
      rfl
  have hstand (k : Nat) : (at_ (s.offDump m c).heads k).stand = (at_ s.heads k).stand := s.offDump_stand m c k
  have hstate (k : Nat) : (at_ (s.offDump m c).heads k).state = (at_ s.heads k).state := congrArg Prod.fst (hstand k)
  have hcauses (k : Nat) : (at_ (s.offDump m c).heads k).causes = (at_ s.heads k).causes := congrArg Prod.snd (hstand k)
  have hlen : n < (s.offDump m c).heads.length := hn.trans_eq (s.offDump_length m c).symm
  unfold State.blankHead
  dsimp only
  rw [← hstand n, ← hstate n, ← hcauses n]
  generalize s.offDump m c = u at hlen
  by_cases hzero : (at_ u.heads m).state = 0
  · rw [if_pos hzero, if_neg]
    rintro ⟨rfl, hne⟩
    exact hne hzero
  · rw [if_neg hzero]
    by_cases hblank : (at_ u.heads m).state = 3
    · rw [if_pos hblank]
      by_cases hbit : bit (at_ u.heads m).causes c = true
      · rw [if_pos hbit]
        by_cases hm : m = n
        · subst hm
          rw [if_pos ⟨rfl, hzero⟩, addCause, if_pos hbit, ← hblank]
          rfl
        · rw [if_neg fun h => hm h.1]
      · rw [if_neg hbit, State.raise_heads]
        refine (hadd u hlen fun x => x + 2 ^ c).trans ?_
        by_cases hm : m = n
        · subst hm
          rw [if_pos rfl, if_pos ⟨rfl, hzero⟩, addCause, if_neg hbit, hblank]
        · rw [if_neg hm, if_neg fun h => hm h.1]
          rfl
    · rw [if_neg hblank, State.raise_heads]
      have hdark : (at_ ((u.headDark m).discardHead m).heads n).stand = (at_ u.heads n).stand :=
        (State.discardHead_stand ..).trans (State.headDark_stand ..)
      have hdarklen : n < ((u.headDark m).discardHead m).heads.length :=
        hlen.trans_eq ((upd_length ..).trans (u.headDark_length m)).symm
      generalize (u.headDark m).discardHead m = v at hdark hdarklen
      have hv := hadd v hdarklen fun x => addCause x c
      rw [State.enterHead_stand (hdarklen.trans_eq (upd_length ..).symm)]
      have hstate := Eq.trans (b := (at_ v.heads n).state) (congrArg Prod.fst hv) (congrArg Prod.fst hdark)
      have hcauses := congrArg Prod.snd hdark
      by_cases hm : m = n
      · subst hm
        rw [if_pos rfl, if_pos ⟨rfl, hzero⟩]
        exact Prod.ext rfl ((congrArg Prod.snd hv).trans ((if_pos rfl).trans (congrArg (addCause · c) hcauses)))
      · rw [if_neg hm, if_neg fun h => hm h.1]
        exact Prod.ext hstate ((congrArg Prod.snd hv).trans ((if_neg hm).trans hcauses))

theorem bit_addCause_self (causes c : Nat) : bit (addCause causes c) c = true := by
  unfold addCause
  split
  · assumption
  · next hbit =>
    rw [bit, Nat.add_comm, Nat.testBit_two_pow_add_eq]
    simpa [bit] using hbit

theorem bit_addCause_of_lt {causes c i : Nat} (hlt : i < c) : bit (addCause causes c) i = bit causes i := by
  unfold addCause
  split
  · rfl
  · rw [bit, Nat.add_comm, Nat.testBit_two_pow_add_gt hlt]
    rfl

/-- A head that the interlock has blanked stays so while another cause is added. -/
theorem State.blankHead_ilkBlanked {s : State} {n : Nat} (hn : n < s.heads.length) (m : Nat) {c : Nat} (hc : 1 ≤ c)
    (hb : (at_ s.heads n).IlkBlanked) : (at_ (s.blankHead m c).heads n).IlkBlanked := by
  obtain ⟨hstate, hbit⟩ := hb
  have h := s.blankHead_stand hn m c
  split at h
  · refine ⟨congrArg Prod.fst h, (congrArg (bit · 1) (congrArg Prod.snd h)).trans ?_⟩
    rcases Nat.eq_or_lt_of_le hc with rfl | hlt
    · exact bit_addCause_self ..
    · exact (bit_addCause_of_lt hlt).trans hbit
  · exact ⟨(congrArg Prod.fst h).trans hstate, (congrArg (bit · 1) (congrArg Prod.snd h)).trans hbit⟩

theorem State.enterHead_length (s : State) (m st : Nat) : (s.enterHead m st).heads.length = s.heads.length := by
  unfold State.enterHead
  dsimp only
  split
  · rfl
  · exact upd_length ..

theorem State.blankHead_length (s : State) (m c : Nat) : (s.blankHead m c).heads.length = s.heads.length := by
  unfold State.blankHead
  dsimp only
  rw [← s.offDump_length m c]
  split
  · rfl
  · split
    · split
      · rfl
      · exact upd_length ..
    · rw [State.raise_heads, State.enterHead_length]
      exact (upd_length ..).trans ((upd_length ..).trans (State.headDark_length ..))

/-- The interlock blanks every head that is not off. -/
theorem State.blankHeads_ilkBlanked {s : State} (hlen : s.heads.length = 4) {n : Nat} (hn : n < 4) (hon : (at_ s.heads n).state ≠ 0) :
    (at_ (s.blankHeads 1).heads n).IlkBlanked ∧ (s.blankHeads 1).heads.length = 4 := by
  have hfold (l : List Nat) (s : State) (hlen : s.heads.length = 4) :
      ((l.foldl (fun (s : State) m => s.blankHead m 1) s).heads.length = 4) ∧
      ((at_ s.heads n).IlkBlanked ∨ (n ∈ l ∧ (at_ s.heads n).state ≠ 0) →
        (at_ (l.foldl (fun (s : State) m => s.blankHead m 1) s).heads n).IlkBlanked) := by
    induction l generalizing s with
    | nil => exact ⟨hlen, fun h => h.resolve_right fun h => nomatch h.1⟩
    | cons m l ih =>
      obtain ⟨hlen', hblank⟩ := ih (s.blankHead m 1) ((s.blankHead_length m 1).trans hlen)
      have hns : n < s.heads.length := hn.trans_eq hlen.symm
      refine ⟨hlen', fun h => hblank ?_⟩
      rcases h with h | ⟨hmem, hon⟩
      · exact .inl (s.blankHead_ilkBlanked hns m (le_refl 1) h)
      · have hst := s.blankHead_stand hns m 1
        by_cases hm : m = n
        · rw [if_pos ⟨hm, hon⟩] at hst
          exact .inl ⟨congrArg Prod.fst hst, (congrArg (bit · 1) (congrArg Prod.snd hst)).trans (bit_addCause_self ..)⟩
        · rw [if_neg fun h => hm h.1] at hst
          exact .inr ⟨(List.mem_cons.mp hmem).resolve_left (Ne.symm hm), fun h => hon ((congrArg Prod.fst hst).symm.trans h)⟩
  obtain ⟨hlen', hblank⟩ := hfold [0, 1, 2, 3] s hlen
  exact ⟨hblank (.inr ⟨by simp; omega, hon⟩), hlen'⟩

/-- Heel of axes takes no head out of the interlock's blanking. -/
theorem State.heel_ilkBlanked {s : State} {n : Nat} (hlen : s.heads.length = 4) (hn : n < 4) (a cause : Nat)
    (hb : (at_ s.heads n).IlkBlanked) : (at_ (s.heel a cause).heads n).IlkBlanked ∧ (s.heel a cause).heads.length = 4 := by
  have hraise (t : State) (c : Bool) (code src payload : Nat) : (t.raiseIf c code src payload).heads = t.heads := by
    unfold State.raiseIf
    split <;> rfl
  unfold State.heel
  split
  · dsimp only
    split
    · exact ⟨hb, hlen⟩
    · exact ⟨hb, hlen⟩
  · dsimp only
    split
    · refine ⟨State.blankHead_ilkBlanked ?_ _ (by omega) ?_, (State.blankHead_length ..).trans ?_⟩
      all_goals unfold State.endMove; rw [hraise]
      · exact hn.trans_eq hlen.symm
      · exact hb
      · exact hlen
    · unfold State.endMove
      rw [hraise]
      exact ⟨hb, hlen⟩

theorem State.foldl_heel_ilkBlanked {n : Nat} (hn : n < 4) (cause : Nat) (l : List Nat) (s : State) (hlen : s.heads.length = 4)
    (hb : (at_ s.heads n).IlkBlanked) :
    (at_ (l.foldl (fun (s : State) a => s.heel a cause) s).heads n).IlkBlanked := by
  induction l generalizing s with
  | nil => exact hb
  | cons a l ih =>
    obtain ⟨hb', hlen'⟩ := State.heel_ilkBlanked hlen hn a cause hb
    exact ih _ hlen' hb'

/-! ## Effect outputs under the interlock -/

/-- Only outputs of the effect bus in `l` differ. -/
def State.OutChanges (l : List Nat) (s t : State) : Prop := ∃ outs, t = { s with epb := { s.epb with outs := outs } } ∧
  outs.length = s.epb.outs.length ∧ ∀ n ∉ l, at_ outs n = at_ s.epb.outs n

theorem State.OutChanges.refl (l : List Nat) (s : State) : State.OutChanges l s s := ⟨s.epb.outs, rfl, rfl, fun _ _ => rfl⟩

theorem State.OutChanges.trans {l : List Nat} {s t u : State} (h : State.OutChanges l s t) (k : State.OutChanges l t u) :
    State.OutChanges l s u := by
  obtain ⟨o, rfl, hlen, hat⟩ := h
  obtain ⟨p, rfl, hlen', hat'⟩ := k
  exact ⟨p, rfl, hlen'.trans hlen, fun n hn => (hat' n hn).trans (hat n hn)⟩

theorem State.OutChanges.mono {k l : List Nat} {s t : State} (h : State.OutChanges k s t) (hkl : k ⊆ l) : State.OutChanges l s t := by
  obtain ⟨o, ht, hlen, hat⟩ := h
  exact ⟨o, ht, hlen, fun n hn => hat n fun hk => hn (hkl hk)⟩

theorem State.epbSet_outChanges (s : State) (n : Nat) (f : EffectOut → EffectOut) : State.OutChanges [n] s (s.epbSet n f) :=
  ⟨_, rfl, upd_length .., fun m hm => (at_upd ..).trans (if_neg fun h => hm (List.mem_singleton.mpr h.1.symm))⟩

theorem State.epbCut_outChanges (s : State) (n : Nat) : State.OutChanges [n] s (s.epbCut n) := s.epbSet_outChanges n _

/-- What the interlock does to one output. -/
def State.epbIlkStep (s : State) (n : Nat) : State := if s.epbIlk n then (s.epbCut n).epbZero n else s

theorem State.epbIlkStep_outChanges (s : State) (n : Nat) : State.OutChanges [n] s (s.epbIlkStep n) := by
  unfold State.epbIlkStep
  split
  · refine (s.epbCut_outChanges n).trans ?_
    unfold State.epbZero
    dsimp only
    split
    · exact (State.epbSet_outChanges ..).trans (State.epbSet_outChanges ..)
    · exact .refl ..
  · exact .refl ..

theorem State.foldl_epbIlkStep_outChanges (l : List Nat) (s : State) : State.OutChanges l s (l.foldl State.epbIlkStep s) := by
  induction l generalizing s with
  | nil => exact .refl ..
  | cons n l ih =>
    exact ((s.epbIlkStep_outChanges n).mono (by simp)).trans ((ih _).mono (List.subset_cons_self ..))

/-- An output that the interlock blanks, with nothing on its way and its zero frame not sent yet. -/
def State.ZeroDue (s : State) (n : Nat) (o : EffectOut) : Prop :=
  at_ s.epb.outs n = o ∧ n < s.epb.outs.length ∧ s.show_.ilkOff = true ∧ s.mbx.fwState = 1 ∧
  epIlkBlank o.record = true ∧ epEnable o.record = true ∧ o.sending = none ∧ o.zeroSent = false

/-- The zero frame of such an output. -/
def EffectOut.zeroFrame (o : EffectOut) (now : Nat) : EffectOut :=
  { o with
    output := [], zeroSent := true, sentAt := now, sending := some (now + epFrameTu o.record + epResetTu o.record)
    frames := o.frames + 1, cutOff := false }

theorem State.epbIlkStep_of_zeroDue {s : State} {n : Nat} {o : EffectOut} (h : s.ZeroDue n o) :
    at_ (s.epbIlkStep n).epb.outs n = o.zeroFrame s.now := by
  obtain ⟨ho, hlt, hilk, hfw, hblank, hon, hidle, hzero⟩ := h
  have hout : s.epbOut n = o := ho
  have hset (t : State) (ht : n < t.epb.outs.length) (f : EffectOut → EffectOut) :
      (t.epbSet n f).epbOut n = f (t.epbOut n) := (at_upd ..).trans (if_pos ⟨rfl, ht⟩)
  have hcut : (s.epbCut n).epbOut n = o := by
    refine (hset s hlt _).trans ?_
    rw [hout, hidle]
  have hlt' : n < (s.epbCut n).epb.outs.length := hlt.trans_eq (upd_length ..).symm
  have hilks : s.epbIlk n = true := by rw [State.epbIlk, hout, hblank, hilk]; rfl
  have hilkc : (s.epbCut n).epbIlk n = true := by
    rw [State.epbIlk, hcut, hblank]
    exact hilk
  unfold State.epbIlkStep State.epbZero
  rw [if_pos hilks]
  refine (congrArg (State.epbOut · n) (if_pos ⟨by rw [hcut]; exact hon, hilkc, by rw [hcut]; exact hzero, by rw [hcut]; exact hidle, hfw⟩)).trans ?_
  unfold State.epbSend
  rw [hset _ (hlt'.trans_eq (upd_length ..).symm), hset _ hlt', hcut]
  rfl

theorem State.OutChanges.zeroDue {l : List Nat} {s t : State} {n : Nat} {o : EffectOut} (h : State.OutChanges l s t) (hn : n ∉ l)
    (hdue : s.ZeroDue n o) : t.ZeroDue n o := by
  obtain ⟨outs, rfl, hlen, hat⟩ := h
  obtain ⟨ho, hlt, hrest⟩ := hdue
  exact ⟨(hat n hn).trans ho, hlt.trans_eq hlen.symm, hrest⟩

theorem State.foldl_epbIlkStep_of_zeroDue {n : Nat} {o : EffectOut} (l : List Nat) (hl : l.Nodup) (hn : n ∈ l) (s : State)
    (h : s.ZeroDue n o) : at_ (l.foldl State.epbIlkStep s).epb.outs n = o.zeroFrame s.now := by
  induction l generalizing s with
  | nil => cases hn
  | cons m l ih =>
    obtain ⟨hm, hl⟩ := List.nodup_cons.mp hl
    by_cases hmn : n = m
    · subst hmn
      obtain ⟨outs, hfold, -, hat⟩ := State.foldl_epbIlkStep_outChanges l (s.epbIlkStep n)
      rw [List.foldl_cons, hfold]
      exact (hat n hm).trans (State.epbIlkStep_of_zeroDue h)
    · have hstep := s.epbIlkStep_outChanges m
      have hdue := hstep.zeroDue (fun hin => hmn (List.mem_singleton.mp hin)) h
      refine (ih hl ((List.mem_cons.mp hn).resolve_left hmn) _ hdue).trans ?_
      obtain ⟨outs, hs, -⟩ := hstep
      rw [hs]

/-! ## The obligation -/

/-- The interlock is deasserted: the state just after ILK_N is seen. -/
def State.ilkSeen (s : State) : State :=
  { s with show_ := { s.show_ with ilkOff := true, ilkLowAt := none, deassertions := s.show_.deassertions + 1 } }

theorem State.interlockOff_eq {s : State} (hon : s.show_.ilkOff = false) :
    s.interlockOff = if bit (byteAt s.show_.cfg 0x20) 0 then
        (allAxes.filter fun a => (at_ s.axes a).state != 0).foldl (fun (s : State) a => s.heel a 10)
          ((s.ilkSeen.blankHeads 1).raise 0x0985 0 0)
      else (s.ilkSeen.blankHeads 1).raise 0x0985 0 0 := by
  obtain ⟨heads, sinks, inflight, evq, hb⟩ := s.ilkSeen.blankHeads_beamMoves 1
  unfold State.interlockOff
  rw [if_neg (ne_true_of_eq_false hon)]
  dsimp only
  rw [show (({ s with show_ := { s.show_ with ilkOff := true, ilkLowAt := none, deassertions := s.show_.deassertions + 1 } } : State).blankHeads 1)
    = s.ilkSeen.blankHeads 1 from rfl, hb]
  rfl

/-- Deassertion blanks every head that is not off, sends the axes to heel where so set, and moves nothing else but queue and plans. -/
theorem State.interlockOff_spec {s : State} (hon : s.show_.ilkOff = false) (hheads : s.heads.length = 4) (haxes : s.axes.length = 16) :
    s.ilkSeen.AxisMoves s.interlockOff ∧
    (∀ n < 4, (at_ s.heads n).state ≠ 0 → (at_ s.interlockOff.heads n).IlkBlanked) ∧
    (∀ a < 16, (at_ s.interlockOff.axes a).state =
      if bit (byteAt s.show_.cfg 0x20) 0 ∧ (at_ s.axes a).state ≠ 0 then 2 else (at_ s.axes a).state) := by
  have hmoves : s.ilkSeen.BeamMoves ((s.ilkSeen.blankHeads 1).raise 0x0985 0 0) :=
    (s.ilkSeen.blankHeads_beamMoves 1).trans (State.raise_beamMoves ..)
  have hblank : ∀ n < 4, (at_ s.heads n).state ≠ 0 → (at_ ((s.ilkSeen.blankHeads 1).raise 0x0985 0 0).heads n).IlkBlanked ∧
      ((s.ilkSeen.blankHeads 1).raise 0x0985 0 0).heads.length = 4 := fun n hn hne => by
    rw [State.raise_heads]
    exact State.blankHeads_ilkBlanked (s := s.ilkSeen) hheads hn hne
  have hax : ((s.ilkSeen.blankHeads 1).raise 0x0985 0 0).axes = s.axes := hmoves.axes
  rw [State.interlockOff_eq hon]
  generalize (s.ilkSeen.blankHeads 1).raise 0x0985 0 0 = u at hmoves hblank hax
  by_cases hset : bit (byteAt s.show_.cfg 0x20) 0 = true
  · rw [if_pos hset]
    obtain ⟨hheel, hstates⟩ := State.foldl_heel 10 (allAxes.filter fun a => (at_ s.axes a).state != 0) u
    refine ⟨hmoves.axisMoves.trans hheel, fun n hn hne => ?_, fun a ha => ?_⟩
    · obtain ⟨hb, hlen⟩ := hblank n hn hne
      exact State.foldl_heel_ilkBlanked hn 10 _ u hlen hb
    · rw [hstates a, hax]
      refine if_congr ?_ rfl rfl
      simp [hset, ha, haxes, allAxes]
  · rw [if_neg hset]
    refine ⟨hmoves.axisMoves, fun n hn hne => (hblank n hn hne).1, fun a _ => ?_⟩
    rw [hax, if_neg fun h => hset h.1]

theorem State.AxisMoves.same {s t : State} (h : s.AxisMoves t) :
    t.show_ = s.show_ ∧ t.epb = s.epb ∧ t.mbx = s.mbx ∧ t.now = s.now := by
  obtain ⟨axes, ios, heads, sinks, inflight, evq, rfl⟩ := h
  exact ⟨rfl, rfl, rfl, rfl⟩

/-- The state a first trigger of a tick leaves. -/
theorem State.trigger_first_spec {s : State} {i : Nat} {tick : W32} {ofs : Nat} (hi : i < s.show_.trigs.length)
    (hon : s.trigEnabled i = true) (hfree : (at_ s.show_.trigs i).stuck = false)
    (hdate : (tick, ofs) = s.dateOf (s.now - s.trigFilt i)) (hlast : (at_ s.show_.trigs i).lastTick ≠ some tick) :
    ∃ ios trigs, s.trigger i = { s with
        ios := ios, show_ := { s.show_ with trigs := trigs }
        evq := s.evq.push (mkEvent 0x0983 i tick ofs ((at_ s.show_.trigs i).count + 1).toNat) } ∧
      at_ trigs i = { at_ s.show_.trigs i with
        level := s.trigHigh i, active := true, since := s.now, lastTick := some tick, count := (at_ s.show_.trigs i).count + 1 } ∧
      ∀ a < 16, a < s.ios.length → ∀ v, (at_ s.ios a).armed = some (i, v) →
        (at_ ios a).newTarget = some (s.now, v) ∧ (at_ ios a).armed = none := by
  obtain ⟨ios, hios, harmed⟩ := State.startArmed_eq { s with
    evq := s.evq.push (mkEvent 0x0983 i tick ofs ((at_ s.show_.trigs i).count + 1).toNat),
    show_ := { s.show_ with trigs := upd s.show_.trigs i fun x =>
      { x with level := s.trigHigh i, active := true, since := s.now, lastTick := some tick, count := x.count + 1 } } } i
  exact ⟨ios, _, (State.trigger_of_first hi hon hfree hdate hlast).trans hios, (at_upd ..).trans (if_pos ⟨rfl, hi⟩), harmed⟩

/-- What deassertion leaves, the effect outputs included. -/
theorem State.interlockOff_epbInterlock_spec {s : State} (hon : s.show_.ilkOff = false) (hheads : s.heads.length = 4)
    (haxes : s.axes.length = 16) :
    s.interlockOff.epbInterlock.show_ = s.ilkSeen.show_ ∧
    (∀ n < 4, (at_ s.heads n).state ≠ 0 → (at_ s.interlockOff.epbInterlock.heads n).IlkBlanked) ∧
    (∀ a < 16, (at_ s.interlockOff.epbInterlock.axes a).state =
      if bit (byteAt s.show_.cfg 0x20) 0 ∧ (at_ s.axes a).state ≠ 0 then 2 else (at_ s.axes a).state) ∧
    ∀ n < 4, n < s.epb.outs.length → ∀ o, o = at_ s.epb.outs n → epIlkBlank o.record = true → epEnable o.record = true →
      o.sending = none → o.zeroSent = false → s.mbx.fwState = 1 →
      at_ s.interlockOff.epbInterlock.epb.outs n = o.zeroFrame s.now := by
  obtain ⟨hmoves, hblank, hstates⟩ := State.interlockOff_spec hon hheads haxes
  obtain ⟨hshow, hepb, hmbx, hnow⟩ := hmoves.same
  generalize s.interlockOff = u at hblank hstates hshow hepb hmbx hnow
  have hzero (n : Nat) (hn : n < 4) (o : EffectOut) (hdue : u.ZeroDue n o) :
      at_ u.epbInterlock.epb.outs n = o.zeroFrame u.now :=
    State.foldl_epbIlkStep_of_zeroDue [0, 1, 2, 3] (by decide) (by simp; omega) u hdue
  obtain ⟨outs, hfold, -⟩ := u.foldl_epbIlkStep_outChanges [0, 1, 2, 3]
  have heq : u.epbInterlock = { u with epb := { u.epb with outs := outs } } := hfold
  refine ⟨?_, ?_, ?_, fun n hn hlt o ho hb he hs hz hfw => ?_⟩
  · rw [heq]; exact hshow
  · rw [heq]; exact hblank
  · rw [heq]; exact hstates
  · refine (hzero n hn o ⟨?_, ?_, ?_, ?_, hb, he, hs, hz⟩).trans (congrArg o.zeroFrame hnow)
    · rw [hepb, ho]; rfl
    · rw [hepb]; exact hlt
    · rw [hshow]; rfl
    · rw [hmbx]; exact hfw

/-- Settles O54. -/
theorem triggersAndInterlockAct : Obligations.TriggersAndInterlockAct := by
  unfold Obligations.TriggersAndInterlockAct
  refine fun s htrigs => ⟨fun i hi tr htr hon hfree tick ofs hdate => ⟨fun hlast => ?_, fun hlast => ?_⟩,
    fun i hi tr htr hon hact hfree => ⟨_, rfl, congrArg done ?_⟩, fun i hi tr htr hact => ⟨_, rfl, congrArg done ?_⟩,
    fun hon hheads haxes => ?_, fun hoff => ⟨fun hlow => congrArg done ?_, ?_⟩, fun low hoff hlow hporst => ⟨_, rfl, congrArg done ?_⟩⟩
  · subst htr
    exact congrArg done (State.trigger_of_again hon hfree hdate hlast)
  · subst htr
    have hlt : i < s.show_.trigs.length := hi.trans_eq htrigs.symm
    obtain ⟨ios, trigs, hstep, hat, harmed⟩ := State.trigger_first_spec hlt hon hfree hdate hlast
    refine ⟨_, congrArg done hstep, hat, rfl, fun a ha hlen => harmed a ha (ha.trans_eq hlen.symm), rfl⟩
  · subst htr
    exact if_pos ⟨hon, hact, hfree⟩
  · subst htr
    refine (if_neg (not_or.mpr ⟨ne_false_of_eq_true hact, Nat.not_lt.mpr (Nat.le_of_lt_succ hi)⟩)).trans ?_
    rfl
  · obtain ⟨hshow, hblank, hstates, hzero⟩ := State.interlockOff_epbInterlock_spec hon hheads haxes
    refine ⟨_, congrArg done (if_neg (ne_true_of_eq_false hon)), ?_⟩
    generalize s.interlockOff.epbInterlock = u at hshow hblank hstates hzero
    refine ⟨congrArg ShowIo.ilkOff hshow, congrArg ShowIo.ilkLowAt hshow, congrArg ShowIo.deassertions hshow, hblank, hstates,
      fun n hn hlt o ho hb he hs hz hfw => ?_⟩
    have hout := hzero n hn hlt o ho hb he hs hz hfw
    exact ⟨congrArg EffectOut.output hout, congrArg EffectOut.frames hout, congrArg EffectOut.sending hout⟩
  · unfold State.interlockRun
    rw [if_neg (ne_false_of_eq_true hoff), hlow]
  · exact (congrArg done (if_pos hoff)).trans (congrArg done (if_pos hoff))
  · unfold State.interlockRun
    rw [if_neg (ne_false_of_eq_true hoff), hlow]
    exact if_neg (ne_true_of_eq_false hporst)

end Sys2Proof.Machine
end

section
/-! PROOFS. Tick references, PLLs and the housekeeping clock (02 R35, 14 R302 to R314). -/
namespace Sys2Proof.Machine

/-! ## Entries of a list -/

/-- Two changes that agree on the entry they reach give the same list. -/
theorem upd_congr {α : Type} [Inhabited α] {l : List α} {i : Nat} {f g : α → α} (h : f (at_ l i) = g (at_ l i)) :
    upd l i f = upd l i g := by
  refine List.ext_getElem? fun j => ?_
  simp only [upd, List.getElem?_modify]
  by_cases hij : i = j
  · subst hij
    rcases hl : l[i]? with _ | a
    · rfl
    · have ha : at_ l i = a := by simp [at_, hl]
      simpa [ha] using h
  · simp [hij]

/-- A change that leaves its entry as it is leaves the list so. -/
theorem upd_self {α : Type} [Inhabited α] {l : List α} {i : Nat} {f : α → α} (h : f (at_ l i) = at_ l i) : upd l i f = l :=
  (upd_congr (g := id) h).trans (List.modify_id ..)

theorem at_upd_self {α : Type} [Inhabited α] {l : List α} {i : Nat} (f : α → α) (h : i < l.length) :
    at_ (upd l i f) i = f (at_ l i) := (at_upd ..).trans (if_pos ⟨rfl, h⟩)

theorem at_upd_ne {α : Type} [Inhabited α] {l : List α} {i j : Nat} (f : α → α) (h : i ≠ j) : at_ (upd l i f) j = at_ l j :=
  (at_upd ..).trans (if_neg fun hij => h hij.1)

/-! ## Tick references -/

/-- Only the references, the reason and PHASE_ERR of the tick, the goal of SEQPLL and the event queue differ. -/
def State.TickMoves (s t : State) : Prop := ∃ tk goal evq, t = { s with tk := tk, ck := { s.ck with goal := goal }, evq := evq }

theorem State.TickMoves.refl (s : State) : s.TickMoves s := ⟨s.tk, s.ck.goal, s.evq, rfl⟩

theorem State.TickMoves.trans {s t u : State} (h : s.TickMoves t) (k : t.TickMoves u) : s.TickMoves u := by
  obtain ⟨tk, goal, evq, rfl⟩ := h
  obtain ⟨tk', goal', evq', rfl⟩ := k
  exact ⟨tk', goal', evq', rfl⟩

theorem State.tref_tickMoves (s : State) (id : Nat) (f : TickRef → TickRef) : s.TickMoves (s.tref id f) :=
  ⟨_, s.ck.goal, s.evq, rfl⟩

/-- A source that is lost becomes invalid, and its record keeps the rest. -/
theorem State.loseSource_spec (s : State) (id reason : Nat) : s.TickMoves (s.loseSource id reason) ∧
    (s.loseSource id reason).tk.refs = upd s.tk.refs (id - 1) fun r => { r with valid := false } := by
  unfold State.loseSource
  by_cases hv : (at_ s.tk.refs (id - 1)).valid = true
  · rw [if_pos hv]
    dsimp only
    split
    · exact ⟨⟨_, _, _, rfl⟩, rfl⟩
    · exact ⟨s.tref_tickMoves .., rfl⟩
  · rw [if_neg hv]
    refine ⟨.refl s, (upd_self ?_).symm⟩
    rw [← Bool.eq_false_iff.mpr hv]

/-- The active source that is lost: SEQPLL is held at FREQ_EST, and TICK_COAST. -/
theorem State.loseSource_of_active {s : State} {id : Nat} (hv : (at_ s.tk.refs (id - 1)).valid = true) (hact : s.tk.active = id)
    (reason : Nat) :
    (s.loseSource id reason).ck.goal = (if (at_ s.ck.plls 1).coast then none else some (clampI (-30000) 30000 s.ck.freqEst)) ∧
    (s.loseSource id reason).evq = (s.raise 0x0202 0 (id + 256 * reason)).evq := by
  unfold State.loseSource
  rw [if_pos hv]
  dsimp only
  rw [if_pos (by exact hact)]
  exact ⟨rfl, rfl⟩

/-- The record of a listed source after a reference that has been judged. -/
def TickRef.arrived (r : TickRef) (t sum : Int) (window : Bool) : TickRef :=
  { r with
    refs := (t :: r.refs).take 9, sums := (sum :: r.sums).take 9, inWindow := if window then min 8 (r.inWindow + 1) else 0
    misses := if window then 0 else r.misses + 1 }

/-- A reference enters its source's record, whose validity is judged again; two misses end it. -/
theorem State.refArrive_spec {s : State} {id : Nat} (hid : id - 1 < s.tk.refs.length) (t : Int) (window : Bool) :
    s.TickMoves (s.refArrive id t window) ∧ ∃ v, at_ (s.refArrive id t window).tk.refs (id - 1) =
      { (at_ s.tk.refs (id - 1)).arrived t (s.ofsAt t) window with valid := v } ∧
      (2 ≤ ((at_ s.tk.refs (id - 1)).arrived t (s.ofsAt t) window).misses → v = false) := by
  obtain ⟨u, hu⟩ : ∃ u : State, u = s.tref id fun r => r.arrived t (s.ofsAt t) window := ⟨_, rfl⟩
  obtain ⟨w, hw⟩ : ∃ w : State, w = if u.tk.active = id then { u with tk := { u.tk with phaseErr := u.phaseOf t } } else u := ⟨_, rfl⟩
  have hmoves : s.TickMoves w ∧ w.tk.refs = u.tk.refs := by
    rw [hw, hu]
    split
    · exact ⟨⟨_, s.ck.goal, s.evq, rfl⟩, rfl⟩
    · exact ⟨⟨_, s.ck.goal, s.evq, rfl⟩, rfl⟩
  have hat : at_ w.tk.refs (id - 1) = (at_ s.tk.refs (id - 1)).arrived t (s.ofsAt t) window := by
    rw [hmoves.2, hu]
    exact at_upd_self _ hid
  have hlen : id - 1 < w.tk.refs.length := by
    rw [hmoves.2, hu]
    exact hid.trans_eq (upd_length ..).symm
  have hlost (reason : Nat) : at_ (w.loseSource id reason).tk.refs (id - 1) =
      { (at_ s.tk.refs (id - 1)).arrived t (s.ofsAt t) window with valid := false } := by
    rw [(w.loseSource_spec id reason).2, at_upd_self _ hlen, hat]
  have hjudge : s.refArrive id t window = if 2 ≤ (at_ w.tk.refs (id - 1)).misses then w.loseSource id 1
      else if (at_ w.tk.refs (id - 1)).valid ∧ periodKnown (at_ w.tk.refs (id - 1)).refs ∧
        periodOk w.liveMode (at_ w.tk.refs (id - 1)).refs = false then w.loseSource id 2
      else if w.sourceMeets id then w.tref id fun r => { r with valid := true } else w := by
    rw [hw, hu]
    rfl
  rw [hjudge]
  by_cases hmiss : 2 ≤ (at_ w.tk.refs (id - 1)).misses
  · rw [if_pos hmiss]
    exact ⟨hmoves.1.trans (w.loseSource_spec id 1).1, false, hlost 1, fun _ => rfl⟩
  · rw [if_neg hmiss]
    rw [hat] at hmiss
    split
    · exact ⟨hmoves.1.trans (w.loseSource_spec id 2).1, false, hlost 2, fun _ => rfl⟩
    · split
      · refine ⟨hmoves.1.trans (w.tref_tickMoves ..), true, ?_, fun h => absurd h hmiss⟩
        rw [State.tref, at_upd_self _ hlen, hat]
      · exact ⟨hmoves.1, _, hat, fun h => absurd h hmiss⟩

/-- The record of a listed source after a reference that is missing, `sum` and `predicted` what the prediction moves on to. -/
theorem State.refMissing_spec {s : State} {id : Nat} (hid : 1 ≤ id) (hid' : id ≤ 3) (hlen : s.tk.refs.length = 3) (outside : Bool) :
    s.TickMoves (s.refMissing id outside) ∧
    (at_ (s.refMissing id outside).tk.refs (id - 1)).inWindow = 0 ∧
    (at_ (s.refMissing id outside).tk.refs (id - 1)).misses = (at_ s.tk.refs (id - 1)).misses + 1 ∧
    (at_ (s.refMissing id outside).tk.refs (id - 1)).valid =
      ((at_ s.tk.refs (id - 1)).valid && (at_ s.tk.refs (id - 1)).misses == 0) ∧
    ((at_ s.tk.refs (id - 1)).valid = true → 1 ≤ (at_ s.tk.refs (id - 1)).misses → s.tk.active = id →
      (s.refMissing id outside).ck.goal = (if (at_ s.ck.plls 1).coast then none else some (clampI (-30000) 30000 s.ck.freqEst)) ∧
      (s.refMissing id outside).evq = (s.raise 0x0202 0 (id + 256 * (if outside then 1 else 0))).evq) := by
  obtain ⟨refs, sums, hmiss⟩ : ∃ refs sums : TickRef → List Int, s.refMissing id outside =
      let w := s.tref id fun r => { r with refs := refs r, sums := sums r, inWindow := 0, misses := r.misses + 1 }
      if 2 ≤ (at_ w.tk.refs (id - 1)).misses then w.loseSource id (if outside then 1 else 0) else w := by
    unfold State.refMissing
    rw [if_neg (by omega)]
    exact ⟨_, _, rfl⟩
  obtain ⟨w, hw⟩ : ∃ w : State,
      w = s.tref id fun r => { r with refs := refs r, sums := sums r, inWindow := 0, misses := r.misses + 1 } := ⟨_, rfl⟩
  have hlt : id - 1 < s.tk.refs.length := by omega
  have hltw : id - 1 < w.tk.refs.length := by rw [hw]; exact hlt.trans_eq (upd_length ..).symm
  have hat : at_ w.tk.refs (id - 1) = { at_ s.tk.refs (id - 1) with
      refs := refs (at_ s.tk.refs (id - 1)), sums := sums (at_ s.tk.refs (id - 1)), inWindow := 0
      misses := (at_ s.tk.refs (id - 1)).misses + 1 } := by
    rw [hw]
    exact at_upd_self _ hlt
  have hmoves : s.TickMoves w := hw ▸ s.tref_tickMoves ..
  have hstep : s.refMissing id outside =
      if 2 ≤ (at_ s.tk.refs (id - 1)).misses + 1 then w.loseSource id (if outside then 1 else 0) else w := by
    rw [hmiss, ← hw]
    dsimp only
    rw [hat]
  rw [hstep]
  by_cases hm : 1 ≤ (at_ s.tk.refs (id - 1)).misses
  · have hnz : ((at_ s.tk.refs (id - 1)).misses == 0) = false := beq_false_of_ne (by omega)
    rw [if_pos (Nat.succ_le_succ hm), (w.loseSource_spec ..).2, at_upd_self _ hltw, hat, hnz, Bool.and_false]
    refine ⟨hmoves.trans (w.loseSource_spec ..).1, rfl, rfl, rfl, fun hv _ hact => ?_⟩
    have hlost := State.loseSource_of_active (s := w) (id := id) (by rw [hat]; exact hv) (by rw [hw]; exact hact)
      (if outside then 1 else 0)
    rw [hlost.1, hlost.2, hw]
    exact ⟨rfl, rfl⟩
  · have hz : ((at_ s.tk.refs (id - 1)).misses == 0) = true := beq_iff_eq.mpr (by omega)
    rw [if_neg (by omega), hat, hz, Bool.and_true]
    exact ⟨hmoves, rfl, rfl, rfl, fun _ h => absurd h hm⟩

/-! ## Phase-locked loops -/

/-- Only the PLLs, the goal of SEQPLL and the event queue differ. -/
def State.PllMoves (s t : State) : Prop := ∃ plls goal evq, t = { s with ck := { s.ck with plls := plls, goal := goal }, evq := evq }

theorem State.PllMoves.refl (s : State) : s.PllMoves s := ⟨s.ck.plls, s.ck.goal, s.evq, rfl⟩

theorem State.PllMoves.trans {s t u : State} (h : s.PllMoves t) (k : t.PllMoves u) : s.PllMoves u := by
  obtain ⟨plls, goal, evq, rfl⟩ := h
  obtain ⟨plls', goal', evq', rfl⟩ := k
  exact ⟨plls', goal', evq', rfl⟩

/-- The end of a ramp leaves the PLL without one. -/
theorem State.endRamp_spec (s : State) (n reason : Nat) : s.PllMoves (s.endRamp n reason) ∧
    (s.endRamp n reason).ck.plls = upd s.ck.plls n fun q => { q with ramp := none } := by
  unfold State.endRamp
  dsimp only
  by_cases hr : (at_ s.ck.plls n).ramp.isSome = true
  · rw [if_pos hr]
    exact ⟨⟨_, _, _, rfl⟩, rfl⟩
  · rw [if_neg hr]
    refine ⟨.refl s, (upd_self ?_).symm⟩
    rw [← Option.not_isSome_iff_eq_none.mp hr]

/-- A PLL that coasts, its ramp abandoned and its offset `o` held. -/
def Pll.CoastsAt (q : Pll) (o : Int) : Prop := q.locked = false ∧ q.coast = true ∧ q.ramp = none ∧ q.offset = o

/-- A PLL as it begins to coast, or goes on doing so. -/
def Pll.coasting (q : Pll) (cause now : Nat) (refErr : Int) : Pll := { q with
  ramp := none, locked := false, coast := true, cause := cause, frozenAt := if q.coast then q.frozenAt else now
  pull := if q.coast then q.pull else -100 * refErr }

theorem State.coast_spec (s : State) (n cause : Nat) : s.PllMoves (s.coast n cause) ∧
    ∃ f : Pll → Pll, (s.coast n cause).ck.plls = upd s.ck.plls n f ∧ ∀ q, (f q).CoastsAt q.offset := by
  obtain ⟨hmoves, hplls⟩ := s.endRamp_spec n 3
  obtain ⟨u, hu⟩ : ∃ u : State, u = if n = 1 then { s.endRamp n 3 with ck := { (s.endRamp n 3).ck with goal := none } }
    else s.endRamp n 3 := ⟨_, rfl⟩
  have hgoal : s.PllMoves u ∧ u.ck.plls = (s.endRamp n 3).ck.plls := by
    rw [hu]
    split
    · exact ⟨hmoves.trans ⟨_, _, _, rfl⟩, rfl⟩
    · exact ⟨hmoves, rfl⟩
  have hcoast : s.coast n cause = u.pll n fun q => { q with
      locked := false, coast := true, cause := cause, frozenAt := if q.coast then q.frozenAt else u.now
      pull := if q.coast then q.pull else -100 * u.ck.refErr } := by
    rw [hu]
    rfl
  rw [hcoast]
  refine ⟨hgoal.1.trans ⟨_, _, _, rfl⟩, fun q => q.coasting cause u.now u.ck.refErr, ?_, fun q => ⟨rfl, rfl, rfl, rfl⟩⟩
  rw [State.pll, hgoal.2, hplls, upd_upd]
  rfl

/-- Several PLLs coast, each with its offset held. -/
theorem State.foldl_coast (cause : Nat) (l : List Nat) (s : State) :
    s.PllMoves (l.foldl (fun (s : State) n => s.coast n cause) s) ∧
    ∀ n < s.ck.plls.length, ∀ o, (at_ s.ck.plls n).CoastsAt o ∨ (n ∈ l ∧ (at_ s.ck.plls n).offset = o) →
      (at_ (l.foldl (fun (s : State) n => s.coast n cause) s).ck.plls n).CoastsAt o := by
  induction l generalizing s with
  | nil => exact ⟨.refl s, fun n _ o h => h.resolve_right fun h => nomatch h.1⟩
  | cons m l ih =>
    obtain ⟨hmoves, f, hplls, hf⟩ := s.coast_spec m cause
    obtain ⟨hfold, hrest⟩ := ih (s.coast m cause)
    refine ⟨hmoves.trans hfold, fun n hn o h => hrest n (by rw [hplls, upd_length]; exact hn) o ?_⟩
    rw [hplls]
    by_cases hmn : m = n
    · subst hmn
      rw [at_upd_self f hn]
      have hofs : (at_ s.ck.plls m).offset = o := h.elim (fun h => h.2.2.2) And.right
      exact .inl (hofs ▸ hf _)
    · rw [at_upd_ne f hmn]
      exact h.imp_right fun h => ⟨(List.mem_cons.mp h.1).resolve_left (Ne.symm hmn), h.2⟩

/-- REFCLK is lost: every PLL coasts. -/
theorem State.loseRef_spec {s : State} (href : s.ck.refValid = true) (hplls : s.ck.plls.length = 4) (reason : Nat) (ppm : Int) :
    State.PllMoves { s with ck := { s.ck with refValid := false, refLosses := s.ck.refLosses + 1, hkBad := 0, hkGood := 0 } }
      (s.loseRef reason ppm) ∧
    ∀ n < 4, (at_ (s.loseRef reason ppm).ck.plls n).CoastsAt (at_ s.ck.plls n).offset := by
  obtain ⟨u, hu⟩ : ∃ u : State, u = State.raise
    { s with ck := { s.ck with refValid := false, refLosses := s.ck.refLosses + 1, hkBad := 0, hkGood := 0 } } 0x0A01 0
      (2 * reason + 65536 * pattern 16 (clampI (-32768) 32767 ppm)) := ⟨_, rfl⟩
  have hstep : s.loseRef reason ppm = (List.range 4).foldl (fun (s : State) n => s.coast n 0) u := by
    unfold State.loseRef
    rw [if_pos href, hu]
  have hsame : u.ck.plls = s.ck.plls := by rw [hu]; rfl
  obtain ⟨hfold, hcoast⟩ := State.foldl_coast 0 (List.range 4) u
  rw [hstep]
  refine ⟨.trans ⟨s.ck.plls, s.ck.goal, u.evq, ?_⟩ hfold, fun n hn => hcoast n ?_ _ (.inr ⟨List.mem_range.mpr hn, ?_⟩)⟩
  · rw [hu]
    rfl
  · rw [hsame, hplls]
    exact hn
  · rw [hsame]

/-- The offset of a PLL once it is set, and its ramp, which stays. -/
theorem State.setOffset_at {s : State} {n : Nat} (hn : n < s.ck.plls.length) (ofs : Int) (step : Nat) :
    (at_ (s.setOffset n ofs step).ck.plls n).ramp = (at_ s.ck.plls n).ramp ∧ (at_ (s.setOffset n ofs step).ck.plls n).offset = ofs := by
  have hplls : (s.setOffset n ofs step).ck.plls = upd s.ck.plls n fun q => { q with offset := ofs, stepAt := some step } := by
    unfold State.setOffset
    split <;> rfl
  rw [hplls, at_upd_self _ hn]
  exact ⟨rfl, rfl⟩

/-- What the step of a lost REFCLK leaves. -/
theorem State.loseRef_step {s : State} (href : s.ck.refValid = true) (hplls : s.ck.plls.length = 4) (reason : Nat) (ppm : Int) :
    ∃ t : State, done (s.loseRef reason ppm) = .next t ∧ t.ck.refValid = false ∧
      t.ck.refLosses = s.ck.refLosses + 1 ∧ t.ck.hkBad = 0 ∧ t.ck.hkGood = 0 ∧ t.ck.refErr = s.ck.refErr ∧
      (∀ n < 4, (at_ t.ck.plls n).CoastsAt (at_ s.ck.plls n).offset) ∧
      t = { s with evq := t.evq, src := t.src, con := t.con, ck := t.ck, show_ := t.show_ } := by
  obtain ⟨⟨plls, goal, evq, hmoves⟩, hcoast⟩ := State.loseRef_spec href hplls reason ppm
  refine ⟨_, rfl, ?_⟩
  generalize s.loseRef reason ppm = u at hmoves hcoast
  subst hmoves
  exact ⟨rfl, rfl, rfl, rfl, rfl, hcoast, rfl⟩

/-- The bound that HKOSC judges REFCLK by, if it judges at all. -/
def State.freqBound (s : State) : Option Nat :=
  if s.ck.hkDistrust then none else if s.ck.hkCrystal then some 1000 else if s.ck.hkComp then some 20000 else none

theorem State.refclkFreqCheck_eq (s : State) (ppm : Int) : s.refclkFreqCheck ppm = match s.freqBound with
    | none => { s with ck := { s.ck with refErr := ppm } }
    | some b => if bit (byteAt s.ck.cfg 6) 0 ∧ b < ppm.natAbs then
        State.loseRef { s with ck := { s.ck with refErr := ppm } } 1 ppm
      else { s with ck := { s.ck with refErr := ppm } } := rfl

theorem State.freqBound_cases {s : State} {b : Nat} (h : s.freqBound = some b) :
    s.ck.hkDistrust = false ∧ ((s.ck.hkCrystal = true ∧ b = 1000) ∨ (s.ck.hkCrystal = false ∧ s.ck.hkComp = true ∧ b = 20000)) := by
  unfold State.freqBound at h
  split at h
  · cases h
  · next htrust =>
    refine ⟨Bool.eq_false_iff.mpr htrust, ?_⟩
    split at h
    · next hx => exact .inl ⟨hx, (Option.some.inj h).symm⟩
    · next hx =>
      split at h
      · next hc => exact .inr ⟨Bool.eq_false_iff.mpr hx, hc, (Option.some.inj h).symm⟩
      · cases h

theorem State.foldl_pll (f : Nat → Pll → Pll) (l : List Nat) (s : State) :
    l.foldl (fun (s : State) n => s.pll n (f s.now)) s =
      { s with ck := { s.ck with plls := l.foldl (fun q n => upd q n (f s.now)) s.ck.plls } } := by
  induction l generalizing s with
  | nil => rfl
  | cons n l ih => exact ih (s.pll n (f s.now))

/-- A PLL that REFCLK finds coasting measures its difference; another stays. -/
def Pll.found (ppm : Int) (now : Nat) (q : Pll) : Pll :=
  if q.coast then { q with pull := q.pull + 100 * ppm, stepAt := some now } else q

theorem State.refclkRestore_eq {s : State} (href : s.ck.refValid = false) (ppm : Int) :
    ∃ evq, s.refclkRestore ppm = { s with
      evq := evq
      ck := { s.ck with
        refValid := true, refErr := ppm
        plls := (List.range 4).foldl (fun l n => upd l n (Pll.found ppm s.now)) s.ck.plls } } := by
  obtain ⟨u, hu⟩ : ∃ u : State, u = State.raise { s with ck := { s.ck with refValid := true, refErr := ppm } } 0x0A01 0
    (1 + 4 + 65536 * pattern 16 (clampI (-32768) 32767 ppm)) := ⟨_, rfl⟩
  have hstep : s.refclkRestore ppm = (List.range 4).foldl (fun (s : State) n => s.pll n (Pll.found ppm s.now)) u := by
    unfold State.refclkRestore
    rw [if_neg (ne_true_of_eq_false href), hu]
    rfl
  have hframe : u = { s with evq := u.evq, ck := { s.ck with refValid := true, refErr := ppm } } := by
    rw [hu]
    rfl
  rw [hstep, State.foldl_pll, hframe]
  exact ⟨_, rfl⟩

theorem at_updAll {α : Type} [Inhabited α] (l : List α) (f : α → α) (hlen : l.length = 4) {n : Nat} (hn : n < 4) :
    at_ ((List.range 4).foldl (fun l n => upd l n f) l) n = f (at_ l n) := by
  rw [show List.range 4 = [0, 1, 2, 3] from rfl]
  interval_cases n <;> simp [at_upd, hlen]

/-- Settles O55. -/
theorem clockEventsRun : Obligations.ClockEventsRun := by
  unfold Obligations.ClockEventsRun
  intro s hplls hrefs
  refine ⟨?_, fun hnone => congrArg done ?_, ?_, fun g hg hcoast hne at' hat => congrArg done ?_, ?_, fun href => ?_, fun ppm hno => congrArg done ?_,
    fun ppm hon href htrust hfar => ?_, fun ppm href => ?_, fun n hn href hlock => ?_, fun n hn q hq hcoast href goal found hgoal hfound => ?_, rfl,
    fun hon => ⟨_, rfl, congrArg done (if_pos hon)⟩, fun ppm href bad good hbad hgood => ⟨_, rfl, congrArg done ?_⟩, fun h => congrArg done (if_pos ?_)⟩
  · intro last rest hlast ref good href hgood
    have hstep : s.refAt 2 (s.now + s.tk.syncInDelay) = s.refArrive 2 ref good := by
      unfold State.refAt
      rw [hlast, hgood, href]
      rfl
    obtain ⟨⟨tk, goal, evq, hmoves⟩, v, hat, hv⟩ := State.refArrive_spec (s := s) (id := 2) (by omega) ref good
    refine ⟨_, congrArg done hstep, ?_⟩
    generalize s.refArrive 2 ref good = w at hmoves hat
    have hrec : at_ w.settle.tk.refs 1 = { (at_ s.tk.refs 1).arrived ref (s.ofsAt ref) good with valid := v } := hat
    rw [hrec]
    refine ⟨congrArg (fun l => (ref :: l).take 9) hlast, rfl, rfl, rfl, fun hbad hm => hv ?_, ?_⟩
    · have hmiss : ((at_ s.tk.refs 1).arrived ref (s.ofsAt ref) good).misses = (at_ s.tk.refs 1).misses + 1 :=
        if_neg (ne_true_of_eq_false hbad)
      exact hmiss ▸ Nat.succ_le_succ hm
    · subst hmoves
      rfl
  · unfold State.refAt
    rw [hnone]
    rfl
  · intro id outside hid hid'
    obtain ⟨⟨tk, goal, evq, hmoves⟩, hwin, hmiss, hvalid, hact⟩ := State.refMissing_spec hid hid' hrefs outside
    refine ⟨_, rfl, hwin, hmiss, hvalid, hact, ?_⟩
    generalize s.refMissing id outside = w at hmoves
    subst hmoves
    rfl
  · unfold State.genlockStep
    rw [hg]
    dsimp only
    rw [if_neg (not_or.mpr ⟨ne_true_of_eq_false hcoast, hne⟩), hat]
    exact congrArg (fun l => ({ s with
      now := max s.now (s.nextStep 1)
      ck := { s.ck with ofsSum := s.ofsAt (max s.now (s.nextStep 1) : Nat), ofsFrom := max s.now (s.nextStep 1), plls := l } } : State)) (upd_congr rfl)
  · intro n r hn hr t0 r' o u ht hr' hu
    have hsome : ∀ r'', r' = some r'' → s.clockRampStep n = u := by
      rintro r'' rfl
      unfold State.clockRampStep
      rw [hr]
      dsimp only
      rw [← ht, hr', hu]
    refine ⟨fun hsm => ?_, fun hnone => ?_⟩
    · obtain ⟨r'', hr''⟩ := Option.isSome_iff_exists.mp hsm
      exact congrArg done (hsome r'' hr'')
    · subst hnone
      have hstep : s.clockRampStep n = ((s.forward t0).setOffset n o t0).endRamp n 0 := by
        unfold State.clockRampStep
        rw [hr]
        dsimp only
        rw [← ht, hr']
      have hat := State.setOffset_at (s := s.forward t0) (n := n) (hn.trans_eq hplls.symm) o t0
      rw [show (at_ (s.forward t0).ck.plls n).ramp = some r from hr] at hat
      refine congrArg done (hstep.trans ?_)
      unfold State.endRamp
      dsimp only
      rw [hat.1, hat.2, hu, Nat.zero_add]
      rfl
  · obtain ⟨t, ht, hv, hl, hb, hg, -, hcoast, hframe⟩ := State.loseRef_step href hplls 0 s.ck.refErr
    exact ⟨t, ht, hv, hl, hb, hg, fun n hn => ⟨(hcoast n hn).1, (hcoast n hn).2.1, (hcoast n hn).2.2.1, (hcoast n hn).2.2.2⟩, hframe⟩
  · rw [State.refclkFreqCheck_eq]
    rcases hb : s.freqBound with _ | b
    · rfl
    · refine if_neg ?_
      rintro ⟨hbit, hfar⟩
      obtain ⟨htrust, ⟨hx, rfl⟩ | ⟨hx, hc, rfl⟩⟩ := State.freqBound_cases hb
      · simp only [hbit, htrust, hx, Bool.true_eq_false, Bool.false_eq_true, false_and, false_or, or_false] at hno
        omega
      · simp only [hbit, htrust, hx, hc, Bool.true_eq_false, Bool.false_eq_true, true_and, and_false, false_or, or_false] at hno
        omega
  · have hbound : ∃ b, s.freqBound = some b ∧ b < ppm.natAbs := by
      unfold State.freqBound
      rw [if_neg (ne_true_of_eq_false htrust)]
      by_cases hx : s.ck.hkCrystal = true
      · rw [if_pos hx]
        exact ⟨1000, rfl, hfar.elim And.right fun h => by omega⟩
      · rw [if_neg hx]
        obtain ⟨hc, hgt⟩ := hfar.resolve_left fun h => hx h.1
        rw [if_pos hc]
        exact ⟨20000, rfl, hgt⟩
    obtain ⟨b, hb, hgt⟩ := hbound
    have hstep : s.refclkFreqCheck ppm = State.loseRef { s with ck := { s.ck with refErr := ppm } } 1 ppm := by
      rw [State.refclkFreqCheck_eq, hb]
      exact if_pos ⟨hon, hgt⟩
    obtain ⟨t, ht, hv, -, -, -, herr, hcoast, -⟩ := State.loseRef_step (s := { s with ck := { s.ck with refErr := ppm } }) href hplls 1 ppm
    exact ⟨t, (congrArg done hstep).trans ht, hv, herr, fun n hn => (hcoast n hn).2.1⟩
  · obtain ⟨evq, hstep⟩ := State.refclkRestore_eq href ppm
    refine ⟨_, congrArg done hstep, rfl, rfl, fun n hn hc => ?_, fun n hn hc => ?_, rfl⟩
    · have hat := at_updAll s.ck.plls (Pll.found ppm s.now) hplls hn
      rw [Pll.found, hc, if_pos rfl] at hat
      exact ⟨congrArg Pll.pull hat, congrArg Pll.stepAt hat⟩
    · exact (at_updAll s.ck.plls _ hplls hn).trans (if_neg (ne_true_of_eq_false hc))
  · obtain ⟨⟨plls, goal, evq, hmoves⟩, f, hf, hcoast⟩ := s.coast_spec n 1
    have hstep : s.pllLockLoss n = State.raise { s.coast n 1 with ck := { (s.coast n 1).ck with
        lockLosses := (s.coast n 1).ck.lockLosses + 1 } } 0x0A02 n 2 := if_pos ⟨href, hlock⟩
    refine ⟨_, congrArg done hstep, ?_⟩
    generalize s.coast n 1 = u at hmoves hf
    subst hmoves
    have hat : at_ plls n = f (at_ s.ck.plls n) := by
      rw [show plls = upd s.ck.plls n f from hf, at_upd_self f (hn.trans_eq hplls.symm)]
    obtain ⟨hl, hc, hr, -⟩ := hcoast (at_ s.ck.plls n)
    rw [← hat] at hl hc hr
    refine ⟨hl, hc, hr, rfl, fun m hm => ?_, rfl⟩
    exact (congrArg (at_ · m) hf).trans (at_upd_ne f hm.symm)
  · subst hq hgoal hfound
    refine ⟨if s.now ≤ (at_ s.ck.plls n).frozenAt + tuS then clampI (-1000) 1000 (Config.freeInt s.free)
      else Config.freeInt s.free, _, fun hle => ?_, rfl, congrArg done ((if_pos ⟨hcoast, href⟩).trans rfl)⟩
    rw [if_pos hle, clampI]
    omega
  · unfold State.hkMeasure
    rw [if_neg (ne_false_of_eq_true href)]
    subst hbad hgood
    dsimp only
    unfold State.raiseIf
    refine if_congr ?_ rfl rfl
    rw [Bool.and_eq_true, beq_iff_eq, Bool.not_eq_true']
  · simpa using h

end Sys2Proof.Machine
end

section
/-! PROOFS. Zone readings, the reset of the drives after a trip, calibration units and kennel writes (15 R319 to R326, 16 R338, R347 to R350). -/
namespace Sys2Proof.Machine

/-! ## A reading of a zone -/

/-- Only zones and the event queue change, zone `z` by `R`. -/
def State.ZoneStep (s t : State) (z : Nat) (R : Zone → Zone → Prop) : Prop :=
  ∃ zones evq, t = { s with th := { s.th with zones := zones }, evq := evq } ∧ zones.length = s.th.zones.length ∧
    R (at_ s.th.zones z) (at_ zones z)

theorem State.ZoneStep.refl (s : State) (z : Nat) : s.ZoneStep s z fun x y => y = x := ⟨s.th.zones, s.evq, rfl, rfl, rfl⟩

theorem State.ZoneStep.trans {s t u : State} {z : Nat} {R Q P : Zone → Zone → Prop} (hst : s.ZoneStep t z R) (htu : t.ZoneStep u z Q)
    (hP : ∀ x y w, R x y → Q y w → P x w) : s.ZoneStep u z P := by
  obtain ⟨zones, evq, rfl, hlen, hR⟩ := hst
  obtain ⟨zones', evq', rfl, hlen', hQ⟩ := htu
  exact ⟨zones', evq', rfl, hlen'.trans hlen, hP _ _ _ hR hQ⟩

theorem State.ZoneStep.mono {s t : State} {z : Nat} {R P : Zone → Zone → Prop} (h : s.ZoneStep t z R) (hP : ∀ x y, R x y → P x y) :
    s.ZoneStep t z P := by
  obtain ⟨zones, evq, rfl, hlen, hR⟩ := h
  exact ⟨zones, evq, rfl, hlen, hP _ _ hR⟩

theorem State.ZoneStep.length {s t : State} {z : Nat} {R : Zone → Zone → Prop} (h : s.ZoneStep t z R) :
    t.th.zones.length = s.th.zones.length := by
  obtain ⟨zones, evq, rfl, hlen, -⟩ := h
  exact hlen

theorem State.zone_zoneStep {s : State} {z : Nat} (hz : z < s.th.zones.length) (f : Zone → Zone) :
    s.ZoneStep (s.zone z f) z fun x y => y = f x := ⟨_, s.evq, rfl, upd_length .., at_upd_self f hz⟩

/-- A change of zone `k` leaves zone `z` what it is, but for what the change leaves alone. -/
theorem State.zone_zoneStep_of {s : State} {z k : Nat} {R : Zone → Zone → Prop} (f : Zone → Zone) (hrefl : ∀ x, R x x)
    (hf : k = z → R (at_ s.th.zones z) (f (at_ s.th.zones z))) : s.ZoneStep (s.zone k f) z R := by
  refine ⟨_, s.evq, rfl, upd_length .., ?_⟩
  rw [at_upd]
  split
  · next hk => exact hf hk.1
  · exact hrefl _

theorem State.raiseIf_zoneStep (s : State) (c : Bool) (code src payload z : Nat) :
    s.ZoneStep (s.raiseIf c code src payload) z fun x y => y = x := by
  obtain ⟨evq, h⟩ := s.raiseIf_evq c code src payload
  exact ⟨s.th.zones, evq, h, rfl, rfl⟩

theorem State.setSuspect_zoneStep {s : State} {z : Nat} (hz : z < s.th.zones.length) (v : Bool) (cause : Nat) (est : Option Int) :
    s.ZoneStep (s.setSuspect z v cause est) z fun x y => y.reading = x.reading ∧ y.suspect = v := by
  refine ⟨_, _, rfl, upd_length .., ?_⟩
  dsimp only [State.zone]
  rw [at_upd_self _ hz]
  exact ⟨rfl, rfl⟩

/-- What a good reading leaves of a zone in service. -/
def Zone.Read (v : Int) (x y : Zone) : Prop :=
  y.reading = v ∧ y.effective = v ∧ y.suspect = false ∧ y.warn = x.warn ∧ y.hotRun = x.hotRun

theorem State.crossCheck_good {s : State} {z : Nat} {v : Int} (hz : z < s.th.zones.length)
    (hin : (at_ s.th.zones z).suspect = false) (hgood : badReading v = false) (hrun : (at_ s.th.zones z).devRun < 15) :
    s.ZoneStep (s.crossCheck z v) z (Zone.Read v) := by
  unfold State.crossCheck
  dsimp only
  rw [if_neg (ne_true_of_eq_false hin), if_neg (ne_true_of_eq_false hgood), if_neg fun h => hrun.ne h.2]
  refine ⟨_, s.evq, rfl, (upd_length ..).trans ((upd_length ..).trans (upd_length ..)), ?_⟩
  dsimp only [State.zone]
  rw [upd_upd, upd_upd, at_upd_self _ hz]
  exact ⟨rfl, rfl, hin, rfl, rfl⟩

theorem State.crossCheck_bad {s : State} {z : Nat} {v : Int} (hz : z < s.th.zones.length)
    (hin : (at_ s.th.zones z).suspect = false) (hbad : badReading v = true) :
    s.ZoneStep (s.crossCheck z v) z fun _ y => y.reading = v ∧ y.suspect = true := by
  unfold State.crossCheck
  dsimp only
  rw [if_neg (ne_true_of_eq_false hin), if_pos hbad]
  refine (s.zone_zoneStep hz _).trans (State.setSuspect_zoneStep (hz.trans_eq (upd_length ..).symm) true 1 _) ?_
  rintro x y w rfl ⟨hr, hs⟩
  exact ⟨hr, hs⟩

/-- What a suspect zone keeps while its effective temperature follows its neighbours; one in service keeps everything. -/
def Zone.Follows (x y : Zone) : Prop :=
  (x.suspect = false → y = x) ∧ (x.suspect = true → y.reading = x.reading ∧ y.suspect = true)

theorem Zone.Follows.trans {x y w : Zone} (hxy : x.Follows y) (hyw : y.Follows w) : x.Follows w := by
  refine ⟨fun hin => ?_, fun hsus => ?_⟩
  · have h := hxy.1 hin
    subst h
    exact hyw.1 hin
  · obtain ⟨hr, hs⟩ := hxy.2 hsus
    obtain ⟨hr', hs'⟩ := hyw.2 hs
    exact ⟨hr'.trans hr, hs'⟩

theorem Zone.Follows.refl (x : Zone) : x.Follows x := ⟨fun _ => rfl, fun h => ⟨rfl, h⟩⟩

theorem State.refreshZones_zoneStep (s : State) (z : Nat) : s.ZoneStep s.refreshZones z Zone.Follows := by
  have hfold (l : List Nat) (s : State) : s.ZoneStep (l.foldl (fun (s : State) z =>
      if (at_ s.th.zones z).suspect then
        let t := s.suspectTemp z
        let e := (s.zoneEst z).map roundRat
        s.zone z fun x => { x with effective := t, estimate := e, base := if e.isSome then t else x.base }
      else s) s) z Zone.Follows := by
    induction l generalizing s with
    | nil => exact (State.ZoneStep.refl s z).mono fun x y h => h ▸ .refl x
    | cons k l ih =>
      refine State.ZoneStep.trans (R := Zone.Follows) ?_ (ih _) fun _ _ _ => .trans
      dsimp only
      split
      · next hsus =>
        refine State.zone_zoneStep_of _ .refl ?_
        rintro rfl
        exact ⟨fun hin => Bool.noConfusion (hin.symm.trans hsus), fun h => ⟨rfl, h⟩⟩
      · exact (State.ZoneStep.refl s z).mono fun x y h => h ▸ .refl x
  exact hfold (List.range 16) s

/-- WARN after a reading. -/
def Zone.warned (x : Zone) : Bool := if 800 ≤ x.effective then true else if x.effective < 760 then false else x.warn

theorem State.judgeWarn_zoneStep {s : State} {z : Nat} (hz : z < s.th.zones.length) (k : Nat) :
    s.ZoneStep (s.judgeWarn k) z fun x y => y = if k = z then { x with warn := x.warned } else x := by
  obtain ⟨evq, hstep⟩ := (s.zone k fun x => { x with warn := (at_ s.th.zones k).warned }).raiseIf_evq
    ((at_ s.th.zones k).warned != (at_ s.th.zones k).warn) 0x0B01 k
    (b2n (at_ s.th.zones k).warned + 65536 * pattern 16 (at_ s.th.zones k).effective)
  refine ⟨_, evq, hstep, upd_length .., ?_⟩
  by_cases hk : k = z
  · subst hk
    exact (at_upd_self _ hz).trans (if_pos rfl).symm
  · exact (at_upd_ne _ hk).trans (if_neg hk).symm

theorem State.judgeWarns_zoneStep {s : State} {z : Nat} (hz : z < s.th.zones.length) (l : List Nat) (hl : l.Nodup) :
    s.ZoneStep (l.foldl State.judgeWarn s) z fun x y => y = if z ∈ l then { x with warn := x.warned } else x := by
  induction l generalizing s with
  | nil => exact (State.ZoneStep.refl s z).mono fun x y h => h.trans (if_neg List.not_mem_nil).symm
  | cons k l ih =>
    obtain ⟨hk, hl⟩ := List.nodup_cons.mp hl
    have hstep := State.judgeWarn_zoneStep hz k
    refine hstep.trans (ih (hz.trans_eq hstep.length.symm) hl) ?_
    rintro x y w rfl rfl
    by_cases hkz : k = z
    · subst hkz
      simp [hk]
    · simp [hkz, Ne.symm hkz]

theorem State.compRound_eq (s : State) : ∃ ck evq, s.compRound = { s with ck := ck, evq := evq } := by
  unfold State.compRound
  rcases s.ck.compWait with _ | r
  · exact ⟨s.ck, s.evq, rfl⟩
  · dsimp only
    split
    · exact ⟨_, _, rfl⟩
    · exact ⟨_, _, rfl⟩

/-- A thermal round begins with zone 0: the records that waited for it come into force. -/
def State.thermalRound (s : State) (z : Nat) : State :=
  if z = 0 then
    let s := s.compRound.applyTrims s.driveTemp
    match s.th.modelWait with
    | some r => { s with th := { s.th with model := some r, modelWait := none } }
    | none => s
  else s

theorem State.thermalRound_eq (s : State) (z : Nat) : ∃ ck evq model modelWait,
    s.thermalRound z = { s with ck := ck, evq := evq, th := { s.th with model := model, modelWait := modelWait } } := by
  unfold State.thermalRound
  split
  · obtain ⟨ck, evq, hcomp⟩ := s.compRound_eq
    rw [hcomp]
    dsimp only [State.applyTrims]
    rcases s.th.modelWait with _ | r
    · exact ⟨_, _, s.th.model, s.th.modelWait, rfl⟩
    · exact ⟨_, _, _, _, rfl⟩
  · exact ⟨s.ck, s.evq, s.th.model, s.th.modelWait, rfl⟩

/-- The round, and the power that the sequencer counts for a zone of the core. -/
def State.beforeReading (s : State) (z power : Nat) : State :=
  if z < 8 then (s.thermalRound z).zone z fun x => { x with power := power } else s.thermalRound z

theorem State.beforeReading_spec {s : State} {z : Nat} (hz : z < s.th.zones.length) (power : Nat) :
    ∃ ck evq model modelWait zones, s.beforeReading z power = { s with
      ck := ck, evq := evq, th := { s.th with model := model, modelWait := modelWait, zones := zones } } ∧
      zones.length = s.th.zones.length ∧ ∃ p, at_ zones z = { at_ s.th.zones z with power := p } := by
  obtain ⟨ck, evq, model, modelWait, hround⟩ := s.thermalRound_eq z
  unfold State.beforeReading
  rw [hround]
  split
  · exact ⟨ck, evq, model, modelWait, _, rfl, upd_length .., power, at_upd_self _ hz⟩
  · exact ⟨ck, evq, model, modelWait, s.th.zones, rfl, rfl, _, rfl⟩

/-- The zones after a reading has been judged, before the two readings in a row are counted. -/
def State.judged (s : State) (z : Nat) (v : Int) (power : Nat) : State :=
  (List.range 16).foldl State.judgeWarn ((s.beforeReading z power).crossCheck z v).refreshZones

theorem State.judged_spec {s : State} {z : Nat} {v : Int} {R : Zone → Zone → Prop} (hlen : s.th.zones.length = 16) (hz : z ≤ 15)
    (power : Nat) (hcheck : ∀ (u : State) p, at_ u.th.zones z = { at_ s.th.zones z with power := p } → z < u.th.zones.length →
      u.ZoneStep (u.crossCheck z v) z R) :
    ∃ ck evq th, s.judged z v power = { s with ck := ck, evq := evq, th := th } ∧ th.state = s.th.state ∧ th.trips = s.th.trips ∧
      th.zones.length = 16 ∧ ∃ p y w, R { at_ s.th.zones z with power := p } y ∧ y.Follows w ∧
        at_ th.zones z = { w with warn := w.warned } := by
  have hlt : z < s.th.zones.length := by omega
  obtain ⟨ck, evq, model, modelWait, zones, hu, hulen, p, hat⟩ := State.beforeReading_spec hlt power
  obtain ⟨u, hdef⟩ : ∃ u : State, u = s.beforeReading z power := ⟨_, rfl⟩
  have hR := hcheck u p (by rw [hdef, hu]; exact hat) (by rw [hdef, hu]; exact hlt.trans_eq hulen.symm)
  have hall : u.ZoneStep (s.judged z v power) z fun x z' => ∃ y w, R x y ∧ y.Follows w ∧ z' = { w with warn := w.warned } := by
    unfold State.judged
    rw [← hdef]
    have hrest := (u.crossCheck z v).refreshZones_zoneStep z
    have hlen' : z < (u.crossCheck z v).refreshZones.th.zones.length := by
      rw [hrest.length, hR.length, hdef, hu]
      exact hlt.trans_eq hulen.symm
    refine hR.trans (hrest.trans (State.judgeWarns_zoneStep hlen' (List.range 16) List.nodup_range)
      (P := fun y z' => ∃ w, y.Follows w ∧ z' = { w with warn := w.warned }) ?_) ?_
    · rintro y w z' hf rfl
      exact ⟨w, hf, if_pos (List.mem_range.mpr (by omega))⟩
    · rintro x y z' hxy ⟨w, hf, rfl⟩
      exact ⟨y, w, hxy, hf, rfl⟩
  obtain ⟨zones', evq', hj, hjlen, y, w, hxy, hf, hw⟩ := hall
  rw [hdef, hu] at hj hjlen hxy
  refine ⟨ck, evq', _, hj, rfl, rfl, hjlen.trans (hulen.trans hlen), p, y, w, ?_, hf, hw⟩
  exact hat ▸ hxy

/-- Two readings in a row at 125 °C or above. -/
def Zone.hotter (x : Zone) : Nat := if 1000 ≤ x.effective then min 3 (x.hotRun + 1) else 0

theorem State.zoneReading_eq (s : State) (z : Nat) (v : Int) (power : Nat) : s.zoneReading z v power =
    ((at_ (s.judged z v power).th.zones z).hotter == 2 && (at_ (s.judged z v power).th.zones z).hotRun == 1,
      ((s.judged z v power).zone z fun x => { x with hotRun := (at_ (s.judged z v power).th.zones z).hotter }).judgeCool) := by
  unfold State.zoneReading State.judged State.beforeReading State.thermalRound Zone.hotter
  by_cases hz : z = 0
  · rcases hm : (s.compRound.applyTrims s.driveTemp).th.modelWait with _ | r
    · simp only [hz, hm, if_true]
    · simp only [hz, hm, if_true]
  · simp only [hz, if_false]

theorem Zone.hotter_eq_two {x : Zone} : (x.hotter == 2 && x.hotRun == 1) = true ↔ 1000 ≤ x.effective ∧ x.hotRun = 1 := by
  unfold Zone.hotter
  rw [Bool.and_eq_true, beq_iff_eq, beq_iff_eq]
  constructor
  · rintro ⟨h, hrun⟩
    split at h
    · next hhot => exact ⟨hhot, hrun⟩
    · exact absurd h (by decide)
  · rintro ⟨hhot, hrun⟩
    rw [if_pos hhot, hrun]
    exact ⟨rfl, rfl⟩

theorem State.AxisMoves.th {s t : State} (h : s.AxisMoves t) : t.th = s.th := by
  obtain ⟨axes, ios, heads, sinks, inflight, evq, rfl⟩ := h
  rfl

/-- What a trip stops leaves the thermal state, but for the kennel write that it cut. -/
theorem State.tripStop_th (u : State) : u.tripStop.th = { u.th with lostWrite := u.stopOutputs.th.lostWrite } := by
  have hstop : u.stopOutputs.SameVitals ((u.stopOutputs.dropPending.blankHeads 5).endSession 3) :=
    ((State.dropPending_sameVitals _).trans (State.blankHeads_beamMoves ..).sameVitals).trans (State.endSession_sameVitals ..)
  obtain ⟨-, hkeep, -⟩ := u.stopOutputs_spec
  unfold State.tripStop
  rw [(State.foldl_heel 8 allAxes _).1.th, hstop.th]
  exact hkeep

/-- A trip: what it does to the thermal state. -/
theorem State.trip_th (s : State) (z source : Nat) : ∃ (lock : Bool) (th : Thermal), (s.trip z source).th = th ∧
    th.state = (if lock then 3 else 1) ∧ th.trips = s.th.trips + 1 ∧ th.tripMask = 2 ^ z ∧ th.zones = s.th.zones := by
  obtain ⟨u, lock, htrip, hth⟩ : ∃ (u : State) (lock : Bool), s.trip z source = u.tripStop ∧
      u.th.state = (if lock then 3 else 1) ∧ u.th.trips = s.th.trips + 1 ∧ u.th.tripMask = 2 ^ z ∧ u.th.zones = s.th.zones :=
    ⟨_, s.th.state == 3 || decide (3 ≤ ((s.now :: s.th.tripTimes).filter fun x => decide (s.now - x ≤ 600 * tuS)).length),
      rfl, rfl, rfl, rfl, rfl⟩
  exact ⟨lock, _, (congrArg State.th htrip).trans u.tripStop_th, hth⟩

/-! ## The obligation's clauses -/

/-- A reading that does not trip. -/
theorem State.readZone_of_calm {s : State} {z : Nat} {v : Int} {power : Nat} (hz : z ≤ 15) (hporst : s.boot.porstLow = false)
    (hcalm : ¬(1000 ≤ (at_ (s.judged z v power).th.zones z).effective ∧ (at_ (s.judged z v power).th.zones z).hotRun = 1)) :
    s.readZone z v power = ((s.judged z v power).zone z fun x =>
      { x with hotRun := (at_ (s.judged z v power).th.zones z).hotter }).judgeCool := by
  unfold State.readZone
  rw [if_neg (not_or.mpr ⟨by omega, ne_true_of_eq_false hporst⟩), State.zoneReading_eq, Bool.eq_false_iff.mpr fun h => hcalm (Zone.hotter_eq_two.mp h)]

theorem State.readZone_of_hot {s : State} {z : Nat} {v : Int} {power : Nat} (hz : z ≤ 15) (hporst : s.boot.porstLow = false)
    (hhot : 1000 ≤ (at_ (s.judged z v power).th.zones z).effective ∧ (at_ (s.judged z v power).th.zones z).hotRun = 1) :
    s.readZone z v power = (((s.judged z v power).zone z fun x =>
      { x with hotRun := (at_ (s.judged z v power).th.zones z).hotter }).judgeCool).trip z 1 := by
  unfold State.readZone
  rw [if_neg (not_or.mpr ⟨by omega, ne_true_of_eq_false hporst⟩), State.zoneReading_eq, Zone.hotter_eq_two.mpr hhot]

/-- What a reading leaves of its zone, and of the thermal state. -/
theorem State.readZone_spec {s : State} {z : Nat} {v : Int} {R : Zone → Zone → Prop} (hlen : s.th.zones.length = 16) (hz : z ≤ 15)
    (hporst : s.boot.porstLow = false) (power : Nat)
    (hcheck : ∀ (u : State) p, at_ u.th.zones z = { at_ s.th.zones z with power := p } → z < u.th.zones.length →
      u.ZoneStep (u.crossCheck z v) z R) :
    ∃ p y w, R { at_ s.th.zones z with power := p } y ∧ y.Follows w ∧
      at_ (s.readZone z v power).th.zones z = { w with warn := w.warned, hotRun := w.hotter } ∧
      (1000 ≤ w.effective ∧ w.hotRun = 1 → (s.readZone z v power).th.tripMask = 2 ^ z ∧
        (s.readZone z v power).th.trips = s.th.trips + 1 ∧
        ((s.readZone z v power).th.state = 1 ∨ (s.readZone z v power).th.state = 3)) ∧
      (¬(1000 ≤ w.effective ∧ w.hotRun = 1) → (s.readZone z v power).th.state = s.th.state ∧
        (s.readZone z v power).th.trips = s.th.trips ∧ (s.readZone z v power).mbx = s.mbx ∧ (s.readZone z v power).axes = s.axes) := by
  obtain ⟨ck, evq, th, hj, hstate, htrips, hzones, p, y, w, hR, hf, hat⟩ := State.judged_spec hlen hz power hcheck
  have hatj : at_ (s.judged z v power).th.zones z = { w with warn := w.warned } := by rw [hj]; exact hat
  have hlt : z < (s.judged z v power).th.zones.length := by rw [hj]; exact (Nat.lt_succ_of_le hz).trans_eq hzones.symm
  have hlast : at_ ((s.judged z v power).zone z fun x =>
      { x with hotRun := (at_ (s.judged z v power).th.zones z).hotter }).judgeCool.th.zones z =
        { w with warn := w.warned, hotRun := w.hotter } := by
    refine (at_upd_self _ hlt).trans ?_
    rw [hatj]
    rfl
  have hsame : ((s.judged z v power).zone z fun x =>
      { x with hotRun := (at_ (s.judged z v power).th.zones z).hotter }).judgeCool.th.state = s.th.state ∧
      ((s.judged z v power).zone z fun x =>
        { x with hotRun := (at_ (s.judged z v power).th.zones z).hotter }).judgeCool.th.trips = s.th.trips := by
    rw [hj]
    exact ⟨hstate, htrips⟩
  refine ⟨p, y, w, hR, hf, ?_⟩
  by_cases hhot : 1000 ≤ w.effective ∧ w.hotRun = 1
  · have hstep := State.readZone_of_hot (v := v) (power := power) hz hporst (by rw [hatj]; exact hhot)
    generalize ((s.judged z v power).zone z fun x =>
      { x with hotRun := (at_ (s.judged z v power).th.zones z).hotter }).judgeCool = u at hstep hlast hsame
    obtain ⟨lock, th', hth, hs, ht, hm, hzs⟩ := u.trip_th z 1
    rw [hstep, hth, hzs, hs, ht, hm, hsame.2]
    refine ⟨hlast, fun _ => ⟨rfl, rfl, ?_⟩, fun h => absurd hhot h⟩
    cases lock
    · exact .inl rfl
    · exact .inr rfl
  · have hstep := State.readZone_of_calm (v := v) (power := power) hz hporst (by rw [hatj]; exact hhot)
    rw [hstep]
    refine ⟨hlast, fun h => absurd h hhot, fun _ => ⟨hsame.1, hsame.2, ?_⟩⟩
    rw [hj]
    exact ⟨rfl, rfl⟩

/-! ## The drives after a trip -/

/-- What is in flight ends, and its tags return. -/
theorem State.endOps_spec (l : List NvmeOp) (s : State) (hl : (s.cs.ops.filter fun o => o.tags != 0).Perm l) :
    ∃ fetch cs, l.foldl (fun (s : State) o => State.returnTags { s with cs := { s.cs with
        ops := s.cs.ops.erase o, readErrors := s.cs.readErrors + BitVec.ofNat 32 o.tags } } 2 o.tags) s =
      { s with fetch := fetch, cs := cs } ∧ (∀ o ∈ cs.ops, o.tags = 0) ∧ at_ fetch.held 3 = at_ s.fetch.held 3 := by
  induction l generalizing s with
  | nil =>
    refine ⟨s.fetch, s.cs, rfl, fun o ho => ?_, rfl⟩
    have hnone := List.filter_eq_nil_iff.mp hl.eq_nil o ho
    simpa using hnone
  | cons o l ih =>
    have hmem := List.mem_filter.mp (hl.mem_iff.mpr List.mem_cons_self)
    have hrest : ((s.cs.ops.erase o).filter fun o => o.tags != 0).Perm l := by
      have hperm := (List.perm_cons_erase hmem.1).filter fun o => o.tags != 0
      rw [List.filter_cons, if_pos hmem.2] at hperm
      exact (hperm.symm.trans hl).cons_inv
    obtain ⟨fetch, cs, hstep, hops, htags⟩ := ih (State.returnTags { s with cs := { s.cs with
      ops := s.cs.ops.erase o, readErrors := s.cs.readErrors + BitVec.ofNat 32 o.tags } } 2 o.tags) hrest
    exact ⟨fetch, cs, hstep, hops, htags.trans (at_upd_ne _ (by decide))⟩

/-! ## Kennel writes -/

theorem getD_upd_self {α : Type} {l : List α} {i : Nat} (f : α → α) (h : i < l.length) (d : α) :
    (upd l i f).getD i d = f l[i] := by
  rw [List.getD_eq_getElem _ _ (h.trans_eq (upd_length ..).symm)]
  exact (List.getElem_modify ..).trans (if_pos rfl)

/-- The slot of a store that is not in force. -/
def State.otherSlot (s : State) (store : Nat) : Nat := match s.inForceSlot store with
  | some 0 => 1
  | _ => 0

theorem State.otherSlot_eq (s : State) (store : Nat) : s.otherSlot store = if s.inForceSlot store = some 0 then 1 else 0 := by
  unfold State.otherSlot
  rcases s.inForceSlot store with _ | _ | k
  · rfl
  · rfl
  · rfl

/-- The one paced write in the queue begins while the flash is free. -/
theorem State.kennelStart_of_paced {s : State} {store : Nat} {c : Content} (hidle : s.ken.writing = none)
    (hq : s.ken.queue = [⟨store, 0, false, false, false, 0, 0, c⟩]) :
    s.kennelStart = { s with ken := { s.ken with
      queue := []
      writing := some ⟨store, s.otherSlot store, false, false, false, s.now, s.tk.tick, s.liveContent store⟩
      slots := upd s.ken.slots (2 * store + s.otherSlot store) fun _ => ⟨2, 0, 0, 0, 0, .none, []⟩
      carry := bumpCarry s.ken.carry store (s.otherSlot store)
      writeTimes := bumpTimes s.ken.writeTimes (2 * store + s.otherSlot store) s.now
      dirty := upd s.ken.dirty store fun d => d && decide ((s.liveContent store).ageless ≠ (s.liveContent store).ageless)
      lastWrite := upd s.ken.lastWrite store fun _ => some s.now } } := by
  unfold State.kennelStart
  rw [hidle, hq]
  dsimp only [kennelPick, List.foldl]
  rw [if_neg Bool.false_ne_true, List.erase_cons_head]
  rfl

/-- Nothing waits: no write begins. -/
theorem State.kennelStart_of_empty {s : State} (hq : s.ken.queue = []) : s.kennelStart = s := by
  unfold State.kennelStart
  rw [hq]
  cases s.ken.writing <;> rfl

theorem State.wearEvents_eq (s : State) (store slot before count : Nat) :
    ∃ evq, s.wearEvents store slot before count = { s with evq := evq } := by
  unfold State.wearEvents
  obtain ⟨evq, h⟩ := s.raiseIf_evq (decide (before < 9000) && decide (9000 ≤ count)) 0x0C04 store slot
  obtain ⟨evq', h'⟩ := ({ s with evq := evq } : State).raiseIf_evq (decide (before < 10000) && decide (10000 ≤ count)) 0x0C04 store (slot + 2)
  refine ⟨evq', ?_⟩
  dsimp only
  rw [h, h']

/-- The events at the end of a write, with nothing else waiting. -/
theorem State.wornStart_eq {u : State} (hq : u.ken.queue = []) (code src payload store slot before count : Nat) :
    ∃ evq, ((u.raise code src payload).wearEvents store slot before count).kennelStart = { u with evq := evq } := by
  obtain ⟨evq, hwear⟩ := (u.raise code src payload).wearEvents_eq store slot before count
  rw [hwear]
  exact ⟨evq, State.kennelStart_of_empty (s := { u with evq := evq }) hq⟩

/-- The sequence number that the next write of a store takes. -/
def State.seqNext (s : State) (store : Nat) : W32 := match s.inForceSlot store with
  | some k => nextSeq (s.kslot store k).seq
  | none => 1

/-- A paced write that reads back good puts its slot in force. -/
theorem State.kennelDone_of_good {s : State} {w : KWrite} (hw : s.ken.writing = some w) (herase : w.erase = false)
    (hcmd : w.commanded = false) (hq : s.ken.queue = []) :
    ∃ evq, s.kennelDone true = { s with evq := evq, ken := { s.ken with
      writing := none
      slots := upd s.ken.slots (2 * w.store + w.slot) fun _ => ⟨1, s.seqNext w.store, (s.ken.carry.getD w.store (0, 0)).1,
        (s.ken.carry.getD w.store (0, 0)).2, w.tick, w.content, []⟩ } } := by
  unfold State.kennelDone
  rw [hw]
  dsimp only
  rw [if_neg (ne_true_of_eq_false herase), if_pos rfl, if_neg (ne_true_of_eq_false hcmd)]
  exact State.wornStart_eq (u := { s with ken := { s.ken with
    writing := none
    slots := upd s.ken.slots (2 * w.store + w.slot) fun _ => ⟨1, s.seqNext w.store, (s.ken.carry.getD w.store (0, 0)).1,
      (s.ken.carry.getD w.store (0, 0)).2, w.tick, w.content, []⟩ } }) hq ..

/-- A paced write that fails its read-back a second time leaves its store dirty. -/
theorem State.kennelDone_of_bad {s : State} {w : KWrite} (hw : s.ken.writing = some w) (herase : w.erase = false)
    (hcmd : w.commanded = false) (hq : s.ken.queue = []) (hret : w.retried = true) :
    ∃ evq, s.kennelDone false = { s with evq := evq, ken := { s.ken with
      writing := none, dirty := upd s.ken.dirty w.store fun _ => true } } := by
  unfold State.kennelDone
  rw [hw]
  dsimp only
  rw [if_neg (ne_true_of_eq_false herase), if_neg Bool.false_ne_true, if_pos hret, if_neg (ne_true_of_eq_false hcmd)]
  exact State.wornStart_eq (u := { s with ken := { s.ken with
    writing := none, dirty := upd s.ken.dirty w.store fun _ => true } }) hq ..

/-- Settles O56. -/
theorem thermalAndKennelEventsRun : Obligations.ThermalAndKennelEventsRun := by
  unfold Obligations.ThermalAndKennelEventsRun
  refine fun s => ⟨fun z v power hz hporst hlen x hx hin => ⟨fun hgood hrun => ?_, fun hbad => ?_⟩, fun htrip => ?_,
    fun task unit hunit j u hj hu hdue hsus hon at' hat => congrArg done ?_,
    fun store hstore hdirty hfw hq hidle hslots hlen hlast at' slot hat hslot => ?_,
    fun w hw herase hcmd hq hslots hlen hstore hslot => ⟨?_, fun hret => congrArg done ?_, fun hret => ?_⟩⟩
  · subst hx
    obtain ⟨p, y, w, ⟨hr, he, hs, hwarn, hhot⟩, hf, hat, htrip, hcalm⟩ := State.readZone_spec (R := Zone.Read v) hlen hz hporst power
      fun u p hat hlt => State.crossCheck_good hlt (by rw [hat]; exact hin) hgood (by rw [hat]; exact hrun)
    have hyw := hf.1 hs
    subst hyw
    have hhot' : w.hotRun = (at_ s.th.zones z).hotRun := hhot
    have hwarn' : w.warn = (at_ s.th.zones z).warn := hwarn
    refine ⟨_, rfl, ?_⟩
    rw [State.settle_th, State.settle_mbx, State.settle_axes, hat]
    rw [he, hhot'] at htrip hcalm
    refine ⟨hr, he, hs, ?_, ?_, htrip, hcalm⟩
    · rw [← he, ← hwarn']
      rfl
    · rw [← he, ← hhot']
      rfl
  · subst hx
    obtain ⟨p, y, w, ⟨hr, hs⟩, hf, hat, -⟩ := State.readZone_spec (R := fun _ y => y.reading = v ∧ y.suspect = true) hlen hz hporst power
      fun u p hat hlt => State.crossCheck_bad hlt (by rw [hat]; exact hin) hbad
    obtain ⟨hr', hs'⟩ := hf.2 hs
    refine ⟨_, rfl, ?_⟩
    rw [State.settle_th, hat]
    exact ⟨hr'.trans hr, hs'⟩
  · obtain ⟨fetch, cs, hstep, hops, htags⟩ := State.endOps_spec (s.cs.ops.filter fun o => o.tags != 0)
      ((s.forward (s.th.tripAt + tuS)).returnTags 3 ((s.forward (s.th.tripAt + tuS)).tags 3)) (List.Perm.refl _)
    refine ⟨_, congrArg done ((if_neg (ne_false_of_eq_true htrip)).trans hstep), rfl, hops, htags.trans ?_, rfl⟩
    refine (at_upd ..).trans ?_
    split
    · exact Nat.sub_self _
    · next hout =>
      have hge : s.fetch.held.length ≤ 3 := by simpa using hout
      exact List.getD_eq_default _ _ hge
  · subst hj hu hat
    unfold State.calDue
    rw [if_pos hunit]
    refine (if_neg ?_).trans rfl
    simp [hdue, hsus, hon]
  · obtain ⟨u, hu⟩ : ∃ u : State, u = { s with now := at' } := ⟨_, rfl⟩
    have hcall : s.kennelPaced store = (u.kennelQueue store false false (u.liveContent store)).kennelStart := by
      rw [hu, hat]
      exact if_pos ⟨hstore, hdirty, hfw, by rw [hq]; rfl⟩
    have hstart := State.kennelStart_of_paced (store := store) (s := u.kennelQueue store false false (u.liveContent store))
      (by rw [hu]; exact hidle) (by rw [hu]; exact congrArg (· ++ _) hq)
    have hother : State.otherSlot (u.kennelQueue store false false (u.liveContent store)) store = slot := by
      rw [State.otherSlot_eq, hslot, hu]
      rfl
    rw [hother] at hstart
    have hin : store < 3 ∧ slot ≤ 1 := by
      rw [hslot]
      split <;> omega
    have hidx : 2 * store + slot < s.ken.slots.length := by omega
    have hdidx : store < s.ken.dirty.length := by omega
    have hlidx : store < s.ken.lastWrite.length := by omega
    refine ⟨_, congrArg done (hcall.trans hstart), ?_⟩
    rw [← hu]
    subst hu
    refine ⟨rfl, rfl, rfl, congrArg KSlot.state (at_upd_self _ hidx), (getD_upd_self _ hdidx _).trans ?_, getD_upd_self _ hlidx _,
      fun k hk => at_upd_ne _ hk.symm, rfl⟩
    exact (congrArg (_ && ·) (decide_eq_false fun h => h rfl)).trans (Bool.and_false _)
  · have hidx : 2 * w.store + w.slot < s.ken.slots.length := by omega
    obtain ⟨evq, hstep⟩ := State.kennelDone_of_good hw herase hcmd hq
    exact ⟨_, congrArg done hstep, rfl, at_upd_self _ hidx, fun k hk => at_upd_ne _ hk.symm, rfl⟩
  · unfold State.kennelDone
    rw [hw]
    dsimp only
    rw [if_neg (ne_true_of_eq_false herase), if_neg Bool.false_ne_true, if_neg (ne_true_of_eq_false hret)]
  · obtain ⟨evq, hstep⟩ := State.kennelDone_of_bad hw herase hcmd hq hret
    exact ⟨_, congrArg done hstep, rfl, getD_upd_self _ (hstore.trans_eq hlen.symm) _, rfl, rfl⟩

end Sys2Proof.Machine
end

section
/-! PROOFS. The timers of arrays and the loss and return of lanes (07 R160 to R170). -/
namespace Sys2Proof.Machine

/-! ## Arrays that stop -/

/-- A lane keeps its counters and its hold, and does not come back. -/
def Lane.Drops (x y : Lane) : Prop := y.losses = x.losses ∧ y.held = x.held ∧ (x.ok = false → y.ok = false)

theorem Lane.Drops.refl (x : Lane) : x.Drops x := ⟨rfl, rfl, id⟩

theorem Lane.Drops.trans {x y w : Lane} (hxy : x.Drops y) (hyw : y.Drops w) : x.Drops w :=
  ⟨hyw.1.trans hxy.1, hyw.2.1.trans hxy.2.1, hyw.2.2 ∘ hxy.2.2⟩

/-- What the stop of an array may change: the plane link, LANE_LOST and the event queue. -/
def State.Stops (s t : State) : Prop := ∃ evq laneLost arrays lanes groupsAt,
  t = { s with
    evq := evq, chi := { s.chi with laneLost := laneLost }
    pl := { s.pl with arrays := arrays, lanes := lanes, groupsAt := groupsAt } } ∧
  (s.chi.laneLost = true → laneLost = true) ∧ ∀ n, (at_ s.pl.lanes n).Drops (at_ lanes n)

theorem State.Stops.refl (s : State) : s.Stops s :=
  ⟨s.evq, s.chi.laneLost, s.pl.arrays, s.pl.lanes, s.pl.groupsAt, rfl, id, fun _ => .refl _⟩

theorem State.Stops.trans {s t u : State} (h : s.Stops t) (k : t.Stops u) : s.Stops u := by
  obtain ⟨evq, laneLost, arrays, lanes, groupsAt, rfl, hlost, hdrop⟩ := h
  obtain ⟨evq', laneLost', arrays', lanes', groupsAt', rfl, hlost', hdrop'⟩ := k
  exact ⟨evq', laneLost', arrays', lanes', groupsAt', rfl, hlost' ∘ hlost, fun n => (hdrop n).trans (hdrop' n)⟩

theorem State.lane_stops (s : State) (n : Nat) {f : Lane → Lane} (hf : ∀ l : Lane, l.Drops (f l)) : s.Stops (s.lane n f) := by
  refine ⟨s.evq, s.chi.laneLost, s.pl.arrays, _, s.pl.groupsAt, rfl, id, fun m => ?_⟩
  rw [at_upd]
  split
  · exact hf _
  · exact .refl _

theorem State.dropLanes_stops (s : State) (a : Nat) : s.Stops (s.dropLanes a) := by
  unfold State.dropLanes
  induction s.lanesOf a generalizing s with
  | nil => exact .refl s
  | cons n ns ih =>
    rw [List.foldl_cons]
    refine State.Stops.trans (State.lane_stops s n ?_) (ih _)
    exact fun l => ⟨rfl, rfl, fun _ => rfl⟩

/-- An array that enters a state, and the event of it. -/
theorem State.enterArray_eq (s : State) (a st reason : Nat) : ∃ evq, s.enterArray a st reason = { s with
    evq := evq, pl := { s.pl with arrays := upd s.pl.arrays a fun x =>
      { x with state := st, since := s.now, reason := if st = 7 then reason else x.reason } } } :=
  (s.arr a fun x => { x with state := st, since := s.now, reason := if st = 7 then reason else x.reason }).raiseIf_evq ..

theorem State.enterArray_stops (s : State) (a st reason : Nat) : s.Stops (s.enterArray a st reason) := by
  obtain ⟨evq, h⟩ := s.enterArray_eq a st reason
  exact ⟨evq, s.chi.laneLost, _, s.pl.lanes, s.pl.groupsAt, h, id, fun _ => .refl _⟩

/-- An array that is being stopped, before its lanes leave: RUN that ends is a loss of lanes. -/
def State.stopping (s : State) (a : Nat) : State :=
  { s with chi := { s.chi with laneLost := s.chi.laneLost || (s.array a).state == 5 } }

theorem State.stopArray_eq (s : State) (a st reason : Nat) : ∃ groupsAt,
    s.stopArray a st reason = { ((s.stopping a).enterArray a st reason).dropLanes a with
      pl := { (((s.stopping a).enterArray a st reason).dropLanes a).pl with groupsAt := groupsAt } } := by
  unfold State.stopArray
  dsimp only
  split
  · exact ⟨_, rfl⟩
  · exact ⟨_, rfl⟩

theorem State.stopArray_stops (s : State) (a st reason : Nat) : s.Stops (s.stopArray a st reason) := by
  obtain ⟨groupsAt, hstop⟩ := s.stopArray_eq a st reason
  have hbegin : s.Stops (s.stopping a) :=
    ⟨s.evq, _, s.pl.arrays, s.pl.lanes, s.pl.groupsAt, rfl, fun h => by simp [h], fun _ => .refl _⟩
  have hdrop := (hbegin.trans ((s.stopping a).enterArray_stops a st reason)).trans (State.dropLanes_stops _ a)
  rw [hstop]
  exact hdrop.trans ⟨_, _, _, _, groupsAt, rfl, id, fun _ => .refl _⟩

theorem State.stopArray_arrays (s : State) (a st reason : Nat) : (s.stopArray a st reason).pl.arrays =
    upd s.pl.arrays a fun x => { x with state := st, since := s.now, reason := if st = 7 then reason else x.reason } := by
  obtain ⟨groupsAt, hstop⟩ := s.stopArray_eq a st reason
  rw [hstop]
  dsimp only
  rw [State.dropLanes_arrays, State.enterArray_arrays]
  rfl

theorem State.checkLanes_stops (s : State) (a : Nat) : s.Stops (s.checkLanes a) := by
  unfold State.checkLanes
  split
  · exact s.stopArray_stops a 7 2
  · exact .refl s

/-! ## Timers -/

/-- A timer of training that fires while the array is in its state. -/
theorem State.trainTimer_of {s : State} {a st us : Nat} {f : State → State} (hst : (s.array a).state = st) (htrip : s.inTrip = false) :
    s.trainTimer a st us f = f (s.forward ((s.array a).since + us * tuUs)) := if_pos ⟨hst, htrip⟩

/-- The loss of a lane that carries planes. -/
theorem State.loseLane_of_usable {s : State} {n a reason : Nat} (hn : s.laneArray n = some a) (htrip : s.inTrip = false)
    (htrained : s.trained a = true) (husable : s.laneUsable n = true) :
    ∃ evq runs, s.loseLane n reason = State.checkLanes { s with
      evq := evq, chi := { s.chi with laneLost := true, runs := runs }
      pl := { s.pl with lanes := upd s.pl.lanes n fun _ => ((at_ s.pl.lanes n).lose s.now).1 } } a := by
  unfold State.loseLane
  rw [hn]
  dsimp only
  rw [if_neg (ne_true_of_eq_false htrip), if_neg (ne_false_of_eq_true htrained), if_neg (ne_false_of_eq_true husable)]
  exact ⟨_, _, rfl⟩

/-- Settles O50. -/
theorem arrayTimersAndLanesAct : Obligations.ArrayTimersAndLanesAct := by
  unfold Obligations.ArrayTimersAndLanesAct
  refine fun s a ha hlen htrip => ⟨fun st reason => ?_, fun hst => congrArg done (State.trainTimer_of hst htrip),
    fun hst u hu => ?_, fun hst u hu => ?_, fun hst => congrArg done (State.trainTimer_of hst htrip),
    fun hst hon => congrArg done ((if_pos hon).trans (State.trainTimer_of hst htrip)), fun hst => congrArg done (if_pos ⟨?_, htrip⟩),
    fun c rest hc u hu => ?_, fun n hn hnlen htrained husable => ?_,
    fun n since locked hn l hl htry hok hheld hready hlock hst hon at' hat => congrArg done ?_, fun n since hlock => congrArg done ?_⟩
  · rw [State.stopArray_arrays, at_upd_self _ hlen]
    exact ⟨⟨upd_length .., rfl, rfl⟩, fun hst => if_pos hst⟩
  · rw [hu]
    exact congrArg done (State.trainTimer_of hst htrip)
  · rw [hu]
    exact congrArg done (State.trainTimer_of hst htrip)
  · refine congrArg done ?_
    unfold State.arrayCmdTimeout
    rw [hc, hu]
    rfl
  · obtain ⟨evq, runs, hstep⟩ := State.loseLane_of_usable (reason := 3) hn htrip htrained husable
    obtain ⟨evq', lost, arrays, lanes, groupsAt, hstop, hlost, hdrop⟩ := State.checkLanes_stops { s with
      evq := evq, chi := { s.chi with laneLost := true, runs := runs }
      pl := { s.pl with lanes := upd s.pl.lanes n fun _ => ((at_ s.pl.lanes n).lose s.now).1 } } a
    obtain ⟨hlosses, hheld, hok⟩ := hdrop n
    rw [at_upd_self _ hnlen] at hlosses hheld hok
    refine ⟨_, congrArg done (hstep.trans hstop), hok rfl, hlosses, hlost rfl, ?_, rfl⟩
    refine (iff_of_eq (congrArg (· = true) hheld)).trans ?_
    simp only [Lane.lose, Bool.or_eq_true, decide_eq_true_eq]
  · unfold State.retrainLane
    subst hl hat
    rw [hn, htry]
    dsimp only
    refine (if_pos ⟨hst, hon, by simp [hok], by simp [hheld], by simp [hready], by simp [hlock], htrip⟩).trans rfl
  · unfold State.laneReady
    rw [hlock]
    exact (if_neg (ne_true_of_eq_false htrip)).trans rfl
  · unfold State.trained
    simpa [ha] using hst

end Sys2Proof.Machine
end

section
/-! PROOFS. The messages of an array (07 R154 to R165). -/
namespace Sys2Proof.Machine

/-- A valid message of an array, heard, and what it does to the array. -/
def State.putHeard (s : State) (a : Nat) (f : ArrayUnit → ArrayUnit) : State :=
  { s with pl := { s.pl with arrays := upd s.pl.arrays a fun y => f { y with lastMsg := s.now } } }

theorem State.fromArray_of_lt {s : State} {a : Nat} (ha : a < s.pl.count) (f : State → State) :
    s.fromArray a f = f (s.putHeard a id) := if_pos ha

/-- Changes of one array, one after the other. -/
theorem State.putHeard_arr (s : State) (a : Nat) (f g : ArrayUnit → ArrayUnit) :
    (s.putHeard a f).arr a g = s.putHeard a fun y => g (f y) := by
  unfold State.putHeard State.arr
  dsimp only
  rw [upd_upd]

theorem State.putHeard_array {s : State} {a : Nat} (ha : a < s.pl.arrays.length) (f : ArrayUnit → ArrayUnit) :
    (s.putHeard a f).array a = f { at_ s.pl.arrays a with lastMsg := s.now } := at_upd_self _ ha

/-- Entry to a state that raises no event. -/
theorem State.putHeard_enter {s : State} {a st : Nat} (f : ArrayUnit → ArrayUnit) (hst : 1 ≤ st ∧ st ≤ 4) :
    (s.putHeard a f).enterArray a st 0 = s.putHeard a fun y => { f y with state := st, since := s.now } := by
  have hquiet : (st == 5 || st == 6 || st == 7 || st == 0) = false := by
    simp only [Bool.or_eq_false_iff, beq_eq_false_iff_ne]
    omega
  unfold State.enterArray
  rw [State.putHeard_arr, hquiet]
  simp only [show st ≠ 7 by omega, if_false]
  rfl

/-- What STATUS brings about in a state of training or in RUN, once its masks are noted. -/
def State.statusStep (s : State) (a st : Nat) (lk dk : BitVec 96) : State := match st with
  | 1 => s.enterArray a 2 0
  | 2 => if lk = s.shareFull a then s.enterArray a 3 0 else s
  | 3 => if lk ≠ 0 ∧ lk &&& dk = lk then s.toRecord a else s
  | 5 => (s.lanesOf a).foldl (fun (s : State) n => s.lane n (Lane.shown s.now (lk.getLsbD n && dk.getLsbD n))) s
  | _ => s

/-- STATUS, by the state of the array. -/
theorem State.arrayStatus_putHeard {s : State} {a : Nat} (ha : a < s.pl.arrays.length) (htrip : s.inTrip = false)
    (lock deskew : BitVec 96) : (s.putHeard a id).arrayStatus a lock deskew =
      (s.putHeard a fun y => { y with lock := s.shareMask a lock, deskew := s.shareMask a deskew }).statusStep a
        (at_ s.pl.arrays a).state (s.shareMask a lock) (s.shareMask a deskew) := by
  unfold State.arrayStatus
  dsimp only
  rw [State.putHeard_arr]
  refine (if_neg (ne_true_of_eq_false htrip)).trans ?_
  rw [State.putHeard_array ha]
  rfl

/-- Outside the states that a STATUS acts in, or while it shows too little, it is only noted. -/
theorem State.statusStep_of_idle {s : State} {a st : Nat} {lk dk : BitVec 96}
    (h : st = 0 ∨ st = 4 ∨ 6 ≤ st ∨ (st = 2 ∧ lk ≠ s.shareFull a) ∨ (st = 3 ∧ (lk = 0 ∨ lk &&& dk ≠ lk))) :
    s.statusStep a st lk dk = s := by
  rcases h with rfl | rfl | hge | ⟨rfl, hlk⟩ | ⟨rfl, hlk⟩
  · rfl
  · rfl
  · obtain ⟨k, rfl⟩ := Nat.exists_eq_add_of_le' hge
    rfl
  · exact if_neg hlk
  · exact if_neg fun h => hlk.elim h.1 (· h.2)

theorem foldl_arrays {α : Type} (l : List α) (f : State → α → State) (hf : ∀ s x, (f s x).pl.arrays = s.pl.arrays) (s : State) :
    (l.foldl f s).pl.arrays = s.pl.arrays := by
  induction l generalizing s with
  | nil => rfl
  | cons x l ih => exact (ih _).trans (hf s x)

/-- An array as it enters RUN. -/
def ArrayUnit.running (x : ArrayUnit) (now : Nat) : ArrayUnit :=
  { x with bias := arBiasDefault (x.record.getD []), biasNext := none, state := 5, since := now }

theorem State.checkLanes_arrays (s : State) (a : Nat) : (s.checkLanes a).pl.arrays = s.pl.arrays ∨
    ∃ now, (s.checkLanes a).pl.arrays = upd s.pl.arrays a fun x => { x with state := 7, since := now, reason := 2 } := by
  unfold State.checkLanes
  split
  · exact .inr ⟨s.now, (s.stopArray_arrays a 7 2).trans rfl⟩
  · exact .inl rfl

/-- Training ends in RUN, or FAILED where no lane is left; the bias is the record's. -/
theorem State.enterRun_arrays (s : State) (a : Nat) : ∃ f : ArrayUnit → ArrayUnit,
    (s.enterRun a).pl.arrays = upd s.pl.arrays a f ∧
      ∀ x, ((f x).state = 5 ∨ (f x).state = 7) ∧ (f x).bias = arBiasDefault (x.record.getD []) := by
  obtain ⟨u, hu, now, hrun⟩ : ∃ u : State, s.enterRun a = u.checkLanes a ∧
      ∃ now, u.pl.arrays = upd s.pl.arrays a (ArrayUnit.running · now) := by
    refine ⟨_, rfl, ?_⟩
    rw [foldl_arrays]
    · dsimp only
      rw [State.enterArray_arrays]
      dsimp only [State.arr]
      rw [foldl_arrays, upd_upd]
      · exact ⟨_, rfl⟩
      · exact fun _ _ => rfl
    · exact fun _ _ => rfl
  rw [hu]
  rcases u.checkLanes_arrays a with h | ⟨now', h⟩
  · exact ⟨_, h.trans hrun, fun x => ⟨.inl rfl, rfl⟩⟩
  · refine ⟨_, h.trans ((congrArg (upd · a _) hrun).trans (upd_upd ..)), fun x => ⟨.inr rfl, rfl⟩⟩

/-- TICK_REPORT of an array that is not in RECORD. -/
theorem State.tickReport_of_other {s : State} {a : Nat} (ha : a < s.pl.arrays.length) (hst : (at_ s.pl.arrays a).state ≠ 4)
    {closed bad resets : Nat} : (s.putHeard a id).tickReport a closed bad resets = s.putHeard a fun y => { y with
      loadFails := y.loadFails + BitVec.ofNat 32 (bad + (y.sentTick - closed)), acked := y.acked + resets } := by
  unfold State.tickReport
  rw [State.putHeard_arr]
  dsimp only
  rw [State.putHeard_array ha]
  exact if_neg fun h => hst h.1

/-- The BIP errors of a report reach the lanes of the array, each its own count. -/
theorem State.foldl_laneReport (a part : Nat) (counts : List Nat) (k : Nat) (s : State) :
    ∃ lanes, (counts.zipIdx k).foldl (fun (s : State) (c, i) =>
        let n := 48 * part + i
        if s.laneArray n = some a then
          s.lane n fun l => { l with
            bip := l.bip + BitVec.ofNat 32 c,
            lockedAt := if c = 0 then l.lockedAt else l.lockedAt.map fun _ => s.now }
        else s) s = { s with pl := { s.pl with lanes := lanes } } ∧ lanes.length = s.pl.lanes.length ∧
      ∀ j, 48 * part + j < s.pl.lanes.length → (at_ lanes (48 * part + j)).bip =
        if (k ≤ j ∧ j < k + counts.length) ∧ s.laneArray (48 * part + j) = some a then
          (at_ s.pl.lanes (48 * part + j)).bip + BitVec.ofNat 32 (at_ counts (j - k))
        else (at_ s.pl.lanes (48 * part + j)).bip := by
  induction counts generalizing k s with
  | nil => exact ⟨s.pl.lanes, rfl, rfl, fun j _ => (if_neg fun h => by simp at h; omega).symm⟩
  | cons c counts ih =>
    rw [List.zipIdx_cons, List.foldl_cons]
    obtain ⟨ls, hstep, hlen, hls⟩ : ∃ ls, (if s.laneArray (48 * part + k) = some a then
          s.lane (48 * part + k) fun l => { l with
            bip := l.bip + BitVec.ofNat 32 c,
            lockedAt := if c = 0 then l.lockedAt else l.lockedAt.map fun _ => s.now }
        else s) = { s with pl := { s.pl with lanes := ls } } ∧ ls.length = s.pl.lanes.length ∧
      ∀ j, 48 * part + j < s.pl.lanes.length → (at_ ls (48 * part + j)).bip =
        if k = j ∧ s.laneArray (48 * part + j) = some a then (at_ s.pl.lanes (48 * part + j)).bip + BitVec.ofNat 32 c
        else (at_ s.pl.lanes (48 * part + j)).bip := by
      by_cases hn : s.laneArray (48 * part + k) = some a
      · rw [if_pos hn]
        refine ⟨_, rfl, upd_length .., fun j hj => ?_⟩
        by_cases hkj : k = j
        · subst hkj
          rw [if_pos ⟨rfl, hn⟩, at_upd_self _ hj]
        · rw [if_neg fun h => hkj h.1, at_upd_ne _ (by omega)]
      · rw [if_neg hn]
        refine ⟨s.pl.lanes, rfl, rfl, fun j _ => (if_neg ?_).symm⟩
        rintro ⟨rfl, h⟩
        exact hn h
    obtain ⟨lanes, hfold, hlen', hlanes⟩ := ih (k + 1) { s with pl := { s.pl with lanes := ls } }
    dsimp only
    rw [hstep]
    refine ⟨lanes, hfold, hlen'.trans hlen, fun j hj => (hlanes j (hj.trans_eq hlen.symm)).trans ?_⟩
    rw [hls j hj]
    by_cases hn : s.laneArray (48 * part + j) = some a
    · have hn' : ({ s with pl := { s.pl with lanes := ls } } : State).laneArray (48 * part + j) = some a := hn
      simp only [hn, hn', and_true, List.length_cons]
      rcases Nat.lt_trichotomy k j with hlt | rfl | hgt
      · have hidx : at_ (c :: counts) (j - k) = at_ counts (j - (k + 1)) := by
          rw [show j - k = (j - (k + 1)) + 1 by omega]
          rfl
        rw [if_neg hlt.ne, hidx]
        exact if_congr (by omega) rfl rfl
      · rw [if_neg (by omega), if_pos rfl, if_pos (by omega), Nat.sub_self]
        rfl
      · rw [if_neg (by omega), if_neg (by omega), if_neg (by omega)]
    · rw [if_neg fun h => hn h.2, if_neg fun h => hn h.2, if_neg fun h => hn h.2]

/-- Settles O49. -/
theorem arrayMessagesAct : Obligations.ArrayMessagesAct := by
  unfold Obligations.ArrayMessagesAct
  intro s a hcount hlen htrip x put hx hput
  obtain rfl : put = s.putHeard a := funext hput
  have hrec (f : ArrayUnit → ArrayUnit) : (s.putHeard a f).array a = f x := hx ▸ State.putHeard_array hlen f
  have hmsg (f : State → State) : s.fromArray a f = f (s.putHeard a id) := State.fromArray_of_lt hcount f
  have hstate : x.state = (at_ s.pl.arrays a).state := by rw [hx]
  refine ⟨fun st fl lock deskew lk dk hlk hdk => ?_, fun n reason hn => congrArg done ((hmsg _).trans (if_pos hn)), fun tick closed bad resets cl hst => ?_,
    fun tick closed bad resets cl hst hacc hacks => ?_, fun v r hr hot level hhot hlevel u hu => ?_, fun v hr => ?_,
    fun r mask hst hgood hmask => ?_, fun r reason hst hbad => ?_, fun part counts hlanes hpart hcounts => ?_,
    fun cmd seq c hc result hne => ?_, fun seq c hc => ?_, fun serial fw => ?_, fun count rating hrating hno => ?_, ?_⟩
  · have hall := State.arrayStatus_putHeard hlen htrip lock deskew
    rw [← hstate, ← hlk, ← hdk] at hall
    refine ⟨fun hst => congrArg done ?_, fun hst hfull => congrArg done ?_, fun hst hlk0 hand => congrArg done ?_,
      fun hst => congrArg done ?_, fun hst u hu => congrArg done ?_⟩
    all_goals refine (hmsg _).trans (hall.trans ?_)
    · rw [hst]
      exact State.putHeard_enter _ (by omega)
    · rw [hst]
      exact (if_pos hfull).trans (State.putHeard_enter _ (by omega))
    · rw [hst]
      refine (if_pos ⟨hlk0, hand⟩).trans ?_
      unfold State.toRecord
      rw [State.putHeard_enter _ (by omega)]
      exact State.putHeard_arr ..
    · exact State.statusStep_of_idle hst
    · rw [hst, hu]
      rfl
  · exact congrArg done ((hmsg _).trans (State.tickReport_of_other hlen (hstate ▸ hst)))
  · obtain ⟨u, hu⟩ : ∃ u : State, u = s.putHeard a fun y => { y with
        loadFails := y.loadFails + BitVec.ofNat 32 (bad + (y.sentTick - closed)), acked := y.acked + resets } := ⟨_, rfl⟩
    have hau : at_ u.pl.arrays a = { x with
        loadFails := x.loadFails + BitVec.ofNat 32 (bad + (x.sentTick - closed)), acked := x.acked + resets } := by
      rw [hu]
      exact hrec _
    have hstep : (s.putHeard a id).tickReport a closed bad resets = u.enterRun a := by
      unfold State.tickReport
      rw [State.putHeard_arr]
      dsimp only
      rw [hrec]
      exact (if_pos ⟨hst, hacc, hacks, htrip⟩).trans (congrArg (State.enterRun · a) hu.symm)
    obtain ⟨f, harr, hf⟩ := u.enterRun_arrays a
    have hat : at_ (u.enterRun a).pl.arrays a = f (at_ u.pl.arrays a) := by
      rw [harr, at_upd_self _ (by rw [hu]; exact hlen.trans_eq (upd_length ..).symm)]
    refine ⟨_, congrArg done ((hmsg _).trans hstep), ?_⟩
    rw [State.settle_pl, hat, hau]
    exact hf _
  · refine congrArg done ((hmsg _).trans ?_)
    unfold State.arrayTemp
    dsimp only
    rw [hrec, show (id x).record = some r from hr]
    dsimp only
    rw [State.putHeard_arr]
    refine Eq.trans (b := u.raiseIf (level != x.level) 0x0505 a (level + 65536 * pattern 16 v)) ?_ ?_
    · rw [hu, hlevel, hhot]
      rfl
    · unfold State.raiseIf
      by_cases hsame : level = x.level
      · rw [if_pos hsame, if_neg (by simp [hsame])]
      · rw [if_neg hsame, if_pos (by simp [hsame])]
  · refine congrArg done ((hmsg _).trans ?_)
    unfold State.arrayTemp
    dsimp only
    rw [hrec, show (id x).record = none from hr]
    exact State.putHeard_arr ..
  · refine congrArg done ((hmsg _).trans ?_)
    unfold State.arrayRecordIn
    rw [hrec]
    refine (if_neg (not_or.mpr ⟨ne_true_of_eq_false htrip, not_not.mpr hst⟩)).trans ?_
    rw [show recordFault (s.putHeard a id).pl.count r = none from hgood]
    dsimp only
    have hm : (s.putHeard a id).trainedMask a = mask := by
      rw [hmask]
      unfold State.trainedMask
      rw [hrec, hx]
      rfl
    rw [hm]
    exact congrArg (fun l => ({ s with
      pl := { s.pl with arrays := l }
      chi := { s.chi with runs := upd s.chi.runs a fun q => { q with mapLanes := mask } } } : State)) (upd_upd ..)
  · refine congrArg done ((hmsg _).trans ?_)
    unfold State.arrayRecordIn
    rw [hrec]
    refine (if_neg (not_or.mpr ⟨ne_true_of_eq_false htrip, not_not.mpr hst⟩)).trans ?_
    rw [show recordFault (s.putHeard a id).pl.count r = some reason from hbad]
  · obtain ⟨lanes, hfold, -, hbip⟩ := State.foldl_laneReport a part counts 0 (s.putHeard a id)
    refine ⟨_, congrArg done ((hmsg _).trans hfold), fun i hi => (hbip i ?_).trans ?_, rfl⟩
    · exact Nat.lt_of_lt_of_eq (by omega) hlanes.symm
    · exact if_congr (and_iff_right ⟨Nat.zero_le i, by omega⟩) rfl rfl
  · refine congrArg done ((hmsg _).trans ?_)
    unfold State.cmdAck
    rw [hrec, show (id x).cmds.find? (fun c => c.cmd == cmd && c.seq == seq) = some c from hc]
    dsimp only
    rw [State.putHeard_arr, if_pos (.inl hne)]
    rfl
  · refine congrArg done ((hmsg _).trans ?_)
    unfold State.cmdAck
    rw [hrec, show (id x).cmds.find? (fun c => c.cmd == 1 && c.seq == seq) = some c from hc]
    dsimp only
    rw [State.putHeard_arr]
    refine congrArg (State.finishKey · 0x0504 (256 * a + seq) cOk (le 1 0)) ?_
    refine (if_neg (not_or.mpr ⟨not_not.mpr rfl, ne_true_of_eq_false htrip⟩)).trans ?_
    exact State.putHeard_arr ..
  · refine congrArg done ((hmsg _).trans ?_)
    exact State.putHeard_arr ..
  · refine congrArg done ((hmsg _).trans ?_)
    unfold State.resetCount
    rw [State.putHeard_arr]
    dsimp only
    rw [hrec]
    refine (if_neg ?_).trans rfl
    rintro ⟨halert, hpos, hover⟩
    rcases hno with hno | hno | hno
    · exact Bool.noConfusion (halert.symm.trans hno)
    · exact hpos (hrating ▸ hno)
    · rw [hrating] at hno
      exact absurd hover (Nat.not_le.mpr hno)
  · exact congrArg done (if_pos hcount)

end Sys2Proof.Machine
end

section
/-! PROOFS. The ports of Cumaslink, their symbols, tick and time (18 R388 to R407). -/
namespace Sys2Proof.Machine

/-! ## What a node that announces changes -/

/-- Only the event queue and the Cumaslink unit differ, and no port in its link state. -/
def State.ClMoves (s t : State) : Prop := ∃ evq cl, t = { s with evq := evq, cl := cl } ∧
  cl.ports.length = s.cl.ports.length ∧ ∀ p, (at_ s.cl.ports p).SameLink (at_ cl.ports p)

section
variable {s t u : State}

theorem State.ClMoves.refl (s : State) : s.ClMoves s := ⟨s.evq, s.cl, rfl, rfl, fun _ => ⟨rfl, rfl, rfl⟩⟩

theorem State.ClMoves.trans (h : s.ClMoves t) (k : t.ClMoves u) : s.ClMoves u := by
  obtain ⟨evq, cl, rfl, hlen, hlink⟩ := h
  obtain ⟨evq', cl', rfl, hlen', hlink'⟩ := k
  refine ⟨evq', cl', rfl, hlen'.trans hlen, fun p => ?_⟩
  obtain ⟨hst, hr, hs⟩ := hlink p
  obtain ⟨hst', hr', hs'⟩ := hlink' p
  exact ⟨hst'.trans hst, hr'.trans hr, hs'.trans hs⟩

theorem State.Sends.clMoves (h : s.Sends t) : s.ClMoves t := by
  obtain ⟨ports, discards, rfl, hlen, hlink⟩ := h
  exact ⟨s.evq, _, rfl, hlen, hlink⟩

/-- A change of the unit that leaves its ports, and an event. -/
theorem State.ClMoves.of_ports {evq : EventQueue} {cl : Cumaslink} (hports : cl.ports = s.cl.ports) :
    s.ClMoves { s with evq := evq, cl := cl } :=
  ⟨evq, cl, rfl, by rw [hports], fun p => by rw [hports]; exact ⟨rfl, rfl, rfl⟩⟩

end

theorem State.setAddr_clMoves (s : State) (a : Option W16) (persistent lost : Bool) : s.ClMoves (s.setAddr a persistent lost) := by
  obtain ⟨evq, h⟩ := ({ s with cl := { s.cl with addr := a, addrPersistent := persistent && a.isSome } } : State).raiseIf_evq
    (s.cl.addr != a || (a.isSome && s.cl.addrPersistent != persistent)) 0x0D04 (a.getD 0).toNat
    (maskOf [a.isSome, persistent && a.isSome, lost])
  unfold State.setAddr
  dsimp only
  rw [h]
  exact .of_ports rfl

theorem State.conflictHere_clMoves (s : State) (index : W32) (serial : W64) : s.ClMoves (s.conflictHere index serial) := by
  unfold State.conflictHere
  split
  · exact State.ClMoves.trans (t := { s with cl := { s.cl with denied := true } }) (.of_ports rfl) (State.setAddr_clMoves ..)
  · exact .refl s

theorem State.raise_clMoves (s : State) (code src payload : Nat) : s.ClMoves (s.raise code src payload) := .of_ports rfl

theorem State.holding_clMoves (s : State) (l : List (W16 × W64)) : s.ClMoves (s.holding l) := .of_ports rfl

theorem State.rootAnnounce_clMoves (s : State) (a : W16) (held : Bool) (serial : W64) : s.ClMoves (s.rootAnnounce a held serial) := by
  unfold State.rootAnnounce
  dsimp only
  split
  · split
    · exact (((s.holding_clMoves _).trans (State.clFlood_sends ..).clMoves).trans (State.conflictHere_clMoves ..)).trans
        (State.raise_clMoves ..)
    · exact s.holding_clMoves _
  · exact (s.holding_clMoves _).trans (State.raise_clMoves ..)

theorem State.announce_clMoves (s : State) (held persistent : Bool) (a : W16) : s.ClMoves (s.announce held persistent a) := by
  unfold State.announce
  split
  · exact s.rootAnnounce_clMoves ..
  · split
    · exact (State.clUpward_sends ..).clMoves
    · exact .refl s

/-! ## Training -/

/-- A port in training with the PORT_IDs that it has sent by an instant. -/
def State.idsSent (s : State) (p now : Nat) (x : ClPort) : ClPort :=
  { x with
    ids := max x.ids ((now - x.since) / (10 * tuUs) + 1)
    wire := x.wire ++ ((List.range ((now - x.since) / (10 * tuUs) + 1)).drop x.ids).map fun i =>
      (clAt (x.since + i * (10 * tuUs)), ClOut.portId p (maskOf [s.isRoot, s.cl.addr.isSome]) (s.cl.addr.getD 0)) }

theorem State.sendIds_of_training {s : State} {p : Nat} (hst : (at_ s.cl.ports p).state = 1) :
    s.sendIds p = s.port p (s.idsSent p s.now) := by
  unfold State.sendIds
  refine (if_neg (not_not.mpr hst)).trans ?_
  exact congrArg (fun l => ({ s with cl := { s.cl with ports := l } } : State)) (upd_congr rfl)

theorem State.sendIds_of_other {s : State} {p : Nat} (hst : (at_ s.cl.ports p).state ≠ 1) : s.sendIds p = s := if_pos hst

theorem State.port_port (s : State) (p : Nat) (f g : ClPort → ClPort) : (s.port p f).port p g = s.port p fun q => g (f q) :=
  congrArg (fun l => ({ s with cl := { s.cl with ports := l } } : State)) (upd_upd ..)

/-- A port as it enters a state. -/
def ClPort.entered (q : ClPort) (st reason now : Nat) : ClPort :=
  { q with state := st, reason := reason, since := now, idRun := 0, ids := 0 }

/-- A port in training changes its state. -/
theorem State.linkState_of_training {s : State} {p st reason : Nat} (htrain : (at_ s.cl.ports p).state = 1) (hne : 1 ≠ st) :
    s.linkState p st reason =
      (s.port p fun q => (s.idsSent p s.now q).entered st reason s.now).raise 0x0D01 p (st + 4 * 1 + 16 * reason) := by
  unfold State.linkState
  dsimp only
  rw [if_neg (by rw [htrain]; exact hne), State.sendIds_of_training htrain, htrain]
  rw [if_neg (by decide), State.port_port]
  rfl

/-- A port that is down or in fault changes its state. -/
theorem State.linkState_of_idle {s : State} {p st reason : Nat} (hold : (at_ s.cl.ports p).state ≠ 1)
    (hold' : (at_ s.cl.ports p).state ≠ 2) (hne : (at_ s.cl.ports p).state ≠ st) :
    s.linkState p st reason = (s.port p fun q => q.entered st reason s.now).raise 0x0D01 p
      (st + 4 * (at_ s.cl.ports p).state + 16 * reason) := by
  unfold State.linkState
  dsimp only
  rw [if_neg hne, State.sendIds_of_other hold, if_neg hold']
  rfl

theorem State.ClMoves.link {s t : State} (h : s.ClMoves t) (p : Nat) :
    (at_ t.cl.ports p).state = (at_ s.cl.ports p).state ∧ (at_ t.cl.ports p).reason = (at_ s.cl.ports p).reason ∧
      (at_ t.cl.ports p).since = (at_ s.cl.ports p).since := by
  obtain ⟨evq, cl, rfl, -, hlink⟩ := h
  exact hlink p

/-- A port comes up. -/
theorem State.linkUpPort_spec {s : State} {p : Nat} (hp : p < s.cl.ports.length) (htrain : (at_ s.cl.ports p).state = 1) :
    (at_ (s.linkUpPort p).cl.ports p).state = 2 ∧ (at_ (s.linkUpPort p).cl.ports p).reason = 0 ∧
      (at_ (s.linkUpPort p).cl.ports p).since = s.now ∧ ∃ evq cl, s.linkUpPort p = { s with evq := evq, cl := cl } := by
  obtain ⟨u, hu⟩ : ∃ u : State, u = (s.linkState p 2 0).port p fun q => { q with
    sentReq := 0, sentRsp := 0, freedReq := 0, freedRsp := 0, ownReq := 0, ownRsp := 0, queue := [], token := 0 } := ⟨_, rfl⟩
  have hlink : (at_ u.cl.ports p).state = 2 ∧ (at_ u.cl.ports p).reason = 0 ∧ (at_ u.cl.ports p).since = s.now := by
    have hraise : at_ (s.linkState p 2 0).cl.ports p = (s.idsSent p s.now (at_ s.cl.ports p)).entered 2 0 s.now := by
      rw [State.linkState_of_training htrain (by decide), State.raise_cl]
      exact at_upd_self _ hp
    have hlen : p < (s.linkState p 2 0).cl.ports.length := by
      rw [State.linkState_of_training htrain (by decide), State.raise_cl]
      exact hp.trans_eq (upd_length ..).symm
    rw [hu, State.port, at_upd_self _ hlen, hraise]
    exact ⟨rfl, rfl, rfl⟩
  have hframe : ∃ evq cl, u = { s with evq := evq, cl := cl } := by
    rw [hu, State.linkState_of_training htrain (by decide)]
    exact ⟨_, _, rfl⟩
  have hmoves : u.ClMoves (s.linkUpPort p) := by
    unfold State.linkUpPort
    rw [← hu]
    dsimp only
    have hclear : u.ClMoves { u with cl := { u.cl with exchanges := [] } } := .of_ports rfl
    split
    · exact .refl u
    · split
      · exact hclear
      · exact hclear.trans (State.announce_clMoves ..)
  obtain ⟨hst, hr, hs⟩ := hmoves.link p
  refine ⟨hst.trans hlink.1, hr.trans hlink.2.1, hs.trans hlink.2.2, ?_⟩
  obtain ⟨evq, cl, hu'⟩ := hframe
  obtain ⟨evq', cl', hend, -⟩ := hmoves
  rw [hend, hu']
  exact ⟨evq', cl', rfl⟩

/-! ## Loss of a link -/

/-- Nothing waits for a frame in transit: the end of one answers no command. -/
theorem State.bcastDone_of_none {s : State} (h : (s.mbx.parked.filter fun c => c.opcode == 0x0D03) = []) : s.bcastDone = s := by
  have hnone : ∀ c ∈ s.mbx.parked, ¬(c.opcode == 0x0D03) = true := List.filter_eq_nil_iff.mp h
  unfold State.bcastDone
  dsimp only
  rw [List.filter_eq_nil_iff.mpr fun c hc => by rw [Bool.eq_false_iff.mpr (hnone c hc), Bool.false_and]; decide]
  rfl

theorem State.port_queues (s : State) (p : Nat) {f : ClPort → ClPort} (hf : ∀ q, (f q).queue = q.queue) :
    (s.port p f).cl.ports.map ClPort.queue = s.cl.ports.map ClPort.queue := by
  refine List.ext_getElem? fun k => ?_
  simp only [State.port, upd, List.getElem?_map, List.getElem?_modify]
  by_cases hk : p = k
  · subst hk
    cases s.cl.ports[p]? <;> simp [hf]
  · simp [hk]

theorem State.release_queues (s : State) (h : Option Hold) :
    (s.release h).cl.ports.map ClPort.queue = s.cl.ports.map ClPort.queue ∧ (s.release h).cl.discards = s.cl.discards := by
  cases h with
  | none => exact ⟨rfl, rfl⟩
  | some h =>
    rw [State.release]
    split
    · exact ⟨rfl, rfl⟩
    · refine ⟨s.port_queues h.port fun q => ?_, rfl⟩
      unfold ClPort.free
      split <;> rfl

/-- Frames given up: each counts, and the queues of the other ports stay. -/
theorem State.discards_spec (l : List ClFrame) (s : State) :
    s.Sends (l.foldl (fun (s : State) f => s.clDiscard.release f.hold) s) ∧
    (l.foldl (fun (s : State) f => s.clDiscard.release f.hold) s).cl.ports.map ClPort.queue = s.cl.ports.map ClPort.queue ∧
    (l.foldl (fun (s : State) f => s.clDiscard.release f.hold) s).cl.discards = s.cl.discards + BitVec.ofNat 32 l.length := by
  induction l generalizing s with
  | nil => exact ⟨.refl s, rfl, by simp⟩
  | cons f l ih =>
    obtain ⟨hsends, hqueues, hdisc⟩ := ih (s.clDiscard.release f.hold)
    obtain ⟨hq, hd⟩ := s.clDiscard.release_queues f.hold
    refine ⟨(s.clDiscard_sends.trans (State.release_sends ..)).trans hsends, hqueues.trans hq, hdisc.trans ?_⟩
    rw [hd, List.length_cons, Nat.add_comm l.length 1, BitVec.ofNat_add, ← BitVec.add_assoc]
    rfl

theorem at_map {α β : Type} [Inhabited α] [Inhabited β] {l : List α} (f : α → β) {i : Nat} (h : i < l.length) :
    at_ (l.map f) i = f (at_ l i) := by
  simp [at_, List.getD_eq_getElem?_getD, h]

/-- Ports with the same queues have the same queue at each place. -/
theorem at_queue {l l' : List ClPort} (h : l.map ClPort.queue = l'.map ClPort.queue) (p : Nat) :
    (at_ l p).queue = (at_ l' p).queue := by
  have hat (l : List ClPort) : (at_ l p).queue = (l.map ClPort.queue).getD p (default : ClPort).queue := by
    rw [List.getD_map]
    rfl
  rw [hat, hat, h]

/-- No frame of these queues holds a buffer of port `p`. -/
def FreeOf (p : Nat) (queues : List (List ClFrame)) : Prop := ∀ q ∈ queues, ∀ f ∈ q, ∀ h, f.hold = some h → h.port ≠ p

theorem Hold.unless_port {p : Nat} {o : Option Hold} {h : Hold} (hh : Hold.unless p o = some h) : h.port ≠ p := by
  obtain ⟨x, -, hx⟩ := Option.bind_eq_some_iff.mp hh
  split at hx
  · cases hx
  · next hne => exact Option.some.inj hx ▸ hne

theorem State.dropHolds_freeOf (s : State) (p : Nat) : FreeOf p ((s.dropHolds p).cl.ports.map ClPort.queue) ∧
    ∀ w ∈ (s.dropHolds p).mbx.clWait, ∀ h, w.hold = some h → h.port ≠ p := by
  refine ⟨fun q hq f hf h hh => ?_, fun w hw h hh => ?_⟩
  · obtain ⟨x, hx, rfl⟩ := List.mem_map.mp hq
    obtain ⟨y, -, rfl⟩ := List.mem_map.mp hx
    obtain ⟨g, -, rfl⟩ := List.mem_map.mp hf
    exact Hold.unless_port hh
  · obtain ⟨y, -, rfl⟩ := List.mem_map.mp hw
    exact Hold.unless_port hh

theorem State.endSessionOf_eq (s : State) (cl : Bool) (reason : Nat) : ∃ sec evq, s.endSessionOf cl reason = { s with sec := sec, evq := evq } := by
  unfold State.endSessionOf
  split
  · split
    · unfold State.endSession
      split
      · exact ⟨s.sec, s.evq, rfl⟩
      · exact ⟨_, _, rfl⟩
    · exact ⟨s.sec, s.evq, rfl⟩
  · exact ⟨s.sec, s.evq, rfl⟩

/-- The frames of a lost link are discarded, and its buffers are held no more. -/
theorem State.portLost_spec {s : State} {p : Nat} (hp : p < s.cl.ports.length)
    (hnone : (s.mbx.parked.filter fun c => c.opcode == 0x0D03) = []) :
    FreeOf p ((s.portLost p).cl.ports.map ClPort.queue) ∧ (at_ (s.portLost p).cl.ports p).queue = [] ∧
    (s.portLost p).cl.ports.length = s.cl.ports.length ∧
    (∀ w ∈ (s.portLost p).mbx.clWait, ∀ h, w.hold = some h → h.port ≠ p) ∧
    (s.portLost p).cl.discards = s.cl.discards + BitVec.ofNat 32 (at_ s.cl.ports p).queue.length ∧ (s.portLost p).now = s.now := by
  obtain ⟨u, hu⟩ : ∃ u : State, u = (s.port p fun q => { q with queue := [] }).dropHolds p := ⟨_, rfl⟩
  obtain ⟨hfree, hwait⟩ := (s.port p fun q => { q with queue := [] }).dropHolds_freeOf p
  rw [← hu] at hfree hwait
  have hulen : u.cl.ports.length = s.cl.ports.length := by
    rw [hu]
    exact (List.length_map _).trans (upd_length ..)
  have hempty : (at_ u.cl.ports p).queue = [] := by
    have hat : at_ (upd s.cl.ports p fun q => { q with queue := [] }) p = { at_ s.cl.ports p with queue := [] } := at_upd_self _ hp
    rw [hu]
    exact (congrArg ClPort.queue (at_map _ (hp.trans_eq (upd_length ..).symm))).trans
      (congrArg (List.map _) (congrArg ClPort.queue hat))
  have hrest : u.cl.discards = s.cl.discards ∧ u.mbx.parked = s.mbx.parked ∧ u.now = s.now := by
    rw [hu]
    exact ⟨rfl, rfl, rfl⟩
  obtain ⟨v, hv⟩ : ∃ v : State, v = (at_ s.cl.ports p).queue.foldl (fun (s : State) f => s.clDiscard.release f.hold) u := ⟨_, rfl⟩
  obtain ⟨⟨ports, discards, hsends, hlen, -⟩, hqueues, hdisc⟩ := State.discards_spec (at_ s.cl.ports p).queue u
  rw [← hv] at hsends hqueues hdisc
  obtain ⟨sec, evq, hlost⟩ : ∃ sec evq, s.portLost p = { v with sec := sec, evq := evq } := by
    have hb : v.bcastDone = v := State.bcastDone_of_none (by rw [hsends, hrest.2.1]; exact hnone)
    unfold State.portLost
    dsimp only
    rw [← hu, ← hv, hb]
    split
    · exact v.endSessionOf_eq true 4
    · exact ⟨v.sec, v.evq, rfl⟩
  rw [hlost]
  refine ⟨?_, (at_queue hqueues p).trans hempty, ?_, ?_, hdisc.trans (congrArg (· + _) hrest.1), ?_⟩
  · exact hqueues ▸ hfree
  · rw [hsends]
    exact hlen.trans hulen
  · rw [hsends]
    exact hwait
  · rw [hsends]
    exact hrest.2.2

/-! ## Symbols -/

theorem State.portUp_of {s : State} {p : Nat} (h : (at_ s.cl.ports p).state = 2) : s.portUp p = true := beq_iff_eq.mpr h

theorem State.symbolAt_of_up {s : State} {p : Nat} (h : (at_ s.cl.ports p).state = 2) (t : Int) (o : ClOut) :
    s.symbolAt p t o = s.port p fun q => { q with wire := q.wire ++ [(t, o)] } := if_pos (State.portUp_of h)

/-- A symbol goes down every child port that is up. -/
theorem State.toChildren_eq {s : State} (hlen : s.cl.ports.length = 3) (t : Int) (o : ClOut) :
    s.toChildren t o = { s with cl := { s.cl with ports := s.cl.ports.mapIdx fun k (x : ClPort) =>
      if k ≠ 0 ∧ x.state = 2 then { x with wire := x.wire ++ [(t, o)] } else x } } := by
  obtain ⟨a, b, c, hports⟩ := List.length_eq_three.mp hlen
  have hup1 : s.portUp 1 = (b.state == 2) := by rw [State.portUp, hports]; rfl
  have hup2 : s.portUp 2 = (c.state == 2) := by rw [State.portUp, hports]; rfl
  unfold State.toChildren State.childPorts
  by_cases hb : b.state = 2
  · by_cases hc : c.state = 2
    · simp [hup1, hup2, hb, hc, hports, State.symbolAt, State.portUp, State.port, upd, at_]
    · simp [hup1, hup2, hb, hc, hports, State.symbolAt, State.portUp, State.port, upd, at_]
  · by_cases hc : c.state = 2
    · simp [hup1, hup2, hb, hc, hports, State.symbolAt, State.portUp, State.port, upd, at_]
    · simp [hup1, hup2, hb, hc, hports]
      rw [← hports]

/-- The role in a PORT_ID pairs with the port. -/
def RolePairs (p role : Nat) : Prop := p = 0 ∧ (role = 1 ∨ role = 2) ∨ p ≠ 0 ∧ role = 0

theorem rolePairs_iff {p role : Nat} : RolePairs p role ↔ ¬((p = 0 ∧ role ≠ 1 ∧ role ≠ 2) ∨ (p ≠ 0 ∧ role ≠ 0)) := by
  unfold RolePairs
  omega

/-- A correct PORT_ID in training. -/
theorem State.rxPortId_of_training {s : State} {p : Nat} (hp : p < 3) (hst : (at_ s.cl.ports p).state = 1) (role : Nat) :
    s.rxPortId p role true =
      if (p = 0 ∧ role ≠ 1 ∧ role ≠ 2) ∨ (p ≠ 0 ∧ role ≠ 0) then s.linkState p 3 3
      else if (at_ s.cl.ports p).idRun = 7 then s.linkUpPort p
      else (s.sendIds p).port p fun q => { q with idRun := q.idRun + 1 } := by
  unfold State.rxPortId
  dsimp only
  rw [if_neg (not_or.mpr ⟨fun h => h.1 hst, Nat.not_le.mpr hp⟩), if_neg (by decide), if_neg (by rw [hst]; decide)]

/-- A PORT_ID whose CRC-8 fails. -/
theorem State.rxPortId_bad {s : State} {p : Nat} (hp : p < 3) (hst : (at_ s.cl.ports p).state = 1 ∨ (at_ s.cl.ports p).state = 2)
    (role : Nat) : s.rxPortId p role false = ((s.sendIds p).port p fun q => { q with idRun := 0 }).symError := by
  unfold State.rxPortId
  dsimp only
  rw [if_neg (not_or.mpr ⟨fun h => hst.elim h.1 h.2, Nat.not_le.mpr hp⟩), if_pos rfl]

/-- A symbol whose CRC-8 fails counts on a port that trains or is up. -/
theorem State.notUp_of_bad {s : State} {p : Nat} (hst : (at_ s.cl.ports p).state = 1 ∨ (at_ s.cl.ports p).state = 2) :
    (if s.portUp p = false then s.notUp p false else s.symError) = s.symError := by
  rcases hst with hst | hst
  · rw [if_pos (by rw [State.portUp, hst]; rfl)]
    exact if_pos ⟨rfl, hst⟩
  · rw [if_neg (ne_false_of_eq_true (State.portUp_of hst))]

theorem State.TickMoves.cl {s t : State} (h : s.TickMoves t) : t.cl = s.cl := by
  obtain ⟨tk, goal, evq, rfl⟩ := h
  rfl

/-- A reference joins its source's record. -/
theorem State.refAt_spec {s : State} {id : Nat} (hid : id - 1 < s.tk.refs.length) (t : Int) :
    (s.refAt id t).cl = s.cl ∧ (at_ (s.refAt id t).tk.refs (id - 1)).refs = (t :: (at_ s.tk.refs (id - 1)).refs).take 9 := by
  unfold State.refAt
  rcases hrefs : (at_ s.tk.refs (id - 1)).refs with _ | ⟨last, rest⟩
  · exact ⟨rfl, congrArg TickRef.refs (at_upd_self _ hid)⟩
  · obtain ⟨hmoves, v, hat, -⟩ := State.refArrive_spec hid t (inWindow s.liveMode last t)
    dsimp only
    rw [hat, ← hrefs]
    exact ⟨hmoves.cl, rfl⟩

/-- A TICK from the parent, forwarded to `copy`. -/
theorem State.rxTick_eq {s copy : State} (hroot : s.isRoot = false) (hup : s.portUp 0 = true) (no : W32) (hops depth : W16)
    (acc : W32) (good : Bool) (frac : Nat)
    (hcopy : (s.clDev.2).toChildren (clAt s.now + frac + clHop + s.clDev.1)
      (.tick no (hops + 1) depth (BitVec.ofInt 32 (acc.toInt + s.cl.cableUp + s.clDev.1)) (!good)) = copy) :
    s.rxTick no hops depth acc good frac =
      if good = false then State.symError { copy with cl := { copy.cl with tickNo := if good then no else copy.cl.tickNo + 1 } }
      else if copy.cl.exchanges.length < 16 then
        { copy with cl := { copy.cl with tickNo := if good then no else copy.cl.tickNo + 1, depth := hops + 1, treeDepth := depth.toNat } }
      else State.refAt { copy with cl := { copy.cl with
          tickNo := if good then no else copy.cl.tickNo + 1, depth := hops + 1, treeDepth := depth.toNat
          tickRx := some (no, (clAt copy.now + frac - (acc.toInt + copy.cl.cableUp) +
            ((depth.toNat : Int) - (hops.toNat + 1 : Nat)) * clHop).fdiv 160) } } 1
        ((clAt copy.now + frac - (acc.toInt + copy.cl.cableUp) + ((depth.toNat : Int) - (hops.toNat + 1 : Nat)) * clHop).fdiv 160) := by
  subst hcopy
  unfold State.rxTick
  rw [if_neg (ne_true_of_eq_false hroot), if_neg (ne_false_of_eq_true hup)]
  rfl

/-- Settles O57. -/
theorem cumaslinkLinkEventsRun : Obligations.CumaslinkLinkEventsRun := by
  unfold Obligations.CumaslinkLinkEventsRun
  intro s p hp hlen q hq
  subst hq
  have hplt : p < s.cl.ports.length := hp.trans_eq hlen.symm
  refine ⟨fun sent hsent hst => ?_, fun hst hen => ⟨_, rfl, congrArg done ?_⟩, fun hst role flags addr => ⟨congrArg done ?_, congrArg done ?_⟩,
    fun hst hnone code => ?_, fun hst hen => ⟨_, rfl, congrArg done ?_⟩, fun hst rsp => congrArg done ?_, fun hst hp0 seq => congrArg done ?_,
    fun hst => ⟨fun hp0 seq => congrArg done ?_, fun rsp freed => congrArg done ?_⟩,
    fun hst hempty hnone rsp freed => congrArg done ?_, fun hst => congrArg done ?_, fun hst hp0 hroot to_ hto => ?_⟩
  · obtain rfl : sent = s.idsSent p := funext fun now => funext (hsent now)
    refine ⟨fun role flags addr hrole => ⟨fun hrun => congrArg done ?_, fun hrun => ?_⟩, fun role flags addr hrole => ⟨_, rfl, congrArg done ?_⟩,
      fun role flags addr => congrArg done ?_, fun at' hat => ⟨_, rfl, congrArg done ?_⟩⟩
    · have hpair : RolePairs p role.toNat := hrole.imp (And.imp_right (Or.imp (congrArg _) (congrArg _))) (And.imp_right (congrArg _))
      refine (State.rxPortId_of_training hp hst _).trans ((if_neg (rolePairs_iff.mp hpair)).trans ((if_neg hrun.ne).trans ?_))
      rw [State.sendIds_of_training hst, State.port_port]
      rfl
    · have hpair : RolePairs p role.toNat := hrole.imp (And.imp_right (Or.imp (congrArg _) (congrArg _))) (And.imp_right (congrArg _))
      have hstep : s.rxPortId p role.toNat true = s.linkUpPort p :=
        (State.rxPortId_of_training hp hst _).trans ((if_neg (rolePairs_iff.mp hpair)).trans (if_pos hrun))
      obtain ⟨hup, hr, hs, evq, cl, hframe⟩ := State.linkUpPort_spec hplt hst
      refine ⟨_, congrArg done hstep, hup, hr, hs, ?_⟩
      rw [hframe]
      rfl
    · refine (State.rxPortId_of_training hp hst _).trans ((if_pos hrole).trans ?_)
      exact State.linkState_of_training hst (by decide)
    · refine (State.rxPortId_bad hp (.inl hst) _).trans ?_
      rw [State.sendIds_of_training hst, State.port_port]
      rfl
    · subst hat
      refine (if_pos ⟨hst, hp⟩).trans ?_
      exact State.linkState_of_training (s := s.forward ((at_ s.cl.ports p).since + 2 * tuMs)) hst (by decide)
  · refine (if_pos ⟨hst, hen, hp⟩).trans ((State.linkState_of_idle (by rw [hst]; decide) (by rw [hst]; decide) (by rw [hst]; decide)).trans ?_)
    rw [hst]
    exact congrArg (fun l => State.raise { s with cl := { s.cl with ports := l } } 0x0D01 p _) (upd_congr rfl)
  · unfold State.rxPortId
    dsimp only
    rw [if_neg (not_or.mpr ⟨fun h => h.2 hst, Nat.not_le.mpr hp⟩), if_neg (by decide), if_pos hst]
  · refine (State.rxPortId_bad hp (.inr hst) _).trans ?_
    rw [State.sendIds_of_other (by rw [hst]; decide)]
    rfl
  · obtain ⟨u, hu⟩ : ∃ u : State, u = s.portLost p := ⟨_, rfl⟩
    obtain ⟨hfree, hempty, hports, hwait, hdisc, hnow⟩ := State.portLost_spec hplt hnone
    rw [← hu] at hfree hempty hports hwait hdisc hnow
    have hstep : s.linkLoss p code = (u.port p fun q => q.entered 0 (if code then 2 else 1) u.now).raise 0x0D01 p
        (0 + 4 * (at_ s.cl.ports p).state + 16 * if code then 2 else 1) := by
      unfold State.linkLoss
      dsimp only
      rw [if_pos ⟨hp, .inl hst⟩]
      unfold State.linkState
      dsimp only
      rw [if_neg (by rw [hst]; decide), State.sendIds_of_other (by rw [hst]; decide), if_pos hst, hu]
      rfl
    have hat : at_ (u.port p fun q => q.entered 0 (if code then 2 else 1) u.now).cl.ports p =
        (at_ u.cl.ports p).entered 0 (if code then 2 else 1) u.now := at_upd_self _ (hplt.trans_eq hports.symm)
    have hqueues := u.port_queues p (f := fun q => q.entered 0 (if code then 2 else 1) u.now) fun _ => rfl
    refine ⟨_, congrArg done hstep, congrArg ClPort.state hat, congrArg ClPort.reason hat, (congrArg ClPort.queue hat).trans hempty,
      (congrArg ClPort.since hat).trans hnow, hwait, fun x hx f hf => ?_, hdisc⟩
    exact hfree x.queue (hqueues ▸ List.mem_map_of_mem hx) f hf
  · refine (if_pos ⟨hst, hen, hp⟩).trans ?_
    have hidle : (at_ s.cl.ports p).state ≠ 1 ∧ (at_ s.cl.ports p).state ≠ 2 := by
      constructor <;> intro h <;> rw [h] at hst <;> exact absurd hst (by decide)
    refine (State.linkState_of_idle (s := s.forward _) hidle.1 hidle.2 hidle.1).trans ?_
    exact congrArg (fun l => State.raise { s.forward ((at_ s.cl.ports p).since + if (at_ s.cl.ports p).state = 0 then 10 * tuMs else tuS) with
      cl := { s.cl with ports := l } } 0x0D01 p _) (upd_congr rfl)
  · unfold State.badFrame
    rw [if_neg (ne_false_of_eq_true (State.portUp_of hst))]
    exact State.port_port s.clDiscard p (fun q => { q with rx := q.rx + 1 }) fun q => q.free s.now rsp
  · unfold State.rxDelayReq
    rw [if_neg hp0, if_neg (ne_false_of_eq_true (State.portUp_of hst)), if_pos rfl]
    exact State.symbolAt_of_up hst ..
  · unfold State.rxDelayReq
    rw [if_neg hp0, if_neg Bool.false_ne_true]
    exact State.notUp_of_bad hst
  · unfold State.rxCredit
    rw [if_pos (rfl : false = false)]
    exact State.notUp_of_bad hst
  · unfold State.rxCredit
    rw [if_neg (ne_false_of_eq_true (State.portUp_of hst)), if_neg (by decide)]
    have hq : (at_ (s.port p fun q => if rsp then { q with freedRsp := freed } else { q with freedReq := freed }).cl.ports p).queue = [] := by
      rw [State.port, at_upd_self _ hplt]
      split <;> exact hempty
    have hpump : (s.port p fun q => if rsp then { q with freedRsp := freed } else { q with freedReq := freed }).pump p =
        s.port p fun q => if rsp then { q with freedRsp := freed } else { q with freedReq := freed } := by
      unfold State.pump
      rw [hq]
      rfl
    rw [hpump]
    exact State.bcastDone_of_none hnone
  · unfold State.creditTimer State.symbol
    dsimp only
    rw [State.symbolAt_of_up hst, State.symbolAt_of_up ((congrArg ClPort.state (at_upd_self _ hplt)).trans hst), State.port_port]
    exact congrArg (fun l => ({ s with cl := { s.cl with ports := l } } : State)) (upd_congr (by simp))
  · subst hp0
    have hlist (o : Int × ClOut) : to_ [o] = s.cl.ports.mapIdx fun k (x : ClPort) =>
      if k ≠ 0 ∧ x.state = 2 then { x with wire := x.wire ++ [(o.1, o.2)] } else x := hto [o]
    have hup : ¬(s.portUp 0 = false) := ne_false_of_eq_true (State.portUp_of hst)
    have hnr : ¬(s.isRoot = true) := ne_true_of_eq_false hroot
    have hsent {copy : Bool → State} {no : W32} {hops depth : W16} {acc : W32} {frac : Nat}
        (hcopy : ∀ bad, copy bad = { s with
          free := s.free + 1,
          cl := { s.cl with ports := to_ [(clAt s.now + frac + clHop + clampI (-128) 128 (Config.freeInt s.free),
            ClOut.tick no (hops + 1) depth
              (BitVec.ofInt 32 (acc.toInt + s.cl.cableUp + clampI (-128) 128 (Config.freeInt s.free))) bad)] } }) (bad : Bool) :
        (s.clDev.2).toChildren (clAt s.now + frac + clHop + s.clDev.1)
          (.tick no (hops + 1) depth (BitVec.ofInt 32 (acc.toInt + s.cl.cableUp + s.clDev.1)) bad) = copy bad := by
      rw [hcopy, hlist]
      exact State.toChildren_eq (s := s.clDev.2) hlen ..
    refine ⟨fun ns => congrArg done ?_, fun ns => congrArg done ?_, fun seq turn trip hseq l hl => congrArg done ?_, congrArg done ?_,
      fun no hops depth acc frac => ⟨clampI (-128) 128 (Config.freeInt s.free), ?_, ?_, fun copy hcopy => ⟨congrArg done ?_, fun hex => congrArg done ?_,
        fun hex href ref hr => ?_⟩⟩⟩
    · unfold State.rxTime
      rw [if_neg hnr, if_neg hup, State.toChildren_eq hlen, hlist]
      refine (if_pos rfl).trans ?_
      unfold State.keepTime
      dsimp only
      by_cases htick : s.cl.tickNo = s.tk.tick
      · rw [if_pos htick, if_pos htick]
        rfl
      · rw [if_neg htick, if_neg htick]
        rfl
    · unfold State.rxTime
      rw [if_neg hnr, if_neg hup, State.toChildren_eq hlen, hlist]
      rfl
    · unfold State.rxDelayRsp
      rw [if_neg hup, if_neg (by decide), if_neg (not_not.mpr hseq), hl]
    · unfold State.delayReq
      rw [if_neg (not_or.mpr ⟨hup, hnr⟩)]
      exact State.symbolAt_of_up (s := { s with cl := { s.cl with reqSeq := s.cl.reqSeq + 1 } }) hst ..
    · unfold clampI
      omega
    · unfold clampI
      omega
    · refine (State.rxTick_eq hroot (State.portUp_of hst) no hops depth acc false frac (hsent hcopy true)).trans ?_
      rw [hcopy]
      rfl
    · refine (State.rxTick_eq hroot (State.portUp_of hst) no hops depth acc true frac (hsent hcopy false)).trans ?_
      refine (if_neg (by decide)).trans ((if_pos ?_).trans ?_)
      · rw [hcopy]
        exact hex
      · rfl
    · obtain ⟨u, hu⟩ : ∃ u : State, u = { (copy false) with cl := { (copy false).cl with
          tickNo := no, depth := hops + 1, treeDepth := depth.toNat, tickRx := some (no, ref) } } := ⟨_, rfl⟩
      have hstep : s.rxTick no hops depth acc true frac = u.refAt 1 ref := by
        refine (State.rxTick_eq hroot (State.portUp_of hst) no hops depth acc true frac (hsent hcopy false)).trans ?_
        refine (if_neg (by decide)).trans ((if_neg ?_).trans ?_)
        · rw [hcopy]
          exact Nat.not_lt.mpr hex
        · rw [hu, hr, hcopy]
          rfl
      have htk : u.tk = s.tk := by rw [hu, hcopy]
      obtain ⟨hcl, hrefs⟩ := State.refAt_spec (s := u) (id := 1) (by rw [htk, href]; decide) ref
      rw [htk] at hrefs
      refine ⟨_, congrArg done hstep, ?_, ?_⟩
      · rw [State.settle_cl, hcl, hu]
      · rw [State.settle_tk]
        exact hrefs

end Sys2Proof.Machine
end

section
/-! PROOFS. The frames that reach a node: commands, replies, broadcasts and the frames of enumeration (17 R377, 18 R402 to R406). -/
namespace Sys2Proof.Machine

theorem State.ClMoves.portUp {s t : State} (h : s.ClMoves t) (p : Nat) : t.portUp p = s.portUp p := by
  unfold State.portUp
  rw [(h.link p).1]

theorem State.ClMoves.childPorts {s t : State} (h : s.ClMoves t) : t.childPorts = s.childPorts :=
  List.filter_congr fun p _ => h.portUp p

theorem State.ClMoves.nextChild {s t : State} (h : s.ClMoves t) (p : Nat) : t.nextChild p = s.nextChild p := by
  unfold State.nextChild
  rw [h.childPorts]

/-- A frame received, and its buffer freed at once. -/
theorem State.clRecv_clFree (s : State) (p : Nat) (rsp : Bool) :
    (s.clRecv p rsp).2.clFree (s.clRecv p rsp).1 = s.port p fun q => ClPort.free { q with rx := q.rx + 1 } s.now rsp :=
  State.port_port s p (fun q => { q with rx := q.rx + 1 }) fun q => q.free s.now rsp

/-- A frame counted as received. -/
theorem State.clRecv_sends (s : State) (p : Nat) (rsp : Bool) : s.Sends (s.clRecv p rsp).2 :=
  s.port_sends p fun _ => ⟨rfl, rfl, rfl⟩

theorem State.recvFree_clMoves (s : State) (p : Nat) (rsp : Bool) :
    s.ClMoves (s.port p fun q => ClPort.free { q with rx := q.rx + 1 } s.now rsp) := by
  rw [← State.clRecv_clFree]
  exact ((s.clRecv_sends p rsp).trans (State.port_sends _ _ fun q => q.free_sameLink s.now rsp)).clMoves

/-- The one command that waits enters a mailbox that has room. -/
theorem State.clRefill_one {s : State} {w : ClWaiting} (hwait : s.mbx.clWait = [w]) (hroom : s.mbx.clBox.length < 16) :
    ∃ ports discards, s.clRefill 1 = { s with
      mbx := { s.mbx with clWait := [], clBox := s.mbx.clBox ++ [{ w with hold := none, seen := s.now }] }
      cl := { s.cl with ports := ports, discards := discards } } := by
  obtain ⟨ports, discards, hrel, -⟩ := State.release_sends { s with mbx := { s.mbx with
    clWait := [], clBox := s.mbx.clBox ++ [{ w with hold := none, seen := s.now }] } } w.hold
  refine ⟨ports, discards, ?_⟩
  unfold State.clRefill
  rw [hwait]
  exact (if_neg (Nat.not_le.mpr hroom)).trans hrel

section
variable {s : State} {p : Nat}

theorem State.rxMbxCmd_of_here (hup : s.portUp p = true) {hd : ClHdr} (haddr : s.cl.addr = some hd.dest) (entry : Rec) :
    s.rxMbxCmd p hd entry = (s.clRecv p false).2.clEnter (.node hd.src) entry (some (s.clRecv p false).1) := by
  have hroute : (s.clRecv p false).2.route hd.dest (some p) = .here := if_pos haddr
  obtain ⟨h, u, hr⟩ : ∃ h u, s.clRecv p false = (h, u) := ⟨_, _, rfl⟩
  unfold State.rxMbxCmd
  rw [if_neg (ne_false_of_eq_true hup), hr]
  rw [hr] at hroute
  dsimp only at hroute ⊢
  rw [hroute]

theorem State.rxMbxCmd_of_nowhere (hup : s.portUp p = true) {hd : ClHdr} (haddr : s.cl.addr ≠ some hd.dest)
    (hroute : spGet 0 s.cl.routes hd.dest.toNat = 0) (hroot : s.isRoot = true) (entry : Rec) :
    s.rxMbxCmd p hd entry = (s.clRecv p false).2.clDiscard.clFree (s.clRecv p false).1 := by
  have hnowhere : (s.clRecv p false).2.route hd.dest (some p) = .nowhere := by
    unfold State.route
    rw [if_neg (by exact haddr), show spGet 0 (s.clRecv p false).2.cl.routes hd.dest.toNat = 0 from hroute,
      show (s.clRecv p false).2.isRoot = true from hroot]
    rfl
  obtain ⟨h, u, hr⟩ : ∃ h u, s.clRecv p false = (h, u) := ⟨_, _, rfl⟩
  unfold State.rxMbxCmd
  rw [if_neg (ne_false_of_eq_true hup), hr]
  rw [hr] at hnowhere
  dsimp only at hnowhere ⊢
  rw [hnowhere]

theorem State.rxMbxReply_of_here (hup : s.portUp p = true) {hd : ClHdr} (haddr : s.cl.addr = some hd.dest) (entry : Rec) :
    s.rxMbxReply p hd entry = ((s.clRecv p true).2.remoteReply hd.src entry).clFree (s.clRecv p true).1 := by
  have hroute : (s.clRecv p true).2.route hd.dest (some p) = .here := if_pos haddr
  obtain ⟨h, u, hr⟩ : ∃ h u, s.clRecv p true = (h, u) := ⟨_, _, rfl⟩
  unfold State.rxMbxReply
  rw [if_neg (ne_false_of_eq_true hup), hr]
  rw [hr] at hroute
  dsimp only at hroute ⊢
  rw [hroute]

end

/-- A remote reply that no forwarded command waits for. -/
theorem State.remoteReply_of_none {s : State} {src : W16} {entry : Rec} (hnone : ∀ r ∈ s.mbx.remotes, r.opcode ≠ u16 entry 0) :
    s.remoteReply src entry = State.raise { s with mbx := { s.mbx with ctr := { s.mbx.ctr with
      remoteLate := s.mbx.ctr.remoteLate + 1 } } } 0x0102 src.toNat
        ((BitVec.ofNat 16 (u16 entry 2) : W16).toNat + 65536 * u16 entry 0) := by
  have hfind : (s.mbx.remotes.find? fun r => r.opcode == u16 entry 0 && r.hdr.tag == BitVec.ofNat 16 (u16 entry 2) &&
      r.hdr.target == src) = none := by
    refine List.find?_eq_none.mpr fun r hr => ?_
    rw [beq_false_of_ne (hnone r hr), Bool.false_and, Bool.false_and]
    exact Bool.false_ne_true
  unfold State.remoteReply
  dsimp only
  rw [hfind]

/-- The reply to a command that the host had forwarded. -/
theorem State.remoteReply_of_host {s : State} {src : W16} {entry : Rec} {r : Remote}
    (hfind : (s.mbx.remotes.find? fun r => r.opcode == u16 entry 0 && r.hdr.tag == BitVec.ofNat 16 (u16 entry 2) &&
      r.hdr.target == src) = some r) (hmute : r.mute = false) (horigin : r.hdr.origin = .pcie) :
    ∃ bar2, s.remoteReply src entry = { s with mbx := { s.mbx with
      remotes := s.mbx.remotes.erase r, bar2 := bar2, rplProd := s.mbx.rplProd + 1 } } := by
  unfold State.remoteReply
  dsimp only
  rw [hfind]
  dsimp only
  rw [if_neg (ne_true_of_eq_false hmute), horigin]
  exact ⟨_, rfl⟩

/-- The reply to a command of the host reaches this node. -/
theorem State.rxMbxReply_of_host {s : State} {p : Nat} (hup : s.portUp p = true) {hd : ClHdr} (haddr : s.cl.addr = some hd.dest)
    {entry : Rec} {r : Remote} (hfind : (s.mbx.remotes.find? fun r => r.opcode == u16 entry 0 &&
      r.hdr.tag == BitVec.ofNat 16 (u16 entry 2) && r.hdr.target == hd.src) = some r) (hmute : r.mute = false)
    (horigin : r.hdr.origin = .pcie) : ∃ mbx cl, s.rxMbxReply p hd entry = { s with mbx := mbx, cl := cl } ∧
      mbx.remotes = s.mbx.remotes.erase r ∧ mbx.rplProd = s.mbx.rplProd + 1 := by
  obtain ⟨bar2, hremote⟩ := State.remoteReply_of_host (s := (s.clRecv p true).2) hfind hmute horigin
  have hstep := (State.rxMbxReply_of_here hup haddr entry).trans (congrArg (State.clFree · (s.clRecv p true).1) hremote)
  exact ⟨_, _, hstep, rfl, rfl⟩

/-- A reply that no command waits for reaches this node. -/
theorem State.rxMbxReply_of_none {s : State} {p : Nat} (hup : s.portUp p = true) {hd : ClHdr} (haddr : s.cl.addr = some hd.dest)
    {entry : Rec} (hnone : ∀ r ∈ s.mbx.remotes, r.opcode ≠ u16 entry 0) :
    ∃ evq mbx cl, s.rxMbxReply p hd entry = { s with evq := evq, mbx := mbx, cl := cl } ∧
      mbx.ctr.remoteLate = s.mbx.ctr.remoteLate + 1 ∧ mbx.rplProd = s.mbx.rplProd ∧
      evq = (s.raise 0x0102 hd.src.toNat ((BitVec.ofNat 16 (u16 entry 2) : W16).toNat + 65536 * u16 entry 0)).evq := by
  have hstep := (State.rxMbxReply_of_here hup haddr entry).trans (congrArg (State.clFree · (s.clRecv p true).1)
    (State.remoteReply_of_none (s := (s.clRecv p true).2) hnone))
  exact ⟨_, _, _, hstep, rfl, rfl, rfl⟩

theorem State.setAddr_eq (s : State) (a : Option W16) (persistent lost : Bool) : ∃ evq, s.setAddr a persistent lost =
    { s with evq := evq, cl := { s.cl with addr := a, addrPersistent := persistent && a.isSome } } :=
  ({ s with cl := { s.cl with addr := a, addrPersistent := persistent && a.isSome } } : State).raiseIf_evq ..

/-! ## The token -/

/-- At a node below which no port is up the token goes back up. -/
theorem State.tokenOn_of_leaf {s : State} {p : Nat} (hroot : s.isRoot = false) (hnext : s.nextChild p = none) (t : ClToken) :
    ∃ ports discards, s.tokenOn p t =
      (false, { s with cl := { s.cl with tokenPort := none, ports := ports, discards := discards } }) := by
  obtain ⟨ports, discards, hup, -⟩ := State.clUpward_sends { s with cl := { s.cl with tokenPort := none } } 1 0x11 (tokenBytes t)
  refine ⟨ports, discards, ?_⟩
  unfold State.tokenOn
  rw [hnext]
  exact (if_neg (ne_true_of_eq_false hroot)).trans (congrArg (Prod.mk false) hup)

/-- The census at a node that is not the root. -/
theorem State.census_spec {s : State} (hroot : s.isRoot = false) (t : ClToken) : ∃ evq addr ports discards addrPersistent,
    (s.census t).2 = { s with evq := evq, cl := { s.cl with
      index := t.index, denied := false, enumHere := true, enumAt := s.now
      addr := addr, addrPersistent := addrPersistent, ports := ports, discards := discards } } ∧
    (s.cl.addrPersistent = false → addr = none) ∧ ports.length = s.cl.ports.length ∧
    ∀ p, (at_ s.cl.ports p).SameLink (at_ ports p) := by
  obtain ⟨u, hu⟩ : ∃ u : State, u = if s.cl.addr.isSome = true ∧ s.cl.addrPersistent = false then
      State.setAddr { s with cl := { s.cl with index := t.index, denied := false, enumHere := true, enumAt := s.now } } none false false
    else { s with cl := { s.cl with index := t.index, denied := false, enumHere := true, enumAt := s.now } } := ⟨_, rfl⟩
  obtain ⟨evq, addr, addrPersistent, hframe, haddr⟩ : ∃ evq addr addrPersistent, u = { s with evq := evq, cl := { s.cl with
      index := t.index, denied := false, enumHere := true, enumAt := s.now, addr := addr, addrPersistent := addrPersistent } } ∧
      (s.cl.addrPersistent = false → addr = none) := by
    rw [hu]
    split
    · obtain ⟨evq, hset⟩ := State.setAddr_eq { s with cl := { s.cl with
        index := t.index, denied := false, enumHere := true, enumAt := s.now } } none false false
      exact ⟨evq, none, _, hset, fun _ => rfl⟩
    · next hkeep =>
      refine ⟨s.evq, s.cl.addr, s.cl.addrPersistent, rfl, fun hp => Option.not_isSome_iff_eq_none.mp fun h => hkeep ⟨h, hp⟩⟩
  have hnr : ¬(u.isRoot = true) := by
    rw [hframe]
    exact ne_true_of_eq_false hroot
  have hstep : ∃ pay, (s.census t).2 = u.clUpward 1 0x12 pay := by
    refine ⟨le 4 t.index.toNat ++ le 2 (if clPersist s.cl.cfg then (clPAddr s.cl.cfg).toNat else 0) ++
      le 1 (b2n (clPersist s.cl.cfg)) ++ zeros 1 ++ le 8 Config.serial.toNat, ?_⟩
    unfold State.census
    dsimp only
    rw [← hu]
    exact if_neg hnr
  obtain ⟨pay, hstep⟩ := hstep
  obtain ⟨ports, discards, hup, hlen, hlink⟩ := u.clUpward_sends 1 0x12 pay
  rw [hframe] at hup hlen hlink
  rw [hstep, hframe]
  exact ⟨evq, addr, ports, discards, addrPersistent, hup, haddr, hlen, hlink⟩

/-- The assignment of its own address at a node that is not the root. -/
theorem State.assign_spec {s : State} (hroot : s.isRoot = false) (hpersist : clPersist s.cl.cfg = true) (hdenied : s.cl.denied = false)
    (t : ClToken) : ∃ evq ports discards, (s.assign t).2 = { s with evq := evq, cl := { s.cl with
      enumHere := false, addr := some (clPAddr s.cl.cfg), addrPersistent := true, ports := ports, discards := discards } } ∧
    ports.length = s.cl.ports.length ∧ ∀ p, (at_ s.cl.ports p).SameLink (at_ ports p) := by
  obtain ⟨evq, hset⟩ := State.setAddr_eq { s with cl := { s.cl with enumHere := false } } (some (clPAddr s.cl.cfg)) true false
  have hannounce (u : State) (hu : u.isRoot = false) : u.Sends (u.announce true true (clPAddr s.cl.cfg)) := by
    unfold State.announce
    rw [if_neg (ne_true_of_eq_false hu)]
    split
    · exact State.clUpward_sends ..
    · exact .refl u
  have hstep : (s.assign t).2 = (State.setAddr { s with cl := { s.cl with enumHere := false } } (some (clPAddr s.cl.cfg)) true false).announce
      true true (clPAddr s.cl.cfg) := by
    unfold State.assign
    dsimp only
    rw [if_pos ⟨hpersist, hdenied⟩]
  rw [hstep, hset]
  obtain ⟨ports, discards, hup, hlen, hlink⟩ := hannounce { s with evq := evq, cl := { s.cl with
    enumHere := false, addr := some (clPAddr s.cl.cfg), addrPersistent := true } } hroot
  exact ⟨evq, ports, discards, hup, hlen, hlink⟩

section
variable {s u v : State} {t : ClToken} {b : Bool}

/-- TOKEN at a node, its frame freed. -/
theorem State.rxToken_of_up (hup : s.portUp 0 = true) : s.rxToken 0 t =
    ((if t.assign then (s.port 0 fun q => ClPort.free { q with rx := q.rx + 1 } s.now false).assign t
      else (s.port 0 fun q => ClPort.free { q with rx := q.rx + 1 } s.now false).census t).2.tokenOn 0
      (if t.assign then (s.port 0 fun q => ClPort.free { q with rx := q.rx + 1 } s.now false).assign t
      else (s.port 0 fun q => ClPort.free { q with rx := q.rx + 1 } s.now false).census t).1).2 := by
  rw [← State.clRecv_clFree]
  exact if_neg (not_or.mpr ⟨ne_false_of_eq_true hup, not_not.mpr rfl⟩)

theorem State.rxToken_of_census (hup : s.portUp 0 = true) (hassign : t.assign = false)
    (hgo : ((s.port 0 fun q => ClPort.free { q with rx := q.rx + 1 } s.now false).census t).2 = v)
    (hon : v.tokenOn 0 ((s.port 0 fun q => ClPort.free { q with rx := q.rx + 1 } s.now false).census t).1 = (b, u)) :
    s.rxToken 0 t = u := by
  rw [State.rxToken_of_up hup, if_neg (ne_true_of_eq_false hassign), hgo, hon]

theorem State.rxToken_of_assign (hup : s.portUp 0 = true) (hassign : t.assign = true)
    (hgo : ((s.port 0 fun q => ClPort.free { q with rx := q.rx + 1 } s.now false).assign t).2 = v)
    (hon : v.tokenOn 0 ((s.port 0 fun q => ClPort.free { q with rx := q.rx + 1 } s.now false).assign t).1 = (b, u)) :
    s.rxToken 0 t = u := by
  rw [State.rxToken_of_up hup, if_pos hassign, hgo, hon]

end

/-- TOKEN_BACK at a node that the child holding the token returns it to, its frame freed. -/
theorem State.rxTokenBack_eq {s : State} {p : Nat} (hup : s.portUp p = true) (hp : p ≠ 0) (htok : s.cl.tokenPort = some p)
    (hroot : s.isRoot = false) {t : ClToken} {u : State}
    (hon : (s.port p fun q => ClPort.free { q with rx := q.rx + 1 } s.now true).tokenOn p t = (false, u)) : s.rxTokenBack p t = u := by
  unfold State.rxTokenBack
  rw [if_neg (not_or.mpr ⟨ne_false_of_eq_true hup, hp⟩)]
  refine (congrArg (fun v : State => if v.cl.tokenPort ≠ some p ∨ (v.isRoot = true ∧ v.cl.enumRunning = false) then v else
    match v.tokenOn p t with
    | (true, v) => v.phaseOver t
    | (false, v) => v) (s.clRecv_clFree p true)).trans ?_
  rw [hon]
  exact if_neg (not_or.mpr ⟨not_not.mpr htok, fun h => ne_true_of_eq_false hroot h.1⟩)

/-- A node below which no port is up has no child to pass the token to. -/
theorem State.ClMoves.nextChild_of_leaf {s t : State} (h : s.ClMoves t) (hchild : s.childPorts = []) (p : Nat) : t.nextChild p = none := by
  rw [h.nextChild]
  unfold State.nextChild
  rw [hchild]
  rfl

/-- The census at a leaf: the node takes its index, and a dynamic address is dropped. -/
theorem State.rxToken_census_leaf {s : State} (hup : s.portUp 0 = true) (hroot : s.isRoot = false) (hchild : s.childPorts = [])
    {t : ClToken} (hassign : t.assign = false) : ∃ evq cl, s.rxToken 0 t = { s with evq := evq, cl := cl } ∧
      cl.index = t.index ∧ cl.denied = false ∧ cl.tokenPort = none ∧ cl.enumHere = true ∧ cl.enumAt = s.now ∧
      (s.cl.addrPersistent = false → cl.addr = none) := by
  have hfreed := s.recvFree_clMoves 0 false
  obtain ⟨evq, addr, ports, discards, persistent, hcensus, hdrop, hlen, hlink⟩ := State.census_spec
    (s := s.port 0 fun q => ClPort.free { q with rx := q.rx + 1 } s.now false) hroot t
  obtain ⟨ports', discards', hon⟩ := State.tokenOn_of_leaf ((congrArg State.isRoot hcensus).trans hroot)
    ((hfreed.trans ⟨_, _, hcensus, hlen, hlink⟩).nextChild_of_leaf hchild 0)
    ((s.port 0 fun q => ClPort.free { q with rx := q.rx + 1 } s.now false).census t).1
  rw [hcensus] at hon
  exact ⟨_, _, State.rxToken_of_census hup hassign hcensus hon, rfl, rfl, rfl, rfl, rfl, hdrop⟩

/-- The assignment at a leaf that holds a persistent address. -/
theorem State.rxToken_assign_leaf {s : State} (hup : s.portUp 0 = true) (hroot : s.isRoot = false) (hchild : s.childPorts = [])
    {t : ClToken} (hassign : t.assign = true) (hpersist : clPersist s.cl.cfg = true) (hdenied : s.cl.denied = false) :
    ∃ evq cl, s.rxToken 0 t = { s with evq := evq, cl := cl } ∧
      cl.addr = some (clPAddr s.cl.cfg) ∧ cl.addrPersistent = true ∧ cl.enumHere = false := by
  have hfreed := s.recvFree_clMoves 0 false
  obtain ⟨evq, ports, discards, hown, hlen, hlink⟩ := State.assign_spec
    (s := s.port 0 fun q => ClPort.free { q with rx := q.rx + 1 } s.now false) hroot hpersist hdenied t
  obtain ⟨ports', discards', hon⟩ := State.tokenOn_of_leaf ((congrArg State.isRoot hown).trans hroot)
    ((hfreed.trans ⟨_, _, hown, hlen, hlink⟩).nextChild_of_leaf hchild 0)
    ((s.port 0 fun q => ClPort.free { q with rx := q.rx + 1 } s.now false).assign t).1
  rw [hown] at hon
  exact ⟨_, _, State.rxToken_of_assign hup hassign hown hon, rfl, rfl, rfl⟩

/-- TOKEN_BACK where no further child is up: the token goes to the parent. -/
theorem State.rxTokenBack_leaf {s : State} {p : Nat} (hup : s.portUp p = true) (hp : p ≠ 0) (htok : s.cl.tokenPort = some p)
    (hroot : s.isRoot = false) (hnext : s.nextChild p = none) (t : ClToken) :
    ∃ cl, s.rxTokenBack p t = { s with cl := cl } ∧ cl.tokenPort = none := by
  obtain ⟨ports, discards, hon⟩ := State.tokenOn_of_leaf (s := s.port p fun q => ClPort.free { q with rx := q.rx + 1 } s.now true) hroot
    (((s.recvFree_clMoves p true).nextChild p).trans hnext) t
  exact ⟨_, State.rxTokenBack_eq hup hp htok hroot hon, rfl⟩

/-- A command for this node, with room in its mailbox queue. -/
theorem State.rxMbxCmd_of_room {s : State} {p : Nat} (hup : s.portUp p = true) {hd : ClHdr} (haddr : s.cl.addr = some hd.dest)
    (hwait : s.mbx.clWait = []) (hroom : s.mbx.clBox.length < 16) (entry : Rec) : ∃ ports discards, s.rxMbxCmd p hd entry = { s with
      mbx := { s.mbx with clWait := [], clBox := s.mbx.clBox ++ [⟨.node hd.src, entry, none, s.now⟩] }
      cl := { s.cl with ports := ports, discards := discards } } := by
  have hins : insertWait ⟨.node hd.src, entry, some (s.clRecv p false).1, s.now⟩ s.mbx.clWait =
      [⟨.node hd.src, entry, some (s.clRecv p false).1, s.now⟩] := by
    rw [hwait]
    rfl
  obtain ⟨ports, discards, hfill⟩ := State.clRefill_one (s := { (s.clRecv p false).2 with mbx := { s.mbx with
    clWait := insertWait ⟨.node hd.src, entry, some (s.clRecv p false).1, s.now⟩ s.mbx.clWait } }) hins hroom
  exact ⟨ports, discards, (State.rxMbxCmd_of_here hup haddr entry).trans hfill⟩

/-- CONFLICT that names this node by its index. -/
theorem State.rxConflict_of_index {s : State} (hup : s.portUp 0 = true) {src : Option W16} {index : W32} (hidx : index = s.cl.index)
    (hne : index ≠ 0xFFFFFFFF) (serial : W64) : ∃ evq cl, s.rxConflict 0 src index serial = { s with evq := evq, cl := cl } ∧
      cl.addr = none ∧ cl.denied = true := by
  obtain ⟨evq, haddr⟩ := State.setAddr_eq { (s.clRecv 0 false).2 with cl := { (s.clRecv 0 false).2.cl with denied := true } } none false true
  obtain ⟨u, hu⟩ : ∃ u : State, u = (s.clRecv 0 false).2.conflictHere index serial := ⟨_, rfl⟩
  have hconf : u = _ := hu.trans ((if_pos (.inl ⟨hne, hidx⟩)).trans haddr)
  obtain ⟨ports, discards, hflood, -⟩ := State.clFlood_sends u 2
    (.frame 0x15 (srcHdr src 0) 0 (conflictBytes index serial)) (some (s.clRecv 0 false).1)
  have hstep : s.rxConflict 0 src index serial = u.clFlood 2
      (.frame 0x15 (srcHdr src 0) 0 (conflictBytes index serial)) (some (s.clRecv 0 false).1) := by
    rw [hu]
    exact if_neg (not_or.mpr ⟨ne_false_of_eq_true hup, not_not.mpr rfl⟩)
  rw [hconf] at hstep hflood
  exact ⟨_, _, hstep.trans hflood, rfl, rfl⟩

/-- ANNOUNCE at the root of an address that no other node holds. -/
theorem State.rxAnnounce_of_fresh {s : State} {p : Nat} (hup : s.portUp p = true) (hp : p ≠ 0) (hroot : s.isRoot = true) {a : W16}
    {serial : W64} (hfresh : ((s.cl.holders.filter fun x => x.2 != serial).any fun x => x.1 == a) = false) (src : Option W16)
    (persistent : Bool) : s.rxAnnounce p src a true persistent serial = { s with cl := { s.cl with
      ports := upd s.cl.ports p fun q => ClPort.free { q with rx := q.rx + 1 } s.now true
      routes := spSet 0 s.cl.routes a.toNat p, holders := s.cl.holders.filter (fun x => x.2 != serial) ++ [(a, serial)]
      addressed := if s.cl.enumRunning then (s.cl.holders.filter (fun x => x.2 != serial) ++ [(a, serial)]).length
        else s.cl.addressed } } := by
  unfold State.rxAnnounce
  rw [if_neg (not_or.mpr ⟨ne_false_of_eq_true hup, hp⟩)]
  refine (if_pos hroot).trans ?_
  unfold State.rootAnnounce
  dsimp only
  rw [if_pos rfl]
  refine (congrArg (State.clFree · (s.clRecv p true).1) (if_neg (ne_true_of_eq_false hfresh))).trans ?_
  exact State.port_port { s with cl := { s.cl with
    routes := spSet 0 s.cl.routes a.toNat p, holders := s.cl.holders.filter (fun x => x.2 != serial) ++ [(a, serial)]
    addressed := if s.cl.enumRunning then (s.cl.holders.filter (fun x => x.2 != serial) ++ [(a, serial)]).length
      else s.cl.addressed } } p (fun q => { q with rx := q.rx + 1 }) fun q => q.free s.now true

/-- A broadcast taken as it passes, in an empty mailbox queue. -/
theorem State.rxBcast_of_room {s : State} {p : Nat} (hup : s.portUp p = true) {subtree : Bool}
    (htake : p = 0 ∨ (s.isRoot = true ∧ subtree = false)) (hwait : s.mbx.clWait = []) (hroom : s.mbx.clBox.length < 16)
    (hd : ClHdr) (entry : Rec) : ∃ ports discards, s.rxBcast p hd subtree entry = { s with
      mbx := { s.mbx with clWait := [], clBox := s.mbx.clBox ++ [⟨.bcast, entry, none, s.now⟩] }
      cl := { s.cl with ports := ports, discards := discards } } := by
  obtain ⟨ports, discards, hflood, -⟩ := State.clFlood_sends { (s.clRecv p false).2 with mbx := { s.mbx with
    clWait := insertWait ⟨.bcast, entry, some (s.clRecv p false).1, s.now⟩ s.mbx.clWait } } 2
    (.frame 0x03 hd (b2n subtree) entry) (some (s.clRecv p false).1)
  obtain ⟨ports', discards', hfill⟩ := State.clRefill_one (s := { s with
      mbx := { s.mbx with clWait := insertWait ⟨.bcast, entry, some (s.clRecv p false).1, s.now⟩ s.mbx.clWait }
      cl := { s.cl with ports := ports, discards := discards } })
    (w := ⟨.bcast, entry, some (s.clRecv p false).1, s.now⟩) (by rw [hwait]; rfl) hroom
  refine ⟨ports', discards', ?_⟩
  unfold State.rxBcast
  rw [if_neg (ne_false_of_eq_true hup)]
  exact (if_pos htake).trans ((congrArg (State.clRefill 1) hflood).trans hfill)

/-- An enumeration that does not end in time. -/
theorem State.enumTimeout_of_running {s : State} (hrun : s.cl.enumRunning = true) : ∃ evq cl, s.enumTimeout =
      { s with now := max s.now (s.cl.enumAt + u16 s.cl.cfg 6 * tuS), free := s.free + 1, evq := evq, cl := cl } ∧
    cl.enumRunning = false ∧ cl.enumHere = false ∧ cl.enumNodes = BitVec.ofNat 32 s.cl.addressed ∧
    evq = ((s.forward (s.cl.enumAt + u16 s.cl.cfg 6 * tuS)).raise 0x0D02 0
      (1 + 16 * (Config.free s.free % 4096 % 4096) + 65536 * sat 16 s.cl.addressed)).evq :=
  ⟨_, { s.cl with enumRunning := false, enumHere := false, tokenPort := none, enumNodes := BitVec.ofNat 32 s.cl.addressed },
    if_neg (ne_false_of_eq_true hrun), rfl, rfl, rfl, rfl⟩

/-- Settles O58. -/
theorem cumaslinkFramesRun : Obligations.CumaslinkFramesRun := by
  unfold Obligations.CumaslinkFramesRun
  intro s p hp hlen hst recv hrecv
  have hplt : p < s.cl.ports.length := hp.trans_eq hlen.symm
  have hup : s.portUp p = true := State.portUp_of hst
  have hdown : ¬(s.portUp p = false) := ne_false_of_eq_true hup
  refine ⟨fun hd entry haddr hwait hroom => ?_, fun hd entry haddr hroute hroot => congrArg done ?_,
    fun hd entry r haddr hfind hmute horigin => ?_, fun hd entry haddr hnone => ?_, fun hd subtree entry hp0 hwait hroom => ?_,
    fun src index paddr pset serial hp0 hroot hrun => congrArg done ?_,
    fun a serial hp0 hroot others hothers hfresh src persistent => congrArg done ?_,
    fun hp0 hroot hchild => ⟨fun src block b hblock => ?_, fun src index serial hidx hne => ?_, fun tok hassign => ?_,
      fun tok hassign hpersist hdenied => ?_⟩,
    fun tok hp0 htok hroot hnext => ?_, fun hrun => ?_⟩
  · obtain ⟨ports, discards, hstep⟩ := State.rxMbxCmd_of_room hup haddr hwait hroom entry
    exact ⟨_, congrArg done hstep, congrArg (fun l => ({ s.mbx with
      clWait := l, clBox := s.mbx.clBox ++ [(⟨.node hd.src, entry, none, s.now⟩ : ClWaiting)] } : Mailbox)) hwait.symm, rfl⟩
  · refine (State.rxMbxCmd_of_nowhere hup haddr hroute hroot entry).trans ?_
    rw [hrecv]
    exact State.port_port s.clDiscard p (fun q => { q with rx := q.rx + 1 }) fun q => q.free s.now false
  · obtain ⟨mbx, cl, hstep, hremotes, hprod⟩ := State.rxMbxReply_of_host hup haddr hfind hmute horigin
    exact ⟨_, congrArg done hstep, hremotes, hprod, rfl⟩
  · obtain ⟨evq, mbx, cl, hstep, hlate, hprod, hevq⟩ := State.rxMbxReply_of_none hup haddr hnone
    exact ⟨_, congrArg done hstep, hlate, hprod, hevq⟩
  · obtain ⟨ports, discards, hstep⟩ := State.rxBcast_of_room hup hp0 hwait hroom hd entry
    exact ⟨_, congrArg done hstep, rfl, rfl⟩
  · unfold State.rxReport
    rw [if_neg (not_or.mpr ⟨hdown, hp0⟩), hrecv]
    refine (if_pos hroot).trans ((congrArg (fun l => State.clFree { (s.clRecv p true).2 with
      cl := { (s.clRecv p true).2.cl with reports := l } } (s.clRecv p true).1) (if_pos hrun)).trans ?_)
    exact State.port_port { s with cl := { s.cl with reports := s.cl.reports ++ [⟨index, paddr, pset, serial⟩] } } p
      (fun q => { q with rx := q.rx + 1 }) fun q => q.free s.now true
  · rw [hrecv, hothers]
    rw [hothers] at hfresh
    exact State.rxAnnounce_of_fresh hup hp0 hroot hfresh src persistent
  · obtain ⟨ports, discards, hflood, -⟩ := State.clFlood_sends { (s.clRecv p false).2 with cl := { (s.clRecv p false).2.cl with
      kept := s.cl.kept.filter (fun a => a.toNat / 2048 != block) ++ blockAddrs block b } } 2
      (.frame 0x13 (srcHdr src (BitVec.ofNat 16 block)) 0
        (blockBits (s.cl.kept.filter (fun a => a.toNat / 2048 != block) ++ blockAddrs block b) block)) (some (s.clRecv p false).1)
    exact ⟨_, congrArg done ((if_neg (not_or.mpr ⟨hdown, not_or.mpr ⟨not_not.mpr hp0, Nat.not_le.mpr hblock⟩⟩)).trans hflood), rfl, rfl⟩
  · subst hp0
    obtain ⟨evq, cl, hstep, haddr, hden⟩ := State.rxConflict_of_index hup (src := src) hidx hne serial
    exact ⟨_, congrArg done hstep, haddr, hden, rfl⟩
  · subst hp0
    obtain ⟨evq, cl, hstep, hindex, hdenied, htok, hhere, hat, haddr⟩ := State.rxToken_census_leaf hup hroot hchild hassign
    exact ⟨_, congrArg done hstep, hindex, hdenied, htok, hhere, hat, haddr, rfl⟩
  · subst hp0
    obtain ⟨evq, cl, hstep, haddr, hpers, hhere⟩ := State.rxToken_assign_leaf hup hroot hchild hassign hpersist hdenied
    exact ⟨_, congrArg done hstep, haddr, hpers, hhere, rfl⟩
  · obtain ⟨cl, hstep, htoken⟩ := State.rxTokenBack_leaf hup hp0 htok hroot hnext tok
    exact ⟨_, congrArg done hstep, htoken, rfl⟩
  · obtain ⟨evq, cl, hstep, hover, hhere, hnodes, hevq⟩ := State.enumTimeout_of_running hrun
    exact ⟨_, _, congrArg done hstep, rfl, hover, hhere, hnodes, Nat.mod_lt _ (by decide), hevq⟩

end Sys2Proof.Machine
end

section
/-! PROOFS. What waits for tags (01 R23), and the events of the content store and of the effect bus (19 R410 to R424, 20 R431, R432). -/
namespace Sys2Proof.Machine

/-! ## Frames of the requests -/

/-- Only the fetch unit and the drive operations differ. -/
def State.Issues (s t : State) : Prop := ∃ fetch ops, t = { s with fetch := fetch, cs := { s.cs with ops := ops } }

/-- Only the fetch unit, the reads of fences and the drive operations differ. -/
def State.Asks (s t : State) : Prop := ∃ fetch fences ops, t = { s with
  fetch := fetch, com := { s.com with fences := fences }, cs := { s.cs with ops := ops } }

section
variable {s t u : State}

theorem State.Issues.refl (s : State) : s.Issues s := ⟨s.fetch, s.cs.ops, rfl⟩

theorem State.Issues.trans (h : s.Issues t) (h' : t.Issues u) : s.Issues u := by
  obtain ⟨_, _, rfl⟩ := h
  obtain ⟨fetch, ops, rfl⟩ := h'
  exact ⟨fetch, ops, rfl⟩

theorem State.Asks.refl (s : State) : s.Asks s := ⟨s.fetch, s.com.fences, s.cs.ops, rfl⟩

theorem State.Asks.trans (h : s.Asks t) (h' : t.Asks u) : s.Asks u := by
  obtain ⟨_, _, _, rfl⟩ := h
  obtain ⟨fetch, fences, ops, rfl⟩ := h'
  exact ⟨fetch, fences, ops, rfl⟩

theorem State.Issues.asks (h : s.Issues t) : s.Asks t := by
  obtain ⟨fetch, ops, rfl⟩ := h
  exact ⟨fetch, s.com.fences, ops, rfl⟩

end

theorem State.foldl_asks {α : Type} {g : State → α → State} (hg : ∀ (s : State) a, s.Asks (g s a)) (l : List α) (s : State) :
    s.Asks (l.foldl g s) := by
  induction l generalizing s with
  | nil => exact .refl s
  | cons a l ih => exact (hg s a).trans (ih (g s a))

theorem State.wake_issues (s : State) : s.Issues s.wake := ⟨_, s.cs.ops, rfl⟩

theorem State.takeTags_issues (s : State) (cls n : Nat) : s.Issues (s.takeTags cls n) := ⟨_, s.cs.ops, rfl⟩

theorem State.refuseAt_asks (s : State) (i : Nat) : s.Asks (s.refuseAt i) := by
  unfold State.refuseAt
  split
  · exact ⟨_, s.com.fences, s.cs.ops, rfl⟩
  · exact .refl s

theorem State.issueAt_asks (s : State) (cls i : Nat) : s.Asks (s.issueAt cls i) := by
  unfold State.issueAt
  dsimp only
  split
  · exact .refl s
  · split
    · exact s.refuseAt_asks i
    · split
      · exact ⟨_, s.com.fences, s.cs.ops, rfl⟩
      · exact ⟨_, s.com.fences, s.cs.ops, rfl⟩

theorem State.issueFence_asks (s : State) (i : Nat) : s.Asks (s.issueFence i) := by
  unfold State.issueFence
  dsimp only
  split
  · exact .refl s
  · split
    · exact ⟨s.fetch, _, s.cs.ops, rfl⟩
    · split
      · exact .refl s
      · split
        · exact ⟨_, _, s.cs.ops, rfl⟩
        · exact ⟨_, _, s.cs.ops, rfl⟩

theorem State.pumpReads_asks (s : State) (cls : Nat) : s.Asks (s.pumpReads cls) := by
  have hissue (s : State) (x : Nat × Bool × Nat) : s.Asks (if x.2.1 then s.issueFence x.2.2 else s.issueAt cls x.2.2) := by
    split
    · exact s.issueFence_asks _
    · exact s.issueAt_asks ..
  exact (State.foldl_asks hissue (s.waiting cls) s).trans ⟨_, _, _, rfl⟩

theorem State.pumpOps_issues (n : Nat) (s : State) : s.Issues (s.pumpOps n) := by
  induction n generalizing s with
  | zero => exact .refl s
  | succ n ih =>
    unfold State.pumpOps
    split
    · exact .refl s
    · dsimp only
      split
      · exact .refl s
      · refine .trans ?_ (ih _)
        split
        · exact ⟨_, _, rfl⟩
        · exact ⟨_, _, rfl⟩

theorem State.addOp_issues (s : State) (use : NvmeUse) (steps : List DriveStep) : s.Issues (s.addOp use steps) :=
  .trans ⟨s.fetch, _, rfl⟩ (State.pumpOps_issues ..)

theorem State.offerTags_asks (s : State) : s.Asks s.offerTags :=
  ((s.pumpReads_asks 0).trans (State.pumpReads_asks _ 1)).trans (State.pumpOps_issues ..).asks

/-- With no drive operation none is issued. -/
theorem State.pumpOps_of_none {s : State} (hops : s.cs.ops = []) (n : Nat) : s.pumpOps n = s := by
  cases n with
  | zero => rfl
  | succ n =>
    have hnext : s.nextOp = none := by
      unfold State.nextOp
      rw [hops]
      rfl
    unfold State.pumpOps
    rw [hnext]

/-- The reads of a class leave the drive operations. -/
theorem State.pumpReads_ops (s : State) (cls : Nat) : (s.pumpReads cls).cs.ops = s.cs.ops := by
  have hissue (s : State) (x : Nat × Bool × Nat) :
      (if x.2.1 then s.issueFence x.2.2 else s.issueAt cls x.2.2).cs.ops = s.cs.ops := by
    unfold State.issueFence State.issueAt State.refuseAt
    dsimp only
    (repeat' split) <;> rfl
  have hfold (l : List (Nat × Bool × Nat)) (s : State) :
      (l.foldl (fun s x => if x.2.1 then s.issueFence x.2.2 else s.issueAt cls x.2.2) s).cs.ops = s.cs.ops := by
    induction l generalizing s with
    | nil => rfl
    | cons x l ih => exact (ih _).trans (hissue s x)
  exact hfold (s.waiting cls) s

theorem State.offerTags_of_noOps {s : State} (hops : s.cs.ops = []) :
    ∃ fetch fences, s.offerTags = { s with fetch := fetch, com := { s.com with fences := fences } } := by
  have hreads : ((s.pumpReads 0).pumpReads 1).cs.ops = [] :=
    (State.pumpReads_ops ..).trans ((State.pumpReads_ops ..).trans hops)
  obtain ⟨fetch, fences, ops, hask⟩ := (s.pumpReads_asks 0).trans (State.pumpReads_asks _ 1)
  rw [hask] at hreads
  have hcs : ({ s.cs with ops := ops } : ContentStore) = s.cs := by
    rw [show ops = [] from hreads, ← hops]
  refine ⟨fetch, fences, (State.pumpOps_of_none (hask ▸ hreads) _).trans (hask.trans ?_)⟩
  rw [hcs]

/-! ## The mount -/

theorem State.csState_eq (s : State) (st reason : Nat) : ∃ evq, s.csState st reason =
    { s with evq := evq, cs := { s.cs with state := st, reason := reason } } :=
  ({ s with cs := { s.cs with state := st, reason := reason } } : State).raiseIf_evq ..

/-- The state as a mount begins. -/
theorem State.mountBegin_eq (s : State) : ∃ evq, State.csState { s with ck := { s.ck with nvRef := true } } 1 0 =
    { s with evq := evq, ck := { s.ck with nvRef := true }, cs := { s.cs with state := 1, reason := 0 } } :=
  State.csState_eq ..

section
variable {s : State} {d : DriveImage}

/-- A mount that ends in FAULT. -/
theorem State.mount_fails {reason : Nat}
    (h : s.mount d = (State.csState { s with ck := { s.ck with nvRef := true } } 1 0).csState 4 reason) :
    ∃ evq, s.mount d = { s with evq := evq, ck := { s.ck with nvRef := true }, cs := { s.cs with state := 4, reason := reason } } := by
  obtain ⟨_, hbegin⟩ := s.mountBegin_eq
  rw [hbegin] at h
  obtain ⟨evq, hend⟩ := State.csState_eq _ 4 reason
  exact ⟨evq, h.trans hend⟩

theorem State.mount_of_noLink (hlink : d.linkOk = false) :
    s.mount d = (State.csState { s with ck := { s.ck with nvRef := true } } 1 0).csState 4 1 := if_pos hlink

theorem State.mount_of_noController (hlink : d.linkOk = true) (hctl : d.controllerOk = false) :
    s.mount d = (State.csState { s with ck := { s.ck with nvRef := true } } 1 0).csState 4 2 :=
  (if_neg (ne_false_of_eq_true hlink)).trans (if_pos hctl)

theorem State.mount_of_badNamespace (hlink : d.linkOk = true) (hctl : d.controllerOk = true)
    (hns : d.namespaceOk = false ∨ 2 ^ 32 < d.lbas) :
    s.mount d = (State.csState { s with ck := { s.ck with nvRef := true } } 1 0).csState 4 3 :=
  (if_neg (ne_false_of_eq_true hlink)).trans ((if_neg (ne_false_of_eq_true hctl)).trans (if_pos hns))

/-- A mount that reads the drive. -/
theorem State.mount_of_drive (hlink : d.linkOk = true) (hctl : d.controllerOk = true) (hns : d.namespaceOk = true)
    (hlbas : d.lbas ≤ 2 ^ 32) : ∃ evq fetch cs, s.mount d = { s with
        evq := evq, fetch := fetch, ck := { s.ck with nvRef := true }, cs := cs } ∧
      cs.blocks = volumeBlocks d.lbas ∧ cs.unit = driveUnit d.mdts ∧ cs.slots = driveSlots d.queues d.mqes ∧
      (pickSuper (d.superA.take 64) (d.superB.take 64) = none → cs.state = 2 ∧ cs.table = []) ∧
      (∀ r, pickSuper (d.superA.take 64) (d.superB.take 64) = some r → cs.state = 3 ∧ cs.reason = 0 ∧
        cs.table = (mountTable d.table).1 ∧ cs.superSeq = BitVec.ofNat 32 (u32 r 8)) := by
  obtain ⟨evq, hbegin⟩ := s.mountBegin_eq
  unfold State.mount
  dsimp only
  rw [hbegin, if_neg (ne_false_of_eq_true hlink), if_neg (ne_false_of_eq_true hctl),
    if_neg (not_or.mpr ⟨ne_false_of_eq_true hns, Nat.not_lt.mpr hlbas⟩)]
  cases hpick : pickSuper (d.superA.take 64) (d.superB.take 64) with
  | none =>
    obtain ⟨evq', hend⟩ := State.csState_eq { s with
      evq := evq, ck := { s.ck with nvRef := true }
      cs := { s.cs with state := 1, reason := 0, blocks := volumeBlocks d.lbas, table := [], unit := driveUnit d.mdts
                        slots := driveSlots d.queues d.mqes } } 2 0
    exact ⟨_, _, _, hend, rfl, rfl, rfl, fun _ => ⟨rfl, rfl⟩, fun r hr => nomatch hr⟩
  | some r =>
    obtain ⟨evq', hend⟩ := State.csState_eq { s with
      evq := evq, ck := { s.ck with nvRef := true }
      cs := { s.cs with
        state := 1, reason := 0, blocks := volumeBlocks d.lbas, table := (mountTable d.table).1, unit := driveUnit d.mdts
        slots := driveSlots d.queues d.mqes, mountFreed := s.cs.mountFreed + BitVec.ofNat 32 (mountTable d.table).2
        superSeq := BitVec.ofNat 32 (u32 r 8), volumeId := BitVec.ofNat 64 (u64 r 0x10) } } 3 0
    have hfacts (r' : Rec) (hr : some r = some r') : BitVec.ofNat 32 (u32 r 8) = BitVec.ofNat 32 (u32 r' 8) := by
      rw [Option.some.inj hr]
    dsimp only
    split
    · exact ⟨_, _, _, hend, rfl, rfl, rfl, fun h => absurd h (Option.some_ne_none r), fun r' hr => ⟨rfl, rfl, rfl, hfacts r' hr⟩⟩
    · obtain ⟨fetch, ops, hadd⟩ := State.addOp_issues (State.csState _ 3 0) .tidy (tidySteps d.table (mountTable d.table).1)
      rw [hend] at hadd
      refine ⟨_, _, _, (congrArg (fun u : State => u.addOp .tidy _) hend).trans hadd, rfl, rfl, rfl, fun h => absurd h (Option.some_ne_none r),
        fun r' hr => ⟨rfl, rfl, rfl, hfacts r' hr⟩⟩

end

/-! ## Operations of the drive -/

/-- After a read of points has ended the next one of its head is asked for. -/
def State.afterOp (s : State) (use : NvmeUse) : State := match use with
  | .points n _ _ => s.stageHead n
  | _ => s

section
variable {s : State} {o : NvmeOp} {status : W16} {data : Rec}

/-- A command of an operation that has others in flight completes. -/
theorem State.nvmeDone_of_more (hops : s.cs.ops = [o]) (htags : 1 < o.tags) (hgood : o.status = 0)
    (huse : ∀ n no k, o.use ≠ .points n no k) : s.nvmeDone 0 0 data = State.offerTags { s with
      fetch := { s.fetch with held := upd s.fetch.held 2 fun v => v - 1 }
      cs := { s.cs with ops := [{ o with tags := o.tags - 1, barrier := false }] } } := by
  obtain ⟨use, todo, tags, barrier, phase, status⟩ := o
  dsimp only at hgood htags huse
  subst hgood
  have hone : tags ≠ 1 := htags.ne'
  have hzero : tags ≠ 0 := (Nat.zero_lt_of_lt htags).ne'
  unfold State.nvmeDone
  rw [hops]
  dsimp only [List.getElem?_cons_zero]
  have hmore (l : List DriveStep) : (if tags = 1 ∧ todo = [] then l else []) = [] := if_neg fun h => hone h.1
  rw [if_neg hzero, hmore, if_neg fun h => hone h.1, List.append_nil]
  split
  · exact absurd rfl (huse _ _ _)
  · rfl

/-- The last command of an operation that serves neither a parked command nor a point stream ends it. -/
theorem State.nvmeDone_of_last (hops : s.cs.ops = [o]) (htags : o.tags = 1) (htodo : o.todo = []) (hgood : o.status = 0)
    (hseal : s.sealSteps o data = []) : ∃ u, u = s.opEnds 0 status.toNat data ∧
      ((∀ n no k, o.use ≠ .points n no k) → s.nvmeDone 0 status data = u) ∧
      ∀ n no k, o.use = .points n no k → s.nvmeDone 0 status data = u.stageHead n := by
  have hmore : (if o.tags = 1 ∧ o.todo = [] then s.sealSteps o data else []) = [] := (if_pos ⟨htags, htodo⟩).trans hseal
  have hrest : (if status.toNat = 0 then o.todo ++ [] else []) = [] := by
    rw [htodo]
    exact ite_self []
  have hzero : o.tags ≠ 0 := htags.trans_ne Nat.one_ne_zero
  have hstep : s.nvmeDone 0 status data = (s.opEnds 0 status.toNat data).afterOp o.use := by
    unfold State.nvmeDone
    rw [hops]
    dsimp only [List.getElem?_cons_zero]
    rw [if_neg hzero, if_pos hgood, hmore, hrest, if_pos ⟨htags, rfl⟩]
    rfl
  refine ⟨_, rfl, fun huse => hstep.trans ?_, fun n no k huse => hstep.trans ?_⟩
  · unfold State.afterOp
    split
    · next n no k h => exact absurd h (huse n no k)
    · rfl
  · rw [huse]
    rfl

/-- A read of a frame of a layer clip ends. -/
theorem State.opEnds_of_frame (hops : s.cs.ops = [o]) (htags : o.tags = 1) {l id f : Nat} (huse : o.use = .clipFrame l id f) :
    s.opEnds 0 0 data = State.offerTags { s with
      fetch := { s.fetch with held := upd s.fetch.held 2 fun v => v - 1 }
      cs := { s.cs with ops := [], plays := upd s.cs.plays l fun (q : Option Play) => q.map fun p =>
        if p.clip ≠ id then p else { p with landed := p.landed ++ [f] } } } := by
  have hat : at_ s.cs.ops 0 = o := by rw [hops]; rfl
  unfold State.opEnds
  dsimp only
  rw [hat, hops, huse, htags]
  rfl

/-- The last command of a read of a frame completes. -/
theorem State.nvmeDone_of_frame (hops : s.cs.ops = [o]) (htags : o.tags = 1) (htodo : o.todo = []) (hgood : o.status = 0) {l id f : Nat}
    (huse : o.use = .clipFrame l id f) : s.nvmeDone 0 0 data = State.offerTags { s with
      fetch := { s.fetch with held := upd s.fetch.held 2 fun v => v - 1 }
      cs := { s.cs with ops := [], plays := upd s.cs.plays l fun (q : Option Play) => q.map fun p =>
        if p.clip ≠ id then p else { p with landed := p.landed ++ [f] } } } := by
  have hseal : s.sealSteps o data = [] := by
    unfold State.sealSteps
    rw [huse]
  obtain ⟨u, hu, hframe, -⟩ := State.nvmeDone_of_last (status := 0) hops htags htodo hgood hseal
  exact (hframe fun n no k h => nomatch huse.symm.trans h).trans (hu.trans (State.opEnds_of_frame hops htags huse))

/-- A failed read of points breaks their segment. -/
theorem State.opEnds_of_points (hops : s.cs.ops = [o]) (htags : o.tags = 1) {n no k : Nat} (huse : o.use = .points n no k)
    {g : Segment} (hsegs : (at_ s.heads n).segs = [g]) (hno : g.no.toNat = no) (hclip : g.clip.isSome = true)
    (hplace : g.first + g.staged = k) {st : Nat} (hst : st ≠ 0) :
    s.opEnds 0 st data = State.offerTags (State.readError { s with
      fetch := { s.fetch with held := upd s.fetch.held 2 fun v => v - 1 }
      cs := { s.cs with ops := [] }
      heads := upd s.heads n fun h => { h with segs := h.segs.map fun x => if x.no ≠ g.no then x else { x with broken := true } } }
      (8 + n) st k) := by
  have hbad : (st == 0) = false := beq_false_of_ne hst
  have hfind : ((at_ s.heads n).segs.find? fun g => g.no.toNat == no && g.clip.isSome && g.first + g.staged == k) = some g := by
    rw [hsegs]
    refine List.find?_cons_of_pos ?_
    rw [hno, hclip, hplace, beq_self_eq_true, beq_self_eq_true]
    rfl
  have hat : at_ s.cs.ops 0 = o := by rw [hops]; rfl
  unfold State.opEnds State.pointsStaged
  dsimp only
  rw [hat, hops, huse, htags, hbad]
  dsimp only [State.returnTags]
  rw [hfind]
  rfl

theorem mem_of_at {α : Type} [Inhabited α] {l : List α} {i : Nat} {a : α} (h : at_ l i = a) (ha : a ≠ default) : a ∈ l := by
  by_cases hi : i < l.length
  · rw [← h, at_, List.getD_eq_getElem _ _ hi]
    exact List.getElem_mem hi
  · exact absurd (h.symm.trans (List.getD_eq_default _ _ (Nat.not_lt.mp hi))) ha

/-- A head whose one segment is broken stages nothing. -/
theorem State.stageHead_of_broken {s : State} {n : Nat} {g : Segment} (hsegs : (at_ s.heads n).segs = [g]) (hbroken : g.broken = true) :
    s.stageHead n = s := by
  unfold State.stageHead
  dsimp only
  rw [hsegs]
  split
  · next g' hfind =>
    have hg : g' = g := List.mem_singleton.mp (List.mem_of_find?_eq_some hfind)
    exact if_pos (.inr (.inl (hg ▸ hbroken)))
  · rfl

/-- The last command of a read of points fails: their segment is broken, and the error is raised. -/
theorem State.nvmeDone_of_points (hops : s.cs.ops = [o]) (htags : o.tags = 1) (htodo : o.todo = []) (hgood : o.status = 0)
    {n no k : Nat} (huse : o.use = .points n no k) (hn : n < s.heads.length) {g : Segment} (hsegs : (at_ s.heads n).segs = [g])
    (hno : g.no.toNat = no) (hclip : g.clip.isSome = true) (hplace : g.first + g.staged = k) (hst : status.toNat ≠ 0) :
    ∃ fetch fences evq cs heads, s.nvmeDone 0 status data = { s with
        evq := evq, fetch := fetch, com := { s.com with fences := fences }, cs := cs, heads := heads } ∧
      cs.ops = [] ∧ cs.readErrors = s.cs.readErrors + 1 ∧ (at_ heads n).segs = [{ g with broken := true }] ∧
      evq = (s.raise 0x0E02 (8 + n) (status.toNat + 65536 * (k % 65536))).evq := by
  have hseal : s.sealSteps o data = [] := by
    unfold State.sealSteps
    rw [huse]
  obtain ⟨u, hu, -, hpoints⟩ := State.nvmeDone_of_last (status := status) hops htags htodo hgood hseal
  rw [State.opEnds_of_points hops htags huse hsegs hno hclip hplace hst] at hu
  obtain ⟨fetch, fences, hoffer⟩ := State.offerTags_of_noOps (s := State.readError { s with
    fetch := { s.fetch with held := upd s.fetch.held 2 fun v => v - 1 }
    cs := { s.cs with ops := [] }
    heads := upd s.heads n fun h => { h with segs := h.segs.map fun x => if x.no ≠ g.no then x else { x with broken := true } } }
    (8 + n) status.toNat k) rfl
  have hheads : (at_ (upd s.heads n fun h => { h with segs := h.segs.map fun x =>
      if x.no ≠ g.no then x else { x with broken := true } }) n).segs = [{ g with broken := true }] := by
    refine (congrArg Head.segs (at_upd_self _ hn)).trans ?_
    dsimp only
    rw [hsegs]
    exact congrArg (· :: []) (if_neg (not_not.mpr rfl))
  have hbroken : (at_ u.heads n).segs = [{ g with broken := true }] := by
    rw [hu, hoffer]
    exact hheads
  have hstep := (hpoints n no k huse).trans ((State.stageHead_of_broken hbroken rfl).trans (hu.trans hoffer))
  exact ⟨_, _, _, _, _, hstep, rfl, rfl, hheads, rfl⟩
end

/-- The drive's link is lost while no operation runs. -/
theorem State.nvmeLost_of_noOps {s : State} (hops : s.cs.ops = []) (hstate : s.cs.state ≠ 0) : s.nvmeLost =
    State.raise { s with
      free := s.free + 1
      fetch := { s.fetch with held := upd s.fetch.held 3 fun v => v - s.tags 3 }
      cs := { s.cs with state := 0, reason := 0 } } 0x0E01 0 (8 * s.cs.state) := by
  have hstep : s.nvmeLost = State.csState { s with
      free := s.free + 1
      fetch := { s.fetch with held := upd s.fetch.held 3 fun v => v - s.tags 3 }
      cs := { s.cs with ops := [] } } 0 0 := by
    unfold State.nvmeLost State.takeFree
    dsimp only
    rw [hops]
    rfl
  have hchanged : (s.cs.state != 0) = true := bne_iff_ne.mpr hstate
  rw [hstep, ← hops]
  unfold State.csState State.raiseIf
  dsimp only
  rw [hchanged, Nat.zero_add]
  rfl

/-! ## Cues -/

/-- The choice between the player that goes first so far and one whose entry is due. -/
def cueTurn (due : Nat → Option Nat) (b : Option Nat) (k : Nat) : Option Nat := match b with
  | none => some k
  | some j => if (due j).getD 0 < (due k).getD 0 then some k else b

theorem foldl_cueTurn_keeps {due : Nat → Option Nat} {j : Nat} (l : List Nat)
    (hl : ∀ i ∈ l, (due i).getD 0 ≤ (due j).getD 0) : l.foldl (cueTurn due) (some j) = some j := by
  induction l with
  | nil => rfl
  | cons i l ih =>
    have hkeep : cueTurn due (some j) i = some j := if_neg (Nat.not_lt.mpr (hl i List.mem_cons_self))
    rw [List.foldl_cons, hkeep]
    exact ih fun i hi => hl i (List.mem_cons_of_mem _ hi)

theorem foldl_cueTurn_below {due : Nat → Option Nat} {D : Nat} (l : List Nat) (b : Option Nat)
    (hb : ∀ i, b = some i → (due i).getD 0 < D) (hl : ∀ i ∈ l, (due i).getD 0 < D) :
    ∀ i, l.foldl (cueTurn due) b = some i → (due i).getD 0 < D := by
  induction l generalizing b with
  | nil => exact hb
  | cons k l ih =>
    refine ih _ (fun i hi => ?_) fun i hi => hl i (List.mem_cons_of_mem _ hi)
    have hk := hl k List.mem_cons_self
    unfold cueTurn at hi
    split at hi
    · exact Option.some.inj hi ▸ hk
    · next j =>
      split at hi
      · exact Option.some.inj hi ▸ hk
      · exact hb i hi

/-- The player whose entry is due the longest, and of those due together the lowest, goes first. -/
theorem State.cueFirst_of {s : State} {j D : Nat} (hj : j < 4) (hdue : (s.cs.players.getD j none).bind Player.dueFor = some D)
    (hfirst : ∀ i < 4, i ≠ j → ∀ d, (s.cs.players.getD i none).bind Player.dueFor = some d → d < D ∨ (d = D ∧ j < i)) :
    s.cueFirst = some j := by
  obtain ⟨due, hd⟩ : ∃ due : Nat → Option Nat, due = fun k => (s.cs.players.getD k none).bind Player.dueFor := ⟨_, rfl⟩
  have hduej : due j = some D := by rw [hd]; exact hdue
  have hmem : j ∈ [0, 1, 2, 3].filter fun k => (due k).isSome :=
    List.mem_filter.mpr ⟨List.mem_range.mpr hj, Option.isSome_iff_exists.mpr ⟨D, hduej⟩⟩
  obtain ⟨l, l', hsplit⟩ := List.append_of_mem hmem
  have hsorted : (l ++ j :: l').Pairwise (· < ·) :=
    hsplit ▸ List.Pairwise.filter (l := [0, 1, 2, 3]) _ (by decide)
  obtain ⟨-, htail, hacross⟩ := List.pairwise_append.mp hsorted
  have hother {i : Nat} (hi : i ∈ l ++ j :: l') (hij : i ≠ j) : (due i).getD 0 < D ∨ ((due i).getD 0 = D ∧ j < i) := by
    obtain ⟨hlt, hsome⟩ := List.mem_filter.mp (hsplit ▸ hi)
    obtain ⟨d, hdi⟩ := Option.isSome_iff_exists.mp hsome
    rw [hdi]
    rw [hd] at hdi
    exact hfirst i (List.mem_range.mp hlt) hij d hdi
  have hbefore : ∀ i ∈ l, (due i).getD 0 < D := fun i hi =>
    have hlt := hacross i hi j List.mem_cons_self
    (hother (List.mem_append_left _ hi) hlt.ne).resolve_right fun h => hlt.not_gt h.2
  have hafter : ∀ i ∈ l', (due i).getD 0 ≤ (due j).getD 0 := fun i hi => by
    have hgt := (List.pairwise_cons.mp htail).1 i hi
    rw [hduej]
    exact (hother (List.mem_append_right _ (List.mem_cons_of_mem _ hi)) hgt.ne').elim Nat.le_of_lt fun h => h.1.le
  have hstep : s.cueFirst = ([0, 1, 2, 3].filter fun k => (due k).isSome).foldl (cueTurn due) none := by
    rw [hd]
    rfl
  have htake : cueTurn due (l.foldl (cueTurn due) none) j = some j := by
    have hlow := foldl_cueTurn_below (D := D) l none (fun i h => nomatch h) hbefore
    unfold cueTurn
    split
    · rfl
    · next i hi => exact if_pos (hduej ▸ hlow i hi)
  rw [hstep, hsplit, List.foldl_append, List.foldl_cons, htake]
  exact foldl_cueTurn_keeps l' hafter

/-- A due entry of the player whose turn it is. -/
theorem State.cueDue_of {s : State} {k j : Nat} {p : Player} {at' : Nat} {e : Rec}
    (hk : ((s.cs.players.getD k none).bind Player.dueFor).isSome = true) (hfirst : s.cueFirst = some j)
    (hp : s.cs.players.getD j none = some p) (hentry : p.entries[p.next]? = some (at', e)) : s.cueDue k = s.cueEnter j p e := by
  obtain ⟨d, hd⟩ := Option.isSome_iff_exists.mp hk
  unfold State.cueDue
  rw [hd, hfirst]
  dsimp only
  rw [hp]
  dsimp only
  rw [hentry]
  rfl

/-- An entry enters an empty Cumaslink mailbox. -/
theorem State.cueEnter_of_room {s : State} (hwait : s.mbx.clWait = []) (hroom : s.mbx.clBox.length < 16) (k : Nat) (p : Player)
    (e : Rec) : s.cueEnter k p e = { s with
      cs := { s.cs with players := upd s.cs.players k fun _ =>
        if p.next + 1 < p.entries.length then some { p with next := p.next + 1 } else none }
      epb := { s.epb with silentSince := s.now }
      mbx := { s.mbx with clBox := s.mbx.clBox ++ [ClWaiting.mk (.cue k p.next) e none s.now] } } := by
  unfold State.cueEnter State.clEnterAt State.clRefill
  dsimp only
  rw [hwait]
  refine (if_neg (Nat.not_le.mpr hroom)).trans ?_
  rw [← hwait]
  rfl

/-! ## Effect outputs -/

/-- An output that may send is due a zero frame. -/
def State.zeroGate (s : State) (n : Nat) (o : EffectOut) : Bool :=
  epEnable o.record && s.epbIlk n && !o.zeroSent && s.mbx.fwState == 1

theorem State.zeroGate_iff (s : State) (n : Nat) (o : EffectOut) : s.zeroGate n o = true ↔
    epEnable o.record = true ∧ s.epbIlk n = true ∧ o.zeroSent = false ∧ s.mbx.fwState = 1 := by
  unfold State.zeroGate
  rw [Bool.and_eq_true, Bool.and_eq_true, Bool.and_eq_true, Bool.not_eq_true', beq_iff_eq, and_assoc, and_assoc]

section
variable {s : State} {n : Nat} {o : EffectOut} {ends : Nat}

/-- The state once the reset of an output is over. -/
def State.epbRested (s : State) (n ends : Nat) : State := (s.forward ends).epbSet n fun o => { o with sending := none }

theorem State.epbRested_out (hn : n < s.epb.outs.length) (ho : o = at_ s.epb.outs n) :
    (s.epbRested n ends).epbOut n = { o with sending := none } := by
  rw [ho]
  exact (at_upd ..).trans (if_pos ⟨rfl, hn⟩)

theorem State.epbRested_ilk (hn : n < s.epb.outs.length) (ho : o = at_ s.epb.outs n) : (s.epbRested n ends).epbIlk n = s.epbIlk n := by
  unfold State.epbIlk
  rw [State.epbRested_out hn ho, ho]
  rfl

theorem State.epbIdle_eq (ho : o = at_ s.epb.outs n) (hsend : o.sending = some ends) :
    s.epbIdle n = (s.epbRested n ends).epbZero n := by
  unfold State.epbIdle State.epbOut
  rw [← ho, hsend]
  rfl

/-- An output whose reset is over, with its zero frame still to send. -/
theorem State.epbIdle_of_zero (hn : n < s.epb.outs.length) (ho : o = at_ s.epb.outs n) (hsend : o.sending = some ends)
    (hdue : s.zeroGate n o = true) : ∃ outs, s.epbIdle n = { s with now := max s.now ends, epb := { s.epb with outs := outs } } ∧
      at_ outs n = EffectOut.zeroFrame { o with sending := none } (max s.now ends) := by
  obtain ⟨hen, hilk, hzero, hfw⟩ := (s.zeroGate_iff n o).mp hdue
  have hout := State.epbRested_out (ends := ends) hn ho
  have hlen : n < (s.epbRested n ends).epb.outs.length := hn.trans_eq (upd_length ..).symm
  have hstep : (s.epbRested n ends).epbZero n =
      State.epbSend ((s.epbRested n ends).epbSet n fun o => { o with output := [], zeroSent := true }) n :=
    if_pos ⟨by rw [hout]; exact hen, (State.epbRested_ilk hn ho).trans hilk, by rw [hout]; exact hzero, by rw [hout], hfw⟩
  refine ⟨_, (State.epbIdle_eq ho hsend).trans hstep, ?_⟩
  refine (at_upd ..).trans ((if_pos ⟨rfl, hlen.trans_eq (upd_length ..).symm⟩).trans ?_)
  rw [show at_ ((s.epbRested n ends).epbSet n fun o => { o with output := [], zeroSent := true }).epb.outs n = _ from
    (at_upd ..).trans (if_pos ⟨rfl, hlen⟩), show at_ (s.epbRested n ends).epb.outs n = _ from hout]
  rfl

/-- An output whose reset is over. -/
theorem State.epbIdle_of_none (hn : n < s.epb.outs.length) (ho : o = at_ s.epb.outs n) (hsend : o.sending = some ends)
    (hdue : s.zeroGate n o = false) : s.epbIdle n = s.epbRested n ends := by
  refine (State.epbIdle_eq ho hsend).trans (if_neg fun h => ?_)
  obtain ⟨hen, hilk, hzero, -, hfw⟩ := h
  rw [State.epbRested_out hn ho] at hen hzero
  exact absurd ((s.zeroGate_iff n o).mpr ⟨hen, (State.epbRested_ilk hn ho).symm.trans hilk, hzero, hfw⟩) (ne_true_of_eq_false hdue)

end

/-- The pattern of a silent output starts at the next boundary. -/
theorem State.epbSilence_of {s : State} {n : Nat} {o : EffectOut} (hn : n ≤ 3) (ho : o = at_ s.epb.outs n)
    (hfall : epFallback o.record = true) (hpattern : byteAt o.pattern 1 ≠ 0) (hidle : o.running = false) (hfw : s.mbx.fwState = 1) :
    s.epbSilence n = { s with
      now := max s.now (s.epb.silentSince + u16 o.record 8 * tuS)
      epb := { s.epb with outs := upd s.epb.outs n fun o => { o with startWait := some 0, stopWait := none } } } := by
  subst ho
  exact if_neg (not_or.mpr ⟨Nat.not_lt.mpr hn, not_or.mpr ⟨ne_false_of_eq_true hfall, not_or.mpr ⟨hpattern,
    not_or.mpr ⟨ne_true_of_eq_false hidle, not_not.mpr hfw⟩⟩⟩⟩)

/-- Settles O59. -/
theorem contentAndEffectEventsRun : Obligations.ContentAndEffectEventsRun := by
  unfold Obligations.ContentAndEffectEventsRun
  intro s
  refine ⟨fun d => ?_, fun place o status data hops hplace htags => ?_, fun hops hstate => ⟨_, rfl, congrArg done (State.nvmeLost_of_noOps hops hstate)⟩,
    fun k j pl at' e hk hj hpl hentry hstart hat hfirst hwait hroom => congrArg done ?_,
    fun n o ends hn ho hsend hdue => congrArg done (State.epbIdle_of_none hn ho hsend hdue),
    fun n o ends hn ho hsend hdue => ?_,
    fun n o hn ho hfall hpattern hidle hfw => congrArg done (State.epbSilence_of hn ho hfall hpattern hidle hfw)⟩
  · cases hlink : d.linkOk with
    | false =>
      obtain ⟨evq, hstep⟩ := State.mount_fails (State.mount_of_noLink (s := s) hlink)
      exact ⟨_, congrArg done hstep, fun _ => ⟨rfl, rfl⟩, nofun, nofun, nofun, rfl, rfl⟩
    | true =>
      cases hctl : d.controllerOk with
      | false =>
        obtain ⟨evq, hstep⟩ := State.mount_fails (State.mount_of_noController (s := s) hlink hctl)
        exact ⟨_, congrArg done hstep, nofun, fun _ _ => ⟨rfl, rfl⟩, nofun, nofun, rfl, rfl⟩
      | true =>
        by_cases hns : d.namespaceOk = false ∨ 2 ^ 32 < d.lbas
        · obtain ⟨evq, hstep⟩ := State.mount_fails (State.mount_of_badNamespace (s := s) hlink hctl hns)
          exact ⟨_, congrArg done hstep, nofun, nofun, fun _ _ _ => ⟨rfl, rfl⟩, fun _ _ hok hlbas =>
            absurd hns (not_or.mpr ⟨ne_false_of_eq_true hok, Nat.not_lt.mpr hlbas⟩), rfl, rfl⟩
        · obtain ⟨hok, hlbas⟩ := not_or.mp hns
          obtain ⟨evq, fetch, cs, hstep, hfacts⟩ := State.mount_of_drive (s := s) hlink hctl (eq_true_of_ne_false hok) (Nat.not_lt.mp hlbas)
          exact ⟨_, congrArg done hstep, nofun, nofun, fun _ _ h => absurd h hns, fun _ _ _ _ => hfacts, rfl, rfl⟩
  · subst hplace
    refine ⟨fun hmore hgood hstatus huse => ?_, fun hone htodo hgood => ⟨fun l f p huse hplay hl hstatus => ?_,
      fun l id f huse hstatus hother => ?_, fun n no k g huse hstatus hn hsegs hno hclip hplaceg => ?_⟩⟩
    · subst hstatus
      exact congrArg done (State.nvmeDone_of_more hops hmore hgood huse)
    · subst hstatus
      refine congrArg done ((State.nvmeDone_of_frame hops hone htodo hgood huse).trans ?_)
      have hmark : (at_ s.cs.plays l).map (fun p' : Play => if p'.clip ≠ p.clip then p' else { p' with landed := p'.landed ++ [f] }) =
          some { p with landed := p.landed ++ [f] } := by
        rw [show at_ s.cs.plays l = some p from hplay]
        exact congrArg some (if_neg (not_not.mpr rfl))
      exact congrArg (fun plays => State.offerTags { s with
        fetch := { s.fetch with held := upd s.fetch.held 2 fun v => v - 1 }
        cs := { s.cs with ops := [], plays := plays } }) (upd_congr hmark)
    · subst hstatus
      refine congrArg done ((State.nvmeDone_of_frame hops hone htodo hgood huse).trans ?_)
      have hmark : (at_ s.cs.plays l).map (fun p : Play => if p.clip ≠ id then p else { p with landed := p.landed ++ [f] }) =
          at_ s.cs.plays l := by
        cases hplay : at_ s.cs.plays l with
        | none => rfl
        | some p => exact congrArg some (if_pos (hother p (mem_of_at hplay (Option.some_ne_none p))))
      exact congrArg (fun plays => State.offerTags { s with
        fetch := { s.fetch with held := upd s.fetch.held 2 fun v => v - 1 }
        cs := { s.cs with ops := [], plays := plays } }) (upd_self hmark)
    · have hbad : status.toNat ≠ 0 := fun h => hstatus (BitVec.eq_of_toNat_eq h)
      obtain ⟨fetch, fences, evq, cs, heads, hstep, hnone, herrors, hheads, hevq⟩ :=
        State.nvmeDone_of_points (data := data) hops hone htodo hgood huse hn hsegs hno hclip hplaceg hbad
      exact ⟨_, congrArg done hstep, hnone, herrors, hheads, hevq⟩
  · rw [State.cueDue_of hk (State.cueFirst_of hj (D := pl.ticks - at') ?_ hfirst) hpl hentry]
    · exact State.cueEnter_of_room hwait hroom j pl e
    · rw [hpl]
      refine (congrArg (fun x : Option (Nat × Rec) => match x with
        | some (t, _) => if pl.started ∧ t ≤ pl.ticks then some (pl.ticks - t) else none
        | none => none) hentry).trans ?_
      exact if_pos ⟨hstart, hat⟩
  · obtain ⟨outs, hstep, hout⟩ := State.epbIdle_of_zero hn ho hsend hdue
    refine ⟨_, congrArg done hstep, ?_⟩
    rw [State.settle_epb]
    dsimp only
    rw [hout]
    exact ⟨rfl, rfl, rfl, rfl, rfl, rfl⟩

end Sys2Proof.Machine
end

section
/-! PROOFS. The events of the beam heads (11 R239, R246, R250, R252, R254). -/
namespace Sys2Proof.Machine

/-! ## What follows a head's points -/

/-- Where the points of a head lead it: what is played, the target and its intervals, the light, and the queue. -/
structure Course where
  played : W64
  tgtFrom : Int × Int
  ahead : Option (Int × Int)
  dueAt : Nat
  dueEnd : Nat
  ints : List Nat
  line : List PointLight
  segs : List Segment

def Head.course (h : Head) : Course := ⟨h.played, h.tgtFrom, h.ahead, h.dueAt, h.dueEnd, h.ints, h.line, h.segs⟩

/-- Only events, fetches and a head differ, and the head in neither its state nor its course. -/
def State.Notes (n : Nat) (s t : State) : Prop := ∃ evq fetch f, t = { s with evq := evq, fetch := fetch, heads := upd s.heads n f } ∧
  ∀ h, (f h).course = h.course ∧ (f h).state = h.state

section
variable {n : Nat} {s t u : State}

theorem State.Notes.refl (n : Nat) (s : State) : s.Notes n s :=
  ⟨s.evq, s.fetch, id, congrArg (fun l => { s with heads := l }) (upd_self (f := id) (i := n) rfl).symm, fun _ => ⟨rfl, rfl⟩⟩

theorem State.Notes.trans (h : s.Notes n t) (h' : t.Notes n u) : s.Notes n u := by
  obtain ⟨_, _, f, rfl, hf⟩ := h
  obtain ⟨evq, fetch, g, rfl, hg⟩ := h'
  exact ⟨evq, fetch, g ∘ f, congrArg (fun l => { s with evq := evq, fetch := fetch, heads := l }) (upd_upd ..),
    fun h => ⟨(hg _).1.trans (hf h).1, (hg _).2.trans (hf h).2⟩⟩

end

theorem State.raise_eq (s : State) (code src payload : Nat) : ∃ evq, s.raise code src payload = { s with evq := evq } :=
  s.raiseIf_evq true code src payload

theorem State.head_notes (s : State) (n : Nat) {f : Head → Head} (hf : ∀ h, (f h).course = h.course ∧ (f h).state = h.state) :
    s.Notes n (s.head n f) := ⟨s.evq, s.fetch, f, rfl, hf⟩

theorem State.raise_notes (n : Nat) (s : State) (code src payload : Nat) : s.Notes n (s.raise code src payload) := by
  obtain ⟨evq, hevq⟩ := s.raise_eq code src payload
  rw [hevq]
  exact ⟨evq, s.fetch, id, congrArg (fun l => { s with evq := evq, heads := l }) (upd_self (f := id) (i := n) rfl).symm, fun _ => ⟨rfl, rfl⟩⟩

theorem State.pointMark_notes (s : State) (n : Nat) (g : Segment) : s.Notes n (s.pointMark n g) := by
  unfold State.pointMark
  exact iteInduction (motive := s.Notes n) 
    (fun _ => (s.head_notes n (f := fun h => { h with lastMark := some s.now }) fun _ => ⟨rfl, rfl⟩).trans (State.raise_notes ..))
    fun _ => s.head_notes n (f := fun h => { h with marksLost := h.marksLost + 1 }) fun _ => ⟨rfl, rfl⟩

theorem State.noteError_notes (s : State) (n : Nat) : s.Notes n (s.noteError n) := by
  unfold State.noteError
  dsimp only
  split
  · exact s.head_notes n fun _ => ⟨rfl, rfl⟩
  · exact .refl n s

theorem mem_of_mem_sortBy {α : Type} {le : α → α → Bool} {l : List α} {x : α} (h : x ∈ sortBy le l) : x ∈ l := by
  have hinsert (a : α) (l : List α) (hx : x ∈ insertBy le a l) : x = a ∨ x ∈ l := by
    induction l with
    | nil => exact .inl (List.mem_singleton.mp hx)
    | cons b l ih =>
      unfold insertBy at hx
      split at hx
      · exact List.mem_cons.mp hx
      · exact (List.mem_cons.mp hx).elim (fun hb => .inr (hb ▸ List.mem_cons_self)) fun hl =>
          (ih hl).imp_right (List.mem_cons_of_mem _)
  induction l with
  | nil => exact h
  | cons a l ih => exact (hinsert a _ h).elim (fun ha => ha ▸ List.mem_cons_self) fun hl => List.mem_cons_of_mem _ (ih hl)

/-- Reads of points ask for nothing but fetches. -/
theorem State.pumpReads_points (s : State) : ∃ fetch, s.pumpReads 1 = { s with fetch := fetch } := by
  have hissue (s : State) (i : Nat) : ∃ fetch, s.issueAt 1 i = { s with fetch := fetch } := by
    unfold State.issueAt State.refuseAt
    dsimp only
    (repeat' split) <;> exact ⟨_, rfl⟩
  have hfold (l : List (Nat × Bool × Nat)) (hl : ∀ x ∈ l, x.2.1 = false) (s : State) :
      ∃ fetch, l.foldl (fun (s : State) x => if x.2.1 then s.issueFence x.2.2 else s.issueAt 1 x.2.2) s = { s with fetch := fetch } := by
    induction l generalizing s with
    | nil => exact ⟨s.fetch, rfl⟩
    | cons x l ih =>
      obtain ⟨_, hone⟩ := hissue s x.2.2
      obtain ⟨fetch, hrest⟩ := ih (fun x hx => hl x (List.mem_cons_of_mem _ hx)) (s.issueAt 1 x.2.2)
      refine ⟨fetch, ?_⟩
      rw [List.foldl_cons, if_neg (ne_true_of_eq_false (hl x List.mem_cons_self)), hrest, hone]
  have hreads : ∀ x ∈ s.waiting 1, x.2.1 = false := fun x hx => by
    obtain ⟨i, -, hi⟩ := List.mem_map.mp (mem_of_mem_sortBy hx)
    rw [← hi]
  obtain ⟨_, hall⟩ := hfold (s.waiting 1) hreads s
  exact ⟨_, congrArg (fun s : State => { s with fetch := { s.fetch with
    inflight := s.fetch.inflight.filter fun e => decide (0 < e.tags + e.left) } }) hall⟩

theorem State.fetch_notes (n : Nat) (s : State) (fetch : FetchUnit) : s.Notes n { s with fetch := fetch } :=
  ⟨s.evq, fetch, id, congrArg (fun l => { s with fetch := fetch, heads := l }) (upd_self (f := id) (i := n) rfl).symm,
    fun _ => ⟨rfl, rfl⟩⟩

theorem State.readAhead_notes (s : State) (n : Nat) (g : Segment) : s.Notes n (s.readAhead n g) := by
  unfold State.readAhead State.readPoints State.addReads
  dsimp only
  split
  · rw [if_neg Nat.one_ne_zero]
    obtain ⟨fetch, hpump⟩ := State.pumpReads_points { s.nextAsk with fetch := { s.nextAsk.fetch with
      inflight := s.nextAsk.fetch.inflight ++ [InFlight.mk (.points n) 1 0 1 g.clip.isNone default n s.nextAsk.fetch.asked] } }
    rw [hpump]
    exact s.fetch_notes n fetch
  · exact .refl n s

/-- A head enters a state. -/
theorem State.enterHead_eq (s : State) (n st : Nat) : ∃ evq f, s.enterHead n st = { s with evq := evq, heads := upd s.heads n f } ∧
    (∀ h, ∃ state onDump parkAt dwell, f h = { h with state := state, onDump := onDump, parkAt := parkAt, dwell := dwell }) ∧
    (f (at_ s.heads n)).state = st := by
  unfold State.enterHead
  dsimp only
  split
  · next hst => exact ⟨s.evq, id, congrArg (fun l => { s with heads := l }) (upd_self (f := id) rfl).symm,
      fun h => ⟨h.state, h.onDump, h.parkAt, h.dwell, rfl⟩, hst⟩
  · obtain ⟨evq, hraise⟩ := State.raise_eq (s.head n fun h => { h with
      state := st, onDump := h.onDump && !(decide (st = 0) || decide (st = 2))
      parkAt := if decide (st = 0) || decide (st = 2) then none else h.parkAt, dwell := none })
      0x0801 n (st + 16 * (at_ s.heads n).state)
    exact ⟨evq, _, hraise, fun _ => ⟨_, _, _, _, rfl⟩, rfl⟩

/-! ## The queue and the light -/

/-- Segments that leave the queue were played out. -/
theorem Head.trim_front (h : Head) (now : Nat) : (h.trim now).front = h.front := by
  unfold Head.front Head.trim
  rw [List.find?_filter]
  refine congrArg (fun p => h.segs.find? p) (funext fun g => ?_)
  by_cases hg : 0 < g.left
  · simp [hg]
  · simp [hg]

/-- The delay line after a point and the end of its interval. -/
theorem Head.pushLight_pushLight (h : Head) (now t t' : Nat) (ints ints' : List Nat) (ht : t < t') : ∃ on on' rest,
    ((h.pushLight now t ints).pushLight now t' ints').line = ⟨t', ints', on'⟩ :: ⟨t, ints, on⟩ :: rest := by
  have hpush (y : Head) : ∃ on', (y.pushLight now t' ints').line = ⟨t', ints', on'⟩ ::
      (((y.line.filter fun e => decide (e.at_ < t')).filter fun e => decide (now < e.at_)) ++
        ((y.line.filter fun e => decide (e.at_ < t')).filter fun e => decide (e.at_ ≤ now)).take 2) := ⟨_, rfl⟩
  obtain ⟨on, l, hline, hl⟩ : ∃ on l, (h.pushLight now t ints).line = ⟨t, ints, on⟩ :: l ∧ ∀ e ∈ l, e.at_ < t := by
    refine ⟨_, _, rfl, fun e he => ?_⟩
    have hprior : e ∈ h.line.filter fun e => decide (e.at_ < t) :=
      (List.mem_append.mp he).elim (fun he => List.mem_of_mem_filter he) fun he => List.mem_of_mem_filter (List.mem_of_mem_take he)
    exact of_decide_eq_true (List.mem_filter.mp hprior).2
  have hkept : (⟨t, ints, on⟩ :: l).filter (fun e => decide (e.at_ < t')) = ⟨t, ints, on⟩ :: l := by
    refine List.filter_eq_self.mpr fun e he => decide_eq_true ?_
    exact (List.mem_cons.mp he).elim (fun he => he ▸ ht) fun he => (hl e he).trans ht
  have hfirst : ∃ rest, ((⟨t, ints, on⟩ :: l).filter fun e => decide (now < e.at_)) ++
      ((⟨t, ints, on⟩ :: l).filter fun e => decide (e.at_ ≤ now)).take 2 = ⟨t, ints, on⟩ :: rest := by
    by_cases hnow : now < t
    · rw [List.filter_cons_of_pos (p := fun e : PointLight => decide (now < e.at_)) (decide_eq_true hnow)]
      exact ⟨_, rfl⟩
    · have hnone : ((⟨t, ints, on⟩ :: l).filter fun e : PointLight => decide (now < e.at_)) = [] := by
        refine List.filter_eq_nil_iff.mpr fun e he => ?_
        have hle : e.at_ ≤ now := (List.mem_cons.mp he).elim (fun he => he ▸ Nat.not_lt.mp hnow) fun he =>
          (hl e he).le.trans (Nat.not_lt.mp hnow)
        simpa using hle
      rw [hnone, List.filter_cons_of_pos (p := fun e : PointLight => decide (e.at_ ≤ now)) (decide_eq_true (Nat.not_lt.mp hnow))]
      exact ⟨_, rfl⟩
  obtain ⟨rest, hrest⟩ := hfirst
  obtain ⟨on', hend⟩ := hpush (h.pushLight now t ints)
  rw [hline, hkept, hrest] at hend
  exact ⟨on, on', rest, hend⟩

/-- The head that plays a point, before its light. -/
def Head.withPoint (h : Head) (g : Segment) (data : Rec) : Head :=
  let ints := if bit (pointFlags h.record data) 0 then List.replicate 8 0 else pointInts h.record data
  { h.advance g with
    tgtFrom := landedSet h.record data 0
    ahead := if 2 * hdPoint h.record ≤ data.length ∧ (h.advance g).nextIn then some (landedSet h.record data 1) else none
    dueAt := g.due, dueEnd := g.due + g.period, ints := ints, shown := ints, limitedNow := false }

/-- Its light: the delay line takes the point, and dark from the end of its interval. -/
def Head.withLight (h : Head) (now : Nat) (g : Segment) (data : Rec) : Head :=
  let y := h.withPoint g data
  let d := hdIntDelay h.record
  { (y.pushLight now (g.due + d) y.ints).pushLight now (g.due + g.period + d) (List.replicate 8 0)
    with emptyAt := if y.queued = 0 then now else y.emptyAt }

/-- What follows the light of a point: the count of points withheld, the mark, the read ahead, and the error judged. -/
def State.afterPoint (s : State) (n : Nat) (g : Segment) (mark : Bool) : State :=
  let s := if (s.headChans n).any fun c => s.mayLight n c then s else s.head n fun h => { h with withheld := h.withheld + 1 }
  let s := if mark then s.pointMark n g else s
  (s.readAhead n g).noteError n

theorem State.afterPoint_notes (s : State) (n : Nat) (g : Segment) (mark : Bool) : s.Notes n (s.afterPoint n g mark) := by
  have hheld : s.Notes n (if (s.headChans n).any fun c => s.mayLight n c then s else s.head n fun h => { h with withheld := h.withheld + 1 }) :=
    iteInduction (motive := s.Notes n) (fun _ => .refl n s)
      fun _ => s.head_notes n (f := fun h => { h with withheld := h.withheld + 1 }) fun _ => ⟨rfl, rfl⟩
  have hmark (t : State) : t.Notes n (if mark then t.pointMark n g else t) :=
    iteInduction (motive := t.Notes n) (fun _ => t.pointMark_notes n g) fun _ => .refl n t
  exact ((hheld.trans (hmark _)).trans (State.readAhead_notes _ n g)).trans (State.noteError_notes _ n)

theorem State.playPoint_eq (s : State) (n : Nat) (g : Segment) (data : Rec) : s.playPoint n g data =
    ((s.head n fun h => h.withLight s.now g data).enterHead n 2).afterPoint n g (bit (pointFlags (at_ s.heads n).record data) 1) := by
  have hplay : s.playPoint n g data = State.afterPoint (State.enterHead (State.head (State.head s n _) n _) n 2) n g _ := rfl
  refine hplay.trans (congrArg (fun l => State.afterPoint (State.enterHead { s with heads := l } n 2) n g _)
    ((upd_upd ..).trans (upd_congr rfl)))

/-- A point plays on its head alone. -/
theorem State.playPoint_spec {s : State} {n : Nat} (hn : n < s.heads.length) (g : Segment) (data : Rec) : ∃ evq fetch heads,
    s.playPoint n g data = { s with evq := evq, fetch := fetch, heads := heads } ∧
    (at_ heads n).course = ((at_ s.heads n).withLight s.now g data).course ∧ (at_ heads n).state = 2 ∧
    ∀ m, m ≠ n → at_ heads m = at_ s.heads m := by
  have hlen : n < (upd s.heads n fun h => h.withLight s.now g data).length := hn.trans_eq (upd_length ..).symm
  obtain ⟨evq, f, henter, hform, hstate⟩ := (s.head n fun h => h.withLight s.now g data).enterHead_eq n 2
  have hcourse (h : Head) : (f h).course = h.course := by
    obtain ⟨_, _, _, _, hf⟩ := hform h
    rw [hf]
    rfl
  obtain ⟨evq', fetch, f', hnotes, hkeep⟩ := State.afterPoint_notes
    ((s.head n fun h => h.withLight s.now g data).enterHead n 2) n g (bit (pointFlags (at_ s.heads n).record data) 1)
  rw [henter] at hnotes
  have hstep := (s.playPoint_eq n g data).trans ((congrArg (State.afterPoint · n g _) henter).trans hnotes)
  have hat : at_ (upd (upd (upd s.heads n fun h => h.withLight s.now g data) n f) n f') n =
      f' (f ((at_ s.heads n).withLight s.now g data)) := by
    rw [at_upd_self _ (hlen.trans_eq (upd_length ..).symm), at_upd_self _ hlen, at_upd_self _ hn]
  rw [show at_ (s.head n fun h => h.withLight s.now g data).heads n = _ from at_upd_self _ hn] at hstate
  refine ⟨evq', fetch, _, hstep, ?_, ?_, fun m hm => ?_⟩
  · exact (congrArg Head.course hat).trans ((hkeep _).1.trans (hcourse _))
  · exact (congrArg Head.state hat).trans ((hkeep _).2.trans hstate)
  · exact (at_upd_ne (α := Head) _ hm.symm).trans ((at_upd_ne _ hm.symm).trans (at_upd_ne _ hm.symm))

/-! ## The obligation -/

theorem State.pointReady_of {s : State} {n : Nat} (hn : n ≤ 3) (hstate : (at_ s.heads n).state = 1 ∨ (at_ s.heads n).state = 2)
    (hgoes : (at_ s.heads n).stalled = none) : s.pointReady n = (at_ s.heads n).front := by
  refine if_neg (not_or.mpr ⟨fun h => hstate.elim h.1 h.2, not_or.mpr ⟨?_, Nat.not_lt.mpr hn⟩⟩)
  rw [hgoes]
  exact Bool.false_ne_true

theorem getD_replicate_zero (n i : Nat) : (List.replicate n 0).getD i 0 = 0 := by
  rw [List.getD_eq_getElem?_getD, List.getElem?_replicate]
  split <;> rfl

section
variable {s : State} {n : Nat} {g : Segment}

/-- A head as it stands when its point falls due. -/
def State.atDue (s : State) (n : Nat) (g : Segment) : State := (s.forward g.due).head n fun h => h.trim (max s.now g.due)

theorem State.atDue_head (hn : n < s.heads.length) : at_ (s.atDue n g).heads n = (at_ s.heads n).trim (max s.now g.due) :=
  at_upd_self _ hn

/-- A point that falls due, its windows empty. -/
theorem State.execPointDue_eq (hn : n ≤ 3) (hlen : n < s.heads.length) (hstate : (at_ s.heads n).state = 1 ∨ (at_ s.heads n).state = 2)
    (hgoes : (at_ s.heads n).stalled = none) (hfront : ((at_ s.heads n).trim s.now).front = some g) (data : Option Rec) :
    execPointDue n data [] s = done ((s.forward g.due).pointDue n data) := by
  have hready : (s.head n fun h => h.trim s.now).pointReady n = some g := by
    have hat : at_ (s.head n fun h => h.trim s.now).heads n = (at_ s.heads n).trim s.now := at_upd_self _ hlen
    rw [State.pointReady_of hn (by rw [hat]; exact hstate) (by rw [hat]; exact hgoes), hat, hfront]
  unfold execPointDue
  rw [hready]
  rfl

theorem State.pointReady_atDue (hn : n ≤ 3) (hlen : n < s.heads.length)
    (hstate : (at_ s.heads n).state = 1 ∨ (at_ s.heads n).state = 2) (hgoes : (at_ s.heads n).stalled = none)
    (hfront : ((at_ s.heads n).trim s.now).front = some g) : (s.atDue n g).pointReady n = some g := by
  have hat := State.atDue_head (g := g) hlen
  rw [State.pointReady_of hn (by rw [hat]; exact hstate) (by rw [hat]; exact hgoes), hat, Head.trim_front, ← hfront, Head.trim_front]

theorem State.atDue_forward : (s.atDue n g).forward g.due = s.atDue n g :=
  congrArg (fun t => { s.atDue n g with now := t }) (max_eq_left (Nat.le_max_right s.now g.due))

/-- A point that has landed plays when it falls due. -/
theorem State.pointDue_plays (hready : (s.atDue n g).pointReady n = some g) (hhas : g.has g.next = true) (d : Rec) :
    (s.forward g.due).pointDue n (some d) = (s.atDue n g).playPoint n g d := by
  unfold State.pointDue
  dsimp only
  rw [show (s.forward g.due).head n (fun h => h.trim (s.forward g.due).now) = s.atDue n g from rfl, hready]
  dsimp only
  rw [State.atDue_forward, if_pos hhas]

/-- A head whose stream stalls. -/
def Head.stall (h : Head) (now : Nat) : Head :=
  { h with
    stalled := some now, stalls := h.stalls + 1, ahead := none, ints := List.replicate 8 0
    tgtFrom := if h.state = 1 then hdPark h.record else h.tgtFrom, dueEnd := if h.state = 1 then now else h.dueEnd }

/-- A point that has not landed stalls the stream. -/
theorem State.pointDue_stalls (hready : (s.atDue n g).pointReady n = some g) {data : Option Rec}
    (hmiss : data = none ∨ g.has g.next = false) : (s.forward g.due).pointDue n data =
      ((s.atDue n g).head n fun h => h.stall (max s.now g.due)).enterHead n 2 := by
  have hdata : (if g.has g.next then data else none) = none := by
    rcases hmiss with h | h
    · rw [h, ite_self]
    · rw [if_neg (ne_true_of_eq_false h)]
  unfold State.pointDue
  dsimp only
  rw [show (s.forward g.due).head n (fun h => h.trim (s.forward g.due).now) = s.atDue n g from rfl, hready]
  dsimp only
  rw [State.atDue_forward, hdata]
  rfl

end

/-- A channel of a head follows its points. -/
theorem State.pointOf_of_headChans {s : State} {n c : Nat} (hc : c ∈ s.headChans n) : ∃ p, pointOf (s.chan c) = some (n, p) := by
  have hof := (List.mem_filter.mp hc).2
  rw [Bool.or_eq_true] at hof
  unfold beamOf sharedOf at hof
  rcases hof with h | h
  · rw [Bool.and_eq_true, beq_iff_eq, beq_iff_eq] at h
    exact ⟨_, (if_pos h.1).trans (by rw [h.2])⟩
  · rw [Bool.and_eq_true, Bool.and_eq_true, beq_iff_eq, beq_iff_eq] at h
    obtain ⟨⟨hrole, hshare⟩, hhead⟩ := h
    have hnot : chRole (s.chan c) ≠ 2 := by omega
    exact ⟨_, (if_neg hnot).trans ((if_pos ⟨hrole, hshare⟩).trans (by rw [hhead]))⟩

theorem at_mapIdx {α β : Type} [Inhabited α] [Inhabited β] (f : Nat → α → β) (l : List α) (i : Nat) :
    at_ (l.mapIdx f) i = if i < l.length then f i (at_ l i) else default := by
  unfold at_
  rw [List.getD_eq_getElem?_getD, List.getElem?_mapIdx, List.getD_eq_getElem?_getD]
  split
  · next h => rw [List.getElem?_eq_getElem h]; rfl
  · next h => rw [List.getElem?_eq_none (Nat.not_lt.mp h)]; rfl

/-- A sink that follows a head without points conducts planned pulses alone. -/
theorem State.settleSink_code_of_dark {s : State} {n p c : Nat} (hof : pointOf (s.chan c) = some (n, p))
    (hstate : (at_ s.heads n).state ≠ 2) {k : Sink} (hplan : k.plan = []) : (s.settleSink c k).code = 0 := by
  have hcut (off dead : Bool) : k.cut off dead s.now = [] := by
    unfold Sink.cut
    rw [hplan]
    cases k.held <;> rfl
  have hhead (k' : Sink) : s.headCode c k' s.now = 0 := by
    have hlight : (at_ s.heads n).light p s.now = (0, 0) := by
      unfold Head.light
      rw [if_neg hstate]
    unfold State.headCode
    dsimp only
    rw [hof]
    dsimp only
    rw [hlight]
    dsimp only
    split
    · rfl
    · exact if_pos (.inl rfl)
  have hpin {k' : Sink} (hk : k'.plan = []) : s.pinCode c k' s.now = 0 := by
    unfold State.pinCode
    rw [hk, hhead]
    dsimp only [List.find?_nil]
    rw [ite_self, ite_self]
  exact hpin (hcut ..)

/-- A channel of a head that plays no points is dark but for planned pulses. -/
theorem State.settle_code_of_headChans {s : State} {n c : Nat} (hc : c ∈ s.headChans n) (hstate : (at_ s.heads n).state ≠ 2)
    (hplan : (at_ s.src.sinks c).plan = []) : (at_ s.settle.src.sinks c).code = 0 := by
  obtain ⟨p, hp⟩ := State.pointOf_of_headChans hc
  obtain ⟨u, hsinks, hchan, hheads⟩ : ∃ u : State, s.settle.src.sinks = s.src.sinks.mapIdx u.settleSink ∧ u.chan c = s.chan c ∧
    u.heads = s.heads := ⟨_, rfl, rfl, rfl⟩
  rw [hsinks, at_mapIdx]
  split
  · exact State.settleSink_code_of_dark (hchan ▸ hp) (hheads ▸ hstate) hplan
  · rfl

/-- A head that runs is parked. -/
theorem State.enterHead_parks {s : State} {n : Nat} (hrun : (at_ s.heads n).state = 2) : s.enterHead n 1 =
    (s.head n fun h => { h with state := 1, onDump := h.onDump && true, dwell := none }).raise 0x0801 n (1 + 16 * 2) := by
  unfold State.enterHead
  rw [hrun]
  rfl

/-- A head that has been at park for 1 ms is on its dump. -/
theorem State.headOnDump_of_park {s : State} {n : Nat} (hn : n < s.heads.length)
    (hstate : (at_ s.heads n).state = 1 ∨ (at_ s.heads n).state = 3) (hpark : s.atPark n = true) : s.headOnDump n = { s with
      now := max s.now ((at_ s.heads n).parkAt.getD s.now + tuMs)
      heads := upd s.heads n fun h => { h with parkAt := some ((at_ s.heads n).parkAt.getD s.now), onDump := true } } := by
  have hnear : (((at_ s.heads n).state == 1 || (at_ s.heads n).state == 3) && s.atPark n) = true := by
    rw [hpark, Bool.and_true, Bool.or_eq_true, beq_iff_eq, beq_iff_eq]
    exact hstate
  have hnote : s.notePark n = s.head n fun h => { h with parkAt := some (h.parkAt.getD s.now) } := by
    unfold State.notePark
    dsimp only
    rw [hnear]
    rfl
  have hat : (at_ (s.head n fun h => { h with parkAt := some (h.parkAt.getD s.now) }).heads n).parkAt =
      some ((at_ s.heads n).parkAt.getD s.now) := congrArg Head.parkAt (at_upd_self _ hn)
  unfold State.headOnDump
  rw [hnote]
  dsimp only
  rw [hat]
  have hheads : upd (upd s.heads n fun h => { h with parkAt := some (h.parkAt.getD s.now) }) n (fun h => { h with onDump := true }) =
      upd s.heads n fun h => { h with parkAt := some ((at_ s.heads n).parkAt.getD s.now), onDump := true } :=
    (upd_upd ..).trans (upd_congr rfl)
  exact congrArg (fun l => { s.forward ((at_ s.heads n).parkAt.getD s.now + tuMs) with heads := l }) hheads

/-- A head that is not at park is not on its way to its dump. -/
theorem State.headOnDump_of_not {s : State} {n : Nat} (hn : n < s.heads.length)
    (hnot : ¬((at_ s.heads n).state = 1 ∨ (at_ s.heads n).state = 3) ∨ s.atPark n = false) :
    s.headOnDump n = { s with heads := upd s.heads n fun h => { h with parkAt := none } } := by
  have hfar : (((at_ s.heads n).state == 1 || (at_ s.heads n).state == 3) && s.atPark n) = false := by
    rw [Bool.and_eq_false_iff, Bool.or_eq_false_iff, beq_eq_false_iff_ne, beq_eq_false_iff_ne]
    exact hnot.imp_left not_or.mp
  have hnote : s.notePark n = s.head n fun h => { h with parkAt := none } := by
    unfold State.notePark
    dsimp only
    rw [hfar]
    rfl
  have hat : (at_ (s.head n fun h => { h with parkAt := none }).heads n).parkAt = none := congrArg Head.parkAt (at_upd_self _ hn)
  unfold State.headOnDump
  rw [hnote]
  dsimp only
  rw [hat]
  rfl

/-- A sample of the scan-speed monitor of a head that does not run: the monitor is not armed. -/
theorem State.scanSample_of_still {s : State} {n : Nat} (hn : n ≤ 3) (hlen : n < s.heads.length) (hstate : (at_ s.heads n).state ≠ 2) :
    ∃ src speed, s.scanSample n = { s with
      now := max s.now (max (400 * ceilDiv s.now 400) ((at_ s.heads n).sampAt + 400)), src := src
      heads := upd s.heads n fun h => { h with
        history := ((fastFb (at_ s.ios (2 * n)), fastFb (at_ s.ios (2 * n + 1))) :: h.history).take 8, speed := speed, dwell := none
        sampAt := max s.now (max (400 * ceilDiv s.now 400) ((at_ s.heads n).sampAt + 400)) } } := by
  obtain ⟨at', hat⟩ : ∃ at', at' = max (400 * ceilDiv s.now 400) ((at_ s.heads n).sampAt + 400) := ⟨_, rfl⟩
  have herror : (s.forward at').noteError n = s.forward at' := if_neg fun h => hstate h.2.1
  have harmed : ((s.forward at').settleSources).monitorArmed n = false := by
    have hrun : (((s.forward at').settleSources.heads.getD n default).state == 2) = false := beq_false_of_ne hstate
    unfold State.monitorArmed
    dsimp only [at_]
    rw [hrun, Bool.false_and, Bool.false_and]
  unfold State.scanSample
  rw [if_neg (Nat.not_lt.mpr hn)]
  dsimp only
  rw [← hat, herror, harmed]
  exact ⟨_, _, rfl⟩

/-- Settles O52. -/
theorem beamEventsRun : Obligations.BeamEventsRun := by
  unfold Obligations.BeamEventsRun
  intro s n hn hlen x y hx hy
  subst hx hy
  have hnl : n < s.heads.length := by omega
  refine ⟨fun g d hfront hstate hgoes hhas => ?_, fun g d hfront hstate hgoes hmiss => ?_,
    fun since hstall hin l hl => ?_, fun hstate hqueue u hu => ?_, fun hstate hpark => ?_, fun hnot => ?_,
    fun at' hat hstate => ?_⟩
  · have hready := State.pointReady_atDue hn hnl hstate hgoes hfront
    obtain ⟨evq, fetch, heads, hplay, hcourse, hrun, hothers⟩ :=
      State.playPoint_spec (s := s.atDue n g) (hnl.trans_eq (upd_length ..).symm) g d
    rw [State.atDue_head hnl] at hcourse
    have hstep := (State.execPointDue_eq hn hnl hstate hgoes hfront (some d)).trans
      (congrArg done ((State.pointDue_plays hready hhas d).trans hplay))
    have hints : (at_ heads n).ints = if bit (pointFlags (at_ s.heads n).record d) 0 then List.replicate 8 0
        else pointInts (at_ s.heads n).record d := congrArg Course.ints hcourse
    refine ⟨_, hstep, rfl, hrun, congrArg Course.played hcourse, congrArg Course.tgtFrom hcourse, congrArg Course.dueAt hcourse,
      congrArg Course.dueEnd hcourse, congrArg Course.ahead hcourse, fun hperiod => ?_, hints, congrArg Course.segs hcourse,
      fun m hm => (hothers m hm).trans (at_upd_ne _ hm.symm), rfl⟩
    obtain ⟨on, on', rest, hline⟩ := Head.pushLight_pushLight (((at_ s.heads n).trim (max s.now g.due)).withPoint g d) (max s.now g.due)
      (g.due + hdIntDelay (at_ s.heads n).record) (g.due + g.period + hdIntDelay (at_ s.heads n).record)
      (if bit (pointFlags (at_ s.heads n).record d) 0 then List.replicate 8 0 else pointInts (at_ s.heads n).record d)
      (List.replicate 8 0) (by omega)
    exact ⟨on, on', rest, (congrArg Course.line hcourse).trans (hints ▸ hline)⟩
  · have hready := State.pointReady_atDue hn hnl hstate hgoes hfront
    obtain ⟨evq, f, henter, hform, hrun⟩ := State.enterHead_eq ((s.atDue n g).head n fun h => h.stall (max s.now g.due)) n 2
    have hstall : at_ ((s.atDue n g).head n fun h => h.stall (max s.now g.due)).heads n =
        ((at_ s.heads n).trim (max s.now g.due)).stall (max s.now g.due) :=
      (at_upd_self _ (hnl.trans_eq (upd_length ..).symm)).trans (congrArg (Head.stall · _) (State.atDue_head hnl))
    have hlen' : n < ((s.atDue n g).head n fun h => h.stall (max s.now g.due)).heads.length :=
      (hnl.trans_eq (upd_length ..).symm).trans_eq (upd_length ..).symm
    have hat := at_upd_self f hlen'
    rw [hstall] at hat hrun
    obtain ⟨state, onDump, parkAt, dwell, hf⟩ := hform (((at_ s.heads n).trim (max s.now g.due)).stall (max s.now g.due))
    rw [hf] at hat hrun
    have hstep := (State.execPointDue_eq hn hnl hstate hgoes hfront d).trans
      (congrArg done ((State.pointDue_stalls hready hmiss).trans henter))
    refine ⟨_, hstep, rfl, ?_⟩
    rw [State.settle_heads]
    dsimp only
    rw [hat]
    refine ⟨rfl, hrun, rfl, rfl, rfl, rfl, fun i => ?_⟩
    exact getD_replicate_zero 8 i
  · have hnext : (if (at_ s.heads n).nextIn = true then (at_ s.heads n).stalled else none) = some since := (if_pos hin).trans hstall
    have hnow : max s.now (s.now + 400) = s.now + 400 := max_eq_right (Nat.le_add_right ..)
    subst hl
    refine ⟨_, rfl, congrArg done ?_⟩
    unfold State.pointLanded
    rw [hnext]
    dsimp only [State.forward]
    rw [hnow]
    rfl
  · have hidle : s.parkIdle n = (u.headStill n).enterHead n 1 := by
      rw [hu]
      exact if_pos ⟨hstate, hqueue⟩
    have hlen' : n < u.heads.length := by rw [hu]; exact hnl
    have hrun : (at_ (u.headStill n).heads n).state = 2 := (congrArg Head.state (at_upd_self _ hlen')).trans (by rw [hu]; exact hstate)
    have hstep := hidle.trans (State.enterHead_parks hrun)
    have hparked := at_upd_self (l := (u.headStill n).heads) (fun h : Head => { h with state := 1, onDump := h.onDump && true, dwell := none })
      (hlen'.trans_eq (upd_length ..).symm)
    refine ⟨_, congrArg done hstep, rfl, (congrArg Head.state hparked).trans rfl, rfl, fun c hc hplan => ?_⟩
    refine State.settle_code_of_headChans (n := n) ?_ ?_ ?_
    · rw [hu] at *
      exact hc
    · exact fun h => absurd (show (1 : Nat) = 2 from (congrArg Head.state hparked).symm.trans h) (by decide)
    · rw [hu]
      exact hplan
  · exact congrArg done (State.headOnDump_of_park hnl hstate hpark)
  · exact congrArg done (State.headOnDump_of_not hnl hnot)
  · subst hat
    obtain ⟨src, speed, hstep⟩ := State.scanSample_of_still hn hnl hstate
    refine ⟨_, congrArg done hstep, rfl, ?_, ?_, ?_, ?_, rfl⟩ <;> (rw [State.settle_heads]; dsimp only; rw [at_upd_self _ hnl])

end Sys2Proof.Machine
end

section
/-! PROOFS. The events of the sources, of the diagnostics and of the solver (08 R190, R192, 09 R203 to R210, 10 R220, R230). -/
namespace Sys2Proof.Machine

/-! ## Effect periods (08 R190) -/

/-- The pulse of one effect channel placed. -/
theorem State.effectPulse_of {s : State} {t c on : Nat} (hwide : (at_ s.src.sinks c).widen = false)
    (hruns : (at_ s.src.sinks c).runsPast t = false) (hon : on = onTimeOf (chDuty (s.chan c))) (hon0 : on ≠ 0)
    (hcode : s.effectCode c ≠ 0) : s.effectPulse t 1 0 c = s.sink c fun (k : Sink) => { k with
      phase := 0, onTime := on, widen := false
      plan := (k.plan.filter fun (q : Pulse) => decide (s.now < q.stop + 200000)) ++ [(⟨t, t + on, s.effectCode c, false⟩ : Pulse)] } := by
  have hph : 0 * 100000 / 1 = 0 := rfl
  have hstop : ¬(s.effectCode c = 0 ∨ t + on ≤ t) := not_or.mpr ⟨hcode, by omega⟩
  unfold State.effectPulse
  dsimp only
  rw [hph, Nat.add_zero, hruns, hwide, ← hon]
  refine (if_neg Bool.false_ne_true).trans ((if_neg hstop).trans ?_)
  exact congrArg (fun l => ({ s with src := { s.src with sinks := l } } : State)) (upd_upd ..)

/-- A period of one effect channel. -/
theorem State.effectPeriod_of_one {s : State} {c : Nat} (hset : s.src.effectSet = [c]) (t : Nat) : s.effectPeriod t =
    State.effectPulse { s with src := { s.src with effectM := s.src.effectSet.length, effectNext := t + 100000 } } t 1 0 c := by
  have hone (l : List Nat) (v : State) (hl : l = [c]) :
      l.zipIdx.foldl (fun s (c, i) => s.effectPulse t l.length i c) v = v.effectPulse t 1 0 c := by
    subst hl
    rfl
  exact hone _ _ hset

/-! ## Neighbour periods (09 R209) -/

theorem State.roundOver_of_next {s : State} (h : s.roundNext ≠ none) : s.roundOver = s := if_neg fun hn => h hn.2

theorem State.roundOver_of_idle {s : State} (h : s.diag.running = false) : s.roundOver = s := if_neg fun hn => ne_true_of_eq_false h hn.1

section
variable {s v : State} {at' : Nat}

theorem State.neighbourPeriod_of_running (hat : at' = max s.now (s.diag.periodAt + dgPeriod s.diag.cfg * tuS))
    (hrun : s.diag.running = true) :
    s.neighbourPeriod = { s with now := at', diag := { s.diag with periodAt := at', roundWait := true } } := by
  subst hat
  exact if_pos hrun

theorem State.neighbourPeriod_of_idle (hat : at' = max s.now (s.diag.periodAt + dgPeriod s.diag.cfg * tuS))
    (hidle : s.diag.running = false) (hv : v = { s with
      now := at', diag := { s.diag with periodAt := at', running := true, pos := 0, shorts := 0 } }) :
    s.neighbourPeriod = v.roundOver.roundOver := by
  subst hat hv
  exact if_neg (ne_true_of_eq_false hidle)

theorem DiagUnit.over_eq (d : DiagUnit) (hwait : d.roundWait = false) (hpos : d.pos = 0) (hshorts : d.shorts = 0) :
    ({ d with running := d.roundWait, roundWait := false, pos := 0, shorts := 0 } : DiagUnit) = { d with running := false } := by
  cases d
  dsimp only at hwait hpos hshorts
  subst hwait hpos hshorts
  rfl

/-- A round that has nothing to test is over at once. -/
theorem State.roundOver_of_none (hrun : v.diag.running = true) (hnext : v.roundNext = none) (hwait : v.diag.roundWait = false)
    (hpos : v.diag.pos = 0) (hshorts : v.diag.shorts = 0) :
    v.roundOver = State.raise { v with diag := { v.diag with running := false } } 0x0684 0 0 := by
  refine (if_pos ⟨hrun, hnext⟩).trans ?_
  unfold State.endRound
  dsimp only
  exact congrArg₂ (fun d k => State.raise { v with diag := d } 0x0684 0 (k % 256)) (v.diag.over_eq hwait hpos hshorts) hshorts

end

/-! ## Over-temperature (09 R210) -/

/-- The over-temperature shutdowns of a channel within 60 s, the new one included. -/
def State.otTimes (s : State) (c : Nat) : List Nat :=
  (s.now :: (at_ s.diag.chans c).otTimes).filter fun x => decide (s.now - x ≤ 60 * tuS)

theorem State.diagEvent_eq (s : State) (t code src payload : Nat) : ∃ evq deferred, s.diagEvent t code src payload =
    { s with evq := evq, diag := { s.diag with deferredEvents := deferred } } := by
  unfold State.diagEvent
  split
  · exact ⟨s.evq, _, rfl⟩
  · exact ⟨_, s.diag.deferredEvents, rfl⟩

/-- A latched fault. -/
def DiagChan.latched (d : DiagChan) (kind partner : Nat) : DiagChan :=
  { d with kind := kind, partner := partner, failed := false, due := false, quietDue := false, probeWait := false, judged := [] }

/-- A fault other than one whose channel stays lit blanks nothing. -/
theorem State.latchFault_of_dark {kind : Nat} (hkind : kind ≠ 2) (s : State) (c partner t : Nat) : ∃ evq deferred,
    s.latchFault c kind partner t = { s with
      evq := evq, con := (s.dropEmitter c).con
      diag := { s.diag with chans := upd s.diag.chans c fun d => d.latched kind partner, deferredEvents := deferred } } := by
  obtain ⟨evq, deferred, hevent⟩ := ((s.dropEmitter c).dchan c fun d => d.latched kind partner).diagEvent_eq t 0x0681 c
    (kind + 256 * partner + 65536 * (c / 8))
  exact ⟨evq, deferred, (if_pos hkind).trans hevent⟩

theorem State.overtemp_spec {s : State} {c : Nat} (hc : c < 192) (hlen : s.diag.chans.length = 192)
    (hoff : (at_ s.diag.chans c).otOff = false) : ∃ evq diag con, s.overtemp c = { s with evq := evq, diag := diag, con := con } ∧
      (at_ diag.chans c).otOff = true ∧
      ((at_ s.diag.chans c).kind = 0 → ((at_ diag.chans c).kind = 4 ↔ 3 ≤ (s.otTimes c).length)) := by
  have hin : c < s.diag.chans.length := hc.trans_eq hlen.symm
  obtain ⟨u, hu⟩ : ∃ u : State, u = ((s.dchan c fun d => { d with otOff := true, otSince := s.now, otTimes := s.otTimes c }).dropEmitter c).raise
    0x0683 c 1 := ⟨_, rfl⟩
  obtain ⟨evq, hevq⟩ := ((s.dchan c fun d => { d with otOff := true, otSince := s.now, otTimes := s.otTimes c }).dropEmitter c).raise_eq
    0x0683 c 1
  have huat : at_ u.diag.chans c = { at_ s.diag.chans c with otOff := true, otSince := s.now, otTimes := s.otTimes c } := by
    rw [hu, hevq]
    exact at_upd_self _ hin
  have hstep : s.overtemp c = if 3 ≤ (s.otTimes c).length ∧ (at_ u.diag.chans c).kind = 0 then u.latchFault c 4 0xFF u.now else u := by
    rw [hu]
    exact if_neg (not_or.mpr ⟨Nat.not_lt.mpr (Nat.le_of_lt_succ hc), ne_true_of_eq_false hoff⟩)
  rw [hstep]
  split
  · next hlatch =>
    obtain ⟨evq', deferred, hframe⟩ := u.latchFault_of_dark (kind := 4) (by decide) c 0xFF u.now
    have hlatched := at_upd_self (l := u.diag.chans) (fun d => d.latched 4 0xFF) (i := c) (by rw [hu, hevq]; exact hin.trans_eq (upd_length ..).symm)
    have hshut : (at_ (upd u.diag.chans c fun d => d.latched 4 0xFF) c).otOff = true :=
      (congrArg DiagChan.otOff hlatched).trans ((congrArg DiagChan.otOff huat).trans rfl)
    have hkind : (at_ (upd u.diag.chans c fun d => d.latched 4 0xFF) c).kind = 4 := (congrArg DiagChan.kind hlatched).trans rfl
    rw [hframe]
    rw [hu, hevq] at hshut hkind ⊢
    exact ⟨evq', _, _, rfl, hshut, fun _ => iff_of_true hkind hlatch.1⟩
  · next hnot =>
    rw [huat] at hnot
    have hkept : (at_ u.diag.chans c).kind = (at_ s.diag.chans c).kind := (congrArg DiagChan.kind huat).trans rfl
    have hshut : (at_ u.diag.chans c).otOff = true := (congrArg DiagChan.otOff huat).trans rfl
    rw [hu, hevq] at hkept hshut ⊢
    refine ⟨evq, _, _, rfl, hshut, fun hkind => ?_⟩
    rw [hkept]
    exact iff_of_false (fun h => absurd (hkind.symm.trans h) (by decide)) fun h => hnot ⟨h, hkind⟩

/-! ## Dark blocks (10 R220) -/

section
variable {s : State} {i : Nat} {samples v : List Int}

/-- A block without saturation leaves the counts of it. -/
theorem State.darkBlock_eq (hi : i < 8) (hlen : samples.length = 4096) (hdark : s.darkNow i = true)
    (hsat : ∀ x ∈ samples, satCode x = false) (hv : v = sortBy (fun a b => decide (a ≤ b)) samples) : s.darkBlock i samples =
      if at_ v 3071 - at_ v 1023 ≤ (ccIqr s.con.cfg : Int) then
        let t := s.lightIn i fun l => { l with darkCode := upd l.darkCode l.range fun _ => at_ v 2047, rejRun := 0 }
        if (at_ t.con.inputs i).fault = some 0 then t.senseFault i none else t
      else
        let t := s.lightIn i fun l => { l with rejects := l.rejects + 1, rejRun := min 8 (l.rejRun + 1) }
        if (at_ t.con.inputs i).rejRun = 8 ∧ (at_ t.con.inputs i).fault = none then t.senseFault i (some 0) else t := by
  have hnone (l : List Int) (hl : ∀ x ∈ l, x ∈ samples) : (l.filter satCode).length = 0 := by
    rw [List.filter_eq_nil_iff.mpr fun x hx => ne_true_of_eq_false (hsat x (hl x hx))]
    rfl
  have hquiet (t : State) (q : Nat) : t.quietBefore samples q = q := by
    have hfind : (samples.take (4096 - t.darkHere)).reverse.findIdx? satCode = none :=
      List.findIdx?_eq_none_iff.mpr fun x hx => hsat x (List.mem_of_mem_take (List.mem_reverse.mp hx))
    unfold State.quietBefore
    rw [hfind]
  have hcount (n m : Nat) (hn : n = 0) (hm : m = 0) : (s.saturate i n).lightIn i (fun l => { l with
      satTotal := l.satTotal + BitVec.ofNat 32 (m - n), quietTicks := (s.saturate i n).quietBefore samples l.quietTicks }) = s := by
    subst hn hm
    refine congrArg (fun l => ({ s with con := { s.con with inputs := l } } : State)) ((upd_upd ..).trans (upd_self ?_))
    dsimp only [Function.comp_apply]
    rw [hquiet, Nat.sub_self, BitVec.add_zero, BitVec.add_zero]
    rfl
  subst hv
  unfold State.darkBlock
  rw [if_neg (not_or.mpr ⟨not_not.mpr hlen, not_or.mpr ⟨Nat.not_le.mpr hi, ne_false_of_eq_true hdark⟩⟩)]
  dsimp only
  rw [hcount _ _ (hnone _ fun x hx => List.mem_of_mem_drop hx) (hnone _ fun x hx => hx)]

end

/-! ## Runs of the solver (10 R230) -/

/-- Only the free values, the events and the figures of the solver differ, and neither its configuration nor the scales. -/
def State.Figures (s t : State) : Prop := ∃ free evq traces rho kap inP duv, t = { s with
  free := free, evq := evq, con := { s.con with traces := traces, rho := rho, kap := kap, inP := inP, duv := duv } }

section
variable {s t u : State}

theorem State.Figures.refl (s : State) : s.Figures s :=
  ⟨s.free, s.evq, s.con.traces, s.con.rho, s.con.kap, s.con.inP, s.con.duv, rfl⟩

theorem State.Figures.trans (h : s.Figures t) (h' : t.Figures u) : s.Figures u := by
  obtain ⟨_, _, _, _, _, _, _, rfl⟩ := h
  obtain ⟨free, evq, traces, rho, kap, inP, duv, rfl⟩ := h'
  exact ⟨free, evq, traces, rho, kap, inP, duv, rfl⟩

end

theorem State.foldl_figures {α : Type} {g : State → α → State} (hg : ∀ (s : State) a, s.Figures (g s a)) (l : List α) (s : State) :
    s.Figures (l.foldl g s) := by
  induction l generalizing s with
  | nil => exact .refl s
  | cons a l ih => exact (hg s a).trans (ih _)

/-- The same for a fold that carries a value along. -/
theorem State.foldl_figures_snd {α β : Type} {g : β × State → α → β × State} (hg : ∀ (st : β × State) a, st.2.Figures (g st a).2) (l : List α)
    (st : β × State) : st.2.Figures (l.foldl g st).2 := by
  induction l generalizing st with
  | nil => exact .refl st.2
  | cons a l ih => exact (hg st a).trans (ih _)

theorem State.orFree_figures (s : State) (x : Option Rat) : s.Figures (s.orFree x).2 := by
  unfold State.orFree
  split
  · exact .refl s
  · exact ⟨_, s.evq, s.con.traces, s.con.rho, s.con.kap, s.con.inP, s.con.duv, rfl⟩

theorem State.relative_figures (s : State) (a p : Nat) : s.Figures (s.relative a p).2 :=
  (s.orFree_figures _).trans (State.orFree_figures ..)

theorem State.relativeOf_figures (s : State) (p : Nat) : s.Figures (s.relativeOf p).2 :=
  State.foldl_figures_snd (fun (st : List (Nat × Rat) × State) a => st.2.relative_figures a p) _ ([], s)

theorem State.trace_figures (s : State) (a p : Nat) (f : Trace → Trace) : s.Figures (s.trace a p f) :=
  ⟨s.free, s.evq, _, s.con.rho, s.con.kap, s.con.inP, s.con.duv, rfl⟩

theorem State.deliver_figures (s : State) (e : Event) : s.Figures (s.deliver e) := by
  exact ⟨s.free, s.evq.push e, s.con.traces, s.con.rho, s.con.kap, s.con.inP, s.con.duv, rfl⟩

theorem State.sensorFactor_figures (s : State) (a p : Nat) : s.Figures (s.sensorFactor a p) := by
  unfold State.sensorFactor
  exact iteInduction (motive := s.Figures) (fun _ => .refl s) fun _ => iteInduction (motive := s.Figures)
    (fun _ => (s.trace_figures a p _).trans (State.deliver_figures ..)) fun _ => s.trace_figures a p _

/-- The figures of a primary, with those of its arrays. -/
def State.noteFigures (r : Rat × State) (p : Nat) (k : Rat) (member : Bool) : State :=
  { r.2 with con := { r.2.con with
    rho := upd r.2.con.rho p fun _ => r.1, kap := upd r.2.con.kap p fun _ => k, inP := upd r.2.con.inP p fun _ => member } }

theorem State.noteFigures_figures {s : State} {r : Rat × State} (h : s.Figures r.2) (p : Nat) (k : Rat) (member : Bool) :
    s.Figures (State.noteFigures r p k member) :=
  h.trans ⟨r.2.free, r.2.evq, r.2.con.traces, _, _, _, r.2.con.duv, rfl⟩

/-- The figures of one primary of an estimate. -/
def State.estimate1 (s : State) (p : Nat) : State :=
  let k := s.overArrays p fun a => s.capacity a p
  let member := !(s.constArrays p).isEmpty && decide (0 < k)
  State.noteFigures (if member then s.relativeOf p else (s.con.rho.getD p 0, s)) p k member

theorem State.estimate1_figures (s : State) (p : Nat) : s.Figures (s.estimate1 p) := by
  have hmember (member : Bool) : s.Figures (if member then s.relativeOf p else (s.con.rho.getD p 0, s)).2 :=
    iteInduction (motive := fun r : Rat × State => s.Figures r.2) (fun _ => s.relativeOf_figures p) fun _ => .refl s
  exact State.noteFigures_figures (hmember _) p _ _

theorem State.estimates_eq (s : State) : s.estimates = prims8.foldl State.estimate1
    ((prims8.map fun p => (s.servedArrays p).map fun a => (a, p)).flatten.foldl (fun s x => s.sensorFactor x.1 x.2) s) := rfl

theorem State.estimates_figures (s : State) : s.Figures s.estimates := by
  have hsense (s : State) (x : Nat × Nat) : s.Figures (s.sensorFactor x.1 x.2) := s.sensorFactor_figures x.1 x.2
  have hall := State.foldl_figures hsense (prims8.map fun p => (s.servedArrays p).map fun a => (a, p)).flatten s
  have hprims (t : State) : t.Figures (prims8.foldl State.estimate1 t) := State.foldl_figures State.estimate1_figures prims8 t
  rw [State.estimates_eq]
  exact hall.trans (hprims _)

theorem State.targetsOf_figures (s : State) (g : Rat) : s.Figures (s.targetsOf g).2 :=
  State.foldl_figures_snd (fun (st : List (Nat × Rat) × State) _ => st.2.orFree_figures _) _ ([], s)

theorem State.judgeDuv_figures (s : State) (g : Rat) : s.Figures (s.judgeDuv g) := by
  unfold State.judgeDuv
  split
  · exact ⟨s.free, s.evq, s.con.traces, s.con.rho, s.con.kap, s.con.inP, _, rfl⟩
  · dsimp only
    split
    · exact ⟨_, s.evq, s.con.traces, s.con.rho, s.con.kap, s.con.inP, _, rfl⟩
    · exact ⟨s.free, s.evq, s.con.traces, s.con.rho, s.con.kap, s.con.inP, _, rfl⟩

/-- A number rounded stays between whole bounds. -/
theorem roundRat_between {x : Rat} {a b : Int} (ha : (a : Rat) ≤ x) (hb : x ≤ b) : a ≤ roundRat x ∧ roundRat x ≤ b := by
  unfold roundRat
  refine ⟨Rat.le_floor_iff.mpr (by linarith), Int.lt_add_one_iff.mp (Rat.floor_lt_iff.mpr ?_)⟩
  push_cast
  linarith

/-- A scale moves by at most its step (10 R230). -/
theorem State.stepScale_near (s : State) (p : Nat) (target : Rat) (hold : s.con.s.getD p 0 ≤ 32768) :
    s.stepScale p target ≤ s.con.s.getD p 0 + u16 s.con.cfg 0x0A ∧ s.con.s.getD p 0 ≤ s.stepScale p target + u16 s.con.cfg 0x0A := by
  unfold State.stepScale
  dsimp only
  generalize (target - (s.con.s.getD p 0 : Rat)) * u16 s.con.cfg 8 / (u16 s.con.cfg 4 * 100) = st
  generalize s.con.s.getD p 0 = old at *
  generalize u16 s.con.cfg 0x0A = lim
  have hlo : -(lim : Rat) ≤ clampR (-lim) lim st := le_max_left ..
  have hhi : clampR (-lim) lim st ≤ lim := max_le (by have : (0 : Rat) ≤ lim := Nat.cast_nonneg lim; linarith) (min_le_left ..)
  obtain ⟨hge, hle⟩ := roundRat_between (x := old + clampR (-lim) lim st) (a := (old : Int) - lim) (b := (old : Int) + lim)
    (by push_cast; linarith) (by push_cast; linarith)
  unfold clampI
  omega

/-- The scales after a run are the old ones or steps from them. -/
theorem foldl_upd_getD {α : Type} (f : α → Nat × Nat) (l : List α) (xs : List Nat) (p : Nat) :
    (l.foldl (fun xs a => upd xs (f a).1 fun _ => (f a).2) xs).getD p 0 = xs.getD p 0 ∨
      ∃ a ∈ l, (f a).1 = p ∧ (l.foldl (fun xs a => upd xs (f a).1 fun _ => (f a).2) xs).getD p 0 = (f a).2 := by
  induction l generalizing xs with
  | nil => exact .inl rfl
  | cons a l ih =>
    rw [List.foldl_cons]
    rcases ih (upd xs (f a).1 fun _ => (f a).2) with h | ⟨b, hb, hp, hv⟩
    · have hat : (upd xs (f a).1 fun _ => (f a).2).getD p 0 = _ := at_upd xs (f a).1 p fun _ => (f a).2
      rw [h, hat]
      split
      · next hp => exact .inr ⟨a, List.mem_cons_self, hp.1, rfl⟩
      · exact .inl rfl
    · exact .inr ⟨b, List.mem_cons_of_mem _ hb, hp, hv⟩

/-- The scales that a run sets. -/
def State.newScales (s : State) (held : Bool) (ts : List (Nat × Rat)) : List Nat :=
  if ccMode s.con.cfg = 2 ∧ held = false then ts.foldl (fun l x => upd l x.1 fun _ => s.stepScale x.1 x.2) s.con.s else s.con.s

theorem State.newScales_near (s : State) (held : Bool) (ts : List (Nat × Rat)) (p : Nat) (hold : s.con.s.getD p 0 ≤ 32768) :
    (s.newScales held ts).getD p 0 ≤ s.con.s.getD p 0 + u16 s.con.cfg 0x0A ∧
      s.con.s.getD p 0 ≤ (s.newScales held ts).getD p 0 + u16 s.con.cfg 0x0A := by
  unfold State.newScales
  split
  · rcases foldl_upd_getD (fun x : Nat × Rat => (x.1, s.stepScale x.1 x.2)) ts s.con.s p with h | ⟨x, -, hp, h⟩
    · rw [h]
      omega
    · rw [h, ← hp]
      exact s.stepScale_near x.1 x.2 (hp ▸ hold)
  · omega

/-- A run of the solver, from the state with the estimates made and the targets found. -/
def State.solved (s : State) (g : Rat) (lim : Nat) (ts : List (Nat × Rat)) : State :=
  let held := decide (g < ccGMin s.con.cfg)
  let st := if held then 2 else if g < 1 then 1 else 0
  let t := { s with con := { s.con with
    target := ts.foldl (fun l (x : Nat × Rat) => upd l x.1 fun _ => sat 16 (roundRat x.2).toNat) s.con.target, g := g, limiting := lim
    limitState := st, s := s.newScales held ts, runTick := s.tk.tick, runAt := s.tk.start } }
  (if st ≠ s.con.limitState then t.raiseB 0x0701 0 (st + 256 * lim + 65536 * (roundRat (g * 32768)).toNat) else t).judgeDuv g

theorem State.solverRun_eq {s u : State} {g : Rat} {lim : Nat} {ts : List (Nat × Rat)} (hmode : ccMode s.con.cfg ≠ 0)
    (hfw : s.mbx.fwState = 1) (hdue : s.con.runAt + u16 s.con.cfg 8 * tuMs ≤ s.tk.start) (hg : s.estimates.gOf = (g, lim))
    (hts : s.estimates.targetsOf g = (ts, u)) : s.solverRun = u.solved g lim ts := by
  unfold State.solverRun
  rw [if_neg (not_or.mpr ⟨hmode, not_or.mpr ⟨not_not.mpr hfw, Nat.not_lt.mpr hdue⟩⟩)]
  dsimp only
  rw [hg]
  dsimp only
  rw [hts]
  rfl

/-- What a run of the solver leaves. -/
theorem State.solved_spec (s : State) (g : Rat) (lim : Nat) (ts : List (Nat × Rat)) : ∃ free evq con, s.solved g lim ts = { s with
        free := free, evq := evq, con := con } ∧
      con.runTick = s.tk.tick ∧ con.runAt = s.tk.start ∧ (ccMode s.con.cfg ≠ 2 ∨ con.limitState = 2 → con.s = s.con.s) ∧
      ∃ held ts, con.s = s.newScales held ts := by
  obtain ⟨held, hheld⟩ : ∃ held, held = decide (g < ccGMin s.con.cfg) := ⟨_, rfl⟩
  obtain ⟨st, hst⟩ : ∃ st, st = if held then 2 else if g < 1 then 1 else 0 := ⟨_, rfl⟩
  obtain ⟨t, ht⟩ : ∃ t : State, t = { s with con := { s.con with
    target := ts.foldl (fun l (x : Nat × Rat) => upd l x.1 fun _ => sat 16 (roundRat x.2).toNat) s.con.target, g := g, limiting := lim
    limitState := st, s := s.newScales held ts, runTick := s.tk.tick, runAt := s.tk.start } } := ⟨_, rfl⟩
  have hfig : t.Figures (s.solved g lim ts) := by
    unfold State.solved
    dsimp only
    rw [← hheld, ← hst, ← ht]
    refine .trans ?_ (State.judgeDuv_figures ..)
    split
    · exact t.deliver_figures _
    · exact .refl t
  obtain ⟨free, evq, traces, rho, kap, inP, duv, hfig⟩ := hfig
  rw [ht] at hfig
  refine ⟨free, evq, _, hfig, rfl, rfl, fun h => if_neg fun hmoves => ?_, held, ts, rfl⟩
  obtain ⟨hmode, hfree⟩ := hmoves
  have hlow : st ≠ 2 := by
    rw [hst, hfree, if_neg Bool.false_ne_true]
    split <;> decide
  exact h.elim (fun h => h hmode) hlow

theorem State.solverRun_spec {s : State} (hmode : ccMode s.con.cfg ≠ 0) (hfw : s.mbx.fwState = 1)
    (hdue : s.con.runAt + u16 s.con.cfg 8 * tuMs ≤ s.tk.start) : ∃ free evq con, s.solverRun = { s with
        free := free, evq := evq, con := con } ∧
      con.runTick = s.tk.tick ∧ con.runAt = s.tk.start ∧ (ccMode s.con.cfg ≠ 2 ∨ con.limitState = 2 → con.s = s.con.s) ∧
      ∀ p < 8, s.con.s.getD p 0 ≤ 32768 → con.s.getD p 0 ≤ s.con.s.getD p 0 + u16 s.con.cfg 0x0A ∧
        s.con.s.getD p 0 ≤ con.s.getD p 0 + u16 s.con.cfg 0x0A := by
  obtain ⟨g, lim, hg⟩ : ∃ g lim, s.estimates.gOf = (g, lim) := ⟨_, _, Prod.mk.eta.symm⟩
  obtain ⟨ts, u, hts⟩ : ∃ ts u, s.estimates.targetsOf g = (ts, u) := ⟨_, _, Prod.mk.eta.symm⟩
  obtain ⟨free, evq, con, hrun, htick, hat, hkept, held, ts', hs⟩ := u.solved_spec g lim ts
  have hstep := (State.solverRun_eq hmode hfw hdue hg hts).trans hrun
  have hfig : s.Figures u := by
    have hall := s.estimates_figures.trans (s.estimates.targetsOf_figures g)
    rw [hts] at hall
    exact hall
  obtain ⟨free', evq', traces, rho, kap, inP, duv, hfig⟩ := hfig
  have hcfg : u.con.cfg = s.con.cfg := by rw [hfig]
  have hold : u.con.s = s.con.s := by rw [hfig]
  have htk : u.tk = s.tk := by rw [hfig]
  have hnear (p : Nat) := hs ▸ u.newScales_near held ts' p
  rw [hcfg, hold] at hnear hkept
  rw [htk] at htick hat
  rw [hfig] at hstep
  exact ⟨free, evq, con, hstep, htick, hat, hkept, fun p _ => hnear p⟩

/-! ## The charge of a cell stays what it counts (08 R192) -/

/-- EMIT of every sink. -/
def State.emits (s : State) : List Nat := s.src.sinks.map Sink.emit

theorem State.at_emit (s : State) (c : Nat) : (at_ s.src.sinks c).emit = s.emits.getD c 0 := by
  unfold State.emits at_
  rw [List.getD_eq_getElem?_getD, List.getD_eq_getElem?_getD, List.getElem?_map]
  cases s.src.sinks[c]? <;> rfl

theorem foldl_emits {α : Type} {f : State → α → State} (h : ∀ s a, (f s a).emits = s.emits) (l : List α) (s : State) :
    (l.foldl f s).emits = s.emits := by
  induction l generalizing s with
  | nil => rfl
  | cons a l ih => exact (ih _).trans (h _ _)

theorem State.sink_emits (s : State) (c : Nat) {f : Sink → Sink} (hf : ∀ k, (f k).emit = k.emit) : (s.sink c f).emits = s.emits := by
  unfold State.emits State.sink
  refine List.ext_getElem? fun i => ?_
  dsimp only [upd]
  rw [List.getElem?_map, List.getElem?_map, List.getElem?_modify]
  cases s.src.sinks[i]? with
  | none => rfl
  | some k => exact congrArg some (iteInduction (motive := fun k' : Sink => k'.emit = k.emit) (fun _ => hf k) fun _ => rfl)

@[simp] theorem State.dchan_emits (s : State) (c : Nat) (f : DiagChan → DiagChan) : (s.dchan c f).emits = s.emits := rfl
@[simp] theorem State.raise_emits (s : State) (code src payload : Nat) : (s.raise code src payload).emits = s.emits := rfl
@[simp] theorem State.head_emits (s : State) (n : Nat) (f : Head → Head) : (s.head n f).emits = s.emits := rfl
@[simp] theorem State.calUnit_emits (s : State) (j : Nat) (f : CalUnit → CalUnit) : (s.calUnit j f).emits = s.emits := rfl

@[simp] theorem State.diagEvent_emits (s : State) (t code src payload : Nat) : (s.diagEvent t code src payload).emits = s.emits := by
  unfold State.diagEvent
  split <;> rfl

@[simp] theorem State.unplan_emits (s : State) (cs : List Nat) : (s.unplan cs).emits = s.emits :=
  foldl_emits (f := fun s c => s.sink c fun k => { k with
    plan := (k.plan.filter fun p => decide (p.start < s.now)).map fun p => { p with stop := min p.stop s.now } })
    (fun s c => s.sink_emits c fun _ => rfl) cs s

@[simp] theorem State.enterHead_emits (s : State) (n st : Nat) : (s.enterHead n st).emits = s.emits := by
  unfold State.enterHead
  exact iteInduction (motive := fun t : State => t.emits = s.emits) (fun _ => rfl) fun _ => rfl

@[simp] theorem State.blankHead_emits (s : State) (n cause : Nat) : (s.blankHead n cause).emits = s.emits := by
  have hoff : (s.offDump n cause).emits = s.emits :=
    iteInduction (motive := fun t : State => t.emits = s.emits) (fun _ => rfl) fun _ => rfl
  rw [← hoff]
  unfold State.blankHead
  generalize s.offDump n cause = t
  dsimp only
  split
  · rfl
  · split
    · split <;> rfl
    · exact (State.enterHead_emits ..).trans (State.unplan_emits ..)

@[simp] theorem State.latchFault_emits (s : State) (c kind partner t : Nat) : (s.latchFault c kind partner t).emits = s.emits := by
  unfold State.latchFault
  dsimp only
  split
  · rw [State.diagEvent_emits]
    rfl
  · refine (foldl_emits (fun s n => s.blankHead_emits n 4) _ _).trans ?_
    split
    · exact State.diagEvent_emits ..
    · exact State.diagEvent_emits ..

@[simp] theorem State.observe_emits (s : State) (c : Nat) (fails test : Bool) (probe : Option Nat) (t : Nat) :
    (s.observe c fails test probe t).emits = s.emits := by
  unfold State.observe
  dsimp only
  split
  · rfl
  · split
    · rfl
    · split
      · rfl
      · split
        · split
          · exact State.latchFault_emits ..
          · split <;> rfl
        · rfl

@[simp] theorem State.place_emits (s : State) (c start stop code : Nat) (test : Bool) : (s.place c start stop code test).emits = s.emits := by
  unfold State.place
  split
  · rfl
  · exact s.sink_emits c fun _ => rfl

@[simp] theorem State.headroom_emits (s : State) (c code vpin mid : Nat) : (s.headroom c code vpin mid).emits = s.emits := by
  unfold State.headroom
  exact iteInduction (motive := fun t : State => t.emits = s.emits) (fun _ => s.sink_emits c fun _ => rfl)
    fun _ => s.sink_emits c fun _ => rfl

@[simp] theorem State.cellPulse_emits (s : State) (t level c : Nat) (m : CellMeas) : (s.cellPulse t level c m).emits = s.emits := by
  unfold State.cellPulse
  dsimp only
  split
  · rw [State.headroom_emits, State.place_emits]
  · exact State.place_emits ..

@[simp] theorem State.testChannel_emits (s : State) (m : CellMeas) (c : Nat) (pulsed : Bool) : (s.testChannel m c pulsed).emits = s.emits := by
  have hprobe (s : State) (mv : Nat) : (s.dchan c fun d => { d with probeOk := d.probeOk || decide (200 ≤ mv) }).emits = s.emits := rfl
  unfold State.testChannel
  dsimp only
  (repeat' split) <;> simp

@[simp] theorem State.testCell_emits (s : State) (t : Nat) (m : CellMeas) (c : Nat) : (s.testCell t m c).emits = s.emits := by
  unfold State.testCell State.holdOff
  dsimp only
  rw [State.dchan_emits, State.testChannel_emits]
  split
  · exact s.sink_emits c fun _ => rfl
  · exact State.cellPulse_emits ..

@[simp] theorem State.roundCheck_emits (s : State) : s.roundCheck.emits = s.emits := by
  have hover (s : State) : s.roundOver.emits = s.emits := by
    unfold State.roundOver
    split <;> rfl
  exact (hover _).trans (hover s)

@[simp] theorem State.latchPair_emits (s : State) (c n : Nat) : (s.latchPair c n).emits = s.emits := by
  unfold State.latchPair
  rw [State.latchFault_emits]
  split
  · exact State.latchFault_emits ..
  · rfl

@[simp] theorem State.judgeNeighbours_emits (s : State) (m : CellMeas) (c : Nat) : (s.judgeNeighbours m c).emits = s.emits := by
  unfold State.judgeNeighbours
  dsimp only
  split
  · rfl
  · rfl
  · exact foldl_emits (fun s n => s.latchPair_emits c n) _ s

/-- The pulse of a neighbour cell, and its judgement. -/
def State.neighbourPulse (s : State) (t : Nat) (m : CellMeas) (c : Nat) : State :=
  let s := (neighboursOf c).foldl (fun s n => s.holdOff t n) s
  (s.cellPulse t (dgLevel s.diag.cfg) c m).testChannel m c true

def State.neighbourEnd (s : State) (m : CellMeas) (c : Nat) (round : Bool) : State :=
  let s := if (at_ s.diag.chans c).pending then { s with diag := { s.diag with nextPending := c + 1 } } else s
  if (reading m.vTest c).isNone then s else
  let s := (s.judgeNeighbours m c).dchan c DiagChan.settle
  if round then s.roundStep c else s

theorem State.neighbourPulse_emits (s : State) (t : Nat) (m : CellMeas) (c : Nat) : (s.neighbourPulse t m c).emits = s.emits := by
  have hoff : ((neighboursOf c).foldl (fun s n => s.holdOff t n) s).emits = s.emits :=
    foldl_emits (f := fun s n => s.holdOff t n) (fun s n => s.sink_emits n fun _ => rfl) _ s
  unfold State.neighbourPulse
  rw [State.testChannel_emits, State.cellPulse_emits, hoff]

theorem State.neighbourEnd_emits (s : State) (m : CellMeas) (c : Nat) (round : Bool) : (s.neighbourEnd m c round).emits = s.emits := by
  have hround (u : State) : (u.roundStep c).emits = u.emits := State.roundCheck_emits _
  obtain ⟨u, hu, hue⟩ : ∃ u : State, u = (if (at_ s.diag.chans c).pending then { s with diag := { s.diag with nextPending := c + 1 } }
      else s) ∧ u.emits = s.emits :=
    ⟨_, rfl, iteInduction (motive := fun v : State => v.emits = s.emits) (fun _ => rfl) fun _ => rfl⟩
  unfold State.neighbourEnd
  dsimp only
  rw [← hu, ← hue]
  split
  · rfl
  · split
    · rw [hround, State.dchan_emits, State.judgeNeighbours_emits]
    · rw [State.dchan_emits, State.judgeNeighbours_emits]

theorem State.neighbourCell_emits (s : State) (t : Nat) (m : CellMeas) (c : Nat) (round : Bool) :
    (s.neighbourCell t m c round).emits = s.emits :=
  (State.neighbourEnd_emits (s.neighbourPulse t m c) m c round).trans (s.neighbourPulse_emits t m c)

theorem State.diagCell_emits (s : State) (t : Nat) (m : CellMeas) : (s.diagCell t m).2.emits = s.emits := by
  unfold State.diagCell
  split
  · rfl
  · exact foldl_emits (fun s c => s.testCell_emits t m c) _ s
  · exact State.neighbourCell_emits ..

@[simp] theorem State.calCell_emits (s : State) (t j : Nat) (m : CellMeas) : (s.calCell t j m).emits = s.emits := by
  unfold State.calCell State.calCheck
  dsimp only
  (repeat' split) <;> rfl

@[simp] theorem State.emitterCell_emits (s : State) (c : Nat) (m : CellMeas) : (s.emitterCell c m).emits = s.emits := by
  unfold State.emitterCell
  exact iteInduction (motive := fun t : State => t.emits = s.emits) (fun _ => rfl) fun _ => rfl

@[simp] theorem State.patinaAlert_emits (s : State) (c kind v : Nat) : (s.patinaAlert c kind v).emits = s.emits := by
  exact State.raise_emits ..

@[simp] theorem State.takePoints_emits (s : State) (c : Nat) : (s.takePoints c).emits = s.emits := by
  unfold State.takePoints
  dsimp only
  split <;> rfl

@[simp] theorem State.judgeEmitter_emits (s : State) (c : Nat) : (s.judgeEmitter c).emits = s.emits := by
  unfold State.judgeEmitter
  dsimp only
  cases s.eRel c with
  | none =>
    dsimp only
    (repeat' split) <;> rfl
  | some e =>
    dsimp only
    (repeat' split) <;> rfl

@[simp] theorem State.patinaEmitter_emits (s : State) (c : Nat) : (s.patinaEmitter c).emits = s.emits := by
  unfold State.patinaEmitter
  dsimp only
  rw [State.judgeEmitter_emits, State.takePoints_emits]
  rfl

@[simp] theorem State.emitterWork_emits (s : State) (t c : Nat) (m : CellMeas) : (s.emitterWork t c m).emits = s.emits := by
  unfold State.emitterWork
  dsimp only
  split
  · rw [State.patinaEmitter_emits, State.emitterCell_emits]
    exact State.cellPulse_emits ..
  · rw [State.emitterCell_emits]
    exact State.cellPulse_emits ..

theorem State.cellRun_emits (s : State) (t : Nat) (m : CellMeas) : (s.cellRun t m).emits = s.emits := by
  have hdiag := s.diagCell_emits t m
  unfold State.cellRun State.sliceCell
  dsimp only
  split
  · exact State.calCell_emits ..
  · split
    · next hd =>
      rw [hd] at hdiag
      exact hdiag
    · next hd =>
      rw [hd] at hdiag
      rw [← hdiag]
      split
      · exact State.emitterWork_emits ..
      · split
        · exact State.calCell_emits ..
        · rfl

/-- The cell that opens. -/
theorem State.cell_of_opens {s : State} {opens : Nat} (hopen : s.cellOpens = some opens) (m : CellMeas) : ∃ u, s.cell m = { u with
      diag := { u.diag with cell := s.diag.cell + 1, cellNext := opens + 4000 } } ∧
    u = if m.cut || (s.forward (opens + 600)).sinksHeld then s.forward (opens + 600)
      else ((s.forward (opens + 600)).cellCharge m).cellRun opens m := by
  refine ⟨_, ?_, rfl⟩
  unfold State.cell
  rw [hopen]

theorem State.settle_emits (s : State) : s.settle.emits = s.emits := by
  obtain ⟨u, hu⟩ : ∃ u : State, s.settle.src.sinks = s.src.sinks.mapIdx u.settleSink := ⟨_, rfl⟩
  unfold State.emits
  rw [hu]
  refine List.ext_getElem? fun i => ?_
  rw [List.getElem?_map, List.getElem?_mapIdx, List.getElem?_map]
  cases s.src.sinks[i]? <;> rfl

/-- The charge of one pulse of a cell. -/
theorem State.cellCharge_one {s : State} {m : CellMeas} {c q : Nat} (hcharge : m.charge = [(c, q)]) (hc : c < 192)
    (hlen : s.src.sinks.length = 192) (hon : s.enabled c = true) (hlive : s.chanDead c = false) :
    (at_ (s.cellCharge m).src.sinks c).emit = sat 32 ((at_ s.src.sinks c).emit + s.emitterCharge c q) := by
  have hstep : s.cellCharge m = s.addCharge c ⟨q, q, 0, 0, 0⟩ := by
    unfold State.cellCharge
    rw [hcharge]
    exact if_pos ⟨hc, hon, hlive⟩
  rw [hstep]
  exact congrArg Sink.emit (at_upd_self _ (hc.trans_eq hlen.symm))

/-- A channel that is held off conducts nothing. -/
theorem State.settle_code_of_dead {s : State} {c : Nat} (hdead : s.chanDead c = true) : (at_ s.settle.src.sinks c).code = 0 := by
  obtain ⟨u, hsinks, hu⟩ : ∃ u : State, s.settle.src.sinks = s.src.sinks.mapIdx u.settleSink ∧ u.chanDead c = s.chanDead c :=
    ⟨_, rfl, rfl⟩
  rw [hsinks, at_mapIdx]
  split
  · exact if_pos (.inr (.inl (hu.trans hdead)))
  · rfl

/-- An effect period that starts with no window observed. -/
theorem State.execEffectPwmPeriod_eq {s u : State} {at' : Nat}
    (hat : at' = max s.now (max (100000 * ceilDiv s.now 100000) s.src.effectNext)) (hu : u = { s with now := at' }) :
    execEffectPwmPeriod [] s = done (u.effectPeriod at') := by
  rw [hu, hat]
  rfl

/-- Settles O51. -/
theorem sourceAndSolverEventsRun : Obligations.SourceAndSolverEventsRun := by
  unfold Obligations.SourceAndSolverEventsRun
  intro s hsinks hchans
  refine ⟨fun at' u v hat hu hv => ⟨fun hset => ?_, fun c hset hc hwide hruns on hon hon0 hcode => ?_⟩, fun m opens hopen => ?_,
    fun at' hat => ⟨fun hrun => congrArg done (State.neighbourPeriod_of_running hat hrun), fun hidle v hv => ⟨fun hnext => ?_,
      fun hnext hwait => ?_⟩⟩, fun c hc hoff => ?_, fun c hc hoff u hu => ?_,
    fun i hi samples hlen hdark hsat hinputs v hv => ⟨fun hiqr hfault => ?_, fun hiqr hrej => ?_⟩, fun hmode hfw hdue => ?_⟩
  · refine (State.execEffectPwmPeriod_eq hat hu).trans (congrArg done ?_)
    subst hu
    rw [hv, hset]
    unfold State.effectPeriod
    dsimp only
    rw [hset]
    rfl
  · refine (State.execEffectPwmPeriod_eq hat hu).trans (congrArg done ?_)
    have hstep : u.effectPeriod at' = v.effectPulse at' 1 0 c := by
      subst hu
      rw [hv]
      exact State.effectPeriod_of_one (s := { s with now := at' }) hset at'
    have hsame : v.src.sinks = s.src.sinks ∧ v.chan c = s.chan c ∧ v.effectCode c = s.effectCode c ∧ v.now = at' := by
      rw [hv, hu]
      exact ⟨rfl, rfl, rfl, rfl⟩
    obtain ⟨hvs, hvc, hve, hvn⟩ := hsame
    rw [hstep, State.effectPulse_of (on := on) (hvs ▸ hwide) (hvs ▸ hruns) (hvc ▸ hon) hon0 (hve ▸ hcode), hve, State.sink, hvs, hvn]
  · obtain ⟨u, hcell, hu⟩ := State.cell_of_opens hopen m
    refine ⟨_, congrArg done hcell, rfl, rfl, fun hheld => ?_, fun c q hcharge hcut hheld hc hon hlive => ?_⟩
    · have hnot : (m.cut || (s.forward (opens + 600)).sinksHeld) = true := Bool.or_eq_true_iff.mpr hheld
      rw [hu, if_pos hnot]
      rfl
    · have hruns : (m.cut || (s.forward (opens + 600)).sinksHeld) = false := Bool.or_eq_false_iff.mpr ⟨hcut, hheld⟩
      rw [hruns] at hu
      have hemits : u.emits = ((s.forward (opens + 600)).cellCharge m).emits := hu ▸ State.cellRun_emits ..
      rw [State.at_emit, State.settle_emits]
      refine (congrArg (List.getD · c 0) hemits).trans ((State.at_emit ..).symm.trans ?_)
      exact State.cellCharge_one hcharge hc hsinks hon hlive
  · refine congrArg done ((State.neighbourPeriod_of_idle hat hidle hv).trans ?_)
    rw [State.roundOver_of_next hnext, State.roundOver_of_next hnext]
  · refine congrArg done ((State.neighbourPeriod_of_idle hat hidle hv).trans ?_)
    rw [State.roundOver_of_none (by rw [hv]) hnext (by rw [hv]; exact hwait) (by rw [hv]) (by rw [hv])]
    exact State.roundOver_of_idle rfl
  · obtain ⟨evq, diag, con, hstep, hshut, hkind⟩ := State.overtemp_spec hc hchans hoff
    refine ⟨_, congrArg done hstep, hshut, State.settle_code_of_dead ?_, hkind, rfl⟩
    exact Bool.or_eq_true_iff.mpr (.inl (Bool.or_eq_true_iff.mpr (.inr hshut)))
  · subst hu
    exact congrArg done (if_neg (not_or.mpr ⟨Nat.not_lt.mpr (Nat.le_of_lt_succ hc), ne_false_of_eq_true hoff⟩))
  · refine congrArg done ((State.darkBlock_eq hi hlen hdark hsat hv).trans ((if_pos hiqr).trans (if_neg ?_)))
    rw [State.lightIn, at_upd_self _ (hi.trans_eq hinputs.symm)]
    exact hfault
  · have hrun : min 8 ((at_ s.con.inputs i).rejRun + 1) = (at_ s.con.inputs i).rejRun + 1 := by omega
    have hinputs' : upd s.con.inputs i (fun l => { l with rejects := l.rejects + 1, rejRun := min 8 (l.rejRun + 1) }) =
        upd s.con.inputs i fun l => { l with rejects := l.rejects + 1, rejRun := l.rejRun + 1 } :=
      upd_congr (congrArg (fun n => { at_ s.con.inputs i with rejects := (at_ s.con.inputs i).rejects + 1, rejRun := n }) hrun)
    refine congrArg done ((State.darkBlock_eq hi hlen hdark hsat hv).trans ((if_neg hiqr).trans ((if_neg fun h => ?_).trans
      (congrArg (fun l => ({ s with con := { s.con with inputs := l } } : State)) hinputs'))))
    have hat := congrArg LightIn.rejRun (at_upd_self (l := s.con.inputs) (i := i)
      (fun l => { l with rejects := l.rejects + 1, rejRun := min 8 (l.rejRun + 1) }) (hi.trans_eq hinputs.symm))
    have h8 : min 8 ((at_ s.con.inputs i).rejRun + 1) = 8 := hat.symm.trans h.1
    omega
  · obtain ⟨free, evq, con, hstep, htick, hat, hkept, hnear⟩ := State.solverRun_spec hmode hfw hdue
    exact ⟨_, congrArg done hstep, htick, hat, hkept, hnear, rfl⟩

end Sys2Proof.Machine
end

section
/-! PROOFS. The events of the axes (12 R263, R271, R272, 13 R282 to R290). -/
namespace Sys2Proof.Machine

/-! ## One axis and its interface -/

/-- The state with one axis, its interface and the events as given. -/
def State.Sits (s : State) (a : Nat) (x : Axis) (o : AxisIo) (t : State) : Prop :=
  ∃ evq, t = { s with evq := evq, axes := upd s.axes a fun _ => x, ios := upd s.ios a fun _ => o }

section
variable {s t : State} {a : Nat} {x : Axis} {o : AxisIo}

theorem State.Sits.start (s : State) (a : Nat) : s.Sits a (at_ s.axes a) (at_ s.ios a) s := by
  have haxes : upd s.axes a (fun _ => at_ s.axes a) = s.axes := upd_self rfl
  have hios : upd s.ios a (fun _ => at_ s.ios a) = s.ios := upd_self rfl
  refine ⟨s.evq, ?_⟩
  rw [haxes, hios]

theorem State.Sits.at_axes (h : s.Sits a x o t) (ha : a < s.axes.length) : at_ t.axes a = x := by
  obtain ⟨evq, rfl⟩ := h
  exact at_upd_self _ ha

theorem State.Sits.at_ios (h : s.Sits a x o t) (ha : a < s.ios.length) : at_ t.ios a = o := by
  obtain ⟨evq, rfl⟩ := h
  exact at_upd_self _ ha

theorem State.Sits.at_other (h : s.Sits a x o t) {b : Nat} (hb : b ≠ a) : at_ t.axes b = at_ s.axes b := by
  obtain ⟨evq, rfl⟩ := h
  exact at_upd_ne _ hb.symm

theorem State.Sits.axis (h : s.Sits a x o t) (f : Axis → Axis) : s.Sits a (f x) o (t.axis a f) := by
  obtain ⟨evq, rfl⟩ := h
  exact ⟨evq, congrArg (fun l => { s with evq := evq, axes := l, ios := upd s.ios a fun _ => o }) (upd_upd ..)⟩

theorem State.Sits.io (h : s.Sits a x o t) (f : AxisIo → AxisIo) : s.Sits a x (f o) (t.io a f) := by
  obtain ⟨evq, rfl⟩ := h
  exact ⟨evq, congrArg (fun l => { s with evq := evq, axes := upd s.axes a fun _ => x, ios := l }) (upd_upd ..)⟩

theorem State.Sits.raiseIf (h : s.Sits a x o t) (c : Bool) (code src payload : Nat) : s.Sits a x o (t.raiseIf c code src payload) := by
  obtain ⟨evq, rfl⟩ := h
  obtain ⟨evq', hraise⟩ := State.raiseIf_evq { s with evq := evq, axes := upd s.axes a fun _ => x, ios := upd s.ios a fun _ => o }
    c code src payload
  exact ⟨evq', hraise⟩

theorem State.Sits.raise (h : s.Sits a x o t) (code src payload : Nat) : s.Sits a x o (t.raise code src payload) :=
  h.raiseIf true code src payload

/-- A step at the bus voltage of a motion axis. -/
theorem State.Sits.vbusSample (h : s.Sits a x o t) (pinMv : Nat) : ∃ vb vbHist vbLow vbOk vbState,
    s.Sits a { x with vb := vb, vbHist := vbHist, vbLow := vbLow, vbOk := vbOk, vbState := vbState } o (t.vbusSample a pinMv) := by
  unfold State.vbusSample
  dsimp only
  split
  · exact ⟨_, _, _, _, _, h⟩
  · split
    · exact ⟨_, _, _, _, _, h.axis _⟩
    · exact ⟨_, _, _, _, _, ((h.axis _).axis _).raiseIf ..⟩

/-- The set-point of a CLOSED axis. -/
theorem State.Sits.setpoint (h : s.Sits a x o t) : ∃ p v acc target newTarget moving rateClamped,
    s.Sits a x { o with
      p := p, v := v, a := acc, target := target, newTarget := newTarget, moving := moving, rateClamped := rateClamped } (t.setpoint a).2 := by
  have hclamp (r : Int) : ∃ rateClamped, s.Sits a x { o with rateClamped := rateClamped } (t.rateClamp a r).2 := by
    unfold State.rateClamp
    exact iteInduction (motive := fun u : State => ∃ rateClamped, s.Sits a x { o with rateClamped := rateClamped } u)
      (fun _ => ⟨_, h.io _⟩) fun _ => ⟨_, h⟩
  unfold State.setpoint
  dsimp only
  split
  · unfold State.genSetpoint
    exact ⟨_, _, _, _, _, _, _, (h.io _).raiseIf ..⟩
  · obtain ⟨_, hsits⟩ := hclamp (clampI (ioSoftLo (at_ t.ios a).record) (ioSoftHi (at_ t.ios a).record)
      (i32 (at_ t.ios a).ext 4 * median3 (at_ t.ios a).median + i32 (at_ t.ios a).ext 8 * 2 ^ 8))
    exact ⟨_, _, _, _, _, _, _, hsits⟩
  · obtain ⟨_, hsits⟩ := hclamp (clampI (ioSoftLo (at_ t.ios a).record) (ioSoftHi (at_ t.ios a).record) (at_ t.ios a).pExt)
    exact ⟨_, _, _, _, _, _, _, hsits⟩

theorem State.Sits.outputLimit (h : s.Sits a x o t) : ∃ limited, s.Sits a { x with limited := limited } o (t.outputLimit a) := by
  unfold State.outputLimit
  exact iteInduction (motive := fun u : State => ∃ limited, s.Sits a { x with limited := limited } o u)
    (fun _ => ⟨_, (h.axis _).raise ..⟩) fun _ =>
      iteInduction (motive := fun u : State => ∃ limited, s.Sits a { x with limited := limited } o u)
        (fun _ => ⟨_, (h.axis _).raise ..⟩) fun _ => ⟨_, h⟩

/-- The computation of a CLOSED sample. -/
theorem State.Sits.closedSample (h : s.Sits a x o t) (r y : Int) (fresh : Option Int) : ∃ limited dac ub frzCode frzRun frzU stallAt edgeSeen,
    s.Sits a { x.compute (bit (byteAt x.record 1) 0) r y fresh with limited := limited }
      { o with dac := dac, ub := ub, frzCode := frzCode, frzRun := frzRun, frzU := frzU, stallAt := stallAt, edgeSeen := edgeSeen }
      (t.closedSample a r y fresh) := by
  have hcomp := (h.axis fun x => x.compute (bit (byteAt x.record 1) 0) r y fresh)
  obtain ⟨u, hu⟩ : ∃ u, u = t.axis a fun x => x.compute (bit (byteAt x.record 1) 0) r y fresh := ⟨_, rfl⟩
  rw [← hu] at hcomp
  obtain ⟨limited, hlimit⟩ := (hcomp.io fun o => { o with
    dac := if a < 8 ∧ o.started u.now ∧ u.show_.bridgeLost = false then dacCode (at_ u.axes a).u else 0
    ub := (at_ u.axes a).uBus }).outputLimit
  have hstep : t.closedSample a r y fresh = ((u.io a fun o => { o with
      dac := if a < 8 ∧ o.started u.now ∧ u.show_.bridgeLost = false then dacCode (at_ u.axes a).u else 0
      ub := (at_ u.axes a).uBus }).outputLimit a).watchSample a (at_ t.axes a).r1 r := by
    rw [hu]
    rfl
  rw [hstep]
  exact ⟨limited, _, _, _, _, _, _, _, hlimit.io _⟩

/-- The loop closes. -/
theorem State.Sits.closeLoop (h : s.Sits a x o t) (preset : Option Int) (y : Int) : ∃ x' o', s.Sits a x' o' (t.closeLoop a preset y) ∧
    x'.state = 1 ∧ x'.closeAt = none ∧ x'.e = 0 ∧ x'.w = 0 ∧ x'.r1 = y ∧ o'.target = y := by
  have hzero : (satTo q39Lo q39Hi (y - y)).1 = 0 := by
    rw [sub_self]
    rfl
  obtain ⟨_, _, _, _, _, _, _, _, hsits⟩ := (((h.axis fun x => { x with
      state := 1, closeAt := none, held := false, clampRun := 0, freeRun := 0
      iVal := clampI (cf x.bank 8) (cf x.bank 9) (preset.getD x.iVal) }).io fun o => { o.setGen y with
      brake := false, rampStep := none, stallAt := none, frzRun := 0, frzU := [], edgeSeen := false }).raiseIf
      ((at_ t.axes a).state == 2) 0x0981 a 0).closedSample y y (some 0)
  exact ⟨_, _, hsits, rfl, rfl, hzero, rfl, rfl, rfl⟩

end

/-! ## One sample -/

section
variable {s t : State} {a : Nat} {x : Axis} {o : AxisIo}

theorem State.swapDue_of_none (hswap : (at_ s.axes a).swapAt = none) : s.swapDue a = (false, s) := by
  unfold State.swapDue
  dsimp only
  rw [hswap]

/-- A sample of an axis that is not CLOSED and is not about to close. -/
theorem State.sampleSteps_follows (hswap : (at_ s.axes a).swapAt = none) (hstate : (at_ s.axes a).state ≠ 1)
    (hclose : (at_ s.axes a).closeAt = none) (y : Int) :
    s.sampleSteps a y = (s.axis a fun x => x.follow y).io a fun o => { o with pExt := y, edgeSeen := false } := by
  unfold State.sampleSteps
  rw [State.swapDue_of_none hswap]
  dsimp only
  rw [if_neg fun h => hstate h.1, hclose]
  exact if_neg hstate

/-- A sample of a CLOSED axis that stays so. -/
theorem State.sampleSteps_closed (hswap : (at_ s.axes a).swapAt = none) (hstate : (at_ s.axes a).state = 1)
    (hclose : (at_ s.axes a).closeAt = none) (hopen : (at_ s.axes a).openAt = none) (y : Int) :
    s.sampleSteps a y = (s.setpoint a).2.closedSample a (s.setpoint a).1 y none := by
  unfold State.sampleSteps
  rw [State.swapDue_of_none hswap]
  dsimp only
  rw [hopen, if_neg fun h => Bool.false_ne_true h.2, hclose]
  exact if_pos hstate

/-- A sample at which the loop closes. -/
theorem State.sampleSteps_closes (hswap : (at_ s.axes a).swapAt = none) (hstate : (at_ s.axes a).state ≠ 1) {t0 : Nat}
    {preset : Option Int} (hclose : (at_ s.axes a).closeAt = some (t0, preset)) (ht0 : t0 < s.now) (y : Int) :
    s.sampleSteps a y = s.closeLoop a preset y := by
  have hfilter : (some (t0, preset)).filter (fun c : Nat × Option Int => s.past c.1) = some (t0, preset) :=
    Option.filter_some_pos (decide_eq_true ht0)
  unfold State.sampleSteps
  rw [State.swapDue_of_none hswap]
  dsimp only
  rw [if_neg fun h => hstate h.1, hclose, hfilter]

/-- Steps 1 to 4 of a sample: its instant, the records that waited for it, and the conversions. -/
def State.sampleBegin (s : State) (a : Nat) (m : SampleIn) : State :=
  let s := s.forward (s.nextSample a)
  let s := s.axis a fun x => { x with sampAt := some s.now, sampTick := s.tk.tick, sampOfs := s.offset }
  let s := s.io a fun o =>
    let d := s.dueRec o.detWait o.det
    let l := s.dueRec o.limWait o.lim
    { o with det := d.1, detWait := d.2, lim := l.1, limWait := l.2 }
  let s := s.vbusSample a m.vbusMv
  s.io a fun x => if ioSource x.record = 1 then m.spi.foldl AxisIo.extConv x else x

/-- What follows the steps of a sample on an axis of a head. -/
def State.sampleEnd (s : State) (a : Nat) : State :=
  if a < 8 then ((s.keepError a).noteError (a / 2)).notePark (a / 2) else s

/-- Conversions of the set-point input leave the record, the position and the detectors. -/
theorem AxisIo.foldl_extConv (l : List Int) (o : AxisIo) : (l.foldl AxisIo.extConv o).record = o.record ∧
    (l.foldl AxisIo.extConv o).raw = o.raw ∧ (l.foldl AxisIo.extConv o).det = o.det := by
  induction l generalizing o with
  | nil => exact ⟨rfl, rfl, rfl⟩
  | cons c l ih => exact ih (o.extConv c)

theorem State.dueRec_of_none (s : State) {wait : Option (Nat × Rec)} (hwait : wait = none) (cur : Rec) :
    (s.dueRec wait cur).1 = cur := by
  rw [hwait]
  rfl

/-- What the begin of a sample leaves of its axis. -/
def Axis.SampledFrom (x x0 : Axis) : Prop := ∃ sampAt sampTick sampOfs vb vbHist vbLow vbOk vbState, x = { x0 with
  sampAt := sampAt, sampTick := sampTick, sampOfs := sampOfs, vb := vb, vbHist := vbHist, vbLow := vbLow, vbOk := vbOk, vbState := vbState }

/-- What the begin of a sample leaves of the interface of its axis. -/
def AxisIo.SampledFrom (o o0 : AxisIo) : Prop :=
  o.record = o0.record ∧ o.raw = o0.raw ∧ (o0.detWait = none → o.det = o0.det)

theorem State.sampleBegin_sits (s : State) (a : Nat) (m : SampleIn) : ∃ x o, (s.forward (s.nextSample a)).Sits a x o (s.sampleBegin a m) ∧
    x.SampledFrom (at_ s.axes a) ∧ o.SampledFrom (at_ s.ios a) := by
  have hstart := State.Sits.start (s.forward (s.nextSample a)) a
  obtain ⟨u, hu⟩ : ∃ u, u = s.forward (s.nextSample a) := ⟨_, rfl⟩
  have haxis : at_ u.axes a = at_ s.axes a := hu ▸ rfl
  have hio : at_ u.ios a = at_ s.ios a := hu ▸ rfl
  rw [← hu, haxis, hio] at hstart
  unfold State.sampleBegin
  dsimp only
  rw [← hu]
  generalize at_ s.ios a = o0 at *
  generalize at_ s.axes a = x0 at *
  have htaken := (hstart.axis fun x => { x with sampAt := some u.now, sampTick := u.tk.tick, sampOfs := u.offset })
  obtain ⟨v, hv⟩ : ∃ v, v = u.axis a fun x => { x with sampAt := some u.now, sampTick := u.tk.tick, sampOfs := u.offset } := ⟨_, rfl⟩
  rw [← hv] at htaken ⊢
  obtain ⟨_, _, _, _, _, hvbus⟩ := (htaken.io fun o => { o with
    det := (v.dueRec o.detWait o.det).1, detWait := (v.dueRec o.detWait o.det).2
    lim := (v.dueRec o.limWait o.lim).1, limWait := (v.dueRec o.limWait o.lim).2 }).vbusSample m.vbusMv
  refine ⟨_, _, hvbus.io fun x => if ioSource x.record = 1 then m.spi.foldl AxisIo.extConv x else x,
    ⟨_, _, _, _, _, _, _, _, rfl⟩, ?_⟩
  obtain ⟨hrecord, hraw, hdet⟩ := AxisIo.foldl_extConv m.spi { o0 with
    det := (v.dueRec o0.detWait o0.det).1, detWait := (v.dueRec o0.detWait o0.det).2
    lim := (v.dueRec o0.limWait o0.lim).1, limWait := (v.dueRec o0.limWait o0.lim).2 }
  split
  · exact ⟨hrecord, hraw, fun hwait => hdet.trans (v.dueRec_of_none hwait _)⟩
  · exact ⟨rfl, rfl, fun hwait => v.dueRec_of_none hwait _⟩

theorem fastFb_of_sampledFrom (h : o.SampledFrom (at_ s.ios a)) : fastFb o = fastFb (at_ s.ios a) := by
  obtain ⟨hrecord, hraw, -⟩ := h
  unfold fastFb
  rw [hrecord, hraw]

/-- The feedback of a fast axis is its position, and costs nothing. -/
theorem State.feedback_fast {t : State} (hkind : ioKind (at_ t.ios a).record = 0) (m : SsiIn) :
    t.feedback a m = (fastFb (at_ t.ios a), t) := by
  unfold State.feedback
  simp only [hkind]

theorem State.axisSample_of_fast (ha : a ≤ 15) (hio : a < s.ios.length) (hkind : ioKind (at_ s.ios a).record = 0) (m : SampleIn) :
    s.axisSample a m = ((s.sampleBegin a m).sampleOrder a (fastFb (at_ s.ios a))).sampleEnd a := by
  obtain ⟨x, o, hsits, -, hkept⟩ := s.sampleBegin_sits a m
  have hobegin : at_ (s.sampleBegin a m).ios a = o := hsits.at_ios hio
  have hfeed := State.feedback_fast (t := s.sampleBegin a m) (a := a) ((congrArg (fun o : AxisIo => ioKind o.record) hobegin).trans
    ((congrArg ioKind hkept.1).trans hkind)) m.ssi
  rw [hobegin, fastFb_of_sampledFrom hkept] at hfeed
  have hstep : s.axisSample a m = (((s.sampleBegin a m).feedback a m.ssi).2.sampleOrder a
      ((s.sampleBegin a m).feedback a m.ssi).1).sampleEnd a := if_neg (by omega)
  rw [hstep, hfeed]

theorem State.sampleEnd_eq (s : State) (a : Nat) : ∃ heads errQ, s.sampleEnd a = { s with
    heads := heads, ios := upd s.ios a fun o => { o with errQ := errQ } } := by
  have hself : s.ios = upd s.ios a fun o => { o with errQ := (at_ s.ios a).errQ } := (upd_self rfl).symm
  unfold State.sampleEnd
  split
  · have hkeep : ∃ errQ, s.keepError a = { s with ios := upd s.ios a fun o => { o with errQ := errQ } } := ⟨_, rfl⟩
    obtain ⟨errQ, hkeep⟩ := hkeep
    rw [hkeep]
    unfold State.noteError
    dsimp only
    split <;> exact ⟨_, errQ, rfl⟩
  · exact ⟨s.heads, (at_ s.ios a).errQ, congrArg (fun l => { s with ios := l }) hself⟩

theorem State.friction_eq (s : State) (a : Nat) : ∃ pat evq, s.friction a = { s with pat := pat, evq := evq } := by
  have halert (p : Patina) (value : Nat) : ∃ pat evq,
      (({ s with pat := p } : State).paxis a fun p => { p with alerted := true }).patinaAlert a 3 value = { s with pat := pat, evq := evq } := by
    obtain ⟨evq, h⟩ := State.raiseIf_evq (({ s with pat := p } : State).paxis a fun p => { p with alerted := true }) true 0x1101 a
      (3 + 65536 * sat 16 value)
    exact ⟨_, evq, h⟩
  unfold State.friction
  dsimp only
  refine iteInduction (motive := fun t : State => ∃ pat evq, t = { s with pat := pat, evq := evq }) (fun _ => ⟨s.pat, s.evq, rfl⟩) fun _ => ?_
  obtain ⟨p, hp⟩ : ∃ p, s.paxis a (fun p => (if 0 < (at_ s.axes a).r1 - (at_ s.axes a).r2
      then { p with posSum := p.posSum + (at_ s.axes a).iVal, posCount := p.posCount + 1 }
      else { p with negSum := p.negSum + (at_ s.axes a).iVal, negCount := p.negCount + 1 }).form) = { s with pat := p } := ⟨_, rfl⟩
  rw [hp]
  split
  · exact iteInduction (motive := fun t : State => ∃ pat evq, t = { s with pat := pat, evq := evq }) (fun _ => halert p _)
      fun _ => ⟨p, s.evq, rfl⟩
  · exact ⟨p, s.evq, rfl⟩

/-- What stands after a sample of a fast axis, from what its steps leave. -/
theorem axisSample_ends (ha : a ≤ 15) (hio : a < s.ios.length) (hkind : ioKind (at_ s.ios a).record = 0) (m : SampleIn) {u : State}
    (hu : (s.sampleBegin a m).sampleOrder a (fastFb (at_ s.ios a)) = u) : ∃ t, exec (.axisSample a m) s = .next t ∧
    t.axes = u.axes ∧ (∃ errQ, t.ios = upd u.ios a fun o => { o with errQ := errQ }) ∧
    t.tk = u.tk ∧ t.com = u.com ∧ t.mbx = u.mbx ∧
    ((at_ u.axes a).state ≠ 1 → t = { u with src := t.src, con := t.con, heads := t.heads, ios := t.ios, show_ := t.show_ }) := by
  obtain ⟨heads, errQ, hend⟩ := u.sampleEnd_eq a
  have hsample := State.axisSample_of_fast ha hio hkind m
  rw [hu, hend] at hsample
  obtain ⟨v, hv⟩ : ∃ v : State, v = { u with heads := heads, ios := upd u.ios a fun o => { o with errQ := errQ } } := ⟨_, rfl⟩
  rw [← hv] at hsample
  have hexec : exec (.axisSample a m) s = done (if (at_ v.axes a).state = 1 ∧ a < 16 then v.friction a else v) :=
    congrArg (fun v : State => done (if (at_ v.axes a).state = 1 ∧ a < 16 then v.friction a else v)) hsample
  obtain ⟨pat, evq, hfriction⟩ := v.friction_eq a
  by_cases hclosed : (at_ u.axes a).state = 1
  · have hstate : (at_ v.axes a).state = 1 := hv ▸ hclosed
    rw [if_pos ⟨hstate, by omega⟩, hfriction, hv] at hexec
    exact ⟨_, hexec, rfl, ⟨errQ, rfl⟩, rfl, rfl, rfl, fun h => absurd hclosed h⟩
  · have hstate : (at_ v.axes a).state ≠ 1 := hv ▸ hclosed
    rw [if_neg fun h => hstate h.1, hv] at hexec
    exact ⟨_, hexec, rfl, ⟨errQ, rfl⟩, rfl, rfl, rfl, fun _ => rfl⟩

/-- An axis that is not in heel comes to it with one cause. -/
theorem State.heel_of_unheeled (hstate : (at_ s.axes a).state ≠ 2) (cause : Nat) :
    (s.heel a cause).axes = (upd s.axes a fun x => { x with state := 2, closeAt := none, openAt := none }) ∧
    ∃ f : AxisIo → AxisIo, (s.heel a cause).ios = upd s.ios a f ∧ ∀ o, (f o).causes = 2 ^ cause ∧ (f o).badAt = o.badAt := by
  unfold State.heel
  rw [if_neg hstate]
  dsimp only
  obtain ⟨u, hu⟩ : ∃ u : State, u = ((s.axis a fun x => { x with state := 2, closeAt := none, openAt := none }).io a fun x => { x with
    causes := 2 ^ cause, brake := x.brake || decide (8 ≤ a), rampFrom := x.dac
    rampStep := if a < 8 ∧ x.startAt.isSome then some 0 else none
    rampAt := (s.axis a fun x => { x with state := 2, closeAt := none, openAt := none }).now, stallAt := none, frzRun := 0
    frzU := [] }).raise 0x0981 a (1 + 256 * cause) := ⟨_, rfl⟩
  rw [← hu]
  have hmove : (u.endMove a 1).axes = upd s.axes a (fun x => { x with state := 2, closeAt := none, openAt := none }) ∧
      ∃ f : AxisIo → AxisIo, (u.endMove a 1).ios = upd s.ios a f ∧ ∀ o, (f o).causes = 2 ^ cause ∧ (f o).badAt = o.badAt := by
    obtain ⟨evq, hraise⟩ := State.raiseIf_evq (u.io a fun x => { x with moving := false, newTarget := none, armed := none })
      ((at_ u.ios a).moving || (at_ u.ios a).newTarget.isSome) 0x0982 a 1
    have hios : (u.endMove a 1).ios = upd u.ios a fun x => { x with moving := false, newTarget := none, armed := none } :=
      (congrArg State.ios hraise).trans rfl
    rw [hu] at hios ⊢
    exact ⟨State.endMove_axes .., _, hios.trans (upd_upd ..), fun o => ⟨rfl, rfl⟩⟩
  obtain ⟨v, hv⟩ : ∃ v, v = u.endMove a 1 := ⟨_, rfl⟩
  rw [← hv] at hmove ⊢
  obtain ⟨_, _, _, _, hblank⟩ := v.blankHead_beamMoves (a / 2) (2 + a % 2)
  rw [hblank]
  split <;> exact hmove

/-- Detector 0 alone fires on a fast axis. -/
theorem State.firing_fast (hkind : ioKind (at_ s.ios a).record = 0) {cause : Nat} (hfires : s.firing a = some cause) :
    dtArmed (at_ s.ios a).det 0 = true := by
  unfold State.firing at hfires
  dsimp only at hfires
  split at hfires
  · next hzero => exact hzero.2.2.2
  · split at hfires
    · rw [hkind, if_neg fun h => h.1.elim (by decide) (by decide)] at hfires
      exact absurd hfires.symm (Option.some_ne_none _)
    · exact absurd hfires.symm (Option.some_ne_none _)

/-- The steps of a sample on an axis that is not CLOSED when it begins. -/
theorem State.sampleOrder_of_unclosed (hstate : (at_ s.axes a).state ≠ 1) (y : Int) : s.sampleOrder a y = s.sampleSteps a y := by
  unfold State.sampleOrder
  dsimp only
  rw [if_neg fun h => hstate h.1]

theorem State.Sits.axisMoves (h : s.Sits a x o t) : s.AxisMoves t := by
  obtain ⟨evq, rfl⟩ := h
  exact ⟨_, _, s.heads, s.src.sinks, s.fetch.inflight, evq, rfl⟩

/-- A CLOSED sample of a fast axis: the computation stands, or detector 0 has sent the axis to heel. -/
theorem State.sampleOrder_closed (hlen : a < s.axes.length) (hio : a < s.ios.length) (hx : at_ s.axes a = x) (ho : at_ s.ios a = o)
    (hstate : x.state = 1) (hclose : x.closeAt = none) (hopen : x.openAt = none) (hswap : x.swapAt = none)
    (hkind : ioKind o.record = 0) (y : Int) : s.AxisMoves (s.sampleOrder a y) ∧
    (∀ b, b ≠ a → at_ (s.sampleOrder a y).axes b = at_ s.axes b) ∧
    ((∃ limited, at_ (s.sampleOrder a y).axes a =
        { x.compute (bit (byteAt x.record 1) 0) (s.setpoint a).1 y none with limited := limited }) ∨
      (at_ (s.sampleOrder a y).axes a).state = 2 ∧ (at_ (s.sampleOrder a y).axes a).y = y ∧ dtArmed o.det 0 = true) := by
  have hsits := State.Sits.start s a
  rw [hx, ho] at hsits
  obtain ⟨_, _, _, _, _, _, _, hset⟩ := hsits.setpoint
  obtain ⟨limited, _, _, _, _, _, _, _, hclosed⟩ := hset.closedSample (s.setpoint a).1 y none
  have hsteps := State.sampleSteps_closed (s := s) (a := a) (by rw [hx, hswap]) (by rw [hx, hstate]) (by rw [hx, hclose])
    (by rw [hx, hopen]) y
  rw [← hsteps] at hclosed
  unfold State.sampleOrder
  dsimp only
  obtain ⟨t, ht⟩ : ∃ t, t = s.sampleSteps a y := ⟨_, rfl⟩
  rw [← ht] at hclosed ⊢
  have hat := hclosed.at_axes hlen
  have hatIo := hclosed.at_ios hio
  rw [if_pos ⟨by rw [hx, hstate], (congrArg Axis.state hat).trans hstate⟩]
  obtain hquiet | ⟨cause, hfires⟩ : t.firing a = none ∨ ∃ cause, t.firing a = some cause := by
    cases t.firing a with
    | none => exact .inl rfl
    | some cause => exact .inr ⟨cause, rfl⟩
  · rw [hquiet]
    exact ⟨hclosed.axisMoves, fun b hb => hclosed.at_other hb, .inl ⟨limited, hat⟩⟩
  · have harmed := State.firing_fast ((congrArg (fun o : AxisIo => ioKind o.record) hatIo).trans hkind) hfires
    rw [congrArg AxisIo.det hatIo] at harmed
    obtain ⟨haxes, -⟩ := s.heel_of_unheeled (a := a) (by rw [hx, hstate]; decide) cause
    have hheeled : at_ (s.heel a cause).axes a = { x with state := 2, closeAt := none, openAt := none } :=
      (congrArg (at_ · a) haxes).trans ((at_upd_self _ hlen).trans (by rw [hx]))
    have hlenHeel : a < (s.heel a cause).axes.length := by rw [haxes, upd_length]; exact hlen
    have hother (b : Nat) (hb : b ≠ a) : at_ (s.heel a cause).axes b = at_ s.axes b :=
      (congrArg (at_ · b) haxes).trans (at_upd_ne _ hb.symm)
    have hmoves := s.heel_axisMoves a cause
    rw [hfires]
    dsimp only
    obtain ⟨v, hv⟩ : ∃ v, v = s.heel a cause := ⟨_, rfl⟩
    rw [← hv] at hheeled hlenHeel hother hmoves ⊢
    rw [State.sampleSteps_follows (by rw [hheeled]; exact hswap) (by rw [hheeled]; exact (by decide : (2 : Nat) ≠ 1)) (by rw [hheeled]) y]
    have hfollow : at_ ((v.axis a fun x => x.follow y).io a fun o => { o with pExt := y, edgeSeen := false }).axes a =
        Axis.follow { x with state := 2, closeAt := none, openAt := none } y :=
      (at_upd_self _ hlenHeel).trans (by rw [hheeled])
    refine ⟨(hmoves.trans (State.axis_axisMoves ..)).trans (State.io_axisMoves ..),
      fun b hb => (at_upd_ne _ hb.symm).trans (hother b hb), .inr ?_⟩
    rw [hfollow]
    exact ⟨rfl, rfl, harmed⟩

/-- A sample in FOLLOW or in heel. -/
theorem axisSample_follows (ha : a ≤ 15) (hlen : s.axes.length = 16) (hlenIo : s.ios.length = 16) (hx : at_ s.axes a = x)
    (ho : at_ s.ios a = o) (m : SampleIn) (hstate : x.state ≠ 1) (hclose : x.closeAt = none) (hswap : x.swapAt = none)
    (hkind : ioKind o.record = 0) : ∃ t : State,
    exec (.axisSample a m) s = .next t ∧ t.now = max s.now (s.nextSample a) ∧
    (at_ t.axes a).y = fastFb o ∧ (at_ t.axes a).r1 = fastFb o ∧ (at_ t.axes a).r2 = x.r1 ∧ (at_ t.axes a).u = x.u ∧
    (at_ t.axes a).state = x.state ∧ (at_ t.axes a).iVal = x.iVal ∧ (∀ b, b ≠ a → at_ t.axes b = at_ s.axes b) ∧
    t = { s with
      now := t.now, evq := t.evq, src := t.src, con := t.con, heads := t.heads, axes := t.axes, ios := t.ios,
      show_ := t.show_ } := by
  subst hx ho
  obtain ⟨x1, o1, hsits, ⟨_, _, _, _, _, _, _, _, hx1⟩, -⟩ := s.sampleBegin_sits a m
  have hat : at_ (s.sampleBegin a m).axes a = x1 := hsits.at_axes (by show a < s.axes.length; omega)
  have hatState : (at_ (s.sampleBegin a m).axes a).state ≠ 1 := by rw [hat, hx1]; exact hstate
  have hsteps : (s.sampleBegin a m).sampleOrder a (fastFb (at_ s.ios a)) =
      ((s.sampleBegin a m).axis a fun x => x.follow (fastFb (at_ s.ios a))).io a fun o => { o with
        pExt := fastFb (at_ s.ios a), edgeSeen := false } :=
    (State.sampleOrder_of_unclosed hatState _).trans (State.sampleSteps_follows (by rw [hat, hx1]; exact hswap) hatState
      (by rw [hat, hx1]; exact hclose) _)
  have hfollows := (hsits.axis fun x => x.follow (fastFb (at_ s.ios a))).io fun o => { o with
    pExt := fastFb (at_ s.ios a), edgeSeen := false }
  obtain ⟨t, hexec, haxes, -, -, -, -, hframe⟩ := axisSample_ends ha (by omega) hkind m hsteps
  obtain ⟨u, hu⟩ : ∃ u, u = ((s.sampleBegin a m).axis a fun x => x.follow (fastFb (at_ s.ios a))).io a fun o => { o with
    pExt := fastFb (at_ s.ios a), edgeSeen := false } := ⟨_, rfl⟩
  rw [← hu] at hfollows haxes hframe
  have hatEnd : at_ t.axes a = x1.follow (fastFb (at_ s.ios a)) :=
    (congrArg (at_ · a) haxes).trans (hfollows.at_axes (by show a < s.axes.length; omega))
  have hother (b : Nat) (hb : b ≠ a) : at_ t.axes b = at_ s.axes b := (congrArg (at_ · b) haxes).trans (hfollows.at_other hb)
  have hframe := hframe (by
    rw [hfollows.at_axes (by show a < s.axes.length; omega), hx1]
    exact hstate)
  have hfollow : at_ t.axes a = Axis.follow { at_ s.axes a with
    sampAt := x1.sampAt, sampTick := x1.sampTick, sampOfs := x1.sampOfs, vb := x1.vb, vbHist := x1.vbHist, vbLow := x1.vbLow
    vbOk := x1.vbOk, vbState := x1.vbState } (fastFb (at_ s.ios a)) := by
    rw [hatEnd, hx1]
  obtain ⟨_, rfl⟩ := hfollows
  refine ⟨t, hexec, by rw [hframe]; rfl, ?_⟩
  rw [hfollow]
  exact ⟨rfl, rfl, rfl, rfl, rfl, rfl, hother, by rw [hframe]; rfl⟩

/-- A CLOSED sample. -/
theorem axisSample_closed (ha : a ≤ 15) (hlen : s.axes.length = 16) (hlenIo : s.ios.length = 16) (hx : at_ s.axes a = x)
    (ho : at_ s.ios a = o) (m : SampleIn) (hstate : x.state = 1) (hclose : x.closeAt = none) (hopen : x.openAt = none)
    (hswap : x.swapAt = none) (hkind : ioKind o.record = 0) : ∃ (t : State) (r : Int) (z : Axis),
    exec (.axisSample a m) s = .next t ∧ z = x.compute (bit (byteAt x.record 1) 0) r (fastFb o) none ∧
    ((at_ t.axes a).state = 1 ∨ (at_ t.axes a).state = 2) ∧ (at_ t.axes a).y = fastFb o ∧
    ((at_ t.axes a).state = 1 ∨ (o.detWait = none ∧ dtArmed o.det 0 = false) →
      (at_ t.axes a).r1 = r ∧ (at_ t.axes a).r2 = x.r1 ∧ (at_ t.axes a).e = z.e ∧ (at_ t.axes a).iVal = z.iVal ∧
      (at_ t.axes a).w = z.w ∧ (at_ t.axes a).v1 = z.v1 ∧ (at_ t.axes a).w1 = z.w1 ∧ (at_ t.axes a).u = z.u ∧
      (at_ t.axes a).satCount = z.satCount) ∧
    (∀ b, b ≠ a → at_ t.axes b = at_ s.axes b) ∧ t.tk = s.tk ∧ t.com = s.com ∧ t.mbx = s.mbx := by
  obtain ⟨x1, o1, hsits, ⟨_, _, _, _, _, _, _, _, hx1⟩, hrecord, -, hdet⟩ := s.sampleBegin_sits a m
  rw [hx] at hx1
  rw [ho] at hrecord hdet
  have hat : at_ (s.sampleBegin a m).axes a = x1 := hsits.at_axes (by show a < s.axes.length; omega)
  have hatIo : at_ (s.sampleBegin a m).ios a = o1 := hsits.at_ios (by show a < s.ios.length; omega)
  have hlenBegin : (s.sampleBegin a m).axes.length = 16 ∧ (s.sampleBegin a m).ios.length = 16 ∧ (s.sampleBegin a m).tk = s.tk ∧
      (s.sampleBegin a m).com = s.com ∧ (s.sampleBegin a m).mbx = s.mbx := by
    obtain ⟨_, hbegin⟩ := hsits
    rw [hbegin]
    exact ⟨(upd_length ..).trans hlen, (upd_length ..).trans hlenIo, rfl, rfl, rfl⟩
  obtain ⟨hlenAxes, hlenIos, htk, hcom, hmbx⟩ := hlenBegin
  have hbegin (b : Nat) (hb : b ≠ a) : at_ (s.sampleBegin a m).axes b = at_ s.axes b := hsits.at_other hb
  obtain ⟨v, hv⟩ : ∃ v, v = s.sampleBegin a m := ⟨_, rfl⟩
  rw [← hv] at hat hatIo hlenAxes hlenIos htk hcom hmbx hbegin
  obtain ⟨⟨_, _, _, _, _, _, hmoves⟩, hother, hresult⟩ := State.sampleOrder_closed (by omega) (by omega) hat hatIo (by rw [hx1]; exact hstate)
    (by rw [hx1]; exact hclose) (by rw [hx1]; exact hopen) (by rw [hx1]; exact hswap) (by rw [hrecord]; exact hkind) (fastFb o)
  obtain ⟨t, hexec, haxes, -, htkEnd, hcomEnd, hmbxEnd, -⟩ := axisSample_ends (s := s) ha (by omega) (by rw [ho]; exact hkind) m
    (u := v.sampleOrder a (fastFb o)) (by rw [ho, hv])
  have hframe : t.tk = s.tk ∧ t.com = s.com ∧ t.mbx = s.mbx := by
    rw [htkEnd, hcomEnd, hmbxEnd, hmoves]
    exact ⟨htk, hcom, hmbx⟩
  have hkept (b : Nat) (hb : b ≠ a) : at_ t.axes b = at_ s.axes b :=
    (congrArg (at_ · b) haxes).trans ((hother b hb).trans (hbegin b hb))
  rw [← haxes] at hresult
  refine ⟨t, (v.setpoint a).1, _, hexec, rfl, ?_⟩
  rcases hresult with ⟨limited, hcomputed⟩ | ⟨hheeled, hy, harmed⟩
  · rw [hcomputed, hx1]
    exact ⟨.inl hstate, rfl, fun _ => ⟨rfl, rfl, rfl, rfl, rfl, rfl, rfl, rfl, rfl⟩, hkept, hframe⟩
  · refine ⟨.inr hheeled, hy, fun h => ?_, hkept, hframe⟩
    rcases h with hclosed | ⟨hwait, hunarmed⟩
    · exact absurd (hheeled.symm.trans hclosed) (by decide)
    · rw [hdet hwait, hunarmed] at harmed
      exact absurd harmed Bool.false_ne_true

/-- The sample at which the loop closes. -/
theorem axisSample_closes (ha : a ≤ 15) (hlen : s.axes.length = 16) (hlenIo : s.ios.length = 16) (hx : at_ s.axes a = x)
    (ho : at_ s.ios a = o) (m : SampleIn) {t0 : Nat} {preset : Option Int} (hstate : x.state = 0)
    (hclose : x.closeAt = some (t0, preset)) (ht0 : t0 < max s.now (s.nextSample a)) (hswap : x.swapAt = none)
    (hkind : ioKind o.record = 0) : ∃ t : State, exec (.axisSample a m) s = .next t ∧
    ((at_ t.axes a).state = 1 ∨ (at_ t.axes a).state = 2) ∧ (at_ t.axes a).closeAt = none ∧
    (at_ t.axes a).e = 0 ∧ (at_ t.axes a).w = 0 ∧ (at_ t.axes a).r1 = fastFb o ∧ (at_ t.ios a).target = fastFb o := by
  obtain ⟨x1, o1, hsits, ⟨_, _, _, _, _, _, _, _, hx1⟩, -⟩ := s.sampleBegin_sits a m
  rw [hx] at hx1
  have hat : at_ (s.sampleBegin a m).axes a = x1 := hsits.at_axes (by show a < s.axes.length; omega)
  have hnow : (s.sampleBegin a m).now = max s.now (s.nextSample a) := by
    obtain ⟨_, hbegin⟩ := hsits
    rw [hbegin]
    rfl
  have hatState : (at_ (s.sampleBegin a m).axes a).state ≠ 1 := by
    rw [hat, hx1]
    exact fun h => absurd (hstate.symm.trans h) (by decide)
  have hsteps : (s.sampleBegin a m).sampleOrder a (fastFb o) = (s.sampleBegin a m).closeLoop a preset (fastFb o) :=
    (State.sampleOrder_of_unclosed hatState _).trans (State.sampleSteps_closes (by rw [hat, hx1]; exact hswap) hatState
      (by rw [hat, hx1]; exact hclose) (by rw [hnow]; exact ht0) _)
  obtain ⟨x', o', hcloses, hone, hdone, he, hw, hr1, htarget⟩ := hsits.closeLoop preset (fastFb o)
  obtain ⟨t, hexec, haxes, ⟨errQ, hios⟩, -⟩ := axisSample_ends (s := s) ha (by omega) (by rw [ho]; exact hkind) m
    (u := (s.sampleBegin a m).closeLoop a preset (fastFb o)) (by rw [ho, hsteps])
  obtain ⟨u, hu⟩ : ∃ u, u = (s.sampleBegin a m).closeLoop a preset (fastFb o) := ⟨_, rfl⟩
  rw [← hu] at hcloses haxes hios
  have hatEnd : at_ t.axes a = x' := (congrArg (at_ · a) haxes).trans (hcloses.at_axes (by show a < s.axes.length; omega))
  have hlenEnd : a < u.ios.length := by
    obtain ⟨_, hend⟩ := hcloses
    rw [hend]
    exact (upd_length ..).symm ▸ (by show a < s.ios.length; omega)
  have hatIo : at_ t.ios a = { o' with errQ := errQ } := (congrArg (at_ · a) hios).trans ((at_upd_self _ hlenEnd).trans
    (by rw [hcloses.at_ios (by show a < s.ios.length; omega)]))
  refine ⟨t, hexec, ?_⟩
  rw [hatEnd, hatIo]
  exact ⟨.inl hone, hdone, he, hw, hr1, htarget⟩

/-! ## The ramp, steps, edges, conversions and drive periods -/

theorem exec_heelRampStep (ho : at_ s.ios a = o) {k : Nat} (hramp : o.rampStep = some k) :
    exec (.heelRampStep a) s = .next ({ s with
      now := max s.now (o.rampAt + 400 * (k + 1)),
      ios := upd s.ios a fun x => { x with
        dac := roundDiv (x.rampFrom * ((1000 - (k + 1) : Nat) : Int)) 1000,
        rampStep := if k + 1 < 1000 then some (k + 1) else none } }).settle := by
  have hstep : s.heelRamp a = { s with
      now := max s.now (o.rampAt + 400 * (k + 1)),
      ios := upd s.ios a fun x => { x with
        dac := roundDiv (x.rampFrom * ((1000 - (k + 1) : Nat) : Int)) 1000,
        rampStep := if k + 1 < 1000 then some (k + 1) else none } } := by
    unfold State.heelRamp
    simp only [ho, hramp]
    rfl
  exact congrArg done hstep

/-- A step of the external input that comes early enough after the last one. -/
def AxisIo.early (o : AxisIo) (now : Nat) : Bool := o.stepAt.any fun t => decide (now < t + exStepMin o.ext)

theorem State.extStep_eq (ho : at_ s.ios a = o) (hsource : ioSource o.record = 2) (hstate : (at_ s.axes a).state = 1) (dir : Bool) :
    s.extStep a dir = if o.early s.now then s.io a fun x => { x with stepsClamped := x.stepsClamped + 1 }
      else s.io a fun y => { y with
        pExt := y.pExt + (if dir != bit (byteAt o.ext 1) 0 then (u32 o.ext 0x0C : Int) else -(u32 o.ext 0x0C : Int)),
        stepAt := some s.now } := by
  unfold State.extStep AxisIo.early
  dsimp only
  rw [ho, if_neg fun h => h.elim (· hsource) (· hstate)]
  cases o.stepAt <;> rfl

theorem exec_extStep (ho : at_ s.ios a = o) (hsource : ioSource o.record = 2) (hstate : (at_ s.axes a).state = 1) (dir : Bool)
    (hstep : ∀ t0, o.stepAt = some t0 → t0 + exStepMin o.ext ≤ s.now) : exec (.extStepInput a dir) s = .next
      ({ s with ios := upd s.ios a fun y => { y with
        pExt := y.pExt + (if dir != bit (byteAt o.ext 1) 0 then (u32 o.ext 0x0C : Int) else -(u32 o.ext 0x0C : Int)),
        stepAt := some s.now } }).settle := by
  have hearly : o.early s.now = false := by
    unfold AxisIo.early
    cases hat : o.stepAt with
    | none => rfl
    | some t0 => exact decide_eq_false (Nat.not_lt.mpr (hstep t0 hat))
  exact congrArg done ((State.extStep_eq ho hsource hstate dir).trans (if_neg (ne_true_of_eq_false hearly)))

theorem exec_extStep_early (ho : at_ s.ios a = o) (hsource : ioSource o.record = 2) (hstate : (at_ s.axes a).state = 1) (dir : Bool)
    {t0 : Nat} (hstep : o.stepAt = some t0) (hlt : s.now < t0 + exStepMin o.ext) : exec (.extStepInput a dir) s = .next
      ({ s with ios := upd s.ios a fun y => { y with stepsClamped := y.stepsClamped + 1 } }).settle := by
  have hearly : o.early s.now = true := by
    unfold AxisIo.early
    rw [hstep]
    exact decide_eq_true hlt
  exact congrArg done ((State.extStep_eq ho hsource hstate dir).trans (if_pos hearly))

/-- An edge of the encoder, counted. -/
def AxisIo.edge (b1 b2 : Bool) (y : AxisIo) : AxisIo := { y with
  count := signed 32 (pattern 32 (y.count + quadStep y.encA y.encB b1 b2)), encA := b1, encB := b2,
  edgeSeen := y.edgeSeen || (y.encA != b1) || (y.encB != b2) }

theorem exec_encoderEdge (ho : at_ s.ios a = o) (hkind : ioKind o.record = 1) (b1 b2 : Bool) (gap : Nat)
    (hedge : (o.encA = b1 ∨ o.encB = b2) ∧ ((o.encA = b1 ∧ o.encB = b2) ∨ 14 ≤ gap)) :
    exec (.encoderEdge a b1 b2 false gap) s = .next ({ s with ios := upd s.ios a (AxisIo.edge b1 b2) }).settle := by
  have hclean : ¬ (((o.encA != b1) && (o.encB != b2)) || (((o.encA != b1) || (o.encB != b2)) && decide (gap < 14))) = true := by
    obtain ⟨hone, htwo⟩ := hedge
    simp only [Bool.or_eq_true, Bool.and_eq_true, bne_iff_ne, decide_eq_true_eq]
    rintro (⟨hA, hB⟩ | ⟨hAB, hgap⟩)
    · exact hone.elim hA hB
    · exact htwo.elim (fun h => hAB.elim (· h.1) (· h.2)) fun h => Nat.not_lt.mpr h hgap
  have hcount : (s.io a fun x => { x with
      count := signed 32 (pattern 32 (x.count + quadStep x.encA x.encB b1 b2)), encA := b1, encB := b2
      edgeSeen := x.edgeSeen || (o.encA != b1) || (o.encB != b2) }) = s.io a (AxisIo.edge b1 b2) :=
    congrArg (fun l => { s with ios := l }) (upd_congr (by rw [ho]; rfl))
  have hstep : s.encoderEdge a b1 b2 false gap = s.io a (AxisIo.edge b1 b2) := by
    unfold State.encoderEdge
    dsimp only
    rw [ho, if_neg (not_not.mpr hkind), if_neg hclean]
    exact hcount
  exact congrArg done hstep

/-- An armed detector sends a CLOSED axis to heel. -/
theorem State.detect_heels (hlen : a < s.axes.length) (hlenIo : a < s.ios.length) {cause : Nat}
    (harmed : dtArmed (at_ s.ios a).det cause = true) (hstate : (at_ s.axes a).state = 1) :
    (at_ (s.detect a cause).axes a).state = 2 ∧ (at_ (s.detect a cause).ios a).causes = 2 ^ cause ∧
    (at_ (s.detect a cause).ios a).badAt = s.now := by
  have hstep : s.detect a cause = if (at_ s.axes a).state = 0 then s.fbBad a else (s.fbBad a).heel a cause := if_pos harmed
  rw [hstep, if_neg (by rw [hstate]; decide)]
  obtain ⟨u, hu⟩ : ∃ u, u = s.fbBad a := ⟨_, rfl⟩
  have haxesBad : u.axes = s.axes := hu ▸ rfl
  have hiosBad : u.ios = upd s.ios a fun x => { x with badAt := s.now } := hu ▸ rfl
  rw [← hu]
  obtain ⟨haxes, g, hios, hg⟩ := State.heel_of_unheeled (s := u) (a := a) (by rw [haxesBad, hstate]; decide) cause
  have hatIo : at_ (u.heel a cause).ios a = g { at_ s.ios a with badAt := s.now } := by
    rw [hios, hiosBad, at_upd_self _ (by rw [upd_length]; exact hlenIo), at_upd_self _ hlenIo]
  obtain ⟨hcauses, hbad⟩ := hg { at_ s.ios a with badAt := s.now }
  rw [hatIo, haxes, haxesBad, at_upd_self _ hlen]
  exact ⟨rfl, hcauses, hbad⟩

/-- Both channels of the encoder changed at once. -/
theorem State.encoderEdge_both (ho : at_ s.ios a = o) (hkind : ioKind o.record = 1) (b1 b2 z : Bool) (gap : Nat) (hA : o.encA ≠ b1)
    (hB : o.encB ≠ b2) : ∃ f : AxisIo → AxisIo,
    s.encoderEdge a b1 b2 z gap = ({ s with ios := upd s.ios a f } : State).detect a 4 ∧ ∀ o, (f o).det = o.det := by
  have hboth : (((o.encA != b1) && (o.encB != b2)) || (((o.encA != b1) || (o.encB != b2)) && decide (gap < 14))) = true := by
    rw [bne_iff_ne.mpr hA, bne_iff_ne.mpr hB]
    rfl
  have hbad (t : State) (f : AxisIo → AxisIo) (ht : t = { s with ios := upd s.ios a f }) (hdet : ∀ o, (f o).det = o.det) :
      ∃ f : AxisIo → AxisIo, (t.fbBad a).detect a 4 = ({ s with ios := upd s.ios a f } : State).detect a 4 ∧ ∀ o, (f o).det = o.det := by
    refine ⟨fun o => { f o with badAt := s.now }, congrArg (State.detect · a 4) ?_, hdet⟩
    rw [ht]
    exact congrArg (fun l => { s with ios := l }) (upd_upd ..)
  unfold State.encoderEdge
  dsimp only
  rw [ho, if_neg (not_not.mpr hkind), if_pos hboth]
  split
  · exact hbad _ (fun y => { AxisIo.edge b1 b2 y with zCount := (AxisIo.edge b1 b2 y).count, edgeSeen := y.edgeSeen || (o.encA != b1) || (o.encB != b2) })
      (congrArg (fun l => { s with ios := l }) (upd_upd ..)) fun _ => rfl
  · exact hbad _ _ rfl fun _ => rfl

theorem exec_encoderEdge_both (hlen : a < s.axes.length) (hlenIo : a < s.ios.length) (ho : at_ s.ios a = o)
    (hkind : ioKind o.record = 1) (b1 b2 z : Bool) (gap : Nat) (hA : o.encA ≠ b1) (hB : o.encB ≠ b2)
    (harmed : dtArmed o.det 4 = true) (hstate : (at_ s.axes a).state = 1) : ∃ t : State,
    exec (.encoderEdge a b1 b2 z gap) s = .next t ∧ (at_ t.axes a).state = 2 ∧ (at_ t.ios a).causes = 2 ^ 4 ∧
    (at_ t.ios a).badAt = s.now := by
  obtain ⟨f, hedge, hdet⟩ := State.encoderEdge_both ho hkind b1 b2 z gap hA hB
  obtain ⟨u, hu⟩ : ∃ u : State, u = { s with ios := upd s.ios a f } := ⟨_, rfl⟩
  rw [← hu] at hedge
  have haxes : u.axes = s.axes := hu ▸ rfl
  have hios : u.ios = upd s.ios a f := hu ▸ rfl
  have hnow : u.now = s.now := hu ▸ rfl
  have hheels := State.detect_heels (s := u) (a := a) (cause := 4) (by rw [haxes]; exact hlen)
    (by rw [hios, upd_length]; exact hlenIo) (by rw [hios, at_upd_self _ hlenIo, hdet, ho]; exact harmed) (by rw [haxes]; exact hstate)
  rw [hnow] at hheels
  obtain ⟨v, hv⟩ : ∃ v, v = u.detect a 4 := ⟨_, rfl⟩
  rw [← hv] at hedge hheels
  exact ⟨_, congrArg done hedge, hheels⟩

theorem exec_positionConv (ha : a ≤ 15) (hlenIo : a < s.ios.length) (code full : Int) (hfull : full = if a < 8 then 131072 else 32768)
    (hlo : -full < code) (hhi : code < full - 1) : exec (.feedbackConversion a (.position code)) s =
      .next ((fun (u : State) => if a < 8 then u.notePark (a / 2) else u)
        { s with ios := upd s.ios a fun y => { y with raw := code, satRun := 0 } }).settle := by
  have hinner : (decide (code ≤ -full) || decide (full - 1 ≤ code)) = false := by
    rw [decide_eq_false (by omega), decide_eq_false (by omega)]
    rfl
  obtain ⟨u, hu⟩ : ∃ u : State, u = { s with ios := upd s.ios a fun y => { y with raw := code, satRun := 0 } } := ⟨_, rfl⟩
  have hrun : (at_ u.ios a).satRun = 0 := by
    rw [hu]
    exact congrArg AxisIo.satRun (at_upd_self (fun y : AxisIo => { y with raw := code, satRun := 0 }) hlenIo)
  have hstep : s.positionConv a code = if a < 8 then u.notePark (a / 2) else u := by
    unfold State.positionConv
    dsimp only
    rw [← hfull, hinner]
    have hquiet : ¬ ((ioKind (at_ u.ios a).record = 0 ∨ ioKind (at_ u.ios a).record = 3) ∧ 4 ≤ (at_ u.ios a).satRun) :=
      fun h => absurd (hrun ▸ h.2) (by decide)
    have hconv : (s.io a fun x => { x with raw := code, satRun := if false then x.satRun + 1 else 0 }) = u := hu ▸ rfl
    rw [hconv, if_neg hquiet]
  rw [hu] at hstep
  exact congrArg done ((if_neg (by omega)).trans hstep)

theorem exec_sumConv (ha : a ≤ 15) (hlenIo : a < s.ios.length) (ho : at_ s.ios a = o) (code : Nat) (hlo : u16 o.det 4 ≤ code)
    (hhi : code ≤ u16 o.det 6) : exec (.feedbackConversion a (.sum code)) s =
      .next ({ s with ios := upd s.ios a fun y => { y with sumCode := code, sumRun := 0 } }).settle := by
  have hinner : (decide (code < u16 o.det 4) || decide (u16 o.det 6 < code)) = false := by
    rw [decide_eq_false (by omega), decide_eq_false (by omega)]
    rfl
  obtain ⟨u, hu⟩ : ∃ u : State, u = { s with ios := upd s.ios a fun y => { y with sumCode := code, sumRun := 0 } } := ⟨_, rfl⟩
  have hrun : (at_ u.ios a).sumRun = 0 := by
    rw [hu]
    exact congrArg AxisIo.sumRun (at_upd_self (fun y : AxisIo => { y with sumCode := code, sumRun := 0 }) hlenIo)
  have hstep : s.sumConv a code = u := by
    unfold State.sumConv
    dsimp only
    rw [ho, hinner]
    have hquiet : ¬ (a < 8 ∧ 8 ≤ (at_ u.ios a).sumRun) := fun h => absurd (hrun ▸ h.2) (by decide)
    have hconv : (s.io a fun x => { x with sumCode := code, sumRun := if false then x.sumRun + 1 else 0 }) = u := hu ▸ rfl
    rw [hconv, if_neg hquiet]
  rw [hu] at hstep
  exact congrArg done ((if_neg (by omega)).trans hstep)

theorem exec_axisPwmPeriod (ha : 8 ≤ a) : exec (.axisPwmPeriod a) s = .next
    ({ s with ios := upd s.ios a fun y => { y with
      duties := if y.started s.now = false ∨ y.brake then [0, 0, 0]
        else (axisDuties y (at_ s.axes a).state).map (onTime (ioPwmTu y.record) (ioMinPulse y.record)) } }).settle := by
  have hduties : (fun x : AxisIo => if x.started s.now = false ∨ x.brake then { x with duties := [0, 0, 0] }
      else { x with duties := (axisDuties x (at_ s.axes a).state).map (onTime (ioPwmTu x.record) (ioMinPulse x.record)) }) =
      fun y => { y with
        duties := if y.started s.now = false ∨ y.brake then [0, 0, 0]
          else (axisDuties y (at_ s.axes a).state).map (onTime (ioPwmTu y.record) (ioMinPulse y.record)) } := by
    funext y
    split <;> rfl
  exact congrArg done ((if_neg (Nat.not_lt.mpr ha)).trans (congrArg (s.io a) hduties))

end

/-- Settles O53: a sample's steps touch its axis, its interface and the events alone (`State.Sits`), and detector 0 is the only one
that can stop a CLOSED sample of a fast axis (`State.firing_fast`). -/
theorem axisEventsRun : Obligations.AxisEventsRun := by
  unfold Obligations.AxisEventsRun
  intro s a ha hlen hlenIo x o hx ho
  refine ⟨?_, ?_, ?_, ?_, ?_, ?_, ?_, ?_, ?_, ?_, ?_⟩
  · exact fun m => axisSample_follows ha hlen hlenIo hx.symm ho.symm m
  · exact fun m => axisSample_closed ha hlen hlenIo hx.symm ho.symm m
  · exact fun m t0 preset => axisSample_closes ha hlen hlenIo hx.symm ho.symm m
  · exact fun k hramp => ⟨_, exec_heelRampStep ho.symm hramp, rfl⟩
  · exact fun dir hsource hstate => exec_extStep ho.symm hsource (hx ▸ hstate) dir
  · exact fun dir t0 hsource hstate => exec_extStep_early ho.symm hsource (hx ▸ hstate) dir
  · exact fun b1 b2 gap hkind => exec_encoderEdge ho.symm hkind b1 b2 gap
  · exact fun b1 b2 z gap hkind hA hB harmed hstate =>
      exec_encoderEdge_both (by omega) (by omega) ho.symm hkind b1 b2 z gap hA hB harmed (hx ▸ hstate)
  · exact fun code full => exec_positionConv ha (by omega) code full
  · exact fun code => exec_sumConv ha (by omega) ho.symm code
  · intro h8
    rw [hx]
    exact exec_axisPwmPeriod h8

end Sys2Proof.Machine
end

section
/-! PROOFS. The events of fetch and composition (03 R71 to R76, 04 R89, R94). -/
namespace Sys2Proof.Machine

/-! ## What fetch and composition change -/

/-- The configurations, live and pending. -/
def CommitUnit.scene (c : CommitUnit) : Cfg × W32 × Option Pending × Option Pending := (c.live, c.liveNo, c.next, c.later)

/-- The front frame, the cast in force and what decides it. -/
def ChiselUnit.scene (c : ChiselUnit) : (List (List (List Nat)) × List Nat × W32) × (Option Nat × Bool × Bool × Nat × Bool) × List (Sparse Byte) :=
  ((c.frontRows, c.frontDepth, c.frontTick), (c.switch_, c.sequencing, c.castLive, c.inForce, c.darkTick), c.slots)

/-- Only what fetches and composes a frame differs; the compose line and what is live stand. -/
def State.Fetches (s t : State) : Prop := ∃ evq com fetch col chi cal,
  t = { s with evq := evq, com := com, fetch := fetch, col := col, chi := chi, cal := cal } ∧
  fetch.line = s.fetch.line ∧ com.scene = s.com.scene ∧ chi.scene = s.chi.scene

section
variable {s t u : State}

theorem State.Fetches.refl (s : State) : s.Fetches s := ⟨s.evq, s.com, s.fetch, s.col, s.chi, s.cal, rfl, rfl, rfl, rfl⟩

theorem State.Fetches.trans (h : s.Fetches t) (k : t.Fetches u) : s.Fetches u := by
  obtain ⟨_, _, _, _, _, _, rfl, hline, hcom, hchi⟩ := h
  obtain ⟨evq, com, fetch, col, chi, cal, rfl, hline', hcom', hchi'⟩ := k
  exact ⟨evq, com, fetch, col, chi, cal, rfl, hline'.trans hline, hcom'.trans hcom, hchi'.trans hchi⟩

/-- Another fetch state at the same line. -/
theorem State.Fetches.fetch (s : State) (f : FetchUnit) (h : f.line = s.fetch.line) : s.Fetches { s with fetch := f } :=
  ⟨s.evq, s.com, f, s.col, s.chi, s.cal, rfl, h, rfl, rfl⟩

/-- What follows another fetch state at the same line. -/
theorem State.Fetches.afterFetch {f : FetchUnit} (h : State.Fetches { s with fetch := f } t) (hf : f.line = s.fetch.line) : s.Fetches t :=
  State.Fetches.trans (.fetch s f hf) h

/-- Other fences or watches. -/
theorem State.Fetches.com (s : State) (c : CommitUnit) (h : c.scene = s.com.scene) : s.Fetches { s with com := c } :=
  ⟨s.evq, c, s.fetch, s.col, s.chi, s.cal, rfl, rfl, h, rfl⟩

end

theorem State.foldl_fetches {α : Type} {g : State → α → State} (hg : ∀ (s : State) a, s.Fetches (g s a)) (l : List α) (s : State) :
    s.Fetches (l.foldl g s) := by
  induction l generalizing s with
  | nil => exact .refl s
  | cons a l ih => exact (hg s a).trans (ih (g s a))

theorem State.raiseIf_fetches (s : State) (c : Bool) (code src payload : Nat) : s.Fetches (s.raiseIf c code src payload) := by
  obtain ⟨evq, hraise⟩ := s.raiseIf_evq c code src payload
  exact ⟨evq, s.com, s.fetch, s.col, s.chi, s.cal, hraise, rfl, rfl, rfl⟩

theorem State.layerRun_fetches (s : State) (l : Nat) (f : LayerRun → LayerRun) : s.Fetches (s.layerRun l f) := .fetch s _ rfl

theorem State.pumpReads_line (s : State) (cls : Nat) : (s.pumpReads cls).fetch.line = s.fetch.line := by
  have hissue (s : State) (x : Nat × Bool × Nat) :
      (if x.2.1 then s.issueFence x.2.2 else s.issueAt cls x.2.2).fetch.line = s.fetch.line := by
    unfold State.issueFence State.issueAt State.refuseAt
    dsimp only
    (repeat' split) <;> rfl
  have hfold (l : List (Nat × Bool × Nat)) (s : State) :
      (l.foldl (fun s x => if x.2.1 then s.issueFence x.2.2 else s.issueAt cls x.2.2) s).fetch.line = s.fetch.line := by
    induction l generalizing s with
    | nil => rfl
    | cons x l ih => exact (ih _).trans (hissue s x)
  exact hfold _ s

theorem State.pumpReads_fetches (s : State) (cls : Nat) : s.Fetches (s.pumpReads cls) := by
  have hline := s.pumpReads_line cls
  have hops := s.pumpReads_ops cls
  obtain ⟨fetch, fences, ops, hask⟩ := s.pumpReads_asks cls
  rw [hask] at hline hops ⊢
  have hcs : ({ s.cs with ops := ops } : ContentStore) = s.cs := congrArg (fun l => { s.cs with ops := l }) hops
  exact ⟨s.evq, { s.com with fences := fences }, fetch, s.col, s.chi, s.cal, congrArg (fun c => { s with
    fetch := fetch, com := { s.com with fences := fences }, cs := c }) hcs, hline, rfl, rfl⟩

theorem State.addReads_fetches (s : State) (u : ReadUser) (cls n : Nat) (host : Bool) (buf : Buffer) (key : Nat) :
    s.Fetches (s.addReads u cls n host buf key) := by
  unfold State.addReads
  split
  · exact .refl s
  · exact .afterFetch (State.pumpReads_fetches ..) rfl

theorem State.askRow_fetches (s : State) (l plane row : Nat) : s.Fetches (s.askRow l plane row) := by
  unfold State.askRow
  exact iteInduction (motive := fun t : State => s.Fetches t) (fun _ => .fetch s _ rfl) fun _ =>
    .afterFetch (State.addReads_fetches ..) rfl

theorem State.askLayer_fetches (s : State) (l r : Nat) : s.Fetches (s.askLayer l r) := by
  unfold State.askLayer
  exact iteInduction (motive := fun t : State => s.Fetches t) (fun _ => .refl s) fun _ =>
    (State.foldl_fetches (fun s _ => s.askRow_fetches ..) _ s).trans (State.layerRun_fetches ..)

theorem State.fetchAhead_fetches (s : State) (r : Nat) : s.Fetches (s.fetchAhead r) :=
  State.foldl_fetches (fun s l => s.askLayer_fetches l r) _ s

/-! ## Fences -/

theorem State.judgeFence_fetches (s : State) (i : Nat) : s.Fetches (s.judgeFence i) := by
  have htorn (payload : Nat) : s.Fetches { s.raise 0x0307 (at_ s.com.fences i).layer payload with
      com := { s.com with fences := upd s.com.fences i fun f => { f with torn := true } } } :=
    (s.raiseIf_fetches true ..).trans (.com _ _ rfl)
  unfold State.judgeFence
  dsimp only
  split
  · exact .refl s
  · split
    · exact htorn _
    · split
      · exact htorn _
      · split
        · exact htorn _
        · exact .refl s

theorem State.latchFences_fetches (s : State) : s.Fetches s.latchFences := by
  unfold State.latchFences
  refine State.foldl_fetches (fun s t => ?_) _ s
  exact iteInduction (motive := fun t : State => s.Fetches t) (fun _ => .com s _ rfl) fun _ => .refl s

theorem State.judgeFences_fetches (s : State) : s.Fetches s.judgeFences :=
  (State.foldl_fetches (fun s i => s.judgeFence_fetches i) _ s).trans (State.latchFences_fetches _)

theorem State.pumpFences_fetches (s : State) : s.Fetches s.pumpFences := (s.pumpReads_fetches 0).trans (State.judgeFences_fetches _)

theorem State.fetchStopped_fetches (s : State) (l : Nat) : s.Fetches (s.fetchStopped l) := by
  have hrun := s.layerRun_fetches l fun k => { k with stopped := true }
  unfold State.fetchStopped
  generalize s.layerRun l (fun k => { k with stopped := true }) = t at *
  have hask : s.Fetches t.nextAsk := hrun.trans (.fetch t _ rfl)
  dsimp only
  generalize t.nextAsk = t at *
  exact (hask.trans (.com t _ rfl)).trans (State.pumpFences_fetches _)

/-! ## A composite row -/

theorem State.discardReads_fetches (s : State) (l : Nat) : s.Fetches (s.discardReads l) := .fetch s _ rfl

theorem State.underrun_fetches (s : State) (l r reason : Nat) : s.Fetches (s.underrun l r reason) := by
  have hraise : s.Fetches (s.raise 0x0304 l (r + 2 ^ 16 * reason + 2 ^ 20 * lySource (at_ s.com.live.layers l))) :=
    s.raiseIf_fetches true 0x0304 l (r + 2 ^ 16 * reason + 2 ^ 20 * lySource (at_ s.com.live.layers l))
  have hrest (t : State) : t.Fetches (((t.layerRun l fun k => { k with transparent := true }).discardReads l).fetchStopped l) :=
    ((t.layerRun_fetches ..).trans (State.discardReads_fetches ..)).trans (State.fetchStopped_fetches ..)
  unfold State.underrun
  dsimp only
  generalize s.raise 0x0304 l (r + 2 ^ 16 * reason + 2 ^ 20 * lySource (at_ s.com.live.layers l)) = t at *
  refine hraise.trans (.trans ⟨_, _, _, _, _, _, rfl, ?_, ?_, ?_⟩ (hrest _))
  all_goals rfl

theorem State.rowUnderruns_fetches (s : State) (r : Nat) : s.Fetches (s.rowUnderruns r) := by
  unfold State.rowUnderruns
  refine State.foldl_fetches (fun s l => ?_) _ s
  split
  · exact s.underrun_fetches ..
  · exact .refl s

theorem State.composeRow_fetches (s : State) (r : Nat) : s.Fetches (s.composeRow r) :=
  (s.rowUnderruns_fetches r).trans ⟨_, _, _, _, _, _, rfl, rfl, rfl, rfl⟩

theorem State.frameLine_fetches (s : State) (line : Nat) : s.Fetches (s.frameLine line) := by
  unfold State.frameLine
  exact iteInduction (motive := fun t : State => s.Fetches t)
    (fun _ => (s.fetchAhead_fetches _).trans (State.composeRow_fetches ..)) fun _ => s.fetchAhead_fetches _

/-! ## A compose line -/

theorem State.ltrSend_fetches (s : State) (x : Option Nat) (t : Nat) : s.Fetches (s.ltrSend x t) := .fetch s _ rfl

theorem State.ltrFalls_fetches (t n : Nat) (s : State) : s.Fetches (State.ltrFalls t n s) := by
  induction n generalizing s with
  | zero => exact .refl s
  | succ n ih =>
    unfold State.ltrFalls
    exact iteInduction (motive := fun t : State => s.Fetches t) (fun _ => .refl s) fun _ => (s.ltrSend_fetches ..).trans (ih _)

theorem State.ltrTo_fetches (s : State) (t : Nat) : s.Fetches (s.ltrTo t) := by
  unfold State.ltrTo
  split
  · exact State.ltrFalls_fetches ..
  · exact .refl s

theorem State.ite_fetches {s u v : State} {c : Prop} [Decidable c] (hu : s.Fetches u) (hv : s.Fetches v) :
    s.Fetches (if c then u else v) := iteInduction (motive := fun t : State => s.Fetches t) (fun _ => hu) fun _ => hv

theorem State.ltrLine_fetches (s : State) : s.Fetches s.ltrLine := by
  have hsend (x : Option Nat) : s.Fetches (s.ltrSend x s.now) := s.ltrSend_fetches x s.now
  have hkeep : s.Fetches s := .refl s
  unfold State.ltrLine
  exact State.ite_fetches hkeep (State.ite_fetches (State.ite_fetches hkeep (hsend _))
    (State.ite_fetches (hsend _) (State.ite_fetches (hsend _) hkeep)))

theorem State.scrubLine_fetches (s : State) : s.Fetches s.scrubLine := by
  unfold State.scrubLine
  exact iteInduction (motive := fun t : State => s.Fetches t) (fun _ => .refl s) fun _ => ⟨_, _, _, _, _, _, rfl, rfl, rfl, rfl⟩

theorem State.lineEvents_fetches (s : State) (line : Nat) : s.Fetches (s.lineEvents line) :=
  (s.raiseIf_fetches ..).trans (State.raiseIf_fetches ..)

/-- What a compose line does once its instant has come. -/
def State.lineRun (s : State) (m line : Nat) : State :=
  let s := s.lineEvents line
  if s.chi.plinth then (s.ltrLine).scrubLine
  else
    let u := ({ s with fetch := { s.fetch with ltDdr := s.leastT false line 500, ltHost := s.leastT true line 1000 } }.ltrLine).frameLine line
    if activeH m + 4 ≤ line then u.scrubLine else u

theorem State.lineRun_fetches (s : State) (m line : Nat) : s.Fetches (s.lineRun m line) := by
  refine (s.lineEvents_fetches line).trans ?_
  unfold State.lineRun
  dsimp only
  generalize s.lineEvents line = s
  refine iteInduction (motive := fun t : State => s.Fetches t) (fun _ => s.ltrLine_fetches.trans (State.scrubLine_fetches _)) fun _ => ?_
  obtain ⟨u, hu⟩ : ∃ u : State, u = { s with fetch := { s.fetch with
    ltDdr := s.leastT false line 500, ltHost := s.leastT true line 1000 } } := ⟨_, rfl⟩
  have hframe : s.Fetches (u.ltrLine.frameLine line) := by
    rw [hu]
    exact .afterFetch ((State.ltrLine_fetches _).trans (State.frameLine_fetches ..)) rfl
  rw [← hu]
  exact iteInduction (motive := fun t : State => s.Fetches t) (fun _ => hframe.trans (State.scrubLine_fetches _)) fun _ => hframe

theorem State.composeLine_eq {s : State} (hopen : s.tk.open_ = true) (htrip : s.inTrip = false) (hline : s.fetch.line < vTotal s.liveMode) :
    s.composeLine = State.lineRun { (s.ltrTo (s.tk.start + lineOffset s.liveMode s.tk.len s.fetch.line)).forward
        (s.tk.start + lineOffset s.liveMode s.tk.len s.fetch.line) with
      fetch := { (s.ltrTo (s.tk.start + lineOffset s.liveMode s.tk.len s.fetch.line)).fetch with line := s.fetch.line + 1 } } s.liveMode s.fetch.line := by
  have hruns : ¬ (s.tk.open_ = false ∨ s.inTrip = true ∨ vTotal s.liveMode ≤ s.fetch.line) := by
    rw [hopen, htrip]
    exact fun h => h.elim nofun fun h => h.elim nofun (Nat.not_le.mpr hline)
  exact if_neg hruns

/-- A compose line that starts. -/
theorem composeLine_runs {s : State} (hopen : s.tk.open_ = true) (htrip : s.inTrip = false) (hline : s.fetch.line < vTotal s.liveMode) :
    ∃ t : State, exec .composeLineStart s = .next t ∧ t.fetch.line = s.fetch.line + 1 ∧
    t.now = max s.now (s.tk.start + lineOffset s.liveMode s.tk.len s.fetch.line) ∧
    t = { s with
      now := t.now, evq := t.evq, mbx := t.mbx, com := t.com, fetch := t.fetch, col := t.col, chi := t.chi, src := t.src,
      con := t.con, show_ := t.show_, cal := t.cal } := by
  have hstep := State.composeLine_eq hopen htrip hline
  have hltr := s.ltrTo_fetches (s.tk.start + lineOffset s.liveMode s.tk.len s.fetch.line)
  generalize s.tk.start + lineOffset s.liveMode s.tk.len s.fetch.line = when at *
  obtain ⟨v, hv⟩ : ∃ v : State, v = { (s.ltrTo when).forward when with
    fetch := { (s.ltrTo when).fetch with line := s.fetch.line + 1 } } := ⟨_, rfl⟩
  rw [← hv] at hstep
  obtain ⟨_, _, _, _, _, _, hrun, hlineEnd, -⟩ := v.lineRun_fetches s.liveMode s.fetch.line
  rw [hrun] at hstep
  obtain ⟨_, _, _, _, _, _, hbegin, -⟩ := hltr
  rw [hbegin] at hv
  subst hv
  exact ⟨_, congrArg done hstep, hlineEnd, rfl, rfl⟩

/-! ## The end of a frame -/

/-- Only events and the watch of FREEZE differ. -/
def State.Watches (s t : State) : Prop := ∃ evq com, t = { s with evq := evq, com := com }

theorem State.Watches.trans {s t u : State} (h : s.Watches t) (k : t.Watches u) : s.Watches u := by
  obtain ⟨_, _, rfl⟩ := h
  obtain ⟨evq, com, rfl⟩ := k
  exact ⟨evq, com, rfl⟩

theorem State.freeze_watches (s : State) (t k n : Nat) (sig : W32) : s.Watches (s.freeze t k n sig) := by
  unfold State.freeze
  dsimp only
  (repeat' split) <;> exact ⟨_, _, rfl⟩

theorem State.freezeLayer_watches (s : State) (t l : Nat) : s.Watches (s.freezeLayer t l) := by
  unfold State.freezeLayer
  exact iteInduction (motive := fun u : State => s.Watches u) (fun _ => ⟨s.evq, s.com, rfl⟩) fun _ => s.freeze_watches ..

theorem State.foldl_freezeLayer_watches (t : Nat) (l : List Nat) (s : State) :
    s.Watches (l.foldl (fun s l => s.freezeLayer t l) s) := by
  induction l generalizing s with
  | nil => exact ⟨s.evq, s.com, rfl⟩
  | cons k l ih => exact (s.freezeLayer_watches t k).trans (ih _)

theorem State.colourEvents_eq (s : State) (t : Nat) : ∃ evq gamut, s.colourEvents t = { s with
    evq := evq, col := { s.col with gamut := gamut, stats := s.col.run, probe := s.col.probeRun } } := by
  unfold State.colourEvents
  dsimp only
  (repeat' split) <;> exact ⟨_, _, rfl⟩

/-- The signatures of FREEZE at the end of compose. -/
def State.frameCheck (s : State) (t : Nat) : State :=
  let s := (List.range 8).foldl (fun s l => s.freezeLayer t l) s
  s.freeze t 8 s.com.compositeN (crc32Done (at_ s.com.watch 8).acc)

theorem State.frameCheck_watches (s : State) (t : Nat) : s.Watches (s.frameCheck t) :=
  (State.foldl_freezeLayer_watches t _ s).trans (State.freeze_watches ..)

/-- Buffers retire, and the frame is done. -/
def State.frameClose (s : State) : State :=
  let (out, s) := s.retire
  let mask := maskOf ((List.range 8).map fun l => out.any fun u => u.layer == l)
  let s := s.raise 0x0303 0 (s.com.retSeq.toNat % 65536 + 65536 * min 255 out.length + 2 ^ 24 * mask)
  { s with com := { s.com with frameTick := s.tk.tick }, fetch := { s.fetch with done := true } }

theorem State.frameClose_eq (s : State) : ∃ evq, ∃ com : CommitUnit, s.frameClose = { s with
    evq := evq, com := { com with frameTick := s.tk.tick }, fetch := { s.fetch with done := true } } := by
  obtain ⟨out, com, hretire⟩ : ∃ out com, s.retire = (out, { s with com := com }) := ⟨_, _, rfl⟩
  unfold State.frameClose
  rw [hretire]
  exact ⟨_, com, rfl⟩

theorem State.frameDone_eq {s : State} (hopen : s.tk.open_ = true) (htrip : s.inTrip = false) (hplinth : s.chi.plinth = false)
    (hdone : s.fetch.done = false) : ∃ t, s.frameDone = (((s.forward t).frameCheck t).colourEvents t).frameClose := by
  refine ⟨s.tk.start + lineOffset s.liveMode s.tk.len (activeH s.liveMode + 4), ?_⟩
  have hruns : ¬ (s.tk.open_ = false ∨ s.inTrip = true ∨ s.chi.plinth = true ∨ s.fetch.done = true) := by
    rw [hopen, htrip, hplinth, hdone]
    decide
  unfold State.frameDone State.frameClose State.frameCheck
  dsimp only
  rw [if_neg hruns]

/-- A frame that ends. -/
theorem frameDone_ends {s : State} (hopen : s.tk.open_ = true) (htrip : s.inTrip = false) (hplinth : s.chi.plinth = false)
    (hdone : s.fetch.done = false) : ∃ t : State,
    exec .frameDone s = .next t ∧ t.fetch.done = true ∧ t.com.frameTick = s.tk.tick ∧
    t.col.stats = s.col.run ∧
    t = { s with
      now := t.now, evq := t.evq, com := t.com, fetch := t.fetch, col := t.col, src := t.src, con := t.con,
      show_ := t.show_ } := by
  obtain ⟨when, hstep⟩ := State.frameDone_eq hopen htrip hplinth hdone
  obtain ⟨evq, com, hcheck⟩ := (s.forward when).frameCheck_watches when
  obtain ⟨evq', gamut, hcolour⟩ := State.colourEvents_eq { s.forward when with evq := evq, com := com } when
  rw [hcheck, hcolour] at hstep
  obtain ⟨_, _, hclose⟩ := State.frameClose_eq { s.forward when with
    evq := evq', com := com, col := { s.col with gamut := gamut, stats := s.col.run, probe := s.col.probeRun } }
  exact ⟨_, congrArg done (hstep.trans hclose), rfl, rfl, rfl, rfl⟩

/-! ## Reads and fences that end -/

/-- No request waits: nothing is issued, judged or latched. -/
theorem State.offerTags_judgeFences_idle {s : State} (hreads : s.fetch.inflight = []) (hfences : s.com.fences = []) (hops : s.cs.ops = []) :
    s.offerTags.judgeFences = s := by
  have hpump (cls : Nat) : s.pumpReads cls = s := by
    have hwait : s.waiting cls = [] := by
      unfold State.waiting
      rw [hreads, hfences]
      cases cls <;> rfl
    unfold State.pumpReads
    rw [hwait]
    have hfilter : (s.fetch.inflight.filter fun e => decide (0 < e.tags + e.left)) = s.fetch.inflight := by
      rw [hreads]
      rfl
    exact congrArg (fun l => { s with fetch := { s.fetch with inflight := l } }) hfilter
  have hoffer : s.offerTags = s := by
    unfold State.offerTags
    rw [hpump 0, hpump 1]
    exact State.pumpOps_of_none hops _
  rw [hoffer]
  unfold State.judgeFences State.latchFences
  rw [hfences]
  dsimp only [List.length_nil, List.range_zero, List.foldl_nil]
  rw [hfences]
  rfl

section
variable {s : State} {u : ReadUser} {i : Nat}

/-- The read whose index is found is the read found. -/
theorem find?_of_findIdx? {α : Type} [Inhabited α] {p : α → Bool} {l : List α} {i : Nat} (h : l.findIdx? p = some i) :
    l.find? p = some (at_ l i) := by
  obtain ⟨hi, -⟩ := List.findIdx?_eq_some_iff_getElem.mp h
  rw [List.find?_eq_bind_findIdx?_getElem?, h]
  simp [at_, hi]

/-- A read that ends returns one tag. -/
theorem State.readDone_of (hfound : s.fetch.inflight.findIdx? (fun e => e.user == u && decide (0 < e.tags)) = some i) {e : InFlight}
    (he : e = { at_ s.fetch.inflight i with tags := (at_ s.fetch.inflight i).tags - 1 }) :
    s.readDone u = (some e, (({ s with fetch := { s.fetch with
      inflight := (upd s.fetch.inflight i fun _ => e).filter fun x => decide (0 < x.tags + x.left) } } : State).returnTags
        e.cls 1).offerTags) := by
  subst he
  unfold State.readDone
  simp only [hfound]

/-- A read of points ends. -/
theorem State.readLanded_points {n : Nat}
    (hfound : s.fetch.inflight.findIdx? (fun e => e.user == .points n && decide (0 < e.tags)) = some i) {e : InFlight} {w : State}
    (he : e = { at_ s.fetch.inflight i with tags := (at_ s.fetch.inflight i).tags - 1 })
    (hw : w = (({ s with fetch := { s.fetch with
      inflight := (upd s.fetch.inflight i fun _ => e).filter fun x => decide (0 < x.tags + x.left) } } : State).returnTags
        e.cls 1).offerTags.judgeFences) (good : Bool) (ofs : Nat) (data : Rec) :
    s.readLanded (.points n) good ofs data = if good = true ∧ ofs = 0 then w.pointAhead n data else w := by
  unfold State.readLanded
  dsimp only
  rw [State.readDone_of hfound he]
  dsimp only
  rw [← hw]
  cases good <;> simp

/-- A host read that does not complete is an error of its user. -/
theorem State.readTimeout_of_host {e : InFlight} (hfound : s.fetch.inflight.find? (fun e => e.user == u && decide (0 < e.tags)) = some e)
    (hhost : e.host = true) : s.readTimeout u = s.readLanded u false 0 [] := by
  unfold State.readTimeout
  simp only [hfound]
  exact if_pos hhost

/-- No host read waits for a completion. -/
theorem State.readTimeout_of_none (hnone : ∀ e ∈ s.fetch.inflight, e.user = u → 0 < e.tags → e.host = false) : s.readTimeout u = s := by
  unfold State.readTimeout
  cases hfound : s.fetch.inflight.find? (fun e => e.user == u && decide (0 < e.tags)) with
  | none => rfl
  | some e =>
    have hmatch := List.find?_some hfound
    obtain ⟨huser, htags⟩ := Bool.and_eq_true_iff.mp hmatch
    have hlocal := hnone e (List.mem_of_find?_eq_some hfound) (eq_of_beq huser) (of_decide_eq_true htags)
    exact if_neg (ne_true_of_eq_false hlocal)

/-- The read of the start word of a fence ends. -/
theorem State.fenceLanded_start {l : Nat} (hfound : s.com.fences.findIdx? (fun f => f.layer == l && f.startSt == 1) = some i) (good : Bool)
    (v : W64) {u : State}
    (hu : u = { s with
      free := s.free + 1,
      com := { s.com with fences := upd s.com.fences i fun f =>
        { f with startVal := if good then v else BitVec.ofNat 64 (Config.free s.free), startSt := if good then 2 else 3 } } }) :
    s.fenceLanded l false good v = (u.returnTags 0 1).offerTags.judgeFences := by
  subst hu
  have hfound : s.com.fences.findIdx? (fun f => f.layer == l && (if false = true then f.endSt == 1 else f.startSt == 1)) = some i := hfound
  unfold State.fenceLanded
  simp only [hfound]
  rfl

/-! ## Self-refresh -/

theorem State.refreshEntry_begins (hself : s.fetch.selfRefresh = false) (hbusy : s.ddrBusy = false)
    (hwhy : s.chi.plinth = true ∨ (bit (byteAt s.com.live.fetchCfg 4) 1 = true ∧ 100 * u16 s.com.live.fetchCfg 2 ≤ s.ltDdrNow)) :
    s.refreshEntry = { s with fetch := { s.fetch with selfRefresh := true, srCount := s.fetch.srCount + 1 } } := by
  have hruns : ¬ (s.fetch.selfRefresh = true ∨ s.ddrBusy = true) := by
    rw [hself, hbusy]
    decide
  refine (if_neg hruns).trans ?_
  by_cases hplinth : s.chi.plinth = true
  · exact if_pos hplinth
  · exact (if_neg hplinth).trans (if_pos (hwhy.resolve_left hplinth))

theorem State.refreshExit_busy (hself : s.fetch.selfRefresh = true) (hbusy : s.ddrBusy = true) :
    s.refreshExit = { s with fetch := { s.fetch with selfRefresh := false } } :=
  (if_neg fun h => Bool.false_ne_true (h.symm.trans hself)).trans (if_pos hbusy)

theorem State.refreshExit_idle (hself : s.fetch.selfRefresh = true) (hbusy : s.ddrBusy = false) (hplinth : s.chi.plinth = false) :
    s.refreshExit = { s with
      now := s.now + (s.ltDdrNow - 2000) * 2 / 5, fetch := { s.fetch with selfRefresh := false } } := by
  have hstep : s.refreshExit = (s.forward (s.now + (s.ltDdrNow - 2000) * 2 / 5)).wake :=
    (if_neg fun h => Bool.false_ne_true (h.symm.trans hself)).trans
      ((if_neg (ne_true_of_eq_false hbusy)).trans (if_neg (ne_true_of_eq_false hplinth)))
  have hnow : max s.now (s.now + (s.ltDdrNow - 2000) * 2 / 5) = s.now + (s.ltDdrNow - 2000) * 2 / 5 := Nat.max_eq_right (Nat.le_add_right ..)
  rw [hstep]
  exact congrArg (fun n => { s with now := n, fetch := { s.fetch with selfRefresh := false } }) hnow

end

/-- Settles O48: a compose line changes what fetches and composes alone (`State.Fetches`), a frame's end the events, commits and
colour pipeline, and each read that ends returns its tag to the users that wait. -/
theorem fetchAndComposeEventsRun : Obligations.FetchAndComposeEventsRun := by
  unfold Obligations.FetchAndComposeEventsRun
  intro s
  refine ⟨?_, ?_, ?_, ?_, ?_, ?_, ?_, ?_, ?_, ?_, ?_⟩
  · exact composeLine_runs
  · exact frameDone_ends
  · intro n good ofs data e i w hfound he hw
    refine ⟨congrArg done (State.readLanded_points hfound he hw good ofs data), fun hhost => ?_⟩
    have hlanded := State.readLanded_points hfound he hw false 0 []
    rw [if_neg fun h => Bool.false_ne_true h.1] at hlanded
    have hat : (at_ s.fetch.inflight i).host = true := by
      rw [he] at hhost
      exact hhost
    exact congrArg done ((State.readTimeout_of_host (find?_of_findIdx? hfound) hat).trans hlanded)
  · exact fun u hnone => congrArg done (State.readTimeout_of_none hnone)
  · exact fun l good v i hfound u hu => congrArg done (State.fenceLanded_start hfound good v hu)
  · exact fun hself hbusy hwhy => congrArg done (State.refreshEntry_begins hself hbusy hwhy)
  · exact fun hself hbusy => congrArg done (State.refreshExit_busy hself hbusy)
  · exact fun hself hbusy hplinth => congrArg done (State.refreshExit_idle hself hbusy hplinth)
  · exact fun u e hfound hhost => congrArg done (State.readTimeout_of_host hfound hhost)
  · exact fun n => rfl
  · exact State.offerTags_judgeFences_idle

end Sys2Proof.Machine
end

section
/-! PROOFS. What the parts of a tick boundary leave alone (01 R21). -/
namespace Sys2Proof.Machine

/-! ## What is live -/

/-- The lanes, and of each array its state and record. -/
def PlaneLink.scene (p : PlaneLink) : Nat × List Lane × (Nat → Nat × Option Rec) :=
  (p.count, p.lanes, fun a => ((at_ p.arrays a).state, (at_ p.arrays a).record))

/-- What is live and what waits for a boundary. -/
def State.setting (s : State) := (s.mbx.fwState, s.com.scene, s.chi.scene, (s.src.live, s.src.apply), s.pl.scene)

/-- The same, and the length of the tick. -/
def State.scene (s : State) := (s.tk.len, s.setting)

/-- The scene from its parts. -/
def sceneOf (len : Nat) (fw : Nat) (com : Cfg × W32 × Option Pending × Option Pending)
    (chi : (List (List (List Nat)) × List Nat × W32) × (Option Nat × Bool × Bool × Nat × Bool) × List (Sparse Byte))
    (live : SourceSet) (apply : Option SourceSet) (pl : Nat × List Lane × (Nat → Nat × Option Rec)) :=
  (len, fw, com, chi, (live, apply), pl)

@[simp] theorem sceneOf_eq (s : State) :
    sceneOf s.tk.len s.mbx.fwState s.com.scene s.chi.scene s.src.live s.src.apply s.pl.scene = s.scene := rfl

@[simp] theorem scene_mk {now free pending evq mbx tk com fetch col chi pl src diag con heads axes ios show_ ck th cal pat ken cl cs epb sec boot} :
    (State.mk now free pending evq mbx tk com fetch col chi pl src diag con heads axes ios show_ ck th cal pat ken cl cs epb sec boot).scene =
      sceneOf tk.len mbx.fwState com.scene chi.scene src.live src.apply pl.scene := rfl

section
variable {s t : State}

theorem State.Fetches.scene (h : s.Fetches t) : t.scene = s.scene := by
  obtain ⟨_, com, _, _, chi, _, rfl, -, hcom, hchi⟩ := h
  show (s.tk.len, s.mbx.fwState, com.scene, chi.scene, _) = _
  rw [hcom, hchi]
  rfl

theorem State.Asks.scene (h : s.Asks t) : t.scene = s.scene := by
  obtain ⟨_, _, _, rfl⟩ := h
  rfl

theorem State.Issues.scene (h : s.Issues t) : t.scene = s.scene := h.asks.scene

theorem State.sequencing_of_setting (h : t.setting = s.setting) : t.chi.sequencing = s.chi.sequencing :=
  congrArg (fun x => x.2.2.1.2.1.2.1) h

theorem foldl_scene {α : Type} {g : State → α → State} (hg : ∀ s a, (g s a).scene = s.scene) (l : List α) (s : State) :
    (l.foldl g s).scene = s.scene := by
  induction l generalizing s with
  | nil => rfl
  | cons a l ih => exact (ih _).trans (hg s a)

/-- Both branches keep the scene. -/
theorem ite_scene {c : Prop} [Decidable c] {u v : State} (hu : u.scene = s.scene) (hv : v.scene = s.scene) :
    (if c then u else v).scene = s.scene := iteInduction (motive := fun t : State => t.scene = s.scene) (fun _ => hu) fun _ => hv

end

@[simp] theorem State.raise_scene (s : State) (code src payload : Nat) : (s.raise code src payload).scene = s.scene := rfl
@[simp] theorem State.raiseB_scene (s : State) (code src payload : Nat) : (s.raiseB code src payload).scene = s.scene := rfl

/-! ## Constancy and heat -/

/-- The end of a tick's light changes constancy and the events. -/
theorem State.constancyEnd_eq (s : State) (len : Nat) : ∃ con evq, s.constancyEnd len = { s with con := con, evq := evq } := by
  have hfault (s : State) (con : Constancy) (i : Nat) (f : Option Nat) :
      ∃ con' evq, State.senseFault { s with con := con } i f = { s with con := con', evq := evq } := by
    unfold State.senseFault
    dsimp only
    split <;> exact ⟨_, _, rfl⟩
  have hjudge (s : State) (i : Nat) : ∃ con evq, s.judgeInput i = { s with con := con, evq := evq } := by
    have hite (c : Prop) [Decidable c] (u v : State) (hu : ∃ con evq, u = { s with con := con, evq := evq })
        (hv : ∃ con evq, v = { s with con := con, evq := evq }) :
        ∃ con evq, (if c then u else v) = { s with con := con, evq := evq } :=
      iteInduction (motive := fun t : State => ∃ con evq, t = { s with con := con, evq := evq }) (fun _ => hu) fun _ => hv
    unfold State.judgeInput
    dsimp only
    split
    · exact hite _ _ _ (hfault s ..) (hite _ _ _ (hfault s ..) ⟨_, _, rfl⟩)
    · exact hite _ _ _ (hfault s ..) ⟨_, _, rfl⟩
    · exact hite _ _ _ (hfault s ..) ⟨_, _, rfl⟩
    · exact ⟨_, _, rfl⟩
  have hfold (l : List Nat) (s : State) : ∃ con evq, l.foldl State.judgeInput s = { s with con := con, evq := evq } := by
    induction l generalizing s with
    | nil => exact ⟨s.con, s.evq, rfl⟩
    | cons i l ih =>
      obtain ⟨_, _, hone⟩ := hjudge s i
      obtain ⟨con, evq, hrest⟩ := ih (s.judgeInput i)
      rw [hone] at hrest
      refine ⟨con, evq, (congrArg (l.foldl State.judgeInput) hone).trans hrest⟩
  obtain ⟨con, evq, hinputs⟩ := hfold (List.range 8) s
  unfold State.constancyEnd
  rw [hinputs]
  exact ⟨_, evq, rfl⟩

/-- The end of a tick's charge changes the counts of the sources, the power of the zones and the events. -/
theorem State.sourceBoundary_eq (s : State) (t : W32) (len : Nat) : ∃ src th evq, s.sourceBoundary t len = { s with src := src, th := th, evq := evq } ∧
    src.live = s.src.live ∧ src.apply = s.src.apply := by
  unfold State.sourceBoundary
  dsimp only
  apply iteInduction (motive := fun u : State => ∃ src th evq, u = { s with src := src, th := th, evq := evq } ∧
    src.live = s.src.live ∧ src.apply = s.src.apply)
  · exact fun _ => ⟨_, _, _, rfl, rfl, rfl⟩
  · exact fun _ => ⟨_, _, _, rfl, rfl, rfl⟩

theorem State.throttleBoundary_scene (s : State) : s.throttleBoundary.scene = s.scene := by
  have hstep (s : State) (src new old reason : Nat) : (s.stepEvent src new old reason).scene = s.scene := rfl
  unfold State.throttleBoundary
  dsimp only
  refine ite_scene rfl ?_
  split
  · rfl
  · refine ite_scene (ite_scene (hstep ..) (ite_scene (hstep ..) rfl)) (ite_scene (hstep ..) rfl)

theorem State.trace_scene (s : State) (a p : Nat) (f : Trace → Trace) : (s.trace a p f).scene = s.scene := rfl

theorem State.captureNow_scene (s : State) : s.captureNow.scene = s.scene := by
  unfold State.captureNow
  simp only [State.raiseB_scene, scene_mk, sceneOf_eq]
  refine (foldl_scene ?_ _ _).trans rfl
  intro u x
  exact State.trace_scene ..

theorem State.judgeConf_scene (s : State) (p : Nat) : (s.judgeConf p).scene = s.scene :=
  ite_scene rfl (ite_scene rfl rfl)

theorem State.constancyBoundary_scene (s : State) : s.constancyBoundary.scene = s.scene := by
  unfold State.constancyBoundary
  simp [foldl_scene, State.judgeConf_scene, apply_ite State.scene, State.captureNow_scene]

/-! ## Sources of the tick -/

theorem State.loseSource_scene (s : State) (id reason : Nat) : (s.loseSource id reason).scene = s.scene :=
  ite_scene (ite_scene rfl rfl) rfl

theorem State.rejudgeSources_scene (s : State) : s.rejudgeSources.scene = s.scene := by
  unfold State.rejudgeSources
  refine foldl_scene (fun s id => ?_) _ s
  exact ite_scene (ite_scene (State.loseSource_scene ..) (ite_scene (State.loseSource_scene ..) rfl)) (ite_scene rfl rfl)

theorem State.dropGoal_scene (s : State) (new : Nat) (v : Bool) : (s.dropGoal new v).scene = s.scene := by
  have hend : (s.endRamp 1 2).scene = s.scene := ite_scene rfl rfl
  exact ite_scene (ite_scene rfl rfl) hend

theorem State.phaseAtBoundary_scene (s : State) (b : Bool) : (s.phaseAtBoundary b).scene = s.scene := by
  unfold State.phaseAtBoundary
  refine ite_scene ?_ (ite_scene ?_ rfl) <;> split <;> rfl

theorem State.genlockBoundary_scene (s : State) : s.genlockBoundary.scene = s.scene :=
  ite_scene rfl (ite_scene rfl rfl)

/-- A source that becomes active changes no length while the sequencer runs. -/
theorem State.switchSource_setting (s : State) : s.switchSource.setting = s.setting ∧
    (s.chi.sequencing = true → s.switchSource.scene = s.scene) := by
  have hkeeps (u : State) (hu : u.scene = s.scene) : u.setting = s.setting ∧ (s.chi.sequencing = true → u.scene = s.scene) :=
    ⟨congrArg Prod.snd hu, fun _ => hu⟩
  unfold State.switchSource
  dsimp only
  refine iteInduction (motive := fun t : State => t.setting = s.setting ∧ (s.chi.sequencing = true → t.scene = s.scene))
    (fun _ => hkeeps _ rfl) fun _ => ?_
  generalize hdrop : State.raiseB (State.dropGoal _ _ _) _ _ _ = v
  have hv : v.scene = s.scene := by
    rw [← hdrop]
    exact (State.raiseB_scene ..).trans ((State.dropGoal_scene ..).trans rfl)
  refine iteInduction (motive := fun t : State => t.setting = s.setting ∧ (s.chi.sequencing = true → t.scene = s.scene))
    (fun _ => hkeeps v hv) fun hstop => ?_
  have hseq : v.chi.sequencing = s.chi.sequencing := State.sequencing_of_setting (congrArg Prod.snd hv)
  have hsetting : v.setting = s.setting := congrArg Prod.snd hv
  have hnone (t : State) (ht : t.setting = v.setting) : t.setting = s.setting ∧ (s.chi.sequencing = true → t.scene = s.scene) :=
    ⟨ht.trans hsetting, fun hrun => absurd (.inl (hseq.trans hrun)) hstop⟩
  split
  · exact iteInduction (motive := fun t : State => t.setting = s.setting ∧ (s.chi.sequencing = true → t.scene = s.scene))
      (fun _ => hnone _ rfl) fun _ => hnone _ rfl
  · exact hnone _ rfl

theorem State.sourceOfTick_setting (s : State) (mode : Bool) : (s.sourceOfTick mode).setting = s.setting ∧
    (s.chi.sequencing = true → (s.sourceOfTick mode).scene = s.scene) := by
  have hstamp : s.stampCheck.scene = s.scene := ite_scene (State.loseSource_scene ..) rfl
  have hrest (u : State) (b : Bool) : ((u.switchSource.phaseAtBoundary b).genlockBoundary).scene = u.switchSource.scene :=
    (State.genlockBoundary_scene _).trans (State.phaseAtBoundary_scene ..)
  have hturn (u : State) (hu : u.scene = s.scene) (b : Bool) : ((u.switchSource.phaseAtBoundary b).genlockBoundary).setting = s.setting ∧
      (s.chi.sequencing = true → ((u.switchSource.phaseAtBoundary b).genlockBoundary).scene = s.scene) := by
    obtain ⟨hsetting, hscene⟩ := u.switchSource_setting
    have hseq : u.chi.sequencing = s.chi.sequencing := State.sequencing_of_setting (congrArg Prod.snd hu)
    exact ⟨(congrArg Prod.snd (hrest u b)).trans (hsetting.trans (congrArg Prod.snd hu)),
      fun hrun => (hrest u b).trans ((hscene (hseq.trans hrun)).trans hu)⟩
  have hjudge : s.stampCheck.rejudgeSources.scene = s.scene := (State.rejudgeSources_scene _).trans hstamp
  unfold State.sourceOfTick
  dsimp only
  generalize s.stampCheck.rejudgeSources = u at *
  generalize s.stampCheck = v at *
  refine hturn _ ?_ _
  exact ite_scene (ite_scene hjudge hjudge) hstamp

/-! ## Diagnostics and patina -/

theorem State.effectBoundary_scene (s : State) : s.effectBoundary.scene = s.scene := rfl

theorem State.roundCheck_scene (s : State) : s.roundCheck.scene = s.scene := by
  have hover (s : State) : s.roundOver.scene = s.scene := ite_scene rfl rfl
  exact (hover _).trans (hover s)

theorem State.supplyJudge_scene (s : State) (b : Nat) : (s.supplyJudge b).scene = s.scene := by
  have hafresh (l : List Nat) (u : State) (hu : u.scene = s.scene) :
      (l.foldl (fun s c => s.dchan c fun d => { d with failed := false, probeWait := false }) u).scene = s.scene :=
    (foldl_scene (by intro s c; rfl) l u).trans hu
  unfold State.supplyJudge
  dsimp only
  refine ite_scene (ite_scene ?_ rfl) (ite_scene ?_ rfl)
  · exact (State.raiseB_scene ..).trans (hafresh _ _ rfl)
  · exact (State.raiseB_scene ..).trans (hafresh _ _ rfl)

theorem State.countWaiting_scene (s : State) : s.countWaiting.scene = s.scene := by
  unfold State.countWaiting
  refine foldl_scene (fun s c => ?_) _ s
  exact ite_scene rfl rfl

theorem State.diagBoundary_scene (s : State) : s.diagBoundary.scene = s.scene := by
  have hend (u : State) : u.endRound.scene = u.scene := rfl
  unfold State.diagBoundary
  simp [foldl_scene, apply_ite State.scene, State.supplyJudge_scene, State.countWaiting_scene, State.roundCheck_scene, hend]

theorem State.judgeEmitter_scene (s : State) (c : Nat) : (s.judgeEmitter c).scene = s.scene := by
  have halert (u : State) (hu : u.scene = s.scene) (p : Prop) [Decidable p] (k kind v : Nat) :
      (if p then (u.pchan c fun p => { p with alerted := p.alerted + k }).patinaAlert c kind v else u).scene = s.scene := ite_scene hu hu
  unfold State.judgeEmitter
  dsimp only
  refine ite_scene rfl ?_
  cases s.eRel c with
  | none => exact halert _ (halert s.takeFree.2 rfl ..) ..
  | some e => exact halert _ (halert s rfl ..) ..

/-- What changes neither the state nor the record of any array. -/
theorem PlaneLink.scene_map (p : PlaneLink) {f : ArrayUnit → ArrayUnit} (hf : ∀ x, (f x).state = x.state ∧ (f x).record = x.record) :
    PlaneLink.scene { p with arrays := p.arrays.map f } = p.scene := by
  have hat (a : Nat) : (at_ (p.arrays.map f) a).state = (at_ p.arrays a).state ∧
      (at_ (p.arrays.map f) a).record = (at_ p.arrays a).record := by
    by_cases ha : a < p.arrays.length
    · simp [at_, ha, hf]
    · simp [at_, ha]
  have hviews : (fun a => ((at_ (p.arrays.map f) a).state, (at_ (p.arrays.map f) a).record)) =
      fun a => ((at_ p.arrays a).state, (at_ p.arrays a).record) := funext fun a => Prod.ext (hat a).1 (hat a).2
  exact congrArg (fun v => (p.count, p.lanes, v)) hviews

/-- Another plane link with the same lanes, states and records. -/
theorem scene_pl (s : State) {p : PlaneLink} (hp : p.scene = s.pl.scene) : State.scene { s with pl := p } = s.scene :=
  congrArg (fun x => (s.tk.len, s.mbx.fwState, s.com.scene, s.chi.scene, (s.src.live, s.src.apply), x)) hp

theorem State.patinaBoundary_scene (s : State) (len : Nat) : (s.patinaBoundary len).scene = s.scene := by
  have hpoints (u : State) (c : Nat) : (u.takePoints c).scene = u.scene := by
    unfold State.takePoints
    dsimp only
    split <;> rfl
  unfold State.patinaBoundary
  dsimp only
  refine (foldl_scene (fun u c => ?_) _ _).trans (scene_pl _ (PlaneLink.scene_map _ fun x => ?_))
  · exact ite_scene ((State.judgeEmitter_scene ..).trans (hpoints u c)) rfl
  · split <;> exact ⟨rfl, rfl⟩

/-! ## The content store, the effect outputs and Cumaslink -/

theorem State.calBoundary_scene (s : State) : s.calBoundary.scene = s.scene := rfl

theorem State.addOp_scene (s : State) (use : NvmeUse) (steps : List DriveStep) : (s.addOp use steps).scene = s.scene :=
  (s.addOp_issues use steps).scene

theorem State.stageLayer_scene (s : State) (l : Nat) : (s.stageLayer l).scene = s.scene := by
  unfold State.stageLayer
  split
  · rfl
  · exact foldl_scene (fun _ _ => ite_scene rfl (State.addOp_scene ..)) _ _

theorem State.stageHead_scene (s : State) (n : Nat) : (s.stageHead n).scene = s.scene := by
  unfold State.stageHead
  dsimp only
  split
  · exact ite_scene rfl (State.addOp_scene ..)
  · rfl

theorem State.csBoundary_scene (s : State) : s.csBoundary.scene = s.scene := by
  have hstage (u : State) (hu : u.scene = s.scene) :
      ([0, 1, 2, 3].foldl State.stageHead ((List.range 8).foldl State.stageLayer u)).scene = s.scene :=
    (foldl_scene State.stageHead_scene _ _).trans ((foldl_scene State.stageLayer_scene _ u).trans hu)
  unfold State.csBoundary
  exact ite_scene (hstage _ rfl) rfl

theorem State.epbTick_scene (s : State) (n : Nat) : (s.epbTick n).scene = s.scene := by
  have hset (u : State) (f : EffectOut → EffectOut) : (u.epbSet n f).scene = u.scene := rfl
  have hsend (u : State) : (u.epbSend n).scene = u.scene := rfl
  have hstop (u : State) : (u.epbStop n).scene = u.scene := by
    unfold State.epbStop
    split
    · exact ite_scene rfl rfl
    · rfl
  have hstart (u : State) : (u.epbStart n).scene = u.scene := by
    unfold State.epbStart
    split
    · exact ite_scene rfl rfl
    · rfl
  have hzero (u : State) : (u.epbZero n).scene = u.scene := ite_scene rfl rfl
  unfold State.epbTick
  simp [apply_ite State.scene, hset, hsend, hstop, hstart, hzero]

theorem State.epbBoundary_scene (s : State) : s.epbBoundary.scene = s.scene := foldl_scene State.epbTick_scene _ s

theorem State.clBoundary_scene (s : State) (len : Nat) : (s.clBoundary len).scene = s.scene := by
  have hown : (s.ownTime len).scene = s.scene := by
    unfold State.ownTime
    split
    · exact ite_scene rfl rfl
    · rfl
  have hkeep (u : State) : u.keepTime.scene = u.scene := by
    unfold State.keepTime
    split
    · exact ite_scene rfl rfl
    · rfl
  have hdev (u : State) : u.clDev.2.scene = u.scene := rfl
  have hchildren (u : State) (t : Int) (o : ClOut) : (u.toChildren t o).scene = u.scene := by
    refine foldl_scene (fun u p => ?_) _ u
    exact ite_scene rfl rfl
  unfold State.clBoundary
  dsimp only
  generalize s.ownTime len = u at *
  exact ite_scene ((hchildren ..).trans ((hchildren ..).trans ((hdev _).trans hown))) ((hkeep u).trans hown)

theorem State.unitBoundaries_scene (s : State) (len : Nat) : (s.unitBoundaries len).scene = s.scene := by
  unfold State.unitBoundaries
  dsimp only
  rw [State.clBoundary_scene, State.epbBoundary_scene, State.csBoundary_scene, State.calBoundary_scene, State.patinaBoundary_scene,
    State.diagBoundary_scene, State.effectBoundary_scene]

/-! ## The frame that begins -/

theorem State.endFrame_fetches (s : State) : s.endFrame.scene = s.scene := by
  have hdiscard (u : State) (l : Nat) : (u.discardReads l).scene = u.scene := rfl
  have hask (u : State) : u.nextAsk.scene = u.scene := rfl
  have hfences (u : State) (l : List Fence) : State.scene { u with com := { u.com with fences := l } } = u.scene := rfl
  exact (hfences ..).trans ((hask _).trans (foldl_scene hdiscard ..))

theorem State.beginFrame_scene (s : State) : s.beginFrame.scene = s.scene := by
  have hpump (u : State) (hu : u.scene = s.scene) : u.pumpFences.scene = s.scene := u.pumpFences_fetches.scene.trans hu
  have hahead (u : State) (hu : u.scene = s.scene) : (u.fetchAhead 0).scene = s.scene := (u.fetchAhead_fetches 0).scene.trans hu
  have hend := s.endFrame_fetches
  unfold State.beginFrame
  dsimp only
  generalize s.endFrame = u at *
  exact ite_scene (hpump _ hend) (hahead _ (hpump _ hend))

/-- What ends a boundary keeps the scene. -/
theorem State.frameBegins_scene (s : State) : s.pumpAll.beginFrame.plinthRefresh.scene = s.scene := by
  have hrefresh (u : State) : u.plinthRefresh.scene = u.scene := ite_scene rfl rfl
  have hpump : s.pumpAll.scene = s.scene := (State.judgeFences_fetches _).scene.trans s.offerTags_asks.scene
  exact (hrefresh _).trans ((State.beginFrame_scene _).trans hpump)

end Sys2Proof.Machine
end

section
/-! PROOFS. The tick boundary: what goes live and the cast in force (01 R21, 04 R83, 06 R125, R137 to R139). -/
namespace Sys2Proof.Machine

/-! ## The parts of a setting -/

section
variable {s t : State} (h : t.setting = s.setting)
include h

theorem State.fwState_of_setting : t.mbx.fwState = s.mbx.fwState := congrArg (fun x => x.1) h
theorem State.live_of_setting : t.com.live = s.com.live := congrArg (fun x => x.2.1.1) h
theorem State.liveNo_of_setting : t.com.liveNo = s.com.liveNo := congrArg (fun x => x.2.1.2.1) h
theorem State.next_of_setting : t.com.next = s.com.next := congrArg (fun x => x.2.1.2.2.1) h
theorem State.later_of_setting : t.com.later = s.com.later := congrArg (fun x => x.2.1.2.2.2) h
theorem State.frontRows_of_setting : t.chi.frontRows = s.chi.frontRows := congrArg (fun x => x.2.2.1.1.1) h
theorem State.frontDepth_of_setting : t.chi.frontDepth = s.chi.frontDepth := congrArg (fun x => x.2.2.1.1.2.1) h
theorem State.frontTick_of_setting : t.chi.frontTick = s.chi.frontTick := congrArg (fun x => x.2.2.1.1.2.2) h
theorem State.switch_of_setting : t.chi.switch_ = s.chi.switch_ := congrArg (fun x => x.2.2.1.2.1.1) h
theorem State.castLive_of_setting : t.chi.castLive = s.chi.castLive := congrArg (fun x => x.2.2.1.2.1.2.2.1) h
theorem State.inForce_of_setting : t.chi.inForce = s.chi.inForce := congrArg (fun x => x.2.2.1.2.1.2.2.2.1) h
theorem State.darkTick_of_setting : t.chi.darkTick = s.chi.darkTick := congrArg (fun x => x.2.2.1.2.1.2.2.2.2) h
theorem State.slots_of_setting : t.chi.slots = s.chi.slots := congrArg (fun x => x.2.2.1.2.2) h
theorem State.sources_of_setting : t.src.live = s.src.live := congrArg (fun x => x.2.2.2.1.1) h
theorem State.apply_of_setting : t.src.apply = s.src.apply := congrArg (fun x => x.2.2.2.1.2) h
theorem State.count_of_setting : t.pl.count = s.pl.count := congrArg (fun x => x.2.2.2.2.1) h
theorem State.lanes_of_setting : t.pl.lanes = s.pl.lanes := congrArg (fun x => x.2.2.2.2.2.1) h
theorem State.array_of_setting (a : Nat) : (t.array a).state = (s.array a).state ∧ (t.array a).record = (s.array a).record :=
  Prod.ext_iff.mp (congrArg (fun x => x.2.2.2.2.2.2 a) h)

/-- The environment of the casts follows from the setting. -/
theorem State.liveEnv_of_setting : t.liveEnv = s.liveEnv := by
  have hslots (k : Nat) : t.cast k = s.cast k := by
    unfold State.cast
    rw [State.slots_of_setting h]
  have hvalid (k : Nat) : t.slotValid k = s.slotValid k := by
    unfold State.slotValid
    rw [State.slots_of_setting h]
  have hlane (n : Nat) : t.laneArray n = s.laneArray n := by
    unfold State.laneArray
    rw [State.count_of_setting h]
  have hserves (n : Nat) : t.laneServes n = s.laneServes n := by
    unfold State.laneServes
    rw [hlane, State.lanes_of_setting h]
    cases s.laneArray n with
    | none => rfl
    | some a => simp only [(State.array_of_setting h a).1]
  have hcount (a : Nat) : t.laneCount a = s.laneCount a := by
    unfold State.laneCount State.servesOf State.lanesOf
    rw [State.count_of_setting h, funext hserves]
  have htrained (a : Nat) : t.trained a = s.trained a := by
    unfold State.trained
    rw [State.count_of_setting h, (State.array_of_setting h a).1]
  have hrecord : (fun a => (t.array a).record) = fun a => (s.array a).record := funext fun a => (State.array_of_setting h a).2
  unfold State.liveEnv State.castEnv
  rw [State.live_of_setting h, State.sources_of_setting h, funext hcount, hrecord, funext htrained, funext hvalid, funext hslots]

theorem State.depthOk_of_setting (k : Nat) : t.depthOk k = s.depthOk k := by
  unfold State.depthOk State.cast
  rw [State.slots_of_setting h, State.frontDepth_of_setting h]

end

/-! ## Step 2: what goes live -/

section
variable {s t : State}

theorem State.unplan_scene (s : State) (cs : List Nat) : (s.unplan cs).scene = s.scene := by
  unfold State.unplan
  exact foldl_scene (by intro s c; rfl) _ s

theorem State.roleChange_scene (s : State) (old : SourceSet) : (s.roleChange old).scene = s.scene := by
  unfold State.roleChange
  refine foldl_scene (fun s c => ?_) _ s
  exact ite_scene rfl (ite_scene rfl rfl)

theorem State.putSources_scene (s : State) (set : SourceSet) :
    (s.putSources set).scene = State.scene { s with src := { s.src with live := set } } := by
  have hmove (u : State) (old : SourceSet) : (u.moveEmitters old).scene = u.scene := rfl
  exact (hmove ..).trans ((State.roleChange_scene ..).trans (State.unplan_scene ..))

theorem State.sourceApplied_scene (s : State) (no : Option W32) : (s.sourceApplied no).scene = s.scene := by
  unfold State.sourceApplied
  split <;> rfl

theorem State.leavePlinth_scene (s : State) (reason : Nat) : (s.leavePlinth reason).scene = s.scene := ite_scene rfl rfl

theorem State.enterPlinth_scene (s : State) (committed : Bool) : (s.enterPlinth committed).scene = s.scene := by
  unfold State.enterPlinth
  split
  · rfl
  · exact ite_scene rfl rfl

theorem State.smallSettings_scene (s : State) : s.smallSettings.scene = s.scene := by
  unfold State.smallSettings
  dsimp only
  split
  · split <;> rfl
  · dsimp only
    split <;> rfl

/-- Another source set on states of one scene. -/
theorem scene_live (h : t.scene = s.scene) (set : SourceSet) (apply : Option SourceSet) :
    State.scene { t with src := { t.src with live := set, apply := apply } } =
      State.scene { s with src := { s.src with live := set, apply := apply } } :=
  congrArg (fun x => (x.1, x.2.1, x.2.2.1, x.2.2.2.1, (set, apply), x.2.2.2.2.2)) h

/-- A source set goes live. -/
theorem State.bindSources_scene (h : t.scene = s.scene) (set : SourceSet) (no : Option W32) :
    ((t.putSources set).sourceApplied no).scene = State.scene { s with src := { s.src with live := set } } := by
  have happly : t.src.apply = s.src.apply := congrArg (fun x => x.2.2.2.2.1.2) h
  have hset : State.scene { t with src := { t.src with live := set } } =
      State.scene { t with src := { t.src with live := set, apply := s.src.apply } } := by
    rw [← happly]
  exact (State.sourceApplied_scene ..).trans ((State.putSources_scene ..).trans (hset.trans (scene_live h set s.src.apply)))

/-- What a commit brings. -/
def State.liveWith (s : State) (p : Pending) (castLive dark : Bool) : State := { s with
  com := { s.com with live := p.cfg, liveNo := p.no }
  chi := { s.chi with sequencing := true, castLive := castLive, darkTick := dark }
  src := { s.src with live := p.bound.getD s.src.live } }

theorem State.goLive_scene (s : State) (p : Pending) : ∃ castLive dark, (s.goLive p).scene = (s.liveWith p castLive dark).scene := by
  refine ⟨s.chi.castLive || p.cfg.hasPic, p.cfg.mode != s.com.live.mode, ?_⟩
  obtain ⟨w, hw⟩ : ∃ w : State, w = { s with
    com := { s.com with live := p.cfg, liveNo := p.no }
    chi := { s.chi with sequencing := true, castLive := s.chi.castLive || p.cfg.hasPic, darkTick := p.cfg.mode != s.com.live.mode } } := ⟨_, rfl⟩
  have hgoal : (s.liveWith p (s.chi.castLive || p.cfg.hasPic) (p.cfg.mode != s.com.live.mode)).scene =
      State.scene { w with src := { w.src with live := p.bound.getD w.src.live } } := by
    rw [hw]
    rfl
  rw [hgoal]
  unfold State.goLive
  dsimp only
  generalize hleave : State.leavePlinth _ 1 = u
  have hu : u.scene = w.scene := by
    rw [← hleave, hw]
    exact (State.leavePlinth_scene ..).trans rfl
  cases p.bound with
  | none =>
    refine Eq.trans ?_ hu
    exact ite_scene rfl rfl
  | some set =>
    have hbound : (if u.src.bindNo = p.bindNo then { u with src := { u.src with bound := none } } else u).scene = w.scene := ite_scene hu hu
    have hlatency (v : State) (hv : v.scene = State.scene { w with src := { w.src with live := set } }) :
        (if v.ltrOn = true ∧ v.com.live.hostLayer = true ∧ s.com.live.hostLayer = false then
          v.ltrSend (some (hostLatNs v.com.live)) v.now else v).scene = State.scene { w with src := { w.src with live := set } } :=
      ite_scene hv hv
    exact hlatency _ (State.bindSources_scene hbound set (some p.no))

/-- What CAST_SWITCH makes of the live configuration. -/
def State.switchedCfg (s : State) : Cfg := match s.chi.switch_ with
  | none => s.com.live
  | some k => { s.com.live with activeCast := k }

theorem State.switchCast_eq (s : State) : ∃ maq castLive, s.switchCast = { s with
    com := { s.com with live := s.switchedCfg, maq := maq }, chi := { s.chi with switch_ := none, castLive := castLive } } := by
  unfold State.switchCast State.switchedCfg
  cases hswitch : s.chi.switch_ with
  | none =>
    have hchi : ({ s.chi with switch_ := none } : ChiselUnit) = s.chi := congrArg (fun x => { s.chi with switch_ := x }) hswitch.symm
    exact ⟨s.com.maq, s.chi.castLive, congrArg (fun c => { s with chi := c }) hchi.symm⟩
  | some k => exact ⟨_, _, rfl⟩

/-- What is live after a boundary. -/
structure State.Turned (s t : State) : Prop where
  fw : t.mbx.fwState = s.mbx.fwState
  front : t.chi.frontRows = s.chi.frontRows ∧ t.chi.frontDepth = s.chi.frontDepth ∧ t.chi.frontTick = s.chi.frontTick
  next : t.com.next = s.com.later ∧ t.com.later = none
  switched : t.chi.switch_ = none
  apply : t.src.apply = none
  commit : ∀ p, s.com.next = some p → t.com.live = p.cfg ∧ t.com.liveNo = p.no ∧ t.chi.sequencing = true ∧
    ∀ set, p.bound = some set → s.src.apply = none → t.src.live = set
  stays : s.com.next = none → t.com.liveNo = s.com.liveNo ∧ t.com.live = s.switchedCfg ∧ t.chi.sequencing = s.chi.sequencing
  applied : ∀ set, s.src.apply = some set → t.src.live = set
  sources : s.com.next = none → s.src.apply = none → t.src.live = s.src.live

/-- The setting decides. -/
theorem State.Turned.of_setting {u : State} (k : s.Turned u) (h : t.setting = u.setting) : s.Turned t where
  fw := (State.fwState_of_setting h).trans k.fw
  front := ⟨(State.frontRows_of_setting h).trans k.front.1, (State.frontDepth_of_setting h).trans k.front.2.1,
    (State.frontTick_of_setting h).trans k.front.2.2⟩
  next := ⟨(State.next_of_setting h).trans k.next.1, (State.later_of_setting h).trans k.next.2⟩
  switched := (State.switch_of_setting h).trans k.switched
  apply := (State.apply_of_setting h).trans k.apply
  commit := fun p hp => by
    rw [State.live_of_setting h, State.liveNo_of_setting h, State.sequencing_of_setting h, State.sources_of_setting h]
    exact k.commit p hp
  stays := fun hnext => by
    rw [State.live_of_setting h, State.liveNo_of_setting h, State.sequencing_of_setting h]
    exact k.stays hnext
  applied := fun set hset => (State.sources_of_setting h).trans (k.applied set hset)
  sources := fun hnext happly => (State.sources_of_setting h).trans (k.sources hnext happly)

/-- The state from which step 2 brings in what waits. -/
def State.shifted (s : State) (maq : Cfg) (castLive : Bool) : State := { s with
  com := { s.com with live := s.switchedCfg, maq := maq, next := s.com.later, later := none }
  chi := { s.chi with darkTick := false, switch_ := none, castLive := castLive } }

/-- A commit that is due goes live. -/
def State.dueLive (s : State) (due : Option Pending) : State := match due with
  | none => s
  | some p => s.goLive p

/-- A source set that waits goes live. -/
def State.applyDue (s : State) : State := match s.src.apply with
  | none => s
  | some set => (({ s with src := { s.src with apply := none } }).putSources set).sourceApplied none

theorem State.applyDue_scene (h : t.scene = s.scene) : t.applyDue.scene = State.scene { s with
    src := { s.src with live := s.src.apply.getD s.src.live, apply := none } } := by
  have happly : t.src.apply = s.src.apply := State.apply_of_setting (congrArg Prod.snd h)
  unfold State.applyDue
  cases hset : t.src.apply with
  | none =>
    rw [hset] at happly
    have hlive := scene_live h s.src.live none
    rw [← happly]
    refine Eq.trans ?_ hlive
    have hsame : t.src.live = s.src.live := State.sources_of_setting (congrArg Prod.snd h)
    have hsrc : ({ t.src with live := s.src.live, apply := none } : SourceUnit) = t.src := by
      rw [← hsame, ← hset]
    rw [hsrc]
  | some set =>
    rw [hset] at happly
    rw [← happly]
    have hlive : State.scene { t with src := { t.src with apply := none } } = State.scene { s with src := { s.src with apply := none } } := by
      have hsame : t.src.live = s.src.live := State.sources_of_setting (congrArg Prod.snd h)
      have hnone := scene_live h s.src.live none
      refine Eq.trans ?_ hnone
      rw [← hsame]
    exact State.bindSources_scene hlive set none

theorem State.configBoundary_eq (s : State) : ∃ maq castLive, ∃ u : State, u.scene = ((s.shifted maq castLive).dueLive s.com.next).scene ∧
    s.configBoundary = u.applyDue.smallSettings := by
  obtain ⟨maq, castLive, hswitch⟩ := State.switchCast_eq { s with chi := { s.chi with darkTick := false } }
  have hmarks (u : State) : State.scene { u with col := u.col.shiftMarks } = u.scene := rfl
  refine ⟨maq, castLive, State.enterPlinth { (s.shifted maq castLive).dueLive s.com.next with
    col := ((s.shifted maq castLive).dueLive s.com.next).col.shiftMarks } s.com.next.isSome,
    (State.enterPlinth_scene ..).trans (hmarks _), ?_⟩
  unfold State.configBoundary
  dsimp only at hswitch ⊢
  rw [hswitch]
  rfl

/-- The state before a commit goes live, with the source set that waits. -/
theorem State.configBoundary_scene (s : State) : ∃ maq castLive, ∃ v : State, v.scene = ((s.shifted maq castLive).dueLive s.com.next).scene ∧
    s.configBoundary.scene = State.scene { v with src := { v.src with live := s.src.apply.getD v.src.live, apply := none } } := by
  obtain ⟨maq, castLive, u, hu, hconfig⟩ := s.configBoundary_eq
  refine ⟨maq, castLive, u, hu, ?_⟩
  have happly : u.src.apply = s.src.apply := by
    refine (State.apply_of_setting (congrArg Prod.snd hu)).trans ?_
    cases s.com.next with
    | none => rfl
    | some p =>
      obtain ⟨_, _, hlive⟩ := (s.shifted maq castLive).goLive_scene p
      have hsame := State.apply_of_setting (congrArg Prod.snd hlive)
      exact hsame
  rw [hconfig, State.smallSettings_scene, State.applyDue_scene rfl, happly]

theorem State.configBoundary_turned (s : State) :
    s.Turned s.configBoundary ∧ s.configBoundary.chi.inForce = s.chi.inForce := by
  obtain ⟨maq, castLive, v, hv, hconfig⟩ := s.configBoundary_scene
  cases hnext : s.com.next with
  | none =>
    rw [hnext] at hv
    have hscene : s.configBoundary.scene = State.scene { s.shifted maq castLive with
        src := { s.src with live := s.src.apply.getD s.src.live, apply := none } } := by
      have hsources := State.sources_of_setting (congrArg Prod.snd hv)
      have hsame : v.src.live = s.src.live := hsources
      rw [hconfig, hsame]
      exact scene_live hv _ _
    have hforce := State.inForce_of_setting (congrArg Prod.snd hscene)
    refine ⟨State.Turned.of_setting ?_ (congrArg Prod.snd hscene), hforce⟩
    exact {
      fw := rfl, front := ⟨rfl, rfl, rfl⟩, next := ⟨rfl, rfl⟩, switched := rfl, apply := rfl
      commit := fun p hp => absurd (hnext.symm.trans hp) (Option.some_ne_none p).symm
      stays := fun _ => ⟨rfl, rfl, rfl⟩
      applied := fun set hset => congrArg (fun x : Option SourceSet => x.getD s.src.live) hset
      sources := fun _ happly => congrArg (fun x : Option SourceSet => x.getD s.src.live) happly }
  | some p =>
    rw [hnext] at hv
    obtain ⟨castLive', dark, hlive⟩ := (s.shifted maq castLive).goLive_scene p
    have hlive := hv.trans hlive
    have hscene : s.configBoundary.scene = State.scene { (s.shifted maq castLive).liveWith p castLive' dark with
        src := { s.src with live := s.src.apply.getD (p.bound.getD s.src.live), apply := none } } := by
      have hsources := State.sources_of_setting (congrArg Prod.snd hlive)
      have hsame : v.src.live = p.bound.getD s.src.live := hsources
      rw [hconfig, hsame]
      exact scene_live hlive _ _
    have hforce := State.inForce_of_setting (congrArg Prod.snd hscene)
    refine ⟨State.Turned.of_setting ?_ (congrArg Prod.snd hscene), hforce⟩
    exact {
      fw := rfl, front := ⟨rfl, rfl, rfl⟩, next := ⟨rfl, rfl⟩, switched := rfl, apply := rfl
      commit := fun q hq => by
        obtain rfl : p = q := Option.some.inj (hnext.symm.trans hq)
        refine ⟨rfl, rfl, rfl, fun set hset happly => ?_⟩
        show s.src.apply.getD (p.bound.getD s.src.live) = set
        rw [happly, hset]
        rfl
      stays := fun hnone => absurd (hnext.symm.trans hnone) (Option.some_ne_none p)
      applied := fun set hset => congrArg (fun x : Option SourceSet => x.getD (p.bound.getD s.src.live)) hset
      sources := fun hnone => absurd (hnext.symm.trans hnone) (Option.some_ne_none p) }

end

/-! ## Step 3: the cast in force -/

/-- Another array unit of the same state and record. -/
theorem PlaneLink.scene_upd (p : PlaneLink) (a : Nat) {f : ArrayUnit → ArrayUnit} (hf : ∀ x, (f x).state = x.state ∧ (f x).record = x.record) :
    PlaneLink.scene { p with arrays := upd p.arrays a f } = p.scene := by
  have hat (b : Nat) : (at_ (upd p.arrays a f) b).state = (at_ p.arrays b).state ∧
      (at_ (upd p.arrays a f) b).record = (at_ p.arrays b).record := by
    rw [at_upd]
    split
    · exact hf _
    · exact ⟨rfl, rfl⟩
  have hviews : (fun b => ((at_ (upd p.arrays a f) b).state, (at_ (upd p.arrays a f) b).record)) =
      fun b => ((at_ p.arrays b).state, (at_ p.arrays b).record) := funext fun b => Prod.ext (hat b).1 (hat b).2
  exact congrArg (fun v => (p.count, p.lanes, v)) hviews

theorem State.arr_scene (s : State) (a : Nat) {f : ArrayUnit → ArrayUnit} (hf : ∀ x, (f x).state = x.state ∧ (f x).record = x.record) :
    (s.arr a f).scene = s.scene := scene_pl s (PlaneLink.scene_upd s.pl a hf)

theorem State.judgeDegraded_scene (s : State) (a : Nat) : (s.judgeDegraded a).scene = s.scene := by
  unfold State.judgeDegraded
  dsimp only
  refine ite_scene ((State.raiseB_scene ..).trans ?_) ?_ <;> exact State.arr_scene s a fun _ => ⟨rfl, rfl⟩

theorem State.countLoads_scene (s : State) : s.countLoads.scene = s.scene :=
  scene_pl s (PlaneLink.scene_map s.pl fun _ => ⟨rfl, rfl⟩)

theorem State.runBoundary_scene (s : State) (a : Nat) : (s.runBoundary a).scene = s.scene := by
  have hmap (mask : BitVec 96) : (s.newMap a mask).scene = s.scene := State.arr_scene s a fun _ => ⟨rfl, rfl⟩
  have hruns (u : State) (hu : u.scene = s.scene) (l : List ArrayRun) : State.scene { u with chi := { u.chi with runs := l } } = s.scene := hu
  unfold State.runBoundary
  exact hruns _ (ite_scene (hmap _) rfl) _

/-- Lanes come back into service. -/
theorem State.restoreLanes_eq (l : List Nat) (s : State) : ∃ lanes evq, l.foldl State.restoreLane s = { s with
    pl := { s.pl with lanes := lanes }, evq := evq } := by
  have hone (s : State) (n : Nat) : ∃ lanes evq, s.restoreLane n = { s with pl := { s.pl with lanes := lanes }, evq := evq } := by
    unfold State.restoreLane
    split
    · exact ⟨s.pl.lanes, s.evq, rfl⟩
    · apply iteInduction (motive := fun t : State => ∃ lanes evq, t = { s with pl := { s.pl with lanes := lanes }, evq := evq })
      · exact fun _ => ⟨_, _, rfl⟩
      · exact fun _ => ⟨s.pl.lanes, s.evq, rfl⟩
  induction l generalizing s with
  | nil => exact ⟨s.pl.lanes, s.evq, rfl⟩
  | cons n l ih =>
    obtain ⟨_, _, hfirst⟩ := hone s n
    obtain ⟨lanes, evq, hrest⟩ := ih (s.restoreLane n)
    rw [hfirst] at hrest
    exact ⟨lanes, evq, (congrArg (l.foldl State.restoreLane) hfirst).trans hrest⟩

/-- The state with another cast in force. -/
def State.playing (s : State) (k : Nat) : State := { s with chi := { s.chi with inForce := k } }

theorem State.setCast_scene (s : State) (c : CastChoice) (reason : Nat) : (s.setCast c reason).scene = (s.playing c.cast).scene :=
  ite_scene rfl rfl

/-- The cast in force of the tick: none in a restart interval, else the choice of 06 R137 after R125. -/
theorem State.castBoundary_scene (s : State) (before : Option Nat) (switched : Bool) : ∃ r : State,
    (∃ lanes evq, r = { s with pl := { s.pl with lanes := lanes }, evq := evq }) ∧
    (s.castBoundary before switched).scene = (r.playing (if s.inTrip then 0xFF
      else (r.castHeld r.liveEnv (chooseCast r.liveEnv r.chi.castLive) r.chi.darkTick).1.cast)).scene := by
  obtain ⟨lanes, evq, hrestore⟩ := State.restoreLanes_eq (List.range 96) s
  obtain ⟨r, hr⟩ : ∃ r : State, r = (List.range 96).foldl State.restoreLane s := ⟨_, rfl⟩
  have htrip : r.inTrip = s.inTrip := by
    rw [hr, hrestore]
    rfl
  refine ⟨r, ⟨lanes, evq, hr.trans hrestore⟩, ?_⟩
  unfold State.castBoundary
  rw [← hr, ← htrip]
  dsimp only
  have hrun (u : State) : (fourArrays.foldl State.runBoundary u.countLoads).scene = u.scene :=
    (foldl_scene State.runBoundary_scene _ _).trans u.countLoads_scene
  have hlost (u : State) : State.scene { u with chi := { u.chi with laneLost := false } } = u.scene := rfl
  refine (hlost _).trans ((hrun _).trans ?_)
  by_cases hheld : r.inTrip = true
  · rw [if_pos hheld, if_pos hheld]
    exact (State.leavePlinth_scene ..).trans (State.setCast_scene ..)
  · rw [if_neg hheld, if_neg hheld]
    refine (foldl_scene State.judgeDegraded_scene ..).trans ((State.setCast_scene ..).trans ?_)
    have hdepth (u : State) (hu : u.scene = r.scene) (k : Nat) : (u.playing k).scene = (r.playing k).scene :=
      congrArg (fun x => (x.1, x.2.1, x.2.2.1, (x.2.2.2.1.1, (x.2.2.2.1.2.1.1, x.2.2.2.1.2.1.2.1, x.2.2.2.1.2.1.2.2.1, k,
        x.2.2.2.1.2.1.2.2.2.2), x.2.2.2.1.2.2), x.2.2.2.2)) hu
    apply hdepth
    exact ite_scene rfl rfl

end Sys2Proof.Machine
end

section
/-! PROOFS. The tick boundary as a whole, and the instants of the armature sequencer (01 R21, 02 R43, R45, 06 R132, 07 R167). -/
namespace Sys2Proof.Machine

/-! ## The boundary -/

section
variable {s t u : State}

theorem State.setting_of_scene (h : t.scene = s.scene) : t.setting = s.setting := congrArg Prod.snd h

theorem State.len_of_scene (h : t.scene = s.scene) : t.tk.len = s.tk.len := congrArg Prod.fst h

/-- What decides a turn. -/
theorem State.Turned.ofSame (k : s.Turned t) (hfw : u.mbx.fwState = s.mbx.fwState) (hcom : u.com = s.com) (hchi : u.chi = s.chi)
    (hlive : u.src.live = s.src.live) (happly : u.src.apply = s.src.apply) : u.Turned t where
  fw := k.fw.trans hfw.symm
  front := by rw [hchi]; exact k.front
  next := by rw [hcom]; exact k.next
  switched := k.switched
  apply := k.apply
  commit := by rw [hcom, happly]; exact k.commit
  stays := by
    unfold State.switchedCfg
    rw [hcom, hchi]
    exact k.stays
  applied := by rw [happly]; exact k.applied
  sources := by rw [hcom, happly, hlive]; exact k.sources

/-- A state of another time, light and charge. -/
def State.Passed (s c : State) : Prop := ∃ now fetch tk cl con evq src th, c = { s with
  now := now, fetch := fetch, tk := tk, cl := cl, con := con, evq := evq, src := src, th := th } ∧
  src.live = s.src.live ∧ src.apply = s.src.apply

/-- The frames are swapped as the state that stood says. -/
theorem State.Passed.swapFrames (h : s.Passed t) : s.swapFrames.Passed t.swapFrames := by
  obtain ⟨now, fetch, tk, cl, con, evq, src, th, rfl, hlive, happly⟩ := h
  by_cases hskip : s.chi.plinth = true ∨ s.inTrip = true
  · have hs : s.swapFrames = s := if_pos hskip
    rw [hs]
    exact ⟨now, fetch, tk, cl, con, evq, src, th, if_pos hskip, hlive, happly⟩
  · have hs : s.swapFrames = { s with chi := { s.chi with
      frontRows := s.chi.backRows, frontDepth := s.chi.backDepth, frontTick := s.chi.backTick } } := if_neg hskip
    rw [hs]
    exact ⟨now, fetch, tk, cl, con, evq, src, th, if_neg hskip, hlive, happly⟩

theorem State.Turned.passed (k : u.Turned t) (h : s.Passed u) : s.Turned t := by
  obtain ⟨_, _, _, _, _, _, _, _, rfl, hlive, happly⟩ := h
  exact k.ofSame rfl rfl rfl hlive.symm happly.symm

/-- The state after step 2, with the length of the tick that opens. -/
def State.opened (s : State) (no : W32) : State := { s.swapFrames.configBoundary with
  tk := { s.swapFrames.configBoundary.tk with len := tickLen s.swapFrames.configBoundary.liveMode no } }

/-- The state once the tick has ended and its light and charge are counted. -/
def State.ended (s : State) : State :=
  ((((s.ltrTo (s.tk.start + s.tk.len)).forward (s.tk.start + s.tk.len)).openTick (s.tk.start + s.tk.len) (s.tk.tick + 1) false).constancyEnd
    s.tk.len).sourceBoundary s.tk.tick s.tk.len

theorem State.ended_passed (s : State) : s.Passed s.ended := by
  obtain ⟨con, evq, hconstancy⟩ := State.constancyEnd_eq
    (((s.ltrTo (s.tk.start + s.tk.len)).forward (s.tk.start + s.tk.len)).openTick (s.tk.start + s.tk.len) (s.tk.tick + 1) false) s.tk.len
  unfold State.ended
  rw [hconstancy, s.ltrTo_eq]
  obtain ⟨src, th, evq, hsource, hlive, happly⟩ := State.sourceBoundary_eq { ({ s with fetch := (s.ltrTo (s.tk.start + s.tk.len)).fetch } :
    State).forward (s.tk.start + s.tk.len) |>.openTick (s.tk.start + s.tk.len) (s.tk.tick + 1) false with con := con, evq := evq } s.tk.tick s.tk.len
  exact ⟨_, _, _, _, con, evq, src, th, hsource, hlive, happly⟩

/-- The steps of a boundary at which no renumbering is due. -/
theorem State.boundary_eq (hopen : s.tk.open_ = true) (hnum : s.tk.renumberDue = false) : ∃ before switched mode,
    s.boundary = ((((((s.ended.opened (s.tk.tick + 1)).castBoundary before switched).throttleBoundary.constancyBoundary).sourceOfTick
      mode).unitBoundaries s.tk.len).pumpAll.beginFrame.plinthRefresh) := by
  have hnumber : ((s.ltrTo (s.tk.start + s.tk.len)).forward (s.tk.start + s.tk.len)).nextNumber (s.tk.start + s.tk.len) =
      (s.tk.tick + 1, false) := by
    unfold State.nextNumber
    simp [hnum]
  unfold State.boundary
  rw [if_neg (by rw [hopen]; exact nofun)]
  dsimp only
  rw [hnumber]
  dsimp only
  rw [if_neg Bool.false_ne_true]
  unfold State.opened State.ended
  exact ⟨_, _, _, rfl⟩

/-- Lanes and events decide nothing of it. -/
theorem State.Turned.lanes (k : s.Turned t) (lanes : List Lane) (evq : EventQueue) :
    s.Turned { t with pl := { t.pl with lanes := lanes }, evq := evq } :=
  ⟨k.fw, k.front, k.next, k.switched, k.apply, k.commit, k.stays, k.applied, k.sources⟩

/-- The length of the tick that opens, in the mode that is live. -/
theorem State.opened_spec (s : State) (no : W32) : (s.opened no).setting = s.swapFrames.configBoundary.setting ∧
    (s.opened no).tk.len = tickLen (s.opened no).liveMode no := by
  unfold State.opened
  generalize s.swapFrames.configBoundary = u
  exact ⟨rfl, rfl⟩

theorem State.opened_turned (s : State) : s.swapFrames.Turned (s.ended.opened (s.tk.tick + 1)) ∧
    (s.ended.opened (s.tk.tick + 1)).chi.inForce = s.swapFrames.chi.inForce := by
  obtain ⟨hturned, hforce⟩ := s.ended.swapFrames.configBoundary_turned
  have hpassed := s.ended_passed.swapFrames
  have hopened := (s.ended.opened_spec (s.tk.tick + 1)).1
  refine ⟨(hturned.of_setting hopened).passed hpassed, (State.inForce_of_setting hopened).trans (hforce.trans ?_)⟩
  obtain ⟨_, _, _, _, _, _, _, _, hswap, -⟩ := hpassed
  rw [hswap]

/-- The cast in force changes nothing else. -/
theorem State.Turned.playing (k : s.Turned t) (n : Nat) : s.Turned (t.playing n) :=
  ⟨k.fw, k.front, k.next, k.switched, k.apply, k.commit, k.stays, k.applied, k.sources⟩

/-- The cast in force after a boundary that opens tick state `d`, with the lanes of `r`. -/
def State.chosenCast (r : State) : Nat :=
  if r.inTrip then 0xFF else (r.castHeld r.liveEnv (chooseCast r.liveEnv r.chi.castLive) r.chi.darkTick).1.cast

/-- What a boundary leaves: the state after step 2, with the lanes in service and the cast in force. -/
theorem State.boundary_setting (hopen : s.tk.open_ = true) (hnum : s.tk.renumberDue = false) : ∃ r : State, s.swapFrames.Turned r ∧ r.chi.inForce = s.swapFrames.chi.inForce ∧
    r.tk.len = tickLen r.liveMode (s.tk.tick + 1) ∧ s.boundary.setting = (r.playing r.chosenCast).setting ∧
    (r.chi.sequencing = true → s.boundary.tk.len = r.tk.len) := by
  obtain ⟨before, switched, mode, hboundary⟩ := State.boundary_eq hopen hnum
  obtain ⟨hturned, hforce⟩ := s.opened_turned
  have hlen := (s.ended.opened_spec (s.tk.tick + 1)).2
  generalize s.ended.opened (s.tk.tick + 1) = d at *
  obtain ⟨r, ⟨lanes, evq, hr⟩, hcast⟩ := d.castBoundary_scene before switched
  have htrip : d.inTrip = r.inTrip := hr ▸ rfl
  have hchosen : r.chosenCast = if r.inTrip then 0xFF
      else (r.castHeld r.liveEnv (chooseCast r.liveEnv r.chi.castLive) r.chi.darkTick).1.cast := rfl
  rw [htrip, ← hchosen] at hcast
  obtain ⟨hsource, hsourceLen⟩ := ((d.castBoundary before switched).throttleBoundary.constancyBoundary).sourceOfTick_setting mode
  have hkeep : ((d.castBoundary before switched).throttleBoundary.constancyBoundary).scene = (r.playing r.chosenCast).scene :=
    (State.constancyBoundary_scene _).trans ((State.throttleBoundary_scene _).trans hcast)
  have hend : s.boundary.scene =
      (((d.castBoundary before switched).throttleBoundary.constancyBoundary).sourceOfTick mode).scene := by
    rw [hboundary]
    exact (State.frameBegins_scene _).trans (State.unitBoundaries_scene ..)
  refine ⟨r, ?_, ?_, ?_, (State.setting_of_scene hend).trans (hsource.trans (State.setting_of_scene hkeep)), fun hrun => ?_⟩
  · rw [hr]
    exact hturned.lanes ..
  · rw [hr]
    exact hforce
  · rw [hr]
    exact hlen
  · have hseq := State.sequencing_of_setting (State.setting_of_scene hkeep)
    have hlast := State.len_of_scene (hend.trans ((hsourceLen (hseq.trans hrun)).trans hkeep))
    exact hlast

/-- The cast in force where the device runs. -/
theorem State.castHeld_cast (r : State) (e : CastEnv) (c : CastChoice) (dark : Bool) :
    (c.cast = 0xFF ∨ dark = true ∨ r.depthOk c.cast = true → (r.castHeld e c dark).1.cast = c.cast) ∧
    (c.cast ≠ 0xFF → dark = false → r.depthOk c.cast = false → (r.castHeld e c dark).1.cast = r.chi.inForce) := by
  unfold State.castHeld
  refine ⟨fun hfree => by rw [if_pos hfree], fun hcast hdark hdepth => ?_⟩
  rw [if_neg (by rw [hdark, hdepth]; exact fun h => h.elim hcast (fun h => h.elim nofun nofun))]
  split
  · rfl
  · next hnone => exact (not_not.mp hnone).symm

/-- The length of the tick follows the mode while the sequencer runs, and the cast in force the choice of 06 R137 after R125. -/
theorem State.boundary_turned (hopen : s.tk.open_ = true) (hnum : s.tk.renumberDue = false) : s.swapFrames.Turned s.boundary ∧
    (s.boundary.chi.sequencing = true → s.boundary.tk.len = tickLen s.boundary.liveMode (s.tk.tick + 1)) ∧
    (s.inTrip = true → s.boundary.chi.inForce = 0xFF) ∧
    (s.inTrip = false → ∀ c, c = (chooseCast s.boundary.liveEnv s.boundary.chi.castLive).cast →
      (c = 0xFF ∨ s.boundary.chi.darkTick = true ∨ s.boundary.depthOk c = true → s.boundary.chi.inForce = c) ∧
      (c ≠ 0xFF → s.boundary.chi.darkTick = false → s.boundary.depthOk c = false →
        s.boundary.chi.inForce = s.swapFrames.chi.inForce)) := by
  obtain ⟨r, hturned, hforce, hlen, hsetting, hrun⟩ := State.boundary_setting hopen hnum
  have htrip : r.inTrip = s.inTrip := by
    have hfw : r.mbx.fwState = s.mbx.fwState := hturned.fw.trans (by unfold State.swapFrames; split <;> rfl)
    unfold State.inTrip
    rw [hfw]
  have hmode : s.boundary.liveMode = r.liveMode := congrArg (fun c : Cfg => c.mode.toNat) (State.live_of_setting (s := r.playing r.chosenCast) hsetting)
  have hinForce : s.boundary.chi.inForce = r.chosenCast := State.inForce_of_setting (s := r.playing r.chosenCast) hsetting
  have henv : s.boundary.liveEnv = r.liveEnv := State.liveEnv_of_setting (s := r.playing r.chosenCast) hsetting
  have hcastLive : s.boundary.chi.castLive = r.chi.castLive := State.castLive_of_setting (s := r.playing r.chosenCast) hsetting
  have hdark : s.boundary.chi.darkTick = r.chi.darkTick := State.darkTick_of_setting (s := r.playing r.chosenCast) hsetting
  have hdepth (k : Nat) : s.boundary.depthOk k = r.depthOk k := State.depthOk_of_setting (s := r.playing r.chosenCast) hsetting k
  have hseq : s.boundary.chi.sequencing = r.chi.sequencing := State.sequencing_of_setting (s := r.playing r.chosenCast) hsetting
  refine ⟨(hturned.playing _).of_setting hsetting, fun hon => ?_, fun hheld => ?_, fun hruns c hc => ?_⟩
  · rw [hrun (hseq.symm.trans hon), hmode, hlen]
  · rw [hinForce]
    exact if_pos (htrip.trans hheld)
  · have hchosen : r.chosenCast = (r.castHeld r.liveEnv (chooseCast r.liveEnv r.chi.castLive) r.chi.darkTick).1.cast :=
      if_neg (by rw [htrip, hruns]; exact Bool.false_ne_true)
    rw [henv, hcastLive] at hc
    rw [hdark, hdepth, hinForce, hchosen, hc, ← hforce]
    exact State.castHeld_cast ..

/-- The front frame of the tick that opens. -/
theorem State.swapFrames_spec (s : State) :
    (s.chi.plinth = false → s.inTrip = false → s.swapFrames.chi.frontRows = s.chi.backRows ∧
      s.swapFrames.chi.frontDepth = s.chi.backDepth ∧ s.swapFrames.chi.frontTick = s.chi.backTick) ∧
    (s.chi.plinth = true → s.swapFrames.chi.frontRows = s.chi.frontRows ∧
      s.swapFrames.chi.frontDepth = s.chi.frontDepth ∧ s.swapFrames.chi.frontTick = s.chi.frontTick) := by
  refine ⟨fun hplinth htrip => ?_, fun hplinth => ?_⟩
  · have hswap : s.swapFrames = { s with chi := { s.chi with
        frontRows := s.chi.backRows, frontDepth := s.chi.backDepth, frontTick := s.chi.backTick } } :=
      if_neg (by rw [hplinth, htrip]; exact fun h => h.elim nofun nofun)
    rw [hswap]
    exact ⟨rfl, rfl, rfl⟩
  · have hswap : s.swapFrames = s := if_pos (.inl hplinth)
    rw [hswap]
    exact ⟨rfl, rfl, rfl⟩

/-- What swaps no frame. -/
theorem State.swapFrames_kept (s : State) : ∃ chi, s.swapFrames = { s with chi := chi } ∧ chi.switch_ = s.chi.switch_ ∧
    chi.sequencing = s.chi.sequencing ∧ chi.inForce = s.chi.inForce := by
  unfold State.swapFrames
  split
  · exact ⟨s.chi, rfl, rfl, rfl, rfl⟩
  · exact ⟨_, rfl, rfl, rfl, rfl⟩

theorem State.switchedCfg_swapFrames (s : State) : s.swapFrames.switchedCfg = s.switchedCfg := by
  obtain ⟨chi, hswap, hswitch, -⟩ := s.swapFrames_kept
  rw [hswap]
  unfold State.switchedCfg
  dsimp only
  rw [hswitch]

/-- The timeline after a boundary. -/
theorem State.boundary_timeline (hopen : s.tk.open_ = true) (hnum : s.tk.renumberDue = false) :
    s.boundary.tk.tick = s.tk.tick + 1 ∧ s.boundary.tk.start = s.tk.start + s.tk.len ∧ s.boundary.tk.prevLen = s.tk.len ∧
    s.boundary.tk.slot = none ∧ s.boundary.axes = s.axes ∧ s.boundary.boot = s.boot ∧ s.boundary.sec = s.sec := by
  have hticks := s.boundary_ticks hopen hnum
  unfold State.ticks ticksOf at hticks
  simp only [Prod.mk.injEq] at hticks
  obtain ⟨-, htick, hstart, hprev, hslot, haxes, hboot, hsec⟩ := hticks
  exact ⟨htick, hstart, hprev, hslot, haxes, hboot, hsec⟩

/-- The boundary that opens the next tick. -/
theorem tickBoundary_opens (hopen : s.tk.open_ = true) (hnum : s.tk.renumberDue = false) : ∃ t : State, exec .tickBoundary s = .next t ∧
      t.tk.tick = s.tk.tick + 1 ∧ t.tk.start = s.tk.start + s.tk.len ∧ t.tk.prevLen = s.tk.len ∧ t.tk.slot = none ∧
      t.axes = s.axes ∧ t.boot = s.boot ∧ t.sec = s.sec ∧
      (s.chi.sequencing = true ∨ s.com.next.isSome = true → t.tk.len = tickLen t.liveMode (s.tk.tick + 1)) ∧
      (s.chi.plinth = false → s.inTrip = false →
        t.chi.frontRows = s.chi.backRows ∧ t.chi.frontDepth = s.chi.backDepth ∧ t.chi.frontTick = s.chi.backTick) ∧
      (s.chi.plinth = true →
        t.chi.frontRows = s.chi.frontRows ∧ t.chi.frontDepth = s.chi.frontDepth ∧ t.chi.frontTick = s.chi.frontTick) ∧
      t.com.next = s.com.later ∧ t.com.later = none ∧ t.chi.switch_ = none ∧ t.src.apply = none ∧
      (∀ p, s.com.next = some p → t.com.live = p.cfg ∧ t.com.liveNo = p.no ∧ t.chi.sequencing = true ∧
        (∀ set, p.bound = some set → s.src.apply = none → t.src.live = set)) ∧
      (s.com.next = none → t.com.liveNo = s.com.liveNo ∧ t.com.live = s.switchedCfg) ∧
      (∀ set, s.src.apply = some set → t.src.live = set) ∧
      (s.com.next = none → s.src.apply = none → t.src.live = s.src.live) ∧
      (s.inTrip = true → t.chi.inForce = 0xFF) ∧
      (s.inTrip = false → ∀ c, c = (chooseCast t.liveEnv t.chi.castLive).cast →
        (c = 0xFF ∨ t.chi.darkTick = true ∨ t.depthOk c = true → t.chi.inForce = c) ∧
        (c ≠ 0xFF → t.chi.darkTick = false → t.depthOk c = false → t.chi.inForce = s.chi.inForce)) := by
  obtain ⟨htick, hstart, hprev, hslot, haxes, hboot, hsec⟩ := State.boundary_timeline hopen hnum
  obtain ⟨hturned, hlen, htrip, hcast⟩ := State.boundary_turned hopen hnum
  have hexec : exec .tickBoundary s = .next s.boundary.settle := rfl
  obtain ⟨hswapped, hplinth⟩ := s.swapFrames_spec
  obtain ⟨chi, hkept, hswitch, hseq, hforce⟩ := s.swapFrames_kept
  have hcfg := s.switchedCfg_swapFrames
  have hcom : s.swapFrames.com = s.com := by rw [hkept]
  have hlive : s.swapFrames.src = s.src := by rw [hkept]
  have hchi : s.swapFrames.chi = chi := by rw [hkept]
  obtain ⟨-, ⟨hrows, hdepths, htickF⟩, ⟨hnext, hlater⟩, hdone, happly, hcommit, hstays, happlied, hsources⟩ := hturned
  generalize s.boundary = b at *
  rw [hcom] at hnext hcommit hstays hsources
  rw [hlive] at happlied hsources hcommit
  rw [hchi] at hstays hcast
  rw [hcfg, hseq] at hstays
  rw [hforce] at hcast
  refine ⟨_, hexec, htick, hstart, hprev, hslot, haxes, hboot, hsec, fun hrun => hlen ?_, fun hoff hruns => ?_, fun hon => ?_, hnext, hlater,
    hdone, happly, hcommit, fun hnone => ⟨(hstays hnone).1, (hstays hnone).2.1⟩, happlied, hsources, htrip, hcast⟩
  · cases hdue : s.com.next with
    | none =>
      rw [hdue] at hrun
      exact (hstays hdue).2.2.trans (hrun.resolve_right nofun)
    | some p => exact (hcommit p hdue).2.2.1
  · obtain ⟨hr, hd, ht⟩ := hswapped hoff hruns
    exact ⟨hrows.trans hr, hdepths.trans hd, htickF.trans ht⟩
  · obtain ⟨hr, hd, ht⟩ := hplinth hon
    exact ⟨hrows.trans hr, hdepths.trans hd, htickF.trans ht⟩

end

end Sys2Proof.Machine
end

section
/-! PROOFS. The instants of the armature sequencer: slots, entries and map points (02 R43, R45, 06 R132, R133, 07 R167). -/
namespace Sys2Proof.Machine

/-! ## Loads -/

/-- The run of an array as `g` changes it, and the array as `h` does. -/
def State.turn (s : State) (a : Nat) (g : ArrayRun → ArrayRun) (h : ArrayUnit → ArrayUnit) : State := { s with
  chi := { s.chi with runs := upd s.chi.runs a g }, pl := { s.pl with arrays := upd s.pl.arrays a h } }

/-- A load goes out on the wire of an array. -/
def ArrayUnit.sendLoad (k : Section) (frame : List (List (List Nat))) (plane : Option (Nat × Nat)) (x : ArrayUnit) : ArrayUnit :=
  let r := x.record.getD []
  { x with
    loadSeq := (x.loadSeq + 1) % 256, loadsSent := x.loadsSent + 1,
    wire := x.wire ++ [.load ((x.loadSeq + 1) % 256) (arRows r) (arCols r) k.ox k.oy plane (if plane.isSome then frame else [])] }

/-- A load is noted by the run of its array and goes out on its wire. -/
theorem State.load_eq (s : State) (a t : Nat) (c : Cast) (frame : List (List (List Nat))) (plane : Option (Nat × Nat)) :
    s.load a t c frame plane = s.turn a (fun r => { r with loaded := plane, loadAt := t })
      (ArrayUnit.sendLoad (at_ c.sections a) frame plane) := rfl

section
variable {s : State} {a i : Nat}

theorem upd_id {α : Type} (l : List α) (i : Nat) : upd l i id = l := List.modify_id ..

theorem State.turn_id (s : State) (a : Nat) : s.turn a id id = s := by
  unfold State.turn
  rw [upd_id, upd_id]

theorem State.turn_turn (s : State) (a : Nat) (g g' : ArrayRun → ArrayRun) (h h' : ArrayUnit → ArrayUnit) :
    (s.turn a g h).turn a g' h' = s.turn a (fun r => g' (g r)) fun x => h' (h x) := by
  unfold State.turn
  dsimp only
  rw [upd_upd, upd_upd]

/-! ## Slots -/

/-- A run that has just turned to a slot: nothing displayed, and of its groups the one of the slot or none. -/
def ArrayRun.AtSlot (r : ArrayRun) (g : Nat) : Prop := r.pos = 0 ∧ r.shown = none ∧ (r.group.isSome = true → r.group = some g)

theorem State.preload_eq (s : State) (i a : Nat) : ∃ g h, s.preload i a = s.turn a g h ∧
    ∀ r, (g r).pos = r.pos ∧ (g r).shown = r.shown ∧ (g r).group = r.group := by
  have hnone : ∃ g h, s = s.turn a g h ∧ ∀ r, (g r).pos = r.pos ∧ (g r).shown = r.shown ∧ (g r).group = r.group :=
    ⟨id, id, (s.turn_id a).symm, fun _ => ⟨rfl, rfl, rfl⟩⟩
  unfold State.preload
  dsimp only
  apply iteInduction (motive := fun t : State => ∃ g h, t = s.turn a g h ∧
    ∀ r, (g r).pos = r.pos ∧ (g r).shown = r.shown ∧ (g r).group = r.group)
  · exact fun _ => hnone
  · intro _
    split
    · exact ⟨_, _, s.load_eq .., fun _ => ⟨rfl, rfl, rfl⟩⟩
    · exact hnone

/-- What an array does as a slot starts. -/
theorem State.startGroup_eq (s : State) (i a : Nat) : ∃ g h, (s.startGroup i a).preload i a = s.turn a g h ∧
    ∀ r, (g r).AtSlot (s.com.live.groupNo a i) := by
  obtain ⟨on, hstart⟩ : ∃ on : Bool, s.startGroup i a = s.turn a (fun r => { r with
      group := if on then some (s.com.live.groupNo a i) else none, pos := 0, nextAt := s.tk.start + s.slotOffset i, entry := none, shown := none })
      id := ⟨_, by unfold State.turn; rw [upd_id]; rfl⟩
  obtain ⟨g, h, hpre, hkeep⟩ := (s.startGroup i a).preload_eq i a
  rw [hpre, hstart, State.turn_turn]
  refine ⟨_, _, rfl, fun r => ?_⟩
  obtain ⟨hpos, hshown, hgroup⟩ := hkeep { r with
    group := if on then some (s.com.live.groupNo a i) else none, pos := 0, nextAt := s.tk.start + s.slotOffset i, entry := none, shown := none }
  refine ⟨hpos, hshown, fun hsome => ?_⟩
  rw [hgroup] at hsome ⊢
  cases on with
  | true => rfl
  | false => exact absurd hsome nofun

/-- The state with other runs and arrays. -/
def State.turned (s : State) (runs : List ArrayRun) (arrays : List ArrayUnit) : State :=
  { s with chi := { s.chi with runs := runs }, pl := { s.pl with arrays := arrays } }

/-- One array turns to a slot. -/
theorem State.turned_startGroup (s : State) (i a : Nat) (runs : List ArrayRun) (arrays : List ArrayUnit) : ∃ g arrays',
    ((s.turned runs arrays).startGroup i a).preload i a = s.turned (upd runs a g) arrays' ∧ ∀ r, (g r).AtSlot (s.com.live.groupNo a i) := by
  obtain ⟨g, h, hturn, hat⟩ := (s.turned runs arrays).startGroup_eq i a
  exact ⟨g, upd arrays a h, hturn, hat⟩

/-- The four arrays turn to a slot. -/
theorem State.startGroups_eq (s : State) (i : Nat) (hlen : s.chi.runs.length = 4) : ∃ runs arrays,
    fourArrays.foldl (fun s a => (s.startGroup i a).preload i a) s = s.turned runs arrays ∧
    ∀ a < 4, (at_ runs a).AtSlot (s.com.live.groupNo a i) := by
  obtain ⟨g0, arrays0, hturn0, hat0⟩ := s.turned_startGroup i 0 s.chi.runs s.pl.arrays
  obtain ⟨g1, arrays1, hturn1, hat1⟩ := s.turned_startGroup i 1 (upd s.chi.runs 0 g0) arrays0
  obtain ⟨g2, arrays2, hturn2, hat2⟩ := s.turned_startGroup i 2 (upd (upd s.chi.runs 0 g0) 1 g1) arrays1
  obtain ⟨g3, arrays3, hturn3, hat3⟩ := s.turned_startGroup i 3 (upd (upd (upd s.chi.runs 0 g0) 1 g1) 2 g2) arrays2
  have hself : s.turned s.chi.runs s.pl.arrays = s := rfl
  rw [hself] at hturn0
  refine ⟨upd (upd (upd (upd s.chi.runs 0 g0) 1 g1) 2 g2) 3 g3, arrays3, ?_, fun a ha => ?_⟩
  · simp only [fourArrays, List.foldl_cons, List.foldl_nil]
    rw [hturn0, hturn1, hturn2, hturn3]
  · interval_cases a
    · simpa [at_upd, hlen] using hat0 _
    · simpa [at_upd, hlen] using hat1 _
    · simpa [at_upd, hlen] using hat2 _
    · simpa [at_upd, hlen] using hat3 _

/-- The slot that starts next. -/
def State.nextSlot (s : State) : Nat := match s.tk.slot with
  | none => 0
  | some n => n + 1

/-- A DUMP slot lets the diagnostics take cells again. -/
def State.dumpTurn (s : State) (k : Slot) : State :=
  if k.type = 2 then { s with diag := { s.diag with cell := 0, emitterUsed := false } } else s

/-- The tick stands in a slot. -/
def State.slotOpen (s : State) (i : Nat) : State :=
  let k := at_ s.com.live.slots i
  let s := s.forward (s.tk.start + s.slotOffset i)
  { s with tk := { s.tk with
    slot := some i, wasSlot := s.tk.inSlot, inSlot := some k, slotAt := s.tk.start + s.slotOffset i,
    pth := if k.type = 3 ∨ s.tk.inSlot = none then k.pth else s.tk.pth } }

/-- The arrays turn to a slot. -/
def State.slotGroups (s : State) (i : Nat) : State := fourArrays.foldl (fun s a => (s.startGroup i a).preload i a) s

theorem State.slotStart_eq (hopen : s.tk.open_ = true) (hseq : s.chi.sequencing = true) (hslot : s.nextSlot < s.com.live.slots.length) :
    s.slotStart = ((s.slotOpen s.nextSlot).slotGroups s.nextSlot).dumpTurn (at_ s.com.live.slots s.nextSlot) := by
  have hruns (n : Nat) (hn : n < s.com.live.slots.length) :
      ¬ (s.tk.open_ = false ∨ s.chi.sequencing = false ∨ s.com.live.slots.length ≤ n) := by
    rw [hopen, hseq]
    exact fun h => h.elim nofun fun h => h.elim nofun (Nat.not_le.mpr hn)
  unfold State.slotStart State.nextSlot State.slotOpen State.slotGroups State.dumpTurn at *
  cases hs : s.tk.slot with
  | none =>
    rw [hs] at hslot
    dsimp only
    rw [if_neg (hruns 0 hslot)]
  | some n =>
    rw [hs] at hslot
    dsimp only
    rw [if_neg (hruns (n + 1) hslot)]

theorem slotStart_starts (hopen : s.tk.open_ = true) (hi : i = s.nextSlot) (hseq : s.chi.sequencing = true) (hlen : s.chi.runs.length = 4)
    (hslot : i < s.com.live.slots.length) : ∃ t : State, exec .slotStart s = .next t ∧
      t.now = max s.now (s.tk.start + s.slotOffset i) ∧
      t.tk = { s.tk with
        slot := some i, wasSlot := s.tk.inSlot, inSlot := some (at_ s.com.live.slots i),
        slotAt := s.tk.start + s.slotOffset i,
        pth := if (at_ s.com.live.slots i).type = 3 ∨ s.tk.inSlot = none then (at_ s.com.live.slots i).pth else s.tk.pth } ∧
      (∀ a < 4, (at_ t.chi.runs a).pos = 0 ∧ (at_ t.chi.runs a).shown = none ∧
        ((at_ t.chi.runs a).group.isSome = true → (at_ t.chi.runs a).group = some (s.com.live.groupNo a i))) ∧
      t = { s with
        now := t.now, tk := t.tk, chi := t.chi, pl := t.pl, src := t.src, diag := t.diag, con := t.con, show_ := t.show_ } := by
  have hturn := State.slotStart_eq hopen hseq (hi ▸ hslot)
  rw [← hi] at hturn
  obtain ⟨u, hu⟩ : ∃ u : State, u = { s with
      now := max s.now (s.tk.start + s.slotOffset i)
      tk := { s.tk with
        slot := some i, wasSlot := s.tk.inSlot, inSlot := some (at_ s.com.live.slots i), slotAt := s.tk.start + s.slotOffset i
        pth := if (at_ s.com.live.slots i).type = 3 ∨ s.tk.inSlot = none then (at_ s.com.live.slots i).pth else s.tk.pth } } := ⟨_, rfl⟩
  have hstep : s.slotOpen i = u := by
    rw [hu]
    rfl
  obtain ⟨runs, arrays, hfold, hat⟩ := u.startGroups_eq i (by rw [hu]; exact hlen)
  have hgroups : u.slotGroups i = u.turned runs arrays := hfold
  rw [hstep, hgroups, hu] at hturn
  unfold State.turned State.dumpTurn at hturn
  rw [hu] at hat
  by_cases hdump : (at_ s.com.live.slots i).type = 2
  · rw [if_pos hdump] at hturn
    exact ⟨_, congrArg done hturn, rfl, rfl, hat, rfl⟩
  · rw [if_neg hdump] at hturn
    exact ⟨_, congrArg done hturn, rfl, rfl, hat, rfl⟩

end

/-! ## What a lit window measures -/

/-- Only what is measured of the sources and the light differs. -/
def State.Measures (s t : State) : Prop := ∃ src diag con evq, t = { s with src := src, diag := diag, con := con, evq := evq }

theorem State.Measures.refl (s : State) : s.Measures s := ⟨s.src, s.diag, s.con, s.evq, rfl⟩

theorem State.Measures.trans {s t u : State} (h : s.Measures t) (k : t.Measures u) : s.Measures u := by
  obtain ⟨_, _, _, _, rfl⟩ := h
  obtain ⟨src, diag, con, evq, rfl⟩ := k
  exact ⟨src, diag, con, evq, rfl⟩

theorem State.foldl_measures {α : Type} {g : State → α → State} (hg : ∀ (s : State) a, s.Measures (g s a)) (l : List α) (s : State) :
    s.Measures (l.foldl g s) := by
  induction l generalizing s with
  | nil => exact .refl s
  | cons a l ih => exact (hg s a).trans (ih (g s a))

theorem State.ite_measures {s u v : State} {c : Prop} [Decidable c] (hu : s.Measures u) (hv : s.Measures v) :
    s.Measures (if c then u else v) := iteInduction (motive := fun t : State => s.Measures t) (fun _ => hu) fun _ => hv

theorem State.attributeLight_measures (s : State) (a p n : Nat) (o : LightObs) : s.Measures (s.attributeLight a p n o) := by
  unfold State.attributeLight
  exact State.ite_measures (.refl s) (State.ite_measures ⟨s.src, s.diag, _, s.evq, rfl⟩ ⟨s.src, s.diag, _, s.evq, rfl⟩)

theorem State.attributeCharge_measures (s : State) (a p : Nat) (w : WindowObs) : s.Measures (s.attributeCharge a p w) := by
  unfold State.attributeCharge
  exact State.ite_measures ⟨s.src, s.diag, _, s.evq, rfl⟩ (.refl s)

theorem State.observe_measures (s : State) (c : Nat) (fails test : Bool) (t : Nat) : s.Measures (s.observe c fails test none t) := by
  have hchan (s : State) (f : DiagChan → DiagChan) : s.Measures (s.dchan c f) := ⟨s.src, _, s.con, s.evq, rfl⟩
  unfold State.observe
  dsimp only
  refine State.ite_measures (.refl s) (State.ite_measures (hchan s _) ?_)
  exact (hchan s _).trans (State.ite_measures (hchan ..) (State.ite_measures (State.ite_measures (.refl _) (hchan ..)) (hchan ..)))

theorem State.window_measures (s : State) (w : WindowObs) (x : Window) : s.Measures (s.window w x) := by
  have hraise (s : State) (code c payload : Nat) : s.Measures (s.raiseAt x.mid code c payload) := ⟨s.src, s.diag, s.con, _, rfl⟩
  have hhead (s : State) : s.Measures (s.headroom w.channel x.code w.vpin x.mid) := by
    unfold State.headroom
    exact State.ite_measures (.trans ⟨_, s.diag, s.con, s.evq, rfl⟩ (hraise ..)) ⟨_, s.diag, s.con, s.evq, rfl⟩
  have hsink : s.Measures (s.sinkWindow w x) := by
    have hcharge (q : Charge) : s.Measures (s.addCharge w.channel q) := ⟨_, s.diag, s.con, s.evq, rfl⟩
    unfold State.sinkWindow
    exact State.ite_measures (.refl s) (State.ite_measures ((hcharge _).trans (hhead _)) (hcharge _))
  unfold State.window
  exact State.ite_measures (hsink.trans (State.observe_measures ..)) hsink

/-- What a lit window that ends is worth. -/
theorem State.endWindow_measures (s : State) (a next : Nat) (ws : List WindowObs) (light : List LightObs) :
    s.Measures (s.endWindow a next ws light) := by
  have hwindows (s : State) (f : WindowObs → Window) : s.Measures (s.windows ws f) :=
    State.foldl_measures (fun s w => s.window_measures w (f w)) ws s
  unfold State.endWindow
  dsimp only
  refine .trans ?_ (hwindows ..)
  split
  · exact .refl s
  · exact (State.foldl_measures (fun s o => s.attributeLight_measures ..) light s).trans
      (State.foldl_measures (fun s w => s.attributeCharge_measures ..) ws _)

theorem State.openWindow_measures (s : State) (a e0 gap : Nat) (e : CEntry) : s.Measures (s.openWindow a e0 gap e) := by
  unfold State.openWindow State.place
  refine State.foldl_measures (fun s c => ?_) _ s
  exact State.ite_measures (.refl s) ⟨_, s.diag, s.con, s.evq, rfl⟩

/-! ## Entries -/

section
variable {s : State} {a g : Nat}

/-- The mirrors of an array are all off at its next reset. -/
def State.dark (s : State) (a : Nat) : Bool :=
  (at_ s.chi.runs a).clear || (at_ s.chi.runs a).once || (s.array a).clear || (s.array a).sgnd

theorem State.resetArray_eq (s : State) (a t : Nat) : s.resetArray a t = s.turn a
    (fun r => { r with shown := if s.dark a then none else r.loaded, once := false })
    fun x => { x with bias := x.biasNext.getD x.bias, biasNext := none, wire := x.wire ++ [.reset none (s.dark a) (some t) x.loadSeq] } := rfl

/-- A change of the run alone. -/
theorem State.runs_turn (s : State) (a : Nat) (f : ArrayRun → ArrayRun) :
    { s with chi := { s.chi with runs := upd s.chi.runs a f } } = s.turn a f id := by
  unfold State.turn
  rw [upd_id]

/-- An entry or a closing period begins: the reset, and for an entry the next load and the lit window. -/
def State.entryRun (s : State) (a nextAt off gap pos : Nat) (c : Cast) (grp : List (Nat × CEntry)) : State :=
  let s := s.resetArray a off
  let plane := fun (x : Nat × CEntry) => storedPlane s.chi.frontDepth c x.2
  match grp[pos]? with
  | some (i, e) =>
    let s := s.load a off c s.chi.frontRows ((grp[pos + 1]?).map plane)
    let s := { s with chi := { s.chi with runs := upd s.chi.runs a fun r =>
      { r with entry := some i, pos := r.pos + 1, nextAt := r.nextAt + gap + e.lit } } }
    s.openWindow a nextAt gap e
  | none => { s with chi := { s.chi with runs := upd s.chi.runs a fun r => { r with entry := none, group := none } } }

theorem State.entryRun_spec (s : State) (a nextAt off gap pos : Nat) (c : Cast) (grp : List (Nat × CEntry)) : ∃ f h,
    (s.turn a f h).Measures (s.entryRun a nextAt off gap pos c grp) ∧
    (∀ r, (f r).shown = (if s.dark a then none else r.loaded) ∧ (f r).entry = (grp[pos]?).map Prod.fst) ∧
    ∀ x, ∃ l, (h x).wire = x.wire ++ .reset none (s.dark a) (some off) x.loadSeq :: l := by
  unfold State.entryRun
  dsimp only
  rw [State.resetArray_eq]
  cases hentry : grp[pos]? with
  | none =>
    dsimp only
    rw [State.runs_turn, State.turn_turn]
    exact ⟨_, _, .refl _, fun r => ⟨rfl, rfl⟩, fun x => ⟨[], rfl⟩⟩
  | some x =>
    obtain ⟨i, e⟩ := x
    dsimp only
    rw [State.load_eq, State.runs_turn, State.turn_turn, State.turn_turn]
    refine ⟨_, _, State.openWindow_measures .., fun r => ⟨rfl, rfl⟩, fun x => ?_⟩
    exact ⟨_, List.append_assoc ..⟩

theorem State.entryOpen_eq (ha : a ≤ 3) (hgroup : (at_ s.chi.runs a).group = some g) (hopen : s.tk.open_ = true)
    (hseq : s.chi.sequencing = true) (hplays : s.plays a = true) (ws : List WindowObs) (light : List LightObs) :
    s.entryOpen a ws light = ((s.forward (at_ s.chi.runs a).nextAt).endWindow a (at_ s.chi.runs a).nextAt ws light).entryRun a
      (at_ s.chi.runs a).nextAt ((at_ s.chi.runs a).nextAt + s.src.live.herdSpan a) (gapOf s.src.live a ((s.array a).record.getD []))
      (at_ s.chi.runs a).pos (s.cast s.chi.inForce) (at_ ((s.cast s.chi.inForce).groups a) g) := by
  have hruns : ¬ (3 < a ∨ s.tk.open_ = false ∨ s.chi.sequencing = false ∨ s.plays a = false) := by
    rw [hopen, hseq, hplays]
    exact fun h => h.elim (Nat.not_lt.mpr ha) fun h => h.elim nofun fun h => h.elim nofun nofun
  unfold State.entryOpen State.entryRun
  dsimp only
  rw [hgroup]
  dsimp only
  rw [if_neg hruns] <;> rfl

/-- The entry that opens. -/
theorem entryOpen_opens (ws : List WindowObs) (light : List LightObs) {off : Bool} (hopen : s.tk.open_ = true) (ha : a ≤ 3)
    (hgroup : (at_ s.chi.runs a).group = some g) (hseq : s.chi.sequencing = true) (hplays : s.plays a = true)
    (hlen : s.chi.runs.length = 4) {r : ArrayRun} (hr : r = at_ s.chi.runs a)
    (hoff : off = (r.clear || r.once || (s.array a).clear || (s.array a).sgnd)) : ∃ t : State,
      exec (.entryOpen a ws light) s = .next t ∧ t.now = max s.now r.nextAt ∧
      (at_ t.chi.runs a).shown = (if off then none else r.loaded) ∧
      (a < s.pl.arrays.length → ∃ l, (at_ t.pl.arrays a).wire = (s.array a).wire ++
        .reset none off (some (r.nextAt + s.src.live.herdSpan a)) (s.array a).loadSeq :: l) ∧
      (at_ t.chi.runs a).entry = ((at_ ((s.cast s.chi.inForce).groups a) g)[r.pos]?).map Prod.fst ∧
      t = { s with
        now := t.now, evq := t.evq, chi := t.chi, pl := t.pl, src := t.src, diag := t.diag, con := t.con, show_ := t.show_ } := by
  have hstep := State.entryOpen_eq ha hgroup hopen hseq hplays ws light
  rw [← hr] at hstep
  obtain ⟨src, diag, con, evq, hend⟩ := (s.forward r.nextAt).endWindow_measures a r.nextAt ws light
  rw [hend] at hstep
  obtain ⟨u, hu⟩ : ∃ u : State, u = { s.forward r.nextAt with src := src, diag := diag, con := con, evq := evq } := ⟨_, rfl⟩
  rw [← hu] at hstep
  obtain ⟨f, h, ⟨src', diag', con', evq', hrun⟩, hf, hh⟩ := u.entryRun_spec a r.nextAt (r.nextAt + s.src.live.herdSpan a)
    (gapOf s.src.live a ((s.array a).record.getD [])) r.pos (s.cast s.chi.inForce) (at_ ((s.cast s.chi.inForce).groups a) g)
  have hdark : u.dark a = off := by
    rw [hu, hoff, hr]
    rfl
  rw [hdark] at hf hh
  obtain ⟨hshown, hentry⟩ := hf r
  obtain ⟨l, hwire⟩ := hh (s.array a)
  have hat : at_ (upd s.chi.runs a f) a = f r := by rw [hr]; exact at_upd_self f (by omega)
  have hsent (hlong : a < s.pl.arrays.length) : at_ (upd s.pl.arrays a h) a = h (s.array a) := at_upd_self h hlong
  have hfinal := hstep.trans hrun
  unfold State.turn at hfinal
  rw [hu] at hfinal
  refine ⟨_, congrArg done hfinal, rfl, (congrArg ArrayRun.shown hat).trans hshown, fun hlong => ⟨l, ?_⟩,
    (congrArg ArrayRun.entry hat).trans hentry, rfl⟩
  exact (congrArg ArrayUnit.wire (hsent hlong)).trans hwire

/-! ## Map points -/

/-- The array takes a new lane map where its lanes have changed. -/
theorem State.newMap_eq (s : State) (a : Nat) (mask : BitVec 96) (c : Prop) [Decidable c] : ∃ h,
    (if c then s.newMap a mask else s) = s.turn a id h := by
  split
  · exact ⟨_, by unfold State.turn; rw [upd_id]; rfl⟩
  · exact ⟨id, (s.turn_id a).symm⟩

/-- A turn that maps an array to its lanes. -/
def State.Maps (s : State) (a : Nat) (mask : BitVec 96) (t : State) : Prop :=
  ∃ f h, t = s.turn a f h ∧ ∀ r, (f r).mapLanes = mask ∧ (f r).clear = false

theorem State.Maps.load {t : State} {mask : BitVec 96} (h : s.Maps a mask t) (n : Nat) (c : Cast) (frame : List (List (List Nat)))
    (plane : Option (Nat × Nat)) : s.Maps a mask (t.load a n c frame plane) := by
  obtain ⟨f, h, rfl, hf⟩ := h
  rw [State.load_eq, State.turn_turn]
  exact ⟨_, _, rfl, hf⟩

/-- What a map point does to the run of its array. -/
theorem State.mapPoint_spec (ha : a ≤ 3) (hopen : s.tk.open_ = true) (hseq : s.chi.sequencing = true) (hstate : (s.array a).state = 5)
    (hlanes : s.mapSet a ≠ []) {inTick : Bool} (htick : inTick = s.mapInTick a (loadTu ((s.array a).record.getD []) (s.mapSet a).length))
    (hpic : (if inTick then s.com.live else s.dueCfg).picIndex a ≠ []) :
    ∃ now, (s.forward now).Maps a (BitVec.ofNat 96 (((s.mapSet a).map fun n => 2 ^ n).sum)) (s.mapPoint a) := by
  have hruns : ¬ (3 < a ∨ s.tk.open_ = false ∨ s.chi.sequencing = false ∨ (s.array a).state ≠ 5 ∨ s.mapSet a = []) := by
    rw [hopen, hseq, hstate]
    exact fun h => h.elim (Nat.not_lt.mpr ha) fun h => h.elim nofun fun h => h.elim nofun fun h => h.elim (absurd rfl) hlanes
  obtain ⟨i, l, hi⟩ := List.exists_cons_of_ne_nil hpic
  unfold State.mapPoint
  dsimp only
  rw [if_neg hruns, ← htick, hi, List.head?_cons]
  dsimp only
  generalize hfw : s.forward _ = u
  obtain ⟨now, hnow⟩ : ∃ now, s.forward now = u := ⟨_, hfw⟩
  refine ⟨now, ?_⟩
  rw [hnow]
  generalize BitVec.ofNat 96 (List.map (fun n => 2 ^ n) (s.mapSet a)).sum = mask
  obtain ⟨h, hmap⟩ := u.newMap_eq a mask (mask ≠ (at_ u.chi.runs a).mapLanes)
  rw [hmap]
  clear hfw
  have hmaps (b : Bool) (p : ArrayRun → Option Nat) : u.Maps a mask { u.turn a id h with chi := { (u.turn a id h).chi with
      runs := upd (u.turn a id h).chi.runs a fun r => { r with mapLanes := mask, clear := false, once := r.once && !b, provisional := p r } } } := by
    rw [State.runs_turn, State.turn_turn]
    exact ⟨_, _, rfl, fun _ => ⟨rfl, rfl⟩⟩
  apply iteInduction (motive := fun t : State => u.Maps a mask t)
  · exact fun _ => hmaps _ _
  · intro _
    split
    · exact (hmaps _ _).load ..
    · exact hmaps _ _


/-- A map point that falls. -/
theorem mapPoint_falls (hopen : s.tk.open_ = true) (ha : a ≤ 3) (hseq : s.chi.sequencing = true) (hstate : (s.array a).state = 5)
    (hlanes : s.mapSet a ≠ []) (hlen : s.chi.runs.length = 4) {inTick : Bool}
    (htick : inTick = s.mapInTick a (loadTu ((s.array a).record.getD []) (s.mapSet a).length))
    (hpic : (if inTick then s.com.live else s.dueCfg).picIndex a ≠ []) : ∃ t : State,
      exec (.mapPoint a) s = .next t ∧
      (at_ t.chi.runs a).mapLanes = BitVec.ofNat 96 (((s.mapSet a).map fun n => 2 ^ n).sum) ∧
      (at_ t.chi.runs a).clear = false ∧
      t = { s with now := t.now, chi := t.chi, pl := t.pl, src := t.src, con := t.con, show_ := t.show_ } := by
  obtain ⟨now, f, h, hstep, hf⟩ := State.mapPoint_spec ha hopen hseq hstate hlanes htick hpic
  obtain ⟨hmask, hclear⟩ := hf (at_ s.chi.runs a)
  have hat : at_ (upd s.chi.runs a f) a = f (at_ s.chi.runs a) := at_upd_self f (by omega)
  exact ⟨_, congrArg done hstep, (congrArg ArrayRun.mapLanes hat).trans hmask, (congrArg ArrayRun.clear hat).trans hclear, rfl⟩

end

/-- Settles O47: a boundary's later parts keep what its second and third steps have set (`State.scene`), and a slot, an entry and a map
point turn the runs and the wires of their arrays alone (`State.turn`). -/
theorem instantsOfTheTickRun : Obligations.InstantsOfTheTickRun := by
  unfold Obligations.InstantsOfTheTickRun
  intro s hopen
  refine ⟨fun hnum => ?_, ?_, ?_, ?_⟩
  · have hopens := tickBoundary_opens hopen hnum
    unfold State.switchedCfg at hopens
    cases hswitch : s.chi.switch_ with
    | none =>
      rw [hswitch] at hopens
      exact hopens
    | some k =>
      rw [hswitch] at hopens
      exact hopens
  · intro i hi hseq hlen hslot
    have hnext : i = s.nextSlot := by
      rw [hi]
      unfold State.nextSlot
      cases s.tk.slot <;> rfl
    exact slotStart_starts hopen hnext hseq hlen hslot
  · exact fun a ws light g off ha hgroup hseq hplays hlen r hr hoff => entryOpen_opens ws light hopen ha hgroup hseq hplays hlen hr hoff
  · exact fun a ha hseq hstate hlanes hlen inTick htick hpic => mapPoint_falls hopen ha hseq hstate hlanes hlen htick hpic

end Sys2Proof.Machine
end

end
